-- ==== Sys2Proof/Word.lean ====
section
/-!
DEFINITION. The words the manual numbers and stores as bits (R1), with their plainest arithmetic.
-/
set_option Elab.async false

namespace Sys2Proof

/-- A byte. -/
abbrev Byte := BitVec 8

/-- A 32-bit register word (R1, R3). -/
abbrev Word := BitVec 32

/-- A 64-byte image: a descriptor, an add record (R80, R88). Byte `n` is bits `8n+7 … 8n` (R1). -/
abbrev Image := BitVec 512

/-- A block of a stage or sympathetic link: header, 32 payload bytes, two CRC bytes (R207).
Byte `n` is bits `8n+7 … 8n`. -/
abbrev Block := BitVec 280

/-- One line of host memory, 64 bytes (R65). -/
abbrev Line := BitVec 512

end Sys2Proof
end

