-- ==== Sys2Proof/Machine/Names.lean ====
section
/-!
DEFINITION. The manual's sets of names: modes, causes, status codes, states, sources.
-/
set_option Elab.async false
namespace Sys2Proof.Machine

/-- The twelve modes (R33). -/
inductive Mode where
  | off | cold | boot | config | armed | run | hold | ride | drone | safe | shutdown | replay
deriving DecidableEq, Repr

/-- Mode codes (R33). -/
def Mode.code : Mode → Nat
  | .off => 0 | .cold => 1 | .boot => 2 | .config => 3 | .armed => 4 | .run => 5
  | .hold => 6 | .ride => 7 | .drone => 8 | .safe => 9 | .shutdown => 10 | .replay => 11

/-- The mode of a code; 12–15 are reserved (R33). -/
def Mode.ofCode : Nat → Option Mode
  | 0 => some .off | 1 => some .cold | 2 => some .boot | 3 => some .config | 4 => some .armed
  | 5 => some .run | 6 => some .hold | 7 => some .ride | 8 => some .drone | 9 => some .safe
  | 10 => some .shutdown | 11 => some .replay | _ => none

/-- Cause codes of ID_MODE_CAUSE (R60). -/
inductive Cause where
  | none | supply | inputArrival | buttonShort | master | latchedOn | bootDone | bootFailed
  | hostRing | hostPort | inputLoss | fault | peerSafe | controlDieLost | longPress
  | shutdownDone | inputReturned | preemptUnwind | fretTokenLost | powerDieLost | noRide
deriving DecidableEq, Repr

/-- Cause codes (R60). -/
def Cause.code : Cause → Nat
  | .none => 0 | .supply => 1 | .inputArrival => 2 | .buttonShort => 3 | .master => 4
  | .latchedOn => 5 | .bootDone => 6 | .bootFailed => 7 | .hostRing => 8 | .hostPort => 9
  | .inputLoss => 0x0A | .fault => 0x0B | .peerSafe => 0x0C | .controlDieLost => 0x0D
  | .longPress => 0x0E | .shutdownDone => 0x0F | .inputReturned => 0x10
  | .preemptUnwind => 0x11 | .fretTokenLost => 0x12 | .powerDieLost => 0x13 | .noRide => 0x14

/-- Completion status codes (R5); JOURNAL_FULL_WAIT is a ring-state status only (R6) and stands in `ringStatus`. -/
inductive Status where
  | ok | partialDone | preempted | missedOutage | badOpcode | badLength | badField | badCheck
  | rejectBudget | rejectCapo | lateStart | lateReplan | stringRetired | modeRefused | abortedSafe
deriving DecidableEq, Repr

/-- Status codes (R5). -/
def Status.code : Status → Nat
  | .ok => 0x00 | .partialDone => 0x01 | .preempted => 0x02 | .missedOutage => 0x03
  | .badOpcode => 0x10 | .badLength => 0x11 | .badField => 0x12 | .badCheck => 0x13
  | .rejectBudget => 0x20 | .rejectCapo => 0x21 | .lateStart => 0x22 | .lateReplan => 0x23
  | .stringRetired => 0x30 | .modeRefused => 0x31 | .abortedSafe => 0x32

/-- States of a journal entry that is not FREE (R108). -/
inductive EState where
  | writing | accepted | intent | scheduled | committed | done
deriving DecidableEq, Repr

/-- State codes of an entry (R108); FREE is 0 and has no entry in the lists. -/
def EState.code : EState → Nat
  | .writing => 1 | .accepted => 2 | .intent => 3 | .scheduled => 4 | .committed => 5 | .done => 6

/-- Classes of descriptor, one for each row of the table that executes one (R81, R94, R96, R98, R83). -/
inductive Class where
  | nop | reserve | replan | profile | setpoint | mode | sequence | commit
  | chgStop | chgCharge | chgSearch | chgRide | chgClear | chgLimit
  | fence | qFree | qFret | qString | qUnreserved | qBank | qTag
  | mark | capStop | capStart | capFreeze | bad
deriving DecidableEq, Repr

/-- String kinds (R166). -/
inductive Kind where
  | unused | axis | store | pack | aux | reserved
deriving DecidableEq, Repr

/-- String states (R200). -/
inductive SState where
  | unused | disabled | softStart | regulating | slewing | hiccup | safeDischarge | safeOff | retired
deriving DecidableEq, Repr

/-- String state codes (R200). -/
def SState.code : SState → Nat
  | .unused => 0 | .disabled => 1 | .softStart => 2 | .regulating => 3 | .slewing => 4
  | .hiccup => 5 | .safeDischarge => 6 | .safeOff => 7 | .retired => 8

/-- Link states (R224). -/
inductive LState where
  | unused | training | held | up | recovering | retired
deriving DecidableEq, Repr

/-- Link state codes (R224). -/
def LState.code : LState → Nat
  | .unused => 0 | .training => 1 | .held => 2 | .up => 3 | .recovering => 4 | .retired => 5

/-- Charger states (R270). -/
inductive CState where
  | disabled | stopped | qualify | precharge | fast | cv | done | tempPause | timeout | absent | rideBoost | search
deriving DecidableEq, Repr

/-- Charger state codes (R270). -/
def CState.code : CState → Nat
  | .disabled => 0 | .stopped => 1 | .qualify => 2 | .precharge => 3 | .fast => 4 | .cv => 5
  | .done => 6 | .tempPause => 7 | .timeout => 8 | .absent => 9 | .rideBoost => 10 | .search => 11

/-- Power domains, in the bit order of ID_DOMAIN (R30, R59). -/
inductive Domain where
  | aon | mgmt | host | sched | fasta | fastb | links | aux
deriving DecidableEq, Repr

/-- Bit of a domain in ID_DOMAIN (R59). -/
def Domain.bit : Domain → Nat
  | .aon => 0 | .mgmt => 1 | .host => 2 | .sched => 3 | .fasta => 4 | .fastb => 5 | .links => 6 | .aux => 7

/-- OTP word states (R342). -/
inductive OtpState where
  | blank | good | corrected | bad | marginal
deriving DecidableEq, Repr

/-- OTP word state codes (R342). -/
def OtpState.code : OtpState → Nat
  | .blank => 0 | .good => 1 | .corrected => 2 | .bad => 3 | .marginal => 4

/-- What the sequencer raises and lowers: an integrated rail group, or a string (R237, R240). -/
inductive Item where
  | rail (r : Nat)
  | string (k : Nat)
deriving DecidableEq, Repr

/-- The sequencer's runs (R243). -/
inductive RunKind where
  | boot | arm | disarm | shutdown | seqUp | seqDown
deriving DecidableEq, Repr

/-- Where a sequencer run stands (R241–R246, R51). -/
inductive RunPhase where
  | upWait        -- items enabled, waiting for power-good (R241)
  | downWait      -- items commanded down, waiting below 10 % (R242)
  | delay         -- the step's DELAY (R241, R242)
  | hold          -- STRICT hold (R242)
  | closing       -- the closing step (R243)
  | domainUp (i : Nat)   -- domain i of the boot order closed, waiting for power-good (R243)
  | verify        -- firmware verification (R243)
  | domainDown (i : Nat) -- domain i of the power-down order opens next (R243)
  | unwind        -- an unwind step under way (R49, R51)
  | peers         -- own step done, waiting for the followers' DONE (R253)
deriving DecidableEq, Repr

/-- What ends an unwind (R49, R50, R246, R253). -/
inductive UnwindEnd where
  | preempt      -- then the urgent request executes (R49)
  | timeout      -- the run failed (R246)
deriving DecidableEq, Repr

/-- A trigger to leave COLD (R45). -/
inductive Trigger where
  | input | button | master
deriving DecidableEq, Repr

/-- The one latched ON request (R52). -/
inductive OnReq where
  | entry (i : Nat)   -- a MODE request kept in the journal
  | press             -- a short press in SHUTDOWN
  | master            -- a master's power-up command
deriving DecidableEq, Repr

/-- Outcomes of an input-current search (R268); `early` is a search ended early (R282, R283). -/
inductive SearchEnd where
  | limit | droop | loadLimited | maximum | early
deriving DecidableEq, Repr

/-- Outcome codes of SEARCH_DONE (R282). -/
def SearchEnd.code : SearchEnd → Nat
  | .limit => 1 | .droop => 2 | .loadLimited => 3 | .maximum => 4 | .early => 5

/-- States of a management-port request slot (R390, R398). -/
inductive MpState where
  | none | waiting | accepted | latched | done
deriving DecidableEq, Repr

/-- Slot state codes (R398). -/
def MpState.code : MpState → Nat
  | .none => 0 | .waiting => 1 | .accepted => 2 | .latched => 3 | .done => 4

/-- States of the capture (R378). -/
inductive CapState where
  | idle | awaiting | running | wrap | post | ended
deriving DecidableEq, Repr

/-- Capture state codes (R378). -/
def CapState.code : CapState → Nat
  | .idle => 0 | .awaiting => 1 | .running => 2 | .wrap => 3 | .post => 4 | .ended => 5

/-- States of a replay (R378). -/
inductive RepState where
  | idle | loading | running | pausedIn | pausedOut | done | aborted
deriving DecidableEq, Repr

/-- Replay state codes (R378). -/
def RepState.code : RepState → Nat
  | .idle => 0 | .loading => 1 | .running => 2 | .pausedIn => 3 | .pausedOut => 4 | .done => 5 | .aborted => 6

/-- The journal image area of the non-volatile store (R117). -/
inductive NvState where
  | never | sealed | unsealed
deriving DecidableEq, Repr

/-- Reactions in order of strength (R288). -/
inductive Reaction where
  | none | interrupt | retireUnit | stringSafe | regionSafe | deviceSafe | drone
deriving DecidableEq, Repr

/-- Reaction codes (R288). -/
def Reaction.code : Reaction → Nat
  | .none => 0 | .interrupt => 1 | .retireUnit => 2 | .stringSafe => 3 | .regionSafe => 4
  | .deviceSafe => 5 | .drone => 6

/-- The reaction of a code; 7 is reserved (R288) and fails every commit (R290). -/
def Reaction.ofCode : Nat → Reaction
  | 1 => .interrupt | 2 => .retireUnit | 3 => .stringSafe | 4 => .regionSafe | 5 => .deviceSafe
  | 6 => .drone | _ => .none

end Sys2Proof.Machine
end

