-- ==== Sys2Proof/Machine/Bits.lean ====
section
/-!
DEFINITION. Bit fields, signed readings, rounding divisions, the integer square root and the three
checksums the manual names.
-/
set_option Elab.async false
namespace Sys2Proof.Machine

/-- Field of `n` bits at bit `lo` of a word, as a number. -/
def fld {w : Nat} (x : BitVec w) (lo n : Nat) : Nat := (x.toNat >>> lo) % 2 ^ n

/-- One bit of a word. -/
def bit {w : Nat} (x : BitVec w) (i : Nat) : Bool := x.getLsbD i

/-- Byte `n` of a little-endian image (R1). -/
def byteAt {w : Nat} (x : BitVec w) (n : Nat) : Nat := fld x (8 * n) 8

/-- `k` bytes at byte `n` of a little-endian image, as a number (R1). -/
def leAt {w : Nat} (x : BitVec w) (n k : Nat) : Nat := fld x (8 * n) (8 * k)

/-- A `bits`-wide number read as two's complement. -/
def signed (bits v : Nat) : Int := if v < 2 ^ (bits - 1) then (v : Int) else (v : Int) - (2 : Int) ^ bits

/-- An integer as its low `bits` bits. -/
def lowBits (bits : Nat) (v : Int) : Nat := (v % (2 : Int) ^ bits).toNat

/-- A Boolean as a bit. -/
def b2n (b : Bool) : Nat := if b then 1 else 0

/-- `v` placed at bit `lo`, cut to `n` bits. -/
def put (v lo n : Nat) : Nat := (v % 2 ^ n) <<< lo

/-- A word from a number, cut to 32 bits. -/
def w32 (n : Nat) : Word := BitVec.ofNat 32 n

/-- `x` with the bits under `mask` replaced by those of `y`. -/
def merge (x y mask : Word) : Word := (x &&& ~~~mask) ||| (y &&& mask)

/-- A mask of `n` ones at bit `lo`. -/
def maskAt (lo n : Nat) : Word := BitVec.ofNat 32 ((2 ^ n - 1) <<< lo)

/-- Saturate at `top`. -/
def sat (top v : Nat) : Nat := min v top

/-- Ceiling of `a / b`; 0 when `b = 0`. -/
def ceilDiv (a b : Nat) : Nat := if b = 0 then 0 else (a + b - 1) / b

/-- Division of an integer by a natural number to the nearest, ties away from zero (R133). -/
def roundDiv (a : Int) (b : Nat) : Int :=
  if b = 0 then 0
  else if a < 0 then - (((2 * a.natAbs + b) / (2 * b) : Nat) : Int)
  else ((2 * a.natAbs + b) / (2 * b) : Nat)

/-- `clamp x lo hi`: `x` held between `lo` and `hi`. -/
def clampInt (x lo hi : Int) : Int := max lo (min x hi)

/-- The same over exact numbers (R172). -/
def clampRat (x lo hi : Rat) : Rat := if x < lo then lo else if hi < x then hi else x

/-- Bitwise search of the integer square root from bit `k` downward. -/
def isqrtFrom (n : Nat) : Nat → Nat → Nat
  | 0, acc => if (acc + 1) * (acc + 1) ≤ n then acc + 1 else acc
  | k + 1, acc =>
    let t := acc + 2 ^ (k + 1)
    if t * t ≤ n then isqrtFrom n k t else isqrtFrom n k acc

/-- Integer square root rounded down (R137), for radicands below 2^96. -/
def isqrt (n : Nat) : Nat := isqrtFrom n 47 0

/-- The bytes `0 … n-1` of an image. -/
def bytesOf {w : Nat} (x : BitVec w) (n : Nat) : List Nat := (List.range n).map (byteAt x)

/-- `n` little-endian bytes of a number (R1). -/
def leBytes : Nat → Nat → List Nat
  | 0, _ => []
  | n + 1, v => (v % 256) :: leBytes n (v / 256)

/-- The words of a list of bytes, little-endian; an incomplete last word is left out (R1). -/
def leWords : List Nat → List Word
  | a :: b :: c :: d :: rest => BitVec.ofNat 32 (a % 256 + 256 * (b % 256) + 65536 * (c % 256) + 16777216 * (d % 256)) :: leWords rest
  | _ => []

/-- One bit of a reflected CRC-32C. -/
def crc32cBit (c : Nat) : Nat := if c % 2 = 1 then (c / 2) ^^^ 0x82F63B78 else c / 2

/-- One byte of CRC-32C: the reflected form of 0x1EDC6F41 (R76). -/
def crc32cByte (c b : Nat) : Nat :=
  let x := c ^^^ b
  crc32cBit (crc32cBit (crc32cBit (crc32cBit (crc32cBit (crc32cBit (crc32cBit (crc32cBit x)))))))

/-- CRC-32C of a byte string (R76). -/
def crc32c (bs : List Nat) : Nat := (bs.foldl crc32cByte 0xFFFFFFFF) ^^^ 0xFFFFFFFF

/-- One bit of CRC-16/CCITT. -/
def crc16Bit (c : Nat) : Nat :=
  if c / 0x8000 % 2 = 1 then ((c * 2) % 0x10000) ^^^ 0x1021 else (c * 2) % 0x10000

/-- One byte of CRC-16/CCITT, not reflected (R207). -/
def crc16Byte (c b : Nat) : Nat :=
  let x := c ^^^ (b * 256)
  crc16Bit (crc16Bit (crc16Bit (crc16Bit (crc16Bit (crc16Bit (crc16Bit (crc16Bit x)))))))

/-- CRC-16/CCITT with initial value 0xFFFF and no final XOR (R207). -/
def crc16 (bs : List Nat) : Nat := bs.foldl crc16Byte 0xFFFF

/-- The HEADER byte of a block (R207). -/
def header (slot tick type : Nat) : Nat := slot + 2 * (tick % 32) + 64 * type

/-- One bit of the PEC's CRC-8. -/
def crc8Bit (c : Nat) : Nat :=
  if c / 0x80 % 2 = 1 then ((c * 2) % 0x100) ^^^ 0x07 else (c * 2) % 0x100

/-- One byte of the PEC (R379). -/
def crc8Byte (c b : Nat) : Nat :=
  let x := c ^^^ b
  crc8Bit (crc8Bit (crc8Bit (crc8Bit (crc8Bit (crc8Bit (crc8Bit (crc8Bit x)))))))

/-- CRC-8 of a byte string with initial value 0 (R379). -/
def crc8 (bs : List Nat) : Nat := bs.foldl crc8Byte 0

end Sys2Proof.Machine
end

