-- ==== Sys2Proof/Machine/Sparse.lean ====
section
/-!
DEFINITION. Sparse memories as sorted lists of key and value pairs in one canonical form: keys rise strictly and
no entry equals what an unlisted key reads as.
-/
set_option Elab.async false
namespace Sys2Proof.Machine

/-- A sparse memory over natural keys. -/
abbrev Sparse (α : Type) := List (Nat × α)

/-- Read a key; an unlisted key reads as `dflt`. -/
def Sparse.get {α : Type} (dflt : α) : Sparse α → Nat → α
  | [], _ => dflt
  | (k, v) :: m, i => if i = k then v else Sparse.get dflt m i

/-- Remove a key. -/
def Sparse.erase {α : Type} : Sparse α → Nat → Sparse α
  | [], _ => []
  | (k, v) :: m, i => if i = k then Sparse.erase m i else (k, v) :: Sparse.erase m i

/-- Insert or overwrite a key, keeping the keys rising. -/
def Sparse.insert {α : Type} : Sparse α → Nat → α → Sparse α
  | [], i, x => [(i, x)]
  | (k, v) :: m, i, x =>
    if i < k then (i, x) :: (k, v) :: m
    else if i = k then (k, x) :: m
    else (k, v) :: Sparse.insert m i x

/-- Write a key; the value an unlisted key reads as removes the entry. -/
def Sparse.set {α : Type} [DecidableEq α] (dflt : α) (m : Sparse α) (i : Nat) (x : α) : Sparse α :=
  if x = dflt then m.erase i else m.insert i x

/-- The canonical form: keys rise strictly, no entry holds the default. -/
def Sparse.wf {α : Type} [DecidableEq α] (dflt : α) : Sparse α → Bool
  | [] => true
  | [(_, v)] => decide (v ≠ dflt)
  | (k, v) :: (k', v') :: m =>
    decide (v ≠ dflt) && decide (k < k') && Sparse.wf dflt ((k', v') :: m)

/-- Change the element at an index of a list, if there is one. -/
def upd {α : Type} (l : List α) (i : Nat) (f : α → α) : List α := l.modify i f

/-- The element at an index, or a default. -/
def at' {α : Type} (dflt : α) (l : List α) (i : Nat) : α := l.getD i dflt

/-- `foldl` over the numbers below `n`. -/
def foldN {σ : Type} (n : Nat) (f : σ → Nat → σ) (s : σ) : σ := (List.range n).foldl f s

end Sys2Proof.Machine
end

