-- ==== Sys2Proof/Machine/Parts.lean ====
section
/-!
DEFINITION. The parts of the device's state, as plain data. Every default is the reset value that INVENTORY.md lists.
-/
set_option Elab.async false
namespace Sys2Proof.Machine

/-- The timebase (R14, R128) and the model's counters of time and of free values (log 3, log 7). -/
structure Clock where
  /-- Logical tick count, 1 µs each (R14). -/
  tick : Nat := 0
  /-- Tick within the fret, 0–31 (R14). -/
  tickInFret : Nat := 0
  /-- The 48-bit fret counter (R128). -/
  fret : Nat := 0
  /-- Management ticks so far, and the tick of the last one (R13, R329). -/
  mgmt : Nat := 0
  mgmtAt : Option Nat := none
  /-- Next free value (model's own, log 7). -/
  free : Nat := 0
  /-- Thirty-two ticks have passed, or the master's token has come, and the fret boundary is to be taken (R14, R27). -/
  fretDue : Bool := false
deriving DecidableEq, Repr

/-- A wrong result of a unit's evaluation of the voltage loop in one tick (R170): what is added to its first evaluation and to the
recomputation. It comes from outside with the tick. -/
structure Upset where
  p : Nat
  first : Rat
  again : Rat
deriving DecidableEq, Repr

/-- Straps and input pins (R400, R407, R247, R248), and the HRST_N output (R249). -/
structure Pins where
  index : BitVec 2 := 0
  master : Bool := false
  mpa : BitVec 3 := 0
  psuOk : Bool := false
  psuLimit : Bool := false
  /-- Debounced PB_N pressed (R247). -/
  pressed : Bool := false
  /-- Tick of the debounced start of the press. -/
  pressStart : Nat := 0
  /-- The long press of this press has acted (R247). -/
  longDone : Bool := false
  /-- Debounced nMR low (R248). -/
  nmr : Bool := false
  /-- HRST_N is asserted by the mode: COLD, BOOT, and from the HOST power-down step (R249). -/
  hrstMode : Bool := true
  /-- HRST_N is held for a timed assertion of the watchdog or nMR (R249). -/
  hrstTimed : Bool := false
  /-- Tick at which the latest timed assertion ends (R249). -/
  hrstUntil : Nat := 0
deriving DecidableEq, Repr

/-- A host-commanded transition waiting for its fret boundary (R41). -/
structure PendMode where
  /-- Journal entry of the request. -/
  entry : Nat
  target : Mode
  /-- First fret at whose boundary it takes effect. -/
  atFret : Nat
deriving DecidableEq, Repr

/-- Urgent requests waiting for an unwind to end (R49, R53): SAFE with its cause and its journal entries, and SHUTDOWN
or OFF (`true`) with its cause. -/
structure AfterReq where
  safe : Option (Cause × Nat) := none
  safeEntries : List Nat := []
  down : Option (Bool × Cause × Nat) := none
deriving DecidableEq, Repr

/-- What R57 keeps of an input return during SHUTDOWN. -/
structure RetInfo where
  vin : Nat
  step : Nat
  fret : Nat
deriving DecidableEq, Repr

/-- The mode machine (R33–R60). -/
structure ModeUnit where
  mode : Mode := .off
  target : Mode := .off
  fwValid : Bool := false
  rideAvailable : Bool := false
  inputPresent : Bool := false
  onLatched : Bool := false
  causeFrom : Mode := .off
  causeTo : Mode := .off
  cause : Cause := .none
  causeDetail : Nat := 0
  /-- ID_MODE_EVENT (R59). -/
  event : Word := 0
  pend : Option PendMode := none
  latched : Option OnReq := none
  /-- Cold-boot trigger held within the minimum off time or a power-down (R45, R47). -/
  held : Option Trigger := none
  /-- End of the minimum off time (R47). -/
  offUntil : Option Nat := none
  /-- Tick of the last mode change (R329). -/
  changedAt : Option Nat := none
  /-- HOLD due at the next fret boundary after a watchdog expiry (R58). -/
  wdHold : Bool := false
  /-- SAFE to be taken in place of CONFIG at the end of BOOT, with its cause (R50). -/
  safeAfterBoot : Option (Cause × Nat) := none
  after : Option AfterReq := none
  /-- The shutdown under way ends as OFF (R53, R54). -/
  offPath : Bool := false
  /-- Journal entries whose SHUTDOWN or OFF request completes at the HOST step (R53, R56). -/
  downEntries : List Nat := []
  retInfo : Option RetInfo := none
  /-- Last fret in which RIDE may still be entered after an input loss (R44). -/
  rideDue : Option Nat := none
  /-- The ride fret, while its removals are still to be made (R163). -/
  rideFret : Option Nat := none
  /-- Tick at which the ride began (R279). -/
  rideStart : Nat := 0
  /-- Usable pack energy at the start of the ride, mJ (R279). -/
  rideE : Nat := 0
deriving DecidableEq, Repr

/-- Supplies, domains, die state and the registers of R32, R416. -/
structure Power where
  /-- ID_DOMAIN.ON, one bit a domain (R59). -/
  on : BitVec 8 := 0
  /-- ID_DOMAIN.PGOOD (R59). -/
  pgood : BitVec 8 := 0
  /-- The pack path switch is closed (R262). -/
  packPath : Bool := true
  onVhold : Bool := false
  /-- A power-fail flush is under way (R116). -/
  flushing : Bool := false
  vhold : Nat := 0
  vholdReady : Bool := false
  /-- SOURCE of VSYS (R416): 0 none, 1 VIN, 2 pack, 3 both. -/
  source : Nat := 0
  tempControl : Int := 0
  tempPower : Int := 0
  /-- The Dunmal core's key register (R344). -/
  keyReg : BitVec 256 := 0
  coreHalted : Bool := false
  ctlLost : Bool := false
  pwrLost : Bool := false
  /-- Tick of the last valid die-to-die block, one per receiving die: control, power (R12). -/
  lastBlockC : Nat := 0
  lastBlockP : Nat := 0
  /-- A die-to-die block failed and its re-send is awaited, per receiving die (R11). -/
  resendC : Bool := false
  resendP : Bool := false
  /-- Number of the last good block received and of the last block sent, per die (R11). -/
  seqC : Nat := 0
  seqP : Nat := 0
  sendC : Nat := 0
  sendP : Nat := 0
  /-- Messages lost with a block that failed twice: due tick and path, counted at that tick (R11, R18). -/
  lostDue : List (Nat × Nat) := []
  /-- Fret of the DRONE entered on the loss of the control die (R120). -/
  lostFret : Nat := 0
  /-- Tick at which fret `lostFret` began: the power die counts the outage from there (R119). -/
  lostTick : Nat := 0
  /-- SAFETY strings that were regulating when DRONE was entered (R302). -/
  droneSafety : List Nat := []
  /-- Retired monitor channels (R294). -/
  monRetired : List Nat := []
  /-- Fret in which a monitor sample was last taken, or counted late, plus 1 (R18). -/
  monFret : Nat := 0
  /-- ID_LATE_INPUT (R32). -/
  lateCount : Nat := 0
  lastPath : Nat := 0
deriving DecidableEq, Repr

/-- The PCI Express function: BAR0 to BAR3 as software wrote them, and MSI-X with its table of eight entries of four words and its pending
bits (R61, R62, R316, log 13). -/
structure Pci where
  bars : List Word := [0, 0, 0, 0]
  table : List Word := (List.replicate 8 [0, 0, 0, 1]).flatten
  enable : Bool := false
  mask : Bool := false
  pending : BitVec 8 := 0
deriving DecidableEq, Repr

/-- A commit waiting for its fret (R93, R196): `entry` of the descriptor, none for ID_COMMIT. -/
structure CommitReq where
  fret : Nat
  entry : Option Nat
deriving DecidableEq, Repr

/-- The register file of BAR0: every RS field twice, every plain RW word once (R3, R195). A word that no entry lists reads as its reset value. -/
structure Regs where
  force : Sparse Word := []
  staged : Sparse Word := []
  rw : Sparse Word := []
  commits : List CommitReq := []
  /-- Writes of a commit's tick, which land in the staged copies after the commit (R196). -/
  after : List (Nat × Word) := []
  result : Nat := 0
  refused : Bool := false
  failOffset : Nat := 0
  fretHigh : Nat := 0
deriving DecidableEq, Repr

/-- A descriptor that is fetched and checked, with its lists (R76–R78); `fixed` is a status given at acceptance with its DETAIL. -/
structure Ready where
  slot : Nat
  image : Image
  segs : List Word := []
  adds : List Image := []
  fixed : Option (Status × Nat) := none
deriving DecidableEq, Repr

/-- A submission ring in the ring engine (R66–R79). -/
structure SubRing where
  /-- Slot of the last accepted descriptor (R69). -/
  acc : Nat := 0
  /-- RING_SUB_SEQUENCE.NEXT (R77). -/
  next : Nat := 1
  /-- Producer index read at the last poll (R66). -/
  prod : Nat := 0
  prodBad : Bool := false
  /-- CLASS and LIMIT as the last poll took them (R73). -/
  cls : Nat := 3
  limit : Nat := 64
  /-- Fetches of the next slot that failed their check (R76, R77). -/
  tries : Nat := 0
  /-- List reads of the next slot that failed (R78). -/
  listTries : Nat := 0
  fetchErr : Bool := false
  /-- The next descriptor's opcode is not accepted in HOLD (R37). -/
  holdStop : Bool := false
  /-- A read of the next slot, or of its list, is due (R75, R76, R78). -/
  fetchDue : Bool := false
  /-- A descriptor that waits for its list (R78). -/
  listWait : Option Image := none
  /-- Fetched and checked, waiting for acceptance (R70, R78). -/
  ready : Option Ready := none
  /-- Entries of a ring that was disabled since the last poll, else 0 (R74). -/
  disabling : Nat := 0
  /-- The last acceptance word (R69). -/
  accWord : Nat := 0
  /-- The state word last shown in the state block (R71). -/
  shown : Nat := 0x100
deriving DecidableEq, Repr

/-- A completion ring (R72, R101). -/
structure CplRing where
  prod : Nat := 0
  phase : Bool := true
  cons : Nat := 0
  consBad : Bool := false
deriving DecidableEq, Repr

/-- The ring engine (R66–R79, R72). -/
structure RingEngine where
  sub : List SubRing := List.replicate 32 {}
  cpl : List CplRing := List.replicate 32 {}
  /-- Ring served last in each class (R75). -/
  last : List Nat := [31, 31, 31, 31]
  /-- Tick of the last poll since the engine was enabled, and the poll period, minus 1, that it took (R66, R73). -/
  lastPoll : Option Nat := none
  period : Nat := 3
  accTick : Nat := 0
  accCount : Nat := 0
  /-- Acceptance blocks written in the present tick, with that tick (R70). -/
  accWrote : List (Nat × Nat) := []
  writeIgnored : Bool := false
  fetchError : Bool := false
deriving DecidableEq, Repr

/-- A completion entry before its slot is known (R100); PHASE is the ring's. -/
structure Cpl where
  seq : Nat
  status : Status
  final : Bool := true
  admission : Bool := false
  replaced : Bool := false
  precharge : Bool := false
  mark : Bool := false
  retrySwap : Bool := false
  ring : Nat
  effect : Nat
  detail : Nat := 0
deriving DecidableEq, Repr

/-- An entry of the work journal with its record area (R105, R108). -/
structure Entry where
  /-- Journal entry number. -/
  idx : Nat
  /-- Submission ring, 32 for the management port. -/
  ring : Nat
  slot : Nat
  seq : Nat
  bind : Nat
  image : Image
  segs : List Word := []
  adds : List Image := []
  /-- Journal entries occupied with its lists (R79). -/
  cost : Nat := 1
  accTick : Nat := 0
  accFret : Nat := 0
  st : EState := .accepted
  /-- The intent record and the commit record of its record area are written (R105, R109). -/
  intent : Bool := false
  commit : Bool := false
  /-- It was restored from the non-volatile store and waits for CONFIG (R118). -/
  restored : Bool := false
  fixed : Option (Status × Nat) := none
  /-- Completions waiting for a slot (R20, R105). -/
  cpls : List Cpl := []
  /-- The first completion entry has been written into the journal (R82). -/
  firstCpl : Bool := false
  /-- The ADMISSION entry was issued (R112). -/
  admIssued : Bool := false
  /-- End fret of timed work (R110). -/
  endFret : Nat := 0
  /-- Waiting for a sequencer run (R420). -/
  deferred : Bool := false
  /-- Held in its slot while the power-down lasts (R52). -/
  latched : Bool := false
  /-- A later ON request of a power-down: MODE_REFUSED when its turn comes (R52). -/
  refuse : Bool := false
  /-- Mode when a MODE request executed (R104). -/
  fromMode : Mode := .off
  /-- Results of a REPLAN's added reservations: record index and status (R104). -/
  addResults : List (Nat × Status) := []
  /-- A PROFILE's first limited point (R89). -/
  limited : Option Nat := none
  /-- A REPLAN that swapped at RETRY_FRET (R104). -/
  retrySwap : Bool := false
deriving DecidableEq, Repr

/-- A tail record (R106). -/
structure Tail where
  seq : Nat := 0
  slot : Nat := 0
  bind : Nat := 0
  outstanding : Nat := 0
deriving DecidableEq, Repr

/-- The journal image of the non-volatile store (R116). -/
structure JImage where
  entries : List Entry
  tails : List Tail
  fret : Nat
deriving DecidableEq, Repr

/-- The work journal (R105–R121). A copy number is 0 primary, 1 secondary. -/
structure Journal where
  primary : List Entry := []
  secondary : List Entry := []
  tails : List Tail := List.replicate 32 {}
  /-- ID_JOURNAL.RESTORED, LOST, REBUILT (R127). -/
  restored : Bool := false
  lost : Bool := false
  rebuilt : Bool := false
  rebuilding : Option Nat := none
  retired : Option Nat := none
  /-- Tick of the previous mismatch in each copy (R114). -/
  lastMiss : List (Option Nat) := [none, none]
  missed : Nat := 0
  reexec : Nat := 0
  /-- Entries whose completions became due, in that order, one listing for each completion (R101). -/
  due : List Nat := []
  frozen : Bool := false
  nv : NvState := .never
  image : Option JImage := none
  /-- Restored entries wait for the next entry to CONFIG (R118). -/
  needRestore : Bool := false
deriving DecidableEq, Repr

/-- A reservation in the fingerboard: key `entry` and, for a REPLAN's addition, its record index (R131). -/
structure Resv where
  entry : Nat
  add : Option Nat := none
  ring : Nat
  string : Nat
  tag : Nat
  start : Nat
  stop : Nat
  pStart : Int
  segs : List (Nat × Int)
  rideSafe : Bool := false
  /-- Frets before this one were not written (R88, R159). -/
  fromFret : Nat := 0
  /-- Frets before this one stand in the live bank only: a re-plan was ready at the admission (R160). -/
  shadowFrom : Nat := 0
  /-- Frets from this one on were taken away (R163). -/
  cutFret : Option Nat := none
  /-- Present in the live bank, in the shadow bank. -/
  inLive : Bool := true
  inShadow : Bool := true
  /-- Clamped frets of R153, and frets under an overdraw clamp (R152). -/
  clamped : Nat := 0
  ovr : Nat := 0
deriving DecidableEq, Repr

/-- The re-plan in flight (R156). State codes as FB_STATUS.REPLAN. -/
structure Replan where
  entry : Nat
  st : Nat := 1
  /-- The build is complete (READY, or RETRY with a ready shadow). -/
  ready : Bool := false
  /-- The switch fret in force; RETRY_FRET once the first decision point was missed. -/
  switch : Nat
  retry : Nat := 0
  /-- RETRY_FRET is in force (R159). -/
  retrying : Bool := false
  /-- Keys of the reservations it removes. -/
  removed : List (Nat × Option Nat) := []
  /-- Additions admitted in the shadow. -/
  nAdded : Nat := 0
  /-- Pre-charge plans admitted with them (R148). -/
  precharge : Nat := 0
deriving DecidableEq, Repr

/-- One bank of the fingerboard: rows 0–63 strings, 64 total, 65 bank and 66 pack prediction; key 4096·row + column (R130). -/
abbrev Bank := Sparse Word

/-- The fingerboard engine (R128–R165). -/
structure Fingerboard where
  bankA : Bank := []
  bankB : Bank := []
  epoch : Sparse (BitVec 8) := []
  liveB : Bool := false
  swaps : Nat := 0
  resv : List Resv := []
  /-- Pre-charge power per fret, live and shadow (R148). -/
  planLive : Sparse Int := []
  planShadow : Sparse Int := []
  pin : Nat := 0
  /-- P_IN as the bank model of the present fret uses it (R134). -/
  pinCur : Nat := 0
  pinBase : Nat := 0
  hostLimit : Option Nat := none
  vbusSum : Nat := 0
  vbusN : Nat := 0
  vbusAvg : Nat := 0
  /-- Anchored energies, µJ (R137, R139). -/
  e : Nat := 0
  ep : Nat := 0
  /-- FB_ENERGY and FB_PACK_ENERGY, mJ, of the last re-anchor (R165). -/
  eShown : Nat := 0
  epShown : Nat := 0
  /-- Measured bank voltage of the last re-anchor, mV (R139). -/
  bankMv : Nat := 0
  /-- Fret of the last re-anchor, plus 1 (R139). -/
  anchorAt : Nat := 0
  /-- CHG of the fret published last, W (R138, R154). -/
  chg : Nat := 0
  replan : Option Replan := none
  /-- Last fret whose allotments have been published (R142). -/
  published : Option Nat := none
  admitted : Nat := 0
  rejected : Nat := 0
  precharge : Nat := 0
  event : Word := 0
  overdrawn : BitVec 64 := 0
  deficitFret : Nat := 0
  lastDeficit : Option Nat := none
deriving DecidableEq, Repr

/-- An allotment (R149); currents in 25 mA, voltage in 10 mV. -/
structure Allot where
  iDraw : Nat := 0
  iReturn : Nat := 0
  iLimit : Nat := 0
  vTarget : Nat := 0
  draw : Bool := false
  ret : Bool := false
  idle : Bool := true
  clamped : Bool := false
  epoch : Nat := 0
  /-- Tick stamp of its publication (R15, R17). -/
  stamp : Nat := 0
deriving DecidableEq, Repr

/-- The storage command of the STORE string and the limits of the PACK string (R154). -/
structure Storage where
  sched : Int := 0
  support : Nat := 0
  absorb : Nat := 0
  charge : Nat := 0
deriving DecidableEq, Repr

/-- A mode input (R17, R366). -/
inductive ModeIn where
  | inputLoss
  /-- With VIN, 10 mV. -/
  | inputReturn (vin : Nat)
  | shortPress
  | longPress
  | nmr
  /-- SAFE of a peer. -/
  | peerSafe (peer : Nat)
deriving DecidableEq, Repr

/-- A PROFILE on a string (R89): points are offset and voltage. -/
structure Prof where
  entry : Nat
  start : Nat
  points : List (Nat × Nat)
  /-- Fret in which V_CMD was set last, plus 1 (R178). -/
  done : Nat := 0
deriving DecidableEq, Repr

/-- A string unit (R166–R194, R200). -/
structure StringUnit where
  st : SState := .unused
  retired : Bool := false
  retireCode : Nat := 0
  /-- V_CMD, 10 mV, and V_RAMP, 10 µV (R177). -/
  vCmd : Nat := 0
  vRamp : Nat := 0
  /-- Working slew, 10 mV/ms, and idle current, 10 mA (R168). -/
  slew : Nat := 0
  idle : Nat := 0
  /-- Who set each last: the tick, and the journal entry, none for ID_COMMIT (R194). -/
  slewBy : Option (Nat × Option Nat) := none
  idleBy : Option (Nat × Option Nat) := none
  /-- V_MEAS in 10 mV, course current in A, V_IN of its stages in 10 mV (R171, R176). -/
  vMeas : Rat := 0
  iOut : Rat := 0
  vIn : Nat := 0
  /-- Loop history (R172). -/
  u1 : Rat := 0
  u2 : Rat := 0
  e1 : Rat := 0
  e2 : Rat := 0
  /-- Ticks at which hiccups began, newest first (R184), and the end of the off time (R183). -/
  hicStarts : List Nat := []
  hicUntil : Nat := 0
  /-- 10 % threshold of a discharge, 10 mV, and its deadline (R191); the reference in force when the string last went down (R242). -/
  dischRef : Nat := 0
  downRef : Nat := 0
  dischBy : Nat := 0
  /-- Capo in force, W (R190). -/
  capo : Nat := 0
  /-- The capo in force lies below STR_CAPO.CAPO: the condition of CAPO_DERATED (R193). -/
  derated : Bool := false
  /-- STR_EVENT bits [5:0] (R200). -/
  event : Word := 0
  allot : Allot := {}
  next : Option Allot := none
  /-- P_CAPO / V of the published allotment, 25 mA: I_LIMIT where no overdraw clamp holds (R150). -/
  nextTop : Nat := 0
  /-- Consecutive frets with a late allotment (R21). -/
  lateRun : Nat := 0
  storage : Storage := {}
  nextStorage : Option Storage := none
  /-- Frets over the ceiling in a row (R151), the clamp and its end (none: until the next fret that is not idle). -/
  overRun : Nat := 0
  /-- Fret-average current of the latest fret over the ceiling, 25 mA, the ceiling, and that fret (R151, R419). -/
  overAvg : Int := 0
  overCeil : Nat := 0
  overFret : Nat := 0
  /-- The cell POWER of that fret was 0 (R151). -/
  overIdle : Bool := false
  overClamp : Bool := false
  overUntil : Option Nat := none
  /-- A capo clamp is in force (R153). -/
  capoClamp : Bool := false
  prof : Option Prof := none
  /-- Carrier: start of the present cycle against the tick's start and its period, 125 ps (R180). -/
  carStart : Int := 0
  carPeriod : Nat := 0
  /-- Period of the cycle after it, once fixed (R180, R209). -/
  carNext : Nat := 0
  lfsr : Nat := 0
  lfsrAt : Nat := 0
  /-- Phases in service at the last carrier boundary, in rank order (R170, R181). -/
  carPh : List Nat := []
  /-- Course current summed over the fret, A, and the ticks summed (R151). -/
  iSum : Rat := 0
  iCnt : Nat := 0
  /-- The string was disabled at some tick of the present fret (R153). -/
  offInFret : Bool := false
  /-- Power-good of its supervision, and UV levels armed since its first power-good (R238, R239). -/
  pgood : Bool := false
  uvArmed : Bool := false
  /-- Management ticks of its last OVERDRAW and CLAMP records (R152, R153). -/
  lastOver : Option Nat := none
  lastClamp : Option Nat := none
  /-- The cluster's queue: units that report a failed retry (R22). -/
  reports : List Nat := []
  /-- The cluster's messages in its region's queue, fault code and phase: each holds one of its 8 credits (R19, R23). -/
  sent : List (Nat × Nat) := []
deriving DecidableEq, Repr

/-- A phase unit (R169–R190, R201). Currents in units of 80 A / 8192 (R214). -/
structure PhaseUnit where
  retired : Bool := false
  cause : Nat := 0
  fault : Nat := 0
  follower : Bool := false
  fCycles : Nat := 0
  /-- Integrator (R172). -/
  x : Rat := 0
  /-- Last uplink current and the sample the compensator uses (R17, R201). -/
  current : Int := 0
  sample : Int := 0
  estimate : Int := 0
  vOut : Nat := 0
  vIn : Nat := 0
  temp : Int := 0
  /-- Temperature summed over the management tick (R190). -/
  tSum : Int := 0
  tCnt : Nat := 0
  /-- Last duty, Q0.16, and the exact duty (R172). -/
  duty : Nat := 0
  dutyR : Rat := 0
  period : Nat := 0
  limited : Nat := 0
  limRun : Nat := 0
  openRun : Nat := 0
  /-- Ticks with the same current in a row, at most 16, and the duty in each of them, newest first (R187). -/
  stuckRun : Nat := 0
  duties : List Rat := []
  rangeRun : Nat := 0
  disRun : Nat := 0
  /-- δp in 1/256 units, 256 is exactly 1 (R190), and the value that the next fret boundary brings. -/
  derate : Rat := 256
  derateNext : Option Rat := none
  /-- The unit's own result of the voltage loop: the lead's, or a shadow (R170). -/
  shadow : Rat := 0
deriving DecidableEq, Repr

/-- A telemetry sample with its stamp (R214). -/
structure Sample where
  stamp : Nat
  cur : List Int
  limited : List Bool
  vOut : List Nat
  vIn : Nat
  est : List Int
  cycles : List Nat
deriving DecidableEq, Repr

/-- A stage link controller (R202–R229, R232). -/
structure LinkUnit where
  st : LState := .unused
  resendOk : Bool := false
  stageSafe : Bool := true
  delay : Nat := 0
  down : Nat := 0
  up : Nat := 0
  last : Nat := 0
  peak : Nat := 0
  sameTick : Nat := 0
  late : Nat := 0
  stageId : Nat := 0
  idSeen : Bool := false
  caps : Nat := 0
  status : Nat := 0
  stageLost : Nat := 0
  event : Word := 0
  /-- Slots lost in the present management tick (R225). -/
  lostNow : Nat := 0
  /-- Those of them lost in HELD, UP or RECOVERING (R225). -/
  lostJudged : Nat := 0
  /-- Consecutive lost uplink slots (R221), consecutive good uplink slots, slots the stage acknowledged good in a row (R224). -/
  upRun : Nat := 0
  goodUp : Nat := 0
  goodDown : Nat := 0
  /-- The device holds the link at MODE = SAFE (R221). -/
  hold : Bool := false
  recoverAt : Nat := 0
  trainAt : Nat := 0
  trainFailed : Bool := false
  /-- The samples that wait for their due ticks (R17). -/
  inbox : List Sample := []
  /-- A good or lost UA has been seen for the tick under way (R218). -/
  nak : Option Bool := none
  /-- Tick whose D1 carried the first COMMAND with MODE = RUN that the stage acknowledged (R224). -/
  runSince : Option Nat := none
  /-- The last D1: its tick, and 0 a re-send, 1 COMMAND with MODE = SAFE, 2 COMMAND with MODE = RUN (R212, R216, R224). -/
  second : Option (Nat × Nat) := none
  /-- Downlink blocks in flight, slot and tick: each holds one of the two link credits (R19, R219). -/
  flight : List (Nat × Nat) := []
  /-- EDGE payload of the tick under way, 32 bytes (R209). -/
  edge : List Nat := []
  /-- HEADERs of refused UA blocks whose re-send is awaited, with the tick of the refusal (R218). -/
  refused : List (Nat × Nat) := []
  /-- HEADER of a bad UA that is to be refused in the gap after D1 (R218). -/
  refusing : Option Nat := none
  /-- Due ticks of the samples that lost UA blocks carried (R18, R221). -/
  lateDue : List Nat := []
  /-- Tick in which the third uplink slot in a row was lost, plus 1 (R221, R229). -/
  holdAt : Nat := 0
  /-- JUDGED of the last ACK with a verdict (R213). -/
  judged : Nat := 0
deriving DecidableEq, Repr

/-- A sequencer run (R243). -/
structure Run where
  kind : RunKind
  /-- Table of the step under way: 1 boot, 2 up, 3 down (R259). -/
  table : Nat
  step : Nat
  phase : RunPhase
  /-- Tick of the step's timeout, or of the end of DELAY. -/
  deadline : Nat := 0
  /-- Items the phase waits for. -/
  items : List Item := []
  /-- First and last step of a SEQUENCE (R92). -/
  first : Nat := 0
  last : Nat := 15
  /-- Journal entry that commanded the run. -/
  entry : Option Nat := none
  /-- Fret at whose boundary the run's transition took effect (R41). -/
  fret : Nat := 0
  /-- Last step done (R104). -/
  done : Option Nat := none
  /-- DISCHARGE_TIMEOUT records of the run (R104, R259). -/
  timeouts : Nat := 0
  /-- Items enabled, one list a step, newest first (R49). -/
  enabled : List (List Item) := []
  unwindEnd : UnwindEnd := .timeout
  /-- Items of the unwind step that passed their own timeout (R51). -/
  timedOut : List Item := []
  /-- The step waits for the followers (R253). -/
  waitPeers : Bool := false
deriving DecidableEq, Repr

/-- An integrated rail in the sequencer (R233, R259). -/
structure Rail where
  vMeas : Nat := 0
  enabled : Bool := false
  pgood : Bool := false
  /-- UV levels are armed: it has been power-good since its enable (R239). -/
  uvArmed : Bool := false
  /-- Levels tripped now: UV warning, OV warning, UV fault, OV fault (R259). -/
  levels : BitVec 4 := 0
  iMeas : Nat := 0
deriving DecidableEq, Repr

/-- The fields of a sympathetic block (R250). -/
structure PeerBlock where
  safe : Bool := false
  drone : Bool := false
  master : Bool := false
  fwdDown : Bool := false
  fwdOff : Bool := false
  index : Nat := 0
  count : Nat := 0
  mode : Nat := 0
  cmdStep : Nat := 0
  cmdTable : Nat := 0
  cmdUnwind : Bool := false
  cmdValid : Bool := false
  cmdNumber : Nat := 0
  resStep : Nat := 0
  resTable : Nat := 0
  fail : Bool := false
  done : Bool := false
  resNumber : Nat := 0
  share : Nat := 0
  fret : Nat := 0
deriving DecidableEq, Repr

/-- A sympathetic link (R252, R259): 0 unused, 1 training, 2 UP, 3 lost. -/
structure Peer where
  st : Nat := 0
  delay : Nat := 0
  lost : Nat := 0
  goodRun : Nat := 0
  /-- Tick of the last good block, and tick after that of the last block of any kind (R252). -/
  lastGood : Nat := 0
  seen : Nat := 0
  block : PeerBlock := {}
deriving DecidableEq, Repr

/-- The sequencer (R233–R259). -/
structure Sequencer where
  run : Option Run := none
  rails : List Rail := List.replicate 8 {}
  bootDefaulted : Bool := false
  dischTimeouts : Nat := 0
  event : Word := 0
  warned : BitVec 64 := 0
  peers : List Peer := List.replicate 4 {}
  cmdNumber : Nat := 0
  /-- Command sent as master, or followed: step, table, unwind, valid (R250, R253). -/
  cmdStep : Nat := 0
  cmdTable : Nat := 0
  cmdUnwind : Bool := false
  cmdValid : Bool := false
  cmdAt : Nat := 0
  /-- Result reported as follower (R250). -/
  resStep : Nat := 0
  resTable : Nat := 0
  resFail : Bool := false
  resDone : Bool := false
  resNumber : Nat := 0
  fwdDown : Bool := false
  fwdOff : Bool := false
  /-- Fret tokens: frets since the last (R27), TOKEN_LOCK (R32). -/
  noToken : Nat := 0
  tokenLock : Bool := false
  /-- A token has come since SCHED was powered: the fret counter counts tokens (R128). -/
  tokenSeen : Bool := false
  /-- Tick of VPLL's power-good in the boot under way (R411). -/
  vpllGood : Option Nat := none
deriving DecidableEq, Repr

/-- An input-current search (R267). -/
structure Search where
  step : Nat := 0
  start : Nat
  entries : List Nat
  dwell : Bool := false
  vRef : Nat := 0
  back : CState := .disabled
deriving DecidableEq, Repr

/-- The charger (R260–R284). -/
structure Charger where
  st : CState := .disabled
  timedOut : Bool := false
  present : Bool := false
  zone : Nat := 0
  calibrated : Bool := false
  iFound : Nat := 0
  /-- I_IN of the last management tick, and of the last sample, 10 mA (R267, R284). -/
  iIn : Nat := 0
  iNow : Nat := 0
  vPack : Nat := 0
  iPack : Int := 0
  temp : Int := 0
  elapsed : Nat := 0
  /-- Delivered charge, in 25 mA × 1 µs (R274). -/
  delivered : Nat := 0
  /-- Usable-energy estimate, mJ (R275). -/
  ep : Nat := 0
  event : Word := 0
  rideLevel : Nat := 4400
  rideNext : Option Nat := none
  limit : Nat := 0
  search : Option Search := none
  /-- Start of the last dwell of a search, and end of it (R269). -/
  dwellAt : Option Nat := none
  dwellEnd : Nat := 0
  /-- State that TEMP_PAUSE left (R270), and the side of the window that was crossed. -/
  pauseBack : CState := .disabled
  pauseHot : Bool := false
  /-- End of the rest in QUALIFY (R270), start of the safety timer (R274). -/
  restUntil : Nat := 0
  timerStart : Nat := 0
  /-- Ticks counted toward termination (R273). -/
  cvCount : Nat := 0
  /-- Charge current permitted in the present fret, 10 mA (R271). -/
  iCharge : Nat := 0
  /-- E_p is still to be set by QUALIFY after AON reset (R275). -/
  epStale : Bool := true
  /-- The charger has entered ABSENT since the power-up (R276). -/
  wasAbsent : Bool := false
  /-- Energy into the pack, less that out of it, not yet counted in `ep`, in 10 mV × 25 mA × 1 µs (R275). -/
  energyAcc : Int := 0
deriving DecidableEq, Repr

/-- A fault input on its way to the collector (R17, R291). -/
structure FaultIn where
  due : Nat := 0
  code : Nat
  p0 : Nat := 0
  p1 : Nat := 0
  p2 : Nat := 0
  injected : Bool := false
  observe : Bool := false
deriving DecidableEq, Repr

/-- The raises of a source in one tick: what a clear written in that tick leaves, since it applies before them (R305). -/
structure Fresh where
  tick : Nat := 0
  /-- The status was set before the tick, with its first parameter. -/
  prior : Bool := false
  priorFirst : Nat := 0
  first : Nat := 0
  taken : Reaction := .none
  insts : List Nat := []
deriving DecidableEq, Repr

/-- What the collector keeps of a source (R312). -/
structure Source where
  status : Bool := false
  count : Nat := 0
  taken : Reaction := .none
  first : Nat := 0
  /-- Instances raised while the status is set (R192, R226, R295). -/
  insts : List Nat := []
  fret : Nat := 0
  lastRec : Option Nat := none
  /-- The raises of the last tick in which the source was raised (R305). -/
  fresh : Option Fresh := none
deriving DecidableEq, Repr

/-- The fault collector (R285–R312). -/
structure Collector where
  srcs : Sparse Source := []
  inbox : List FaultIn := []
  event : Word := 0
  refusedCount : Nat := 0
  refusedCode : Nat := 0
  /-- The fields of FLT_INJECT as last written (R312). -/
  selChecker : Nat := 0
  selInst : Nat := 0
  selBits : Nat := 1
  selObserve : Bool := false
  /-- The injection that was armed last: its fields at the ARM (R306, R309). -/
  checker : Nat := 0
  inst : Nat := 0
  bits : Nat := 1
  observe : Bool := false
  pending : Bool := false
  refused : Bool := false
  cancelled : Bool := false
  resCode : Nat := 0
  resReaction : Nat := 0
  resObserved : Bool := false
  resReal : Bool := false
  regRetired : BitVec 4 := 0
  regHeld : BitVec 4 := 0
  lastCode : Nat := 0
  lastSeverity : Nat := 0
  lastReaction : Reaction := .none
  naliveTest : Bool := false
  naliveLevel : Bool := false
  naliveFrozen : Bool := false
  /-- Accumulator of the half-period, thousandths of an AON period (R298), and AON periods of the half-period under way. -/
  naliveAcc : Nat := 0
  naliveHalf : Nat := 16
deriving DecidableEq, Repr

/-- The interrupt controller (R313–R325). A stack entry is a source and its priority at the claim. -/
structure IntCtl where
  refired : BitVec 256 := 0
  claimStacks : List (List (Nat × Nat)) := [[], [], [], []]
  spurious : List Nat := [0, 0, 0, 0]
  /-- Targets that were claimable after the last command (R316). -/
  was : List Bool := [false, false, false, false]
  /-- TARGETS[2], set by firmware only (R316, R325). -/
  target2 : BitVec 256 := 0
deriving DecidableEq, Repr

/-- A timer (R326–R331). -/
structure Timer where
  ctl : Word := 0
  count : Word := 0
  compare : Word := 0xFFFFFFFF
  queue : List Word := []
  matched : Bool := false
  overflow : Bool := false
  /-- The last advance matched, so that a RESTART loads 0 next (R327). -/
  reload : Bool := false
  /-- The prescaler: the bus clock, 200 to the tick, before which the next advance cannot come (R326). -/
  next : Nat := 0
  /-- Tick of the last match, which another timer may capture (R329). -/
  matchAt : Option Nat := none
deriving DecidableEq, Repr

/-- The host-progress watchdog (R332–R339). -/
structure Watchdog where
  openAt : Nat := 0
  closeAt : Nat := 0
  setup : Word := 0
  on : Bool := false
  rejected : Bool := false
  count : Nat := 0
  waiting : Bool := false
  /-- Values at the previous sample, and those kept by an expiry (R335, R337). -/
  prev : List Word := List.replicate 8 0
  kept : List Word := List.replicate 8 0
  marks : BitVec 8 := 0
  /-- Management ticks spent waiting (R337). -/
  waitTicks : Nat := 0
  /-- Remainder of the counter's clock division (R334). -/
  frac : Nat := 0
  /-- The slot-7 counter of the port (R332). -/
  slot7 : Word := 0
deriving DecidableEq, Repr

/-- A shadow register of the OTP (R342). -/
structure Shadow where
  val : Word := 0
  st : OtpState := .blank
  chk : Nat := 0
deriving DecidableEq, Repr

/-- A command to the OTP under way (R346, R347). -/
structure OtpCmd where
  op : Nat
  word : Nat
  /-- Words still to be programmed after this one (R346). -/
  rest : Nat := 0
  data : Word := 0
  /-- Tick at which the programming of the word began (R347). -/
  since : Nat := 0
deriving DecidableEq, Repr

/-- The OTP array, its shadows, the programming port, and the QSPI port (R340–R355). -/
structure Otp where
  /-- The 39 bits of each word as sensed at normal and at tight margin (R340, R342). -/
  normal : Sparse (BitVec 39) := []
  tight : Sparse (BitVec 39) := []
  shadow : Sparse Shadow := []
  programmed : List Nat := []
  /-- TRIM words replaced by their built-in default (R354). -/
  trimDefaulted : Bool := false
  /-- Service sequence: the first key has been written (R347); ENABLE. -/
  keyOne : Bool := false
  enable : Bool := false
  cmd : Option OtpCmd := none
  stopAfter : Bool := false
  result : Nat := 0
  reason : Nat := 0
  ignored : Bool := false
  word : Nat := 0
  /-- Words of the two counters advanced in this AON period (R346). -/
  advRoll : Nat := 0
  advEpoch : Nat := 0
  bootImage : Nat := 0
  bootSlot : Nat := 0
  bootRollback : Nat := 0
  rejectA : Nat := 0
  rejectB : Nat := 0
  bootVersion : Word := 0
  flashBusy : Bool := false
  /-- The command under way, as OTP_FLASH_COMMAND held it at GO (R355). -/
  flashCmd : Word := 0
  flashDenied : Bool := false
  buffer : List Word := List.replicate 64 0
deriving DecidableEq, Repr

/-- A recorder record (R356). -/
structure Record where
  code : Nat
  source : Nat
  flags : Nat
  cycle : Nat
  second : Nat
  hours : Nat
  p0 : Nat
  p1 : Nat
  p2 : Nat
  p3 : Nat
  seq : Nat
deriving DecidableEq, Repr

/-- The event recorder (R356–R364, R378). -/
structure Recorder where
  buffer : List Record := []
  /-- The log: slots 0–8191, unlisted is EMPTY (R362). -/
  log : Sparse (Option Record) := []
  /-- Slots marked bad (R360). -/
  bad : List Nat := []
  next : Nat := 0
  full : Bool := false
  /-- LOG_FULL stands in slot 8191 (R362). -/
  fullWritten : Bool := false
  clearing : Bool := false
  flushing : Bool := false
  /-- Records that the flush under way takes; a further flush follows (R359). -/
  toFlush : Nat := 0
  again : Bool := false
  /-- A flush condition holds that no flush has taken up yet (R359). -/
  want : Bool := false
  refused : Bool := false
  discarded : Nat := 0
  dropped : Nat := 0
  seq : Nat := 0
  cycle : Nat := 0
  seconds : Nat := 0
  event : Word := 0
  /-- The next record carries AFTER_DROP; RECORDS_DROPPED is still to be written: count and first SEQUENCE (R361). -/
  afterDrop : Bool := false
  drops : Nat := 0
  firstDrop : Nat := 0
  /-- The counter block of the non-volatile store (R357). -/
  nvCycle : Nat := 0
  nvSeconds : Nat := 0
deriving DecidableEq, Repr

/-- Capture and replay (R365–R378). -/
structure Capture where
  st : CapState := .idle
  reason : Nat := 0
  written : Nat := 0
  /-- The capture freezes: START_FREEZE (R370). -/
  wrap : Bool := false
  startFret : Nat := 0
  startEntry : Option Nat := none
  postUntil : Nat := 0
  /-- Positions of the capture ring, bytes (R365). -/
  producer : Nat := 0
  consumer : Nat := 0
  oldest : Nat := 0
  snapshot : Nat := 0
  prevSnapshot : Nat := 0
  keyFret : Nat := 0
  /-- Position at which the latest FRET record of the stream was written (R369). -/
  fretPos : Nat := 0
  /-- Positions and sizes of the intact records of the ring in wrap mode, oldest first (R370). -/
  starts : List (Nat × Nat) := []
  /-- The pre-trigger snapshot's position, protected after the trigger (R370). -/
  guard : Nat := 0
  /-- Digest of the previous fret and records of the fret (R371, R366). -/
  digest : Nat := 0
  fretRecords : Nat := 0
  /-- The SYNC edges of a tick that are in the stream already: input, rising and bus clock (R329). -/
  syncTick : Nat := 0
  syncs : List (Nat × Bool × Nat) := []
  /-- Replay side (R373, R378). -/
  rst : RepState := .idle
  mismatch : Bool := false
  diverged : Bool := false
  divFret : Nat := 0
  inProducer : Nat := 0
  inConsumer : Nat := 0
  outProducer : Nat := 0
  outConsumer : Nat := 0
  replayed : Nat := 0
  /-- The real fret in which a replay fret ran last (R373). -/
  repAt : Option Nat := none
deriving DecidableEq, Repr

/-- A request slot of the management port (R390, R398). -/
structure MpSlot where
  st : MpState := .none
  status : Nat := 0
  tag : Nat := 0
  frm : Nat := 0
  dest : Nat := 0
  target : Nat := 0
  reserved : Nat := 0
  entry : Option Nat := none
deriving DecidableEq, Repr

/-- The two-wire management port (R379–R398). -/
structure MgmtPort where
  blockZero : Bool := false
  badCommand : Bool := false
  pecMissing : Bool := false
  requestBusy : Bool := false
  windowRefused : Bool := false
  checkinIgnored : Bool := false
  busy : Bool := false
  event : Word := 0
  ordinary : MpSlot := {}
  urgent : MpSlot := {}
  clearCode : Nat := 0
  clearResult : Nat := 0
  window : Nat := 0
  slot : Nat := 0
  count : Nat := 1
  transactions : Nat := 0
  nacks : Nat := 0
  /-- ADDRESS as sampled from the straps (R380). -/
  address : Nat := 0
deriving DecidableEq, Repr

end Sys2Proof.Machine
end

