-- ==== Sys2Proof/Machine/Dev.lean ====
section
/-!
DEFINITION. What the device sends out, what a capture stream carries, and the device as one structure.
-/
set_option Elab.async false
namespace Sys2Proof.Machine

/-- The 24 converter channels of a MONITOR sample (R412): voltages of the sense inputs in 10 mV, the shunt voltage
in 10 µV, rail outputs in 5 mV, temperatures in 0.1 °C (log 17). -/
structure Monitor where
  vin : Nat := 0
  vbus : Nat := 0
  vpack : Nat := 0
  vsys : Nat := 0
  vhold : Nat := 0
  isns : Nat := 0
  rails : List Nat := []
  therm : List Int := []
  tControl : Int := 0
  tPower : Int := 0
deriving DecidableEq, Repr

/-- What waits at its consumer for its due tick (R16, R17): a mode input, a monitor sample, or an urgent request of the management port in
BOOT (R391). -/
inductive Msg where
  | mode (m : ModeIn)
  | monitor (m : Monitor)
  | request (s : MpSlot)
deriving DecidableEq, Repr

/-- Records of the capture stream, less the SNAPSHOT's content (R366). -/
inductive CapRec where
  | fret (f digest records : Nat)
  | snapshot (bytes : Nat)
  | descriptor (kind ring entry seq fixed : Nat) (image : Image)
  | uplink (link slot : Nat) (late : Bool) (header : Nat) (payload : List Nat)
  | lost (link slot : Nat)
  | monitor (m : Monitor)
  | sync (input : Nat) (falling : Bool) (clk : Nat)
  | modeInput (code : Nat)
  | faultInput (f : FaultIn)
  | mgmt (kind : Nat) (items : List (Nat × Nat))
  | freeze (code fret : Nat)
  | ended (reason written : Nat)
deriving DecidableEq, Repr

/-- Outputs of the device, in the order they are issued (R61, log 10). -/
inductive Out where
  /-- Acceptance block `b`, its sixteen words (R70). -/
  | acceptBlock (b : Nat) (ws : List Nat)
  /-- State block `b`, its sixteen words (R71). -/
  | stateBlock (b : Nat) (ws : List Nat)
  /-- A completion entry written into a slot of a completion ring with its PHASE (R101). -/
  | completion (ring slot : Nat) (phase : Bool) (c : Cpl)
  /-- The same entry at its due tick, for the digest and the replay output (R373). -/
  | completionDue (c : Cpl)
  /-- An MSI-X message of a vector (R316). -/
  | msix (vector : Nat)
  /-- A downlink block: link, slot, HEADER, payload, and the CRC that follows it (R207, R209, R211). -/
  | downlink (link slot header : Nat) (payload : List Nat) (crc : Nat)
  /-- /N/ for a refused uplink block (R218). -/
  | refuse (link header : Nat)
  /-- A sympathetic block: HEADER, payload, and the CRC that follows it (R207, R250). -/
  | peerBlock (peer header : Nat) (payload : List Nat) (crc : Nat)
  /-- The fret token of the master (R251). -/
  | fretToken
  | allotment (string : Nat) (a : Allot)
  | storage (string : Nat) (c : Storage)
  | mode (frm dest cause : Nat)
  | fault (code p0 reaction : Nat)
  | hrst (asserted : Bool)
  /-- The Dunmal core's interrupt line (target 2) or IRQ_N (target 3) changes: active, or not (R316). -/
  | intLine (target : Nat) (active : Bool)
  | nalive (level : Bool)
  /-- A record written into the capture ring at a position, with its STAMP (R366). -/
  | capture (at' stamp : Nat) (r : CapRec)
  /-- The status line (R365): the eight fields in order. -/
  | statusLine (fields : List Nat)
  /-- A record of the replay output ring: STAMP, TYPE, INFO, payload bytes (R366, R373). -/
  | replayOut (stamp type info : Nat) (payload : List Nat)
  /-- A QSPI command: instruction, address, length, write, and the bytes of the buffer that a write sends (R352, R355). -/
  | flash (instruction : Nat) (address : Option Nat) (length : Nat) (write : Bool) (data : List Nat)
  /-- A NACK of the management port (R383, R386). -/
  | portNack
deriving DecidableEq, Repr

/-- Records of the capture stream on their way to host memory. -/
structure StreamBuf where
  /-- Inputs of this tick and of later ones, with their due ticks, in stream order (R368). In a replay: the inputs of the next fret that
  have been taken ahead of it. -/
  due : List (Nat × CapRec) := []
  /-- Records in the 64 KiB capture buffer, with their STAMP (R366, R369). -/
  queue : List (Nat × CapRec) := []
deriving DecidableEq, Repr

/-- The device. -/
structure Dev where
  clk : Clock := {}
  pins : Pins := {}
  mm : ModeUnit := {}
  pwr : Power := {}
  cfg : Regs := {}
  pci : Pci := {}
  ring : RingEngine := {}
  jr : Journal := {}
  fb : Fingerboard := {}
  str : List StringUnit := List.replicate 64 {}
  ph : List PhaseUnit := List.replicate 64 {}
  lk : List LinkUnit := List.replicate 16 {}
  seq : Sequencer := {}
  chg : Charger := {}
  flt : Collector := {}
  int : IntCtl := {}
  tmr : List Timer := List.replicate 8 {}
  wd : Watchdog := {}
  otp : Otp := {}
  rcd : Recorder := {}
  cap : Capture := {}
  capQueue : StreamBuf := {}
  mp : MgmtPort := {}
  /-- Mode inputs and monitor samples that arrived before their due ticks, with these ticks (R16). -/
  waiting : List (Nat × Msg) := []
  /-- Outputs issued so far, in order (model's own). -/
  out : List Out := []
  /-- Output records of the present fret, for the digest of R371. -/
  fretOut : List (Nat × Out) := []
  /-- Value returned by the last read, and the bytes of the last block read (model's own). -/
  bus : Word := 0
  busBlock : List Nat := []
deriving DecidableEq, Repr

/-- A record of the replay input ring as the device takes it in (R366, R372); a SNAPSHOT holds the fast-plane state
that R367 lists, here the part of a `Dev` that `loadSnapshot` takes (log 11). -/
inductive RepRec where
  | snapshot (version epoch stepping bytes : Nat) (d : Dev)
  | input (stamp : Nat) (r : CapRec)
deriving DecidableEq, Repr

end Sys2Proof.Machine
end

