-- ==== Sys2Proof/Syntax.lean ====
section
/-!
DEFINITION. The commands: one constructor for each row of the table of operations and events. The table gives no bits and no operands. The operands are what the rule of the row names (log 2).
-/
set_option Elab.async false
namespace Sys2Proof
open Sys2Proof.Machine

/-- What a list read returns (R78): a PCIe error, the bytes of a segment list, or add records. -/
inductive ListData where
  | error
  | segs (bytes : List Nat)
  | adds (rs : List Image)
deriving DecidableEq, Repr

/-- What the boot verifier reads of a firmware image (R350, R351); `digest` is the SHA-256 of KEY, `signed` the
outcome of the ECDSA check over the body read from flash (log 9). -/
structure ImageFacts where
  readable : Bool
  magic : Word
  version : Word
  rollback : Nat
  length : Nat
  reservedZero : Bool
  digest : BitVec 256
  signed : Bool
deriving DecidableEq, Repr

/-- A tick stamp: the low 16 bits of the tick in which a message was produced (R15). -/
abbrev Stamp := BitVec 16

/-- A die-to-die block of 32 bytes (R11). Their order is the model's choice (log 54): the block sequence number in bytes 0–1, the
CRC-16 in bytes 30–31. -/
abbrev DieBlock := BitVec 256

/-- Capture events of R329, with the level that a SYNC edge leads to and its bus clock within the tick (R366). -/
inductive CapEvent where
  | sync (input : Nat) (rising : Bool) (clk : Nat)
  | fretToken
  | managementTick
  | modeChange
  | timerMatch (t : Nat)
deriving DecidableEq, Repr

/-- What a journal read finds (R113); a copy is 0 primary, 1 secondary. -/
inductive JournalError where
  /-- A single-bit error, corrected. -/
  | corrected (copy : Nat)
  /-- The copies disagree and this one holds an uncorrectable error. -/
  | uncorrectable (copy : Nat)
  /-- The copies disagree and both pass their check bits. -/
  | bothPass
deriving DecidableEq, Repr

/-- The commands of the block. Journal entries are named by `e`, submission and completion rings by `ring`, strings and
links by `k`, phases by `p`, timers and targets by `t`, peers by `j`. Port writes carry the bytes after the command code. A
trailing operand with a default is written out only where it differs: no upsets in the tick, stamp 0, no message carried. -/
inductive Instr where
  /-- TICK (R14): The timebase issues a tick token; every island advances one tick, compensators update, V_RAMP slews and per-tick supervision runs. -/
  | tick (ups : List Upset := [])
  /-- FRET_BOUNDARY (R129): A fret token begins a new fret; the passed column is cleared and fret-aligned effects and status-line writes occur. -/
  | fretBoundary
  /-- ALLOTMENT_PUBLISH (R149): At tick 0 of a fret the fingerboard publishes each string's allotment and the storage command for the next fret from one bank. -/
  | allotmentPublish
  /-- RE_ANCHOR (R139): At tick 1 of each fret the bank model is re-anchored from measured bank voltage and pack estimate and predictions are recomputed. -/
  | reAnchor
  /-- MANAGEMENT_TICK (R13): The Dunmal core's 1 s tick runs housekeeping, P_IN recompute, capo derating, link error limits and slow verdicts. -/
  | managementTick
  /-- MONITOR_SAMPLE (R412): A converter sample is delivered to its consumers one fret after conversion. -/
  | monitorSample (m : Monitor) (stamp : Stamp := 0)
  /-- DIE_BLOCK_RECEIVE (R11): A 32-byte die-to-die block arrives; its CRC is checked and a failing block is re-sent once. -/
  | dieBlockReceive (power : Bool) (b : DieBlock) (carried : Option (Nat × Stamp) := none)
  /-- CONTROL_DIE_LOST (R12): The power die receives no valid block for 20 ticks, declares the control die lost and enters DRONE. -/
  | controlDieLost
  /-- POWER_DIE_LOST (R12): The control die receives no valid block for 20 ticks, drives every string safe within 5 µs and holds SAFE. -/
  | powerDieLost
  /-- CONTROL_DIE_REBUILD (R120): The recovered control die loads the secondary copy, rebuilds fingerboard and string state and treats journal entries in order. -/
  | controlDieRebuild (fret : Nat)
  /-- POLL (R66): At each poll period the ring engine reads doorbell lines A and B, the check-in line and the capture line, and serves rings. -/
  | poll (a b checkin capture : Line) (replay : List RepRec)
  /-- DESCRIPTOR_FETCH_RETURN (R76): A descriptor read returns; CRC and sequence are checked and a failing slot is re-fetched or accepted BAD_CHECK or BAD_FIELD on the third fetch. -/
  | descriptorFetchReturn (ring : Nat) (data : Option Image)
  /-- LIST_FETCH_RETURN (R78): A segment list or add list read returns, or returns a PCIe error that is retried and finally gives LIST_UNREADABLE. -/
  | listFetchReturn (ring : Nat) (data : ListData)
  /-- ACCEPTANCE (R70): The second journal write of a descriptor completes; NEXT advances and the acceptance and state blocks are written. -/
  | acceptance (ring : Nat)
  /-- FENCE_BEFORE_RELEASE (R82): Every earlier descriptor of the ring has its first completion in the journal, so a descriptor held by FENCE_BEFORE executes. -/
  | fenceBeforeRelease (e : Nat)
  /-- COMPLETION_WRITE (R101): A queued completion finds a free slot in its bound completion ring and is written as one posted write. -/
  | completionWrite (ring : Nat)
  /-- NOP (R99): A NOP descriptor executes and completes OK with no effect. -/
  | nop (e : Nat)
  /-- RESERVE (R143): The fingerboard engine starts a RESERVE, checks it and admits its profile against capos and the bank model. -/
  | reserve (e : Nat)
  /-- REPLAN (R156): The engine starts a REPLAN, checks it and begins building the shadow bank. -/
  | replan (e : Nat)
  /-- REPLAN_BUILD_DONE (R157): The shadow build completes and the REPLAN becomes READY, or an add record fails and it ends rejected. -/
  | replanBuildDone
  /-- DECISION_POINT (R158): At tick 0 of switch fret minus 2 a READY REPLAN becomes SWAP_PENDING, otherwise it retries or ends LATE_REPLAN. -/
  | decisionPoint
  /-- BANK_SWAP (R161): At the switch fret boundary the banks swap, removed reservations complete REPLACED and the REPLAN reports its counts. -/
  | bankSwap
  /-- PROFILE (R89): A PROFILE descriptor executes and schedules its voltage points on a string. -/
  | profile (e : Nat)
  /-- PROFILE_POINT (R178): At tick 0 of a fret a running PROFILE sets V_CMD on its line through the points and judges limited points. -/
  | profilePoint (k : Nat)
  /-- SETPOINT (R90): A SETPOINT descriptor executes and schedules its selected values for its fret. -/
  | setpoint (e : Nat)
  /-- SETPOINT_EFFECT (R90): At its fret a SETPOINT applies its selected voltage, idle current and slew and completes. -/
  | setpointEffect (e : Nat)
  /-- MODE (R91): A MODE descriptor executes, judging its target under R39 and acting urgently for SHUTDOWN, SAFE and OFF. -/
  | mode (e : Nat)
  /-- MODE_TAKES_EFFECT (R41): At the first fret boundary after its due tick a host-commanded transition takes effect. -/
  | modeTakesEffect
  /-- DEFERRED_MODE_EXECUTE (R420): A non-urgent MODE or SEQUENCE that waited for a sequencer run executes once the mode has settled. -/
  | deferredModeExecute (e : Nat)
  /-- LATCHED_ON_EXECUTE (R52): A latched ON request executes when the power-down ends, starting BOOT after SHUTDOWN once the minimum off time ends. -/
  | latchedOnExecute
  /-- SEQUENCE (R245): A SEQUENCE descriptor runs the named steps of the up or down table. -/
  | sequence (e : Nat)
  /-- CONFIG_COMMIT (R93): A CONFIG_COMMIT descriptor executes and schedules a commit at its fret. -/
  | configCommit (e : Nat)
  /-- COMMIT_APPLY (R195): At tick 0 of the commit fret all checks run and every staged copy moves into force together, or nothing is committed. -/
  | commitApply
  /-- CHARGER_STOP (R280): CHARGER STOP sends the charger to STOPPED except from TIMEOUT, ABSENT and SEARCH. -/
  | chargerStop (e : Nat)
  /-- CHARGER_CHARGE (R280): CHARGER CHARGE stores a current limit and starts a cycle from STOPPED or DONE. -/
  | chargerCharge (e : Nat)
  /-- CHARGER_SEARCH (R267): CHARGER SEARCH starts the input-current search. -/
  | chargerSearch (e : Nat)
  /-- CHARGER_RIDE_LEVEL (R280): CHARGER RIDE_LEVEL sets the ride level from the next fret. -/
  | chargerRideLevel (e : Nat)
  /-- CHARGER_CLEAR_TIMEOUT (R280): CHARGER CLEAR_TIMEOUT clears TIMED_OUT and moves TIMEOUT to STOPPED. -/
  | chargerClearTimeout (e : Nat)
  /-- CHARGER_INPUT_LIMIT (R134): CHARGER INPUT_LIMIT sets or restores the host input limit, clamped to the search result. -/
  | chargerInputLimit (e : Nat)
  /-- FENCE (R95): A FENCE descriptor executes and waits for the FINAL entries of earlier descriptors of its ring or mask. -/
  | fence (e : Nat)
  /-- FENCE_WAIT_END (R95): Every descriptor a FENCE waits on has its FINAL entry in the journal and the FENCE completes OK. -/
  | fenceWaitEnd (e : Nat)
  /-- QUERY_FREE_ENTRIES (R96): QUERY item 0x00, or LENGTH 0, returns the number of free journal entries. -/
  | queryFreeEntries (e : Nat)
  /-- QUERY_FRET (R96): QUERY item 0x01 returns the high fret counter bits and the tick within the fret. -/
  | queryFret (e : Nat)
  /-- QUERY_STRING (R96): QUERY item 0x02 returns a string's state code and phases in service. -/
  | queryString (e : Nat)
  /-- QUERY_UNRESERVED (R96): QUERY item 0x03 returns the unreserved power at a fret offset. -/
  | queryUnreserved (e : Nat)
  /-- QUERY_BANK_ENERGY (R96): QUERY item 0x04 returns the predicted bank energy at a fret offset. -/
  | queryBankEnergy (e : Nat)
  /-- QUERY_TAG (R96): QUERY item 0x05 returns the number of live reservations carrying a tag. -/
  | queryTag (e : Nat)
  /-- RECORD_MARK (R97): A RECORD_MARK descriptor writes a host mark record with four parameters. -/
  | recordMark (e : Nat)
  /-- CAPTURE_STOP (R369): CAPTURE STOP ends the stream before its fret and writes END with reason STOP. -/
  | captureStop (e : Nat)
  /-- CAPTURE_START (R369): CAPTURE START arms a capture that writes a snapshot at its start fret and then the stream. -/
  | captureStart (e : Nat)
  /-- CAPTURE_START_FREEZE (R370): CAPTURE START_FREEZE arms a wrap-mode capture that freezes on a trigger. -/
  | captureStartFreeze (e : Nat)
  /-- CAPTURE_BEGIN (R367): At the start fret the snapshot of the fast-plane state is written and the input stream begins. -/
  | captureBegin
  /-- KEYFRAME_SNAPSHOT (R370): Every KEYFRAME × 4096 frets a wrap-mode capture writes a fresh snapshot. -/
  | keyframeSnapshot
  /-- CAPTURE_POST_END (R370): POST frets after the trigger the capture writes END with reason FROZEN. -/
  | capturePostEnd
  /-- REPLAY_FRET (R373): With the whole next fret of input and 128 KiB of output room available, one replay fret executes and writes its outputs. -/
  | replayFret
  /-- TIMED_WORK_END (R111): The end fret of timed work passes and its FINAL status is fixed, including clamp counts. -/
  | timedWorkEnd (e : Nat)
  /-- OVERDRAW_CLAMP (R151): A course exceeds its ceiling in 4 consecutive frets and is put under an overdraw clamp. -/
  | overdrawClamp (k : Nat)
  /-- RIDE_FRET (R163): At the ride fret non-RIDE_SAFE reservations and plans are removed and RIDE_SAFE ones re-tested and clamped. -/
  | rideFret
  /-- UPLINK_TELEMETRY (R214): A TELEMETRY block arrives in UA with ACK, currents, voltages and stage status. -/
  | uplinkTelemetry (k : Nat) (b : Block)
  /-- UPLINK_STATUS (R215): A STATUS block arrives in UB with ACK, temperatures, STAGE_ID and CAPS. -/
  | uplinkStatus (k : Nat) (b : Block)
  /-- UPLINK_RESEND (R218): A re-sent telemetry block arrives late; it updates PH_MEASURE and stage status and is not applied to the loop. -/
  | uplinkResend (k : Nat) (b : Block)
  /-- LOST_UPLINK_SLOT (R221): An uplink slot has no good block; it counts as lost, and at 3 the link sends MODE = SAFE and becomes RECOVERING. -/
  | lostUplinkSlot (k : Nat) (second : Bool) (header : Nat)
  /-- RESEND_DECISION (R216): At the re-send decision point D1 is chosen as a re-send of D0 on a NAK, or as a COMMAND block. -/
  | resendDecision (k : Nat)
  /-- LINK_TRAINED (R224): A training link sees 8 good slots each way with delay within 100 ns and becomes HELD. -/
  | linkTrained (k delay : Nat)
  /-- LINK_TRAIN_FAIL (R224): A link stays in TRAINING for TRAIN_TIMEOUT ms and raises LINK_TRAIN_FAIL. -/
  | linkTrainFail (k : Nat)
  /-- LINK_RECOVERY_TIMEOUT (R225): A link stays RECOVERING longer than SL_POLICY.RECOVERY µs and is retired. -/
  | linkRecoveryTimeout (k : Nat)
  /-- STRING_HICCUP (R183): A phase reaches N_LIMIT consecutive limited cycles and its string enters hiccup. -/
  | stringHiccup (k : Nat)
  /-- HICCUP_RETRY (R183): The hiccup off time ends and the string soft-starts from its measured voltage. -/
  | hiccupRetry (k : Nat)
  /-- PHASE_OPEN (R186): A phase carries under half the course mean for 32 cycles under load and is retired. -/
  | phaseOpen (p : Nat)
  /-- PHASE_SENSE_FAILED (R187): A phase's current sense is found stuck, out of range or disagreeing, and the phase becomes a follower. -/
  | phaseSenseFailed (p : Nat)
  /-- FOLLOWER_RETIRE (R188): After 64 of its own cycles as a follower a phase is retired and PHASE_SENSE is raised. -/
  | followerRetire (p : Nat)
  /-- SAFE_DISCHARGE_DONE (R191): A discharging string falls below 10 % and its phases go high-impedance. -/
  | safeDischargeDone (k : Nat)
  /-- SAFE_DISCHARGE_TIMEOUT (R191): A safe-state discharge exceeds STR_SAFE.TIMEOUT; phases go high-impedance and the source is raised. -/
  | safeDischargeTimeout (k : Nat)
  /-- ITEM_POWER_GOOD (R238): A supervised item stays within its warning window for the deglitch time and becomes power-good. -/
  | itemPowerGood (i : Item)
  /-- LEVEL_WARNING_TRIP (R237): An item stays beyond a warning level for its deglitch time; SEQ_EVENT is set. -/
  | levelWarningTrip (i : Item) (ovr : Bool)
  /-- LEVEL_FAULT_TRIP (R237): An item stays beyond a fault level for its deglitch time and raises its UV or OV fault source. -/
  | levelFaultTrip (i : Item) (ovr : Bool) (mv : Nat)
  /-- STEP_DELAY_END (R241): A step's DELAY ends after its items are good or discharged, and the next step starts. -/
  | stepDelayEnd
  /-- STEP_TIMEOUT (R246): An up step's items are not power-good within TIMEOUT, ending the run with an unwind. -/
  | stepTimeout
  /-- DOWN_ITEMS_DISCHARGED (R242): Every item of a down step falls below 10 % of its reference, ending the wait or a STRICT hold. -/
  | downItemsDischarged
  /-- DISCHARGE_TIMEOUT (R242): A down step exceeds TIMEOUT; a normal step records DISCHARGE_TIMEOUT and continues, a STRICT step holds. -/
  | dischargeTimeout
  /-- DOMAIN_POWER_GOOD (R243): A domain switch closed in BOOT reaches power-good and the next closes, or HRST_N is released and CONFIG entered. -/
  | domainPowerGood
  /-- UNWIND_STEP_END (R51): Every item of an unwind step is below 10 % or timed out and the next unwind step begins. -/
  | unwindStepEnd
  /-- UNWIND_ITEM_TIMEOUT (R51): An unwinding item passes its own timeout and records DISCHARGE_TIMEOUT. -/
  | unwindItemTimeout (i : Item)
  /-- REFERENCE_START_TIMEOUT (R411): The reference clock has not started within 5 ms of VPLL power-good and the boot fails. -/
  | referenceStartTimeout
  /-- FW_VERIFY_DONE (R351): Boot verification of the firmware images ends, releasing the core with FW_VALID or leaving it in reset. -/
  | fwVerifyDone (a b : ImageFacts) (flashBytes : Nat)
  /-- BUTTON_SHORT (R247): A debounced press released before LONG_TIME acts as a cold-boot trigger, an ON request or an event. -/
  | buttonShort (stamp : Stamp := 0)
  /-- LONG_PRESS (R247): A press held for LONG_TIME requests SHUTDOWN urgently, or ends a STRICT hold in SHUTDOWN. -/
  | longPress (stamp : Stamp := 0)
  /-- NMR_ASSERT (R248): nMR goes low after debounce and asserts HRST_N. -/
  | nmrAssert (stamp : Stamp := 0)
  /-- NMR_RELEASE (R248): nMR is released and the 10 ms HRST_N hold-off begins. -/
  | nmrRelease
  /-- HRST_RELEASE (R249): The latest HRST_N assertion time ends and HRST_N is released. -/
  | hrstRelease
  /-- MIN_OFF_TIME_END (R47): 200 ms after COLD was entered, a held cold-boot trigger or latched ON request acts. -/
  | minOffTimeEnd
  /-- SYMPATHETIC_BLOCK (R250): A block from a peer arrives, carrying SAFE state, system step commands, results and the fret counter. -/
  | sympatheticBlock (j : Nat) (b : Block)
  /-- FRET_TOKEN_ARRIVAL (R251): A follower receives the master's fret token and places its fret boundary. -/
  | fretTokenArrival
  /-- FRET_TOKEN_LOST (R27): A slave receives no fret token for 4 frets and enters SAFE. -/
  | fretTokenLost
  /-- PEER_LINK_LOST (R252): No good block arrives from a peer for 16 ticks; the link is lost and device SAFE follows. -/
  | peerLinkLost (j : Nat)
  /-- PEER_STEP_FAIL (R253): A follower's DONE is missing TIMEOUT + 1 ms after a command, or it reports FAIL, and the master sends CMD_UNWIND. -/
  | peerStepFail
  /-- INPUT_LOSS (R264): VIN stays below VIN_LOSS for 16 µs or PSU_OK deasserts; charging stops and the mode reacts under R44. -/
  | inputLoss (stamp : Stamp := 0)
  /-- RIDE_ENTRY (R44): Within 2 frets of input loss the device enters RIDE and the pack boosts onto the bus. -/
  | rideEntry
  /-- INPUT_RETURN (R264): VIN stays at or above VIN_BACK for 10 ms with PSU_OK; INPUT_PRESENT is set and cold-boot or RIDE events follow. -/
  | inputReturn (vin : Nat) (stamp : Stamp := 0)
  /-- PSU_LIMIT_ASSERTED (R269): PSU_LIMIT asserts outside a search; CHG_EVENT.PSU_LIMIT is set and the source raised. -/
  | psuLimitAsserted
  /-- SEARCH_STEP_START (R267): A search step begins at its 50 ms slot and the load draws the test current for the dwell. -/
  | searchStepStart (vRef : Nat)
  /-- SEARCH_DWELL_END (R268): A dwell ends; the step passes or the search ends with LIMIT, DROOP, LOAD_LIMITED or MAXIMUM. -/
  | searchDwellEnd (vEnd : Nat) (limit held : Bool)
  /-- QUALIFY_REST_END (R270): After 100 ms at rest in QUALIFY the charger goes to PRECHARGE, FAST or DONE. -/
  | qualifyRestEnd
  /-- CHARGE_TERMINATED (R273): The CV current stays below FAST / TERM_DIV for 60 s and the charger enters DONE. -/
  | chargeTerminated
  /-- RECHARGE (R273): In DONE the pack rests below V_RECHARGE for 10 s and a new cycle starts. -/
  | recharge
  /-- CHARGE_TIMEOUT (R274): The safety timer reaches its charge or time limit and the charger enters TIMEOUT. -/
  | chargeTimeout
  /-- PACK_ABSENT (R276): Pack removal is detected; the PACK string goes high-impedance and the charger enters ABSENT. -/
  | packAbsent
  /-- PACK_INSERTED (R276): A pack reads present for 1 s and PRESENT is set. -/
  | packInserted
  /-- PACK_DEPLETED (R263): With VIN absent the pack stays 200 mV per cell below cutoff for 100 ms and the pack path opens. -/
  | packDepleted
  /-- PACK_OV (R281): The pack stays above V_OV per cell for 1 ms and PACK_OV is raised. -/
  | packOv
  /-- PACK_EXHAUSTED (R278): In RIDE the pack stays below cutoff for 1 ms or RIDE becomes unavailable, and the device enters SAFE. -/
  | packExhausted (cutoff : Bool)
  /-- FAULT_RAISE (R291): A fault input is due; the status is set, counted, recorded and the reaction in force is taken. -/
  | faultRaise (inputs : List FaultIn)
  /-- NALIVE_HALF_PERIOD (R298): A half-period of nALIVE ends and the output toggles unless frozen. -/
  | naliveHalfPeriod
  /-- JOURNAL_MISMATCH (R113): A journal read finds the copies disagreeing; the winning copy is used and the loser rebuilt or retired. -/
  | journalMismatch (err : JournalError)
  /-- JOURNAL_REBUILD_DONE (R114): A copy rebuild completes and acceptance resumes, or the rebuild fails and the copy is retired. -/
  | journalRebuildDone (ok : Bool)
  /-- SUPPLY_FREEZE (R116): Neither VIN nor pack holds VSYS; AON moves to VHOLD, the journal freezes, COLD is entered and the flush begins. -/
  | supplyFreeze
  /-- FLUSH_SEALED (R116): The power-fail flush of journal and recorder completes and the sealing block is written. -/
  | flushSealed
  /-- VHOLD_EXHAUSTED (R116): VHOLD can no longer carry AON and the device is OFF. -/
  | vholdExhausted
  /-- SUPPLY_RETURN_ON_VHOLD (R117): VIN or pack holds VSYS again while AON runs on VHOLD; AON moves back and the restore marks RESTORED. -/
  | supplyReturnOnVhold (vin pack : Bool)
  /-- AON_POWER_UP (R405): VSYS exceeds 7.0 V from OFF; OTP is sensed, the power cycle counted, the journal image checked and COLD entered. -/
  | aonPowerUp (vin pack : Bool)
  /-- RECORDER_FLUSH_TRIGGER (R359): A flush condition starts writing buffered records into the log. -/
  | recorderFlushTrigger
  /-- RECORDER_BLOCK_WRITTEN (R360): A two-record log block is written and read back, re-written once or marked bad. -/
  | recorderBlockWritten (first second : Bool)
  /-- RECORDS_DROPPED (R361): Once the buffer has room after drops, RECORDS_DROPPED is written and its source raised. -/
  | recordsDropped
  /-- OPERATING_SECOND (R357): Every 32 768 AON periods outside OFF and COLD the operating time advances, saved at each hour boundary. -/
  | operatingSecond
  /-- LOG_CLEAR_DONE (R364): The log clear finishes erasing and writes LOG_CLEARED into slot 0. -/
  | logClearDone
  /-- OTP_PROGRAM_DONE (R347): An OTP word program and its tight-margin read-back complete with OK or VERIFY_FAILED. -/
  | otpProgramDone (normal tight : BitVec 39)
  /-- FLASH_COMMAND_DONE (R352): A QSPI flash command issued through OTP_FLASH_COMMAND completes and BUSY clears. -/
  | flashCommandDone (data : List Word)
  /-- CORE_HALT (R344): The Dunmal core is halted through the test access port; the key register clears and freezing timers stop. -/
  | coreHalt
  /-- TIMER_ADVANCE (R326): An enabled unfrozen timer advances after 2^PRESCALE bus clocks and may match. -/
  | timerAdvance (t : Nat)
  /-- CAPTURE_EVENT (R329): A selected SYNC edge or internal event stores the timer count in its capture queue. -/
  | captureEvent (t : Nat) (e : CapEvent)
  /-- WATCHDOG_WINDOW_TIMEOUT (R336): The watchdog counter reaches 2 × WD_CLOSE with no sample after the close point and the window is judged. -/
  | watchdogWindowTimeout
  /-- WATCHDOG_WAIT_LIMIT (R337): Waiting lasts WAIT management ticks and counts as a further expiry. -/
  | watchdogWaitLimit
  /-- WATCHDOG_CLOCK_LOSS (R334): Two AON periods pass without an edge of the watchdog clock, which counts as an expiry. -/
  | watchdogClockLoss
  /-- FUNCTION_RESET (R63): A function level reset, hot reset, link-down, PERST_N or D3hot entry resets the ring engine and ring registers. -/
  | functionReset
  /-- RING_CONTROL_WRITE (R71): A write to RING_CONTROL enables or disables the ring engine or changes the poll period. -/
  | ringControlWrite (v : Word)
  /-- RING_SUB_CONTROL_WRITE (R74): A write to RING_SUB_CONTROL enables, disables or reclasses a submission ring. -/
  | ringSubControlWrite (n : Nat) (v : Word)
  /-- RING_CPL_CONTROL_WRITE (R74): A write to RING_CPL_CONTROL enables a completion ring, resetting PRODUCER and PHASE, or disables it. -/
  | ringCplControlWrite (m : Nat) (v : Word)
  /-- COMMIT (R196): A write of ID_COMMIT.COMMIT in CONFIG requests a commit at the next fret boundary. -/
  | commit
  /-- DISCARD (R197): A write of ID_COMMIT.DISCARD reloads every staged copy from its value in force. -/
  | discard
  /-- STRING_REINSTATE (R192): A write of STR_STATUS.REINSTATE in CONFIG returns a string and its retired phases to service. -/
  | stringReinstate (k : Nat)
  /-- LINK_REINSTATE (R226): A write of SL_LINK_EXPECT.REINSTATE in CONFIG returns a retired link to TRAINING. -/
  | linkReinstate (k : Nat)
  /-- REGION_REINSTATE (R295): A write of FLT_REGION.REINSTATE in CONFIG reinstates a retired region and retrains its links. -/
  | regionReinstate (mask : BitVec 4)
  /-- RELEASE (R242): A write of SEQ_CONTROL.RELEASE ends a STRICT hold. -/
  | release
  /-- FLT_STATUS_CLEAR (R304): A write of 1 to an FLT_STATUS bit clears the status if the cause is gone, else the clear is refused. -/
  | fltStatusClear (block : Nat) (mask : Word) (held : List Nat)
  /-- NALIVE_TEST (R300): A write of FLT_CONTROL.NALIVE_TEST in CONFIG or SAFE freezes or releases nALIVE. -/
  | naliveTest (on : Bool)
  /-- INJECT_ARM (R309): A write of FLT_INJECT.ARM arms check-bit inversion on the next operation of a checker, or is refused. -/
  | injectArm (v : Word)
  /-- INT_CLAIM (R317): A read of INT_CLAIM returns and activates the highest-priority claimable source and pushes the stack. -/
  | intClaim (t : Nat)
  /-- INT_COMPLETE (R319): A write of INT_COMPLETE pops the stack, or clears it on an out-of-order completion and raises INT_STACK. -/
  | intComplete (t n : Nat)
  /-- GLOBAL_ENABLE (R321): A write of INT_CONTROL.GLOBAL_ENABLE holds off or resumes delivery to all targets. -/
  | globalEnable (on : Bool)
  /-- TMR_CONTROL_WRITE (R326): A write of TMR_CONTROL starts or stops a timer and selects prescale, restart, freeze and capture. -/
  | tmrControlWrite (t : Nat) (v : Word)
  /-- TMR_COUNT_WRITE (R326): A write of TMR_COUNT loads the counter while the timer is disabled. -/
  | tmrCountWrite (t : Nat) (v : Word)
  /-- TMR_COMPARE_WRITE (R328): A write of TMR_COMPARE loads the live comparator and matches at once if equal to the count. -/
  | tmrCompareWrite (t : Nat) (v : Word)
  /-- TMR_CAPTURE_READ (R329): A read of TMR_CAPTURE returns and removes the oldest capture entry. -/
  | tmrCaptureRead (t : Nat)
  /-- WD_SETUP_WRITE (R333): A valid WD_SETUP write turns the watchdog on and locks it; an invalid one sets REJECTED. -/
  | wdSetupWrite (v : Word)
  /-- FB_FRET_LOW_READ (R165): A read of FB_FRET_LOW returns the low fret bits and latches FB_FRET_HIGH. -/
  | fbFretLowRead
  /-- OTP_SERVICE_KEY (R347): Writes of the two key values to OTP_SERVICE in CONFIG with input present enable OTP service. -/
  | otpServiceKey (key : BitVec 16)
  /-- PROGRAM (R347): OTP command PROGRAM writes one blank word of BOOT, DIGEST or USER. -/
  | program (confirm : Nat)
  /-- PROGRAM_SECRET (R348): OTP command PROGRAM_SECRET programs one scrambled word of the device secret. -/
  | programSecret (confirm : Nat)
  /-- ADVANCE_ROLLBACK (R346): OTP command ADVANCE_ROLLBACK programs counter words up to the running image's ROLLBACK. -/
  | advanceRollback (confirm : Nat)
  /-- ADVANCE_EPOCH (R346): OTP command ADVANCE_EPOCH programs one configuration epoch word. -/
  | advanceEpoch (confirm : Nat)
  /-- REVOKE (R348): OTP command REVOKE programs a digest slot's revoke word. -/
  | revoke (confirm : Nat)
  /-- FLASH_GO (R352): A write of OTP_FLASH_COMMAND.GO issues a QSPI command when the port is open, else sets DENIED. -/
  | flashGo (v : Word)
  /-- FLUSH (R359): A write of REC_CONTROL.FLUSH flushes the recorder buffer into the log. -/
  | flush
  /-- CLEAR (R364): A write of REC_CONTROL.CLEAR with CONFIRM in CONFIG with OTP service enabled starts erasing the log. -/
  | clear (confirm : Nat)
  /-- REGISTER_WRITE (R3): A write to a register without behaviour of its own acts by its fields' access codes, including ignored ring writes of R73. -/
  | registerWrite (offset : Nat) (v : Word) (held : List Nat)
  /-- IDENT (R388): Port command IDENT returns ID_DEVICE. -/
  | ident
  /-- MP_MODE (R388): Port command MODE returns ID_MODE. -/
  | mpMode
  /-- MODE_CAUSE (R388): Port command MODE_CAUSE returns ID_MODE_CAUSE. -/
  | modeCause
  /-- OUTSTANDING (R388): Port command OUTSTANDING returns FLT_OUTSTANDING. -/
  | outstanding
  /-- PORT_STATUS (R388): Port command PORT_STATUS returns MP_STATUS. -/
  | portStatus
  /-- RESULT_ORDINARY (R388): Port command RESULT_ORDINARY returns the ordinary request slot's result. -/
  | resultOrdinary
  /-- RESULT_URGENT (R388): Port command RESULT_URGENT returns the urgent request slot's result. -/
  | resultUrgent
  /-- CLEAR_RESULT (R388): Port command CLEAR_RESULT returns MP_CLEAR_RESULT. -/
  | clearResult
  /-- MP_FRET (R388): Port command FRET returns FB_FRET_LOW, or 0 while SCHED is unpowered. -/
  | mpFret
  /-- LAST_FAULT (R388): Port command LAST_FAULT returns FLT_LAST. -/
  | lastFault
  /-- MP_CHARGER (R388): Port command CHARGER returns CHG_STATUS, or 0 while AUX is unpowered. -/
  | mpCharger
  /-- RECORDER (R388): Port command RECORDER returns REC_STATUS. -/
  | recorder
  /-- MODE_BLOCK (R388): Port command MODE_BLOCK returns seven mode, journal and fault registers in one block. -/
  | modeBlock
  /-- FAULT_LIST (R388): Port command FAULT_LIST returns all sixteen FLT_STATUS words. -/
  | faultList
  /-- RECORD_SELECT (R388): Port command RECORD_SELECT sets the slot and count for record window reads. -/
  | recordSelect (bytes : List Byte)
  /-- RECORD_WINDOW (R388): Port command RECORD_WINDOW reads COUNT recorder slots and advances SLOT on completion. -/
  | recordWindow (complete : Bool)
  /-- MODE_REQUEST (R389): Port command MODE_REQUEST places a mode request in its urgent or ordinary slot for the journal. -/
  | modeRequest (bytes : List Byte)
  /-- MP_REQUEST_ENQUEUE (R390): A port request held WAITING for a full journal enters the journal when room appears. -/
  | mpRequestEnqueue
  /-- CHECKIN (R392): Port command CHECKIN advances the slot-7 check-in counter, or is ignored. -/
  | checkin (bytes : List Byte)
  /-- FAULT_CLEAR (R392): Port command FAULT_CLEAR clears a fault status under the same rule as an FLT_STATUS write. -/
  | faultClear (bytes : List Byte) (held : List Nat)
  /-- WINDOW_ADDRESS (R388): Port command WINDOW_ADDRESS writes or reads the BAR0 offset of the register window. -/
  | windowAddress (bytes : Option (List Byte))
  /-- WINDOW_DATA (R393): Port command WINDOW_DATA reads or writes the BAR0 register at the window address. -/
  | windowData (bytes : Option (List Byte)) (held : List Nat)
  /-- WINDOW_NEXT (R393): Port command WINDOW_NEXT accesses the windowed register and advances the address by 4. -/
  | windowNext (bytes : Option (List Byte)) (held : List Nat)
  /-- CLAIM (R394): Port command CLAIM performs the claim read of interrupt target 3. -/
  | claim
  /-- COMPLETE (R394): Port command COMPLETE writes INT_COMPLETE of target 3. -/
  | complete (bytes : List Byte)
  /-- STACK (R388): Port command STACK returns INT_STACK_STATUS of target 3. -/
  | stack
  /-- ALERT_RESPONSE (R381): A Read Byte to the Alert Response Address while IRQ_N is asserted returns the port's address. -/
  | alertResponse
  /-- MP_SCL_TIMEOUT (R385): SCL is held low for more than 25 ms; the port releases the lines and discards the transaction. -/
  | mpSclTimeout (us code index : Nat)
  /-- MP_SDA_STUCK (R385): SDA is held low with SCL high for more than 25 ms; the port releases the lines and discards the transaction. -/
  | mpSdaStuck (us code index : Nat)
  /-- TIMEBASE_LOST (R296): Two consecutive tick tokens go missing at an island, or a PLL loses lock, and the clock monitor raises TIMEBASE_LOST with reaction device SAFE. -/
  | timebaseLost (island : Nat)
  /-- BAD_OPCODE (R83): An accepted descriptor whose opcode is not defined, or whose QUERY ITEM, CHARGER OP or CAPTURE OP is not defined, executes at its due tick and completes BAD_OPCODE or BAD_FIELD. -/
  | badOpcode (e : Nat)
  /-- BAD_COMMAND (R383): A management-port transaction that carries a reserved command code is NACKed at the command byte and sets MP_STATUS.BAD_COMMAND. -/
  | badCommand (code : Nat)
  /-- BUTTON_PRESS_START (R247): PB_N reaches its debounced start, SEQ_BUTTON.PRESSED becomes 1 and the press begins to be timed toward LONG_TIME. -/
  | buttonPressStart
  /-- CORE_RESUME (R330): The Dunmal core leaves its halt through the test access port, TMR_STATUS.FROZEN clears and timers with FREEZE = 1 advance again. -/
  | coreResume
deriving DecidableEq, Repr

end Sys2Proof
end

