-- ==== Sys2Proof/Decode.lean ====
section
/-!
DEFINITION. The table of operations and events gives its rows no bits, so no word spells a command.
-/
set_option Elab.async false
namespace Sys2Proof

/-- The command a word spells by the table's bits: none, since no row has bits. -/
def decodeTableWord (_nbits _w : Nat) : Option Instr := none

end Sys2Proof
end

