-- ==== Sys2Proof/Config.lean ====
section
/-!
DEFINITION. What the manual leaves open: constants with no body, so that a claim holds whatever they are (log 6, 7).
-/
set_option Elab.async false
namespace Sys2Proof.Config

/-- FREE VALUE (log 6): the rounding of the control loops' values to their internal format, which R172 leaves open. -/
opaque loopRound : Rat → Rat

/-- FREE VALUE (log 7): v_out / v_in of R172 when the stage has reported a V_IN of 0, as a function of v_out. -/
opaque ratioNoInput : Nat → Rat

/-- FREE VALUE (log 7): the current with which a STORE string holds the bus at a window edge, which R176 bounds but does
not compute, as a function of a counter. -/
opaque storeSupport : Nat → Rat

/-- FREE VALUE (log 7): the current with which the load string of a search holds I_IN at the test current (R267), as a
function of a counter. -/
opaque searchLoad : Nat → Rat

/-- FREE VALUE (log 7): the origin in time of the triangle wave of R180, in 125 ps units, per string. -/
opaque triangleOrigin : Nat → Int

/-- FREE VALUE (log 7): the scaling of a 15-bit LFSR state to −1 … +1 (R180). -/
opaque lfsrScale : Nat → Rat

/-- FREE VALUE (log 7): the check bits of a 32-bit OTP word, before their inversion (R340). -/
opaque otpCheck : BitVec 32 → BitVec 7

/-- FREE VALUE (log 7): what the SEC-DED decoder of R340 says of 39 bits whose check does not pass clean:
the corrected word, or none for an uncorrectable one. -/
opaque otpCorrect : BitVec 39 → Option (BitVec 32)

/-- FREE VALUE (log 64): which bits of a word are programmed when AON is lost during its program, as sensed at normal and at tight
margin (R353), as a function of a counter. -/
opaque cutNormal : Nat → BitVec 39
opaque cutTight : Nat → BitVec 39

/-- FREE VALUE (log 7): the per-die scrambling of a word of the secret, with its inverse (R344). -/
opaque scramble : Nat → BitVec 32 → BitVec 32
opaque descramble : Nat → BitVec 32 → BitVec 32

/-- FREE VALUE (log 7): the length in bytes of a snapshot, whose layout R367 leaves open, as a function of a counter. -/
opaque snapshotBytes : Nat → Nat

/-- FREE VALUE (log 7): the power-die stepping, held in TRIM, whose place R341 leaves open. -/
opaque powerDieStepping : Nat

/-- FREE VALUE (log 7): parameter `i` of a recorder record to which its chapter gives none, as a function of a counter and `i`. -/
opaque recordParam : Nat → Nat → Nat

/-- FREE VALUE (log 7): whether V_CMD takes the 10 mV step above a point of a PROFILE's line that lies between two steps
(R178 gives no rounding), as a function of numerator and denominator. -/
opaque lineUp : Nat → Nat → Bool

/-- FREE VALUE (log 7): the one-way delay of a sympathetic link in ns, measured in training (R251), as a function of a counter. -/
opaque peerDelay : Nat → Nat

/-- FREE VALUE (log 7): the rounding of a measured mean to the unit of the register that shows it, which the tables leave open. -/
opaque showRound : Rat → Int

/-- FREE VALUE (log 7): the measured current of a rail group (R259), which no converter channel carries, as a function of a counter
and the group. -/
opaque railCurrent : Nat → Nat → Nat

/-- FREE VALUE (log 7): the refill term of R138 that divides by η_in, when η_in is 0. -/
opaque refillZeroEta : Nat

end Sys2Proof.Config
end

