-- ==== Sys2Proof/Machine/State.lean ====
section
/-!
DEFINITION. The state of the block: the device, its replay copy, and the queue of waiting commands.
-/
set_option Elab.async false
namespace Sys2Proof.Machine

/-- Reasons a step can stop with a fault. The manual's faults are sources of its fault collector and part of State,
so no command of this block stops with one. -/
inductive Fault where
  /-- Raised by nobody: the manual gives every command an effect. Safe. -/
  | unreachable
deriving DecidableEq, Repr

/-- Reasons a step can be refused. -/
inductive Refusal where
  /-- Raised by an arm of `exec` whose command has no meaning yet; no arm does so now. Safe. -/
  | notModelled (mnemonic : String)
deriving DecidableEq, Repr

/-- The state: `pending` is the queue of commands, first in, first out. `rep` is the fast plane of a replay, held
apart from the device's own (R373). `repIn` holds the records of the replay input ring that are not yet executed (R365). -/
structure State where
  pending : List Instr := []
  dev : Dev := {}
  rep : Option Dev := none
  repIn : List RepRec := []
deriving DecidableEq, Repr

/-- The machine right after reset: OFF, nothing powered, every register at its reset value (log 1). -/
def State.reset : State := {}

end Sys2Proof.Machine
end

