-- ==== Sys2Proof/Machine/Regs.lean ====
section
/-!
DEFINITION. The register file: OTP images, reset values, access masks, power domains, and named field accessors (R3, R4, R349, and the register tables of every chapter).
-/
set_option Elab.async false
namespace Sys2Proof.Machine

/-! ### OTP shadows -/

/-- The shadow of an OTP word (R342). -/
def shadowOf (d : Dev) (w : Nat) : Shadow := d.otp.shadow.get {} w

/-- A word is usable when it is GOOD or CORRECTED (R342). -/
def otpUsable (d : Dev) (w : Nat) : Bool :=
  (shadowOf d w).st == .good || (shadowOf d w).st == .corrected

/-- The 39 bits a value is stored as: the data below its inverted check bits (R340). -/
def otpBits (v : Word) : BitVec 39 := (~~~(Config.otpCheck v)) ++ v

/-- The shadow of a word sensed at normal and at tight margin (R342). -/
def senseWord (normal tight : BitVec 39) : Shadow :=
  let v : Word := BitVec.ofNat 32 (normal.toNat % 2 ^ 32)
  let chk := normal.toNat / 2 ^ 32
  if normal ≠ tight then { val := v, st := .marginal, chk := chk }
  else if normal = 0 then {}
  else if normal = otpBits v then { val := v, st := .good, chk := chk }
  else match Config.otpCorrect normal with
    | some c => { val := c, st := .corrected, chk := chk }
    | none => { val := v, st := .bad, chk := chk }

/-- AON is lost while a word is programmed: the word is BLANK, BAD or MARGINAL at the next sensing, with free bits of its value set; bits
that would make it usable are left out whole (R353, log 64). -/
def cutProgram (d : Dev) : Otp :=
  match d.otp.cmd with
  | none => d.otp
  | some c =>
    let want := otpBits c.data
    let n := d.otp.normal.get 0 c.word ||| (Config.cutNormal d.clk.free &&& want)
    let t := d.otp.tight.get 0 c.word ||| (Config.cutTight d.clk.free &&& want)
    match (senseWord n t).st with
    | .good => d.otp
    | .corrected => d.otp
    | _ => { d.otp with normal := d.otp.normal.set 0 c.word n, tight := d.otp.tight.set 0 c.word t }

/-- A usable word, or a default (R349). -/
def otpOr (d : Dev) (w : Nat) (dflt : Word) : Word := if otpUsable d w then (shadowOf d w).val else dflt

/-- POLICY word (R349): BUTTON, COUNT 0, ALT_OFFSET 64, LONG_TIME 8 when not usable. -/
def policyWord (d : Dev) : Word := otpOr d 0x080 (w32 (2 + (64 <<< 4) + (8 <<< 12)))

/-- COLD_BOOT in force (R45): 0 NEVER, 1 INPUT, 2 BUTTON; 3 is treated as BUTTON. -/
def coldBoot (d : Dev) : Nat := fld (policyWord d) 0 2

/-- ID_SYSTEM.COUNT (R32). -/
def sysCount (d : Dev) : Nat := fld (policyWord d) 2 2

/-- ALT_OFFSET in bytes (R349, R350). -/
def altOffset (d : Dev) : Nat :=
  let a := fld (policyWord d) 4 8
  (if a = 0 then 64 else a) * 65536

/-- A package with MASTER = 0 and COUNT above 0 is a follower (R46). -/
def follower (d : Dev) : Bool := !d.pins.master && decide (0 < sysCount d)

/-- A master of a system of several packages (R27, R253). -/
def sysMaster (d : Dev) : Bool := d.pins.master && decide (0 < sysCount d)

/-! ### Rails: OTP or factory (R233–R236) -/

/-- Factory SEQ_RAIL_CONFIG of rail `r` (the worked example of the factory boot). -/
def factoryRail : Nat → Word
  | 0 => w32 (150 + (3 <<< 10) + (1 <<< 13) + (1 <<< 16))
  | 1 => w32 (1 <<< 16)
  | 2 => w32 (1 <<< 16)
  | 3 => w32 (180 + (1 <<< 10) + (2 <<< 13) + (1 <<< 16))
  | 4 => w32 (360 + (1 <<< 10) + (3 <<< 13) + (1 <<< 16))
  | 5 => w32 (660 + (1 <<< 10) + (0 <<< 13) + (1 <<< 16))
  | 6 => w32 (300 + (1 <<< 10) + (4 <<< 13))
  | 7 => w32 (180 + (1 <<< 10) + (5 <<< 13))
  | _ => 0

/-- Factory warning and fault levels. -/
def factoryWarn : Word := w32 (10 + (10 <<< 8) + (50 <<< 16))
def factoryFault : Word := w32 (20 + (20 <<< 8) + (16 <<< 16))

/-- Factory boot table. -/
def factoryStep : Nat → Word
  | 0 => w32 (0x10 + (5 <<< 16) + (1 <<< 25))
  | 1 => w32 (0xC1 + (5 <<< 16) + (1 <<< 25))
  | 2 => w32 (0x08 + (5 <<< 16) + (1 <<< 25))
  | 3 => w32 (0x20 + (5 <<< 8) + (5 <<< 16) + (1 <<< 25))
  | _ => 0

/-- GROUP_SIZE and NET of the OTP's rail word. -/
def otpRailSize (d : Dev) (r : Nat) : Nat := fld (shadowOf d (0x081 + 3 * r)).val 10 3
def otpRailNet (d : Dev) (r : Nat) : Nat := fld (shadowOf d (0x081 + 3 * r)).val 13 3

/-- Every rail and boot-table word of the BOOT area is usable. -/
def railWordsUsable (d : Dev) : Bool :=
  (List.range 24).all (fun i => otpUsable d (0x081 + i)) && (List.range 8).all (fun i => otpUsable d (0x099 + i))

/-- No two groups overlap, and a buck group ends no higher than BK5 (R234, R236). -/
def railGroupsOk (d : Dev) : Bool :=
  (List.range 8).all (fun r => decide (((List.range 8).filter (fun p => decide (p ≤ r ∧ r < p + otpRailSize d p))).length ≤ 1))
  && (List.range 6).all (fun r => decide (otpRailSize d r = 0) || decide (r + otpRailSize d r ≤ 6))

/-- Each of the five device nets is named by exactly one group (R235). -/
def railNetsOk (d : Dev) : Bool :=
  (List.range 5).all (fun i =>
    decide (((List.range 8).filter (fun r => decide (otpRailSize d r ≠ 0) && decide (otpRailNet d r = i + 1))).length = 1))

/-- The rail set and the boot table come from OTP (R236); otherwise the factory set is in force. -/
def railsFromOtp (d : Dev) : Bool := railWordsUsable d && railGroupsOk d && railNetsOk d

/-- Images of the three rail words and of the boot table (R236, R349). -/
def railConfigImage (d : Dev) (r : Nat) : Word := if railsFromOtp d then (shadowOf d (0x081 + 3 * r)).val else factoryRail r
def railWarnImage (d : Dev) (r : Nat) : Word := if railsFromOtp d then (shadowOf d (0x082 + 3 * r)).val else factoryWarn
def railFaultImage (d : Dev) (r : Nat) : Word := if railsFromOtp d then (shadowOf d (0x083 + 3 * r)).val else factoryFault
def bootStep (d : Dev) (n : Nat) : Word := if railsFromOtp d then (shadowOf d (0x099 + n)).val else factoryStep n

/-! ### Charger images (R261, R349) -/

/-- CHEMISTRY of the OTP: 0 LiFePO4, 1 Li-ion. -/
def otpChemistry (d : Dev) : Nat := fld (otpOr d 0x0A1 (w32 (8 <<< 8))) 3 1

/-- Chemistry defaults of R261. -/
def cellDefault (d : Dev) (li fe : Nat) : Nat := if otpChemistry d = 1 then li else fe

/-- CHG_INPUT_LEVELS image: used only when VIN_BACK is above VIN_LOSS (R349). -/
def inputLevelsImage (d : Dev) : Word :=
  let v := (shadowOf d 0x0A8).val
  if otpUsable d 0x0A8 && decide (fld v 0 16 < fld v 16 16) then v else w32 (4000 + (4400 <<< 16))

/-! ### The fault source table (R296, R297, and the tables of the owning chapters) -/

/-- Severity 0–3, scope 0–4, class 0 T 1 P 2 C, default reaction (R287). -/
structure SrcInfo where
  severity : Nat
  scope : Nat
  cls : Nat
  dflt : Reaction
deriving DecidableEq, Repr

/-- The implemented sources; any other code does not exist (R286, R287). -/
def srcInfo : Nat → Option SrcInfo
  | 0x1000 => some ⟨3, 4, 2, .drone⟩
  | 0x1001 => some ⟨3, 4, 2, .deviceSafe⟩
  | 0x1002 => some ⟨0, 0, 0, .none⟩
  | 0x1003 => some ⟨0, 4, 0, .none⟩
  | 0x1004 => some ⟨3, 4, 2, .deviceSafe⟩
  | 0x1005 => some ⟨2, 0, 1, .retireUnit⟩
  | 0x1006 => some ⟨3, 4, 2, .deviceSafe⟩
  | 0x1007 => some ⟨2, 0, 1, .retireUnit⟩
  | 0x1008 => some ⟨0, 4, 0, .none⟩
  | 0x1009 => some ⟨2, 4, 1, .deviceSafe⟩
  | 0x1010 => some ⟨2, 3, 1, .regionSafe⟩
  | 0x1011 => some ⟨2, 3, 1, .regionSafe⟩
  | 0x1012 => some ⟨2, 3, 1, .regionSafe⟩
  | 0x1100 => some ⟨1, 1, 0, .interrupt⟩
  | 0x1101 => some ⟨2, 1, 1, .stringSafe⟩
  | 0x1102 => some ⟨2, 0, 1, .retireUnit⟩
  | 0x1103 => some ⟨2, 0, 1, .retireUnit⟩
  | 0x1104 => some ⟨2, 1, 1, .stringSafe⟩
  | 0x1105 => some ⟨1, 1, 0, .interrupt⟩
  | 0x1106 => some ⟨2, 0, 1, .retireUnit⟩
  | 0x1107 => some ⟨0, 1, 2, .none⟩
  | 0x1200 => some ⟨0, 2, 0, .none⟩
  | 0x1201 => some ⟨1, 2, 2, .interrupt⟩
  | 0x1202 => some ⟨2, 2, 1, .stringSafe⟩
  | 0x1203 => some ⟨2, 2, 2, .interrupt⟩
  | 0x1204 => some ⟨2, 0, 1, .retireUnit⟩
  | 0x1205 => some ⟨1, 2, 2, .interrupt⟩
  | 0x1206 => some ⟨2, 2, 2, .interrupt⟩
  | 0x1207 => some ⟨0, 2, 0, .none⟩
  | 0x1300 => some ⟨2, 4, 2, .deviceSafe⟩
  | 0x1301 => some ⟨3, 4, 2, .deviceSafe⟩
  | 0x1302 => some ⟨2, 1, 2, .stringSafe⟩
  | 0x1303 => some ⟨2, 1, 2, .stringSafe⟩
  | 0x1304 => some ⟨2, 4, 0, .interrupt⟩
  | 0x1305 => some ⟨2, 4, 2, .interrupt⟩
  | 0x1306 => some ⟨2, 4, 2, .deviceSafe⟩
  | 0x1400 => some ⟨2, 4, 0, .interrupt⟩
  | 0x1401 => some ⟨3, 4, 2, .deviceSafe⟩
  | 0x1402 => some ⟨0, 4, 0, .none⟩
  | 0x1403 => some ⟨1, 4, 2, .interrupt⟩
  | 0x1500 => some ⟨2, 4, 2, .interrupt⟩
  | 0x1501 => some ⟨1, 1, 2, .interrupt⟩
  | 0x1502 => some ⟨1, 1, 2, .interrupt⟩
  | 0x1503 => some ⟨2, 1, 2, .stringSafe⟩
  | 0x1504 => some ⟨1, 4, 2, .interrupt⟩
  | 0x1600 => some ⟨2, 4, 0, .interrupt⟩
  | 0x1700 => some ⟨1, 4, 2, .interrupt⟩
  | 0x1701 => some ⟨1, 4, 2, .interrupt⟩
  | 0x1702 => some ⟨2, 4, 2, .interrupt⟩
  | 0x1703 => some ⟨2, 4, 2, .interrupt⟩
  | 0x1704 => some ⟨0, 4, 2, .none⟩
  | 0x1800 => some ⟨2, 4, 1, .interrupt⟩
  | 0x1801 => some ⟨1, 4, 0, .interrupt⟩
  | 0x1802 => some ⟨1, 4, 0, .interrupt⟩
  | 0x1900 => some ⟨1, 4, 2, .interrupt⟩
  | 0x1901 => some ⟨1, 4, 2, .interrupt⟩
  | _ => none

/-- Source index of a code (R285): 32·B + n. -/
def srcIndex (code : Nat) : Nat := 32 * (code / 256 % 16) + code % 256

/-- Code of a source index (R285). -/
def srcCode (i : Nat) : Nat := 0x1000 + 256 * (i / 32) + i % 32

/-- FLOOR (R290): the default for ERROR and CRITICAL sources, NONE for INFO and WARN. -/
def srcFloor (s : SrcInfo) : Reaction := if 2 ≤ s.severity then s.dflt else .none

/-- Register-file key of the REACTION and RECORD fields of a source (FLT_SOURCE_CONFIG is one window on 512). -/
def fltKey (i : Nat) : Nat := 0x10000 + i

/-! ### Reset values -/

/-- Reset of the words of a string's block (R200). -/
def strReset : Nat → Word
  | 0x00 => w32 (1 <<< 16)
  | 0x08 => w32 (100 <<< 16)
  | 0x0C => w32 (200 + (92 <<< 16) + (108 <<< 24))
  | 0x10 => w32 (500 + (1 <<< 12) + (8 <<< 16) + (10 <<< 24))
  | 0x28 => w32 (64 + (4 <<< 10) + (3 <<< 18) + (10 <<< 22))
  | 0x2C => w32 (80 + (10 <<< 16))
  | _ => 0

/-- Reset of the words of a phase's block (R201). -/
def phReset : Nat → Word
  | 0x08 => w32 (3200 + (200 <<< 16))
  | 0x0C => w32 (100 + (120 <<< 8) + (128 <<< 16))
  | _ => 0

/-- Reset of the charger's words (R284), with their OTP images (R349). -/
def chgReset (d : Dev) : Nat → Word
  | 0x00 => (otpOr d 0x0A1 (w32 (8 <<< 8)) &&& w32 0x1F0B) ||| w32 4
  | 0x04 => otpOr d 0x0A2 (w32 (cellDefault d 4200 3600 + (cellDefault d 4300 3750 <<< 16)))
  | 0x08 => otpOr d 0x0A3 (w32 (cellDefault d 3000 2500 + (cellDefault d 4050 3350 <<< 16)))
  | 0x0C => otpOr d 0x0A4 (w32 (cellDefault d 3200 2800 + (cellDefault d 3500 3100 <<< 16)))
  | 0x10 => (otpOr d 0x0A5 (w32 500) &&& w32 0x7FF) ||| w32 (20 <<< 16)
  | 0x14 => (otpOr d 0x0A6 (w32 200) &&& w32 0xFFFF) ||| w32 (12 <<< 16)
  | 0x18 => w32 (0 + (10 <<< 8) + (45 <<< 16) + (55 <<< 24))
  | 0x1C => w32 (0xEC + (60 <<< 8)) ||| (otpOr d 0x0A7 0 &&& w32 (7 <<< 16))
  | 0x20 => w32 (300 + (5 <<< 10) + (100 <<< 16))
  | 0x24 => inputLevelsImage d
  | _ => 0

/-- Reset of the single sequencer words and of the rails (R259). -/
def seqReset (d : Dev) (o : Nat) : Word :=
  if o < 0x80 then
    match o % 16 with
    | 0 => railConfigImage d (o / 16)
    | 4 => railWarnImage d (o / 16)
    | 8 => railFaultImage d (o / 16)
    | _ => 0
  else match o with
    | 0xA8 => w32 (10 + (10 <<< 8) + (64 <<< 16))
    | 0xAC => w32 (20 + (20 <<< 8) + (16 <<< 16))
    | 0xB0 => w32 (fld (policyWord d) 12 5)
    | 0xC0 => w32 1000
    | _ => 0

/-- Reset value of a stored word: RS fields, and RW fields with no unit of their own (the register tables). -/
def regReset (d : Dev) (off : Nat) : Word :=
  if off = 0x0400 then w32 (3 <<< 8)
  else if 0x0500 ≤ off ∧ off < 0x0900 then
    match off % 32 with
    | 8 => w32 (3 <<< 8)
    | 12 => w32 64
    | _ => 0
  else if off = 0x1000 then w32 (1 + (20 <<< 8))
  else if off = 0x1028 then w32 0xF852F852
  else if off = 0x102C then w32 1000
  else if 0x2000 ≤ off ∧ off < 0x3000 then strReset (off % 64)
  else if off = 0x3004 then w32 (100 + (64 <<< 16) + (20 <<< 24))
  else if 0x3800 ≤ off ∧ off < 0x3900 then seqReset d (off - 0x3800)
  else if 0x4000 ≤ off ∧ off < 0x4100 then chgReset d (off - 0x4000)
  else if off = 0x5000 then w32 1
  else if off = 0x7108 then w32 ((2 <<< 6) + (1024 <<< 8) + (8 <<< 24))
  else if off = 0x7800 then w32 6
  else if off = 0x7804 then w32 (10 + (4 <<< 8))
  else if 0x8000 ≤ off ∧ off < 0xA000 then phReset (off % 128)
  else if 0x10000 ≤ off ∧ off < 0x10200 then
    match srcInfo (srcCode (off - 0x10000)) with
    | some i => w32 i.dflt.code
    | none => 0
  else 0

/-! ### Access masks -/

/-- Bits of access code RS in a word (R3; R165, R200, R201, R232, R259, R284, R312). -/
def rsMask (off : Nat) : Word :=
  if 0x1000 ≤ off ∧ off < 0x1038 then
    match off with
    | 0x1000 => w32 0x7F03
    | 0x1010 => w32 0xFFFF
    | 0x1014 => w32 0xFFFF
    | 0x101C => w32 0xFFFF
    | 0x1020 => w32 0xFFFFFFFF
    | 0x1024 => w32 0xFFFFFFFF
    | 0x1028 => w32 0xFFFFFFFF
    | 0x102C => w32 0xFFFF
    | 0x1030 => w32 0x7F7F
    | 0x1034 => w32 0xFFFFFFFF
    | _ => 0
  else if 0x2000 ≤ off ∧ off < 0x3000 then
    match off % 64 with
    | 0x00 => w32 0x001F3F1F
    | 0x04 => w32 0x0000FFFF
    | 0x08 => w32 0x03FFFFFF
    | 0x0C => w32 0xFFFFFFFF
    | 0x10 => w32 0x3F1F3FFF
    | 0x14 => w32 0xFFFFFFFF
    | 0x18 => w32 0xFFFFFFFF
    | 0x1C => w32 0xFFFFFFFF
    | 0x20 => w32 0xFFFFFFFF
    | 0x24 => w32 0xFFFFFFFF
    | 0x28 => w32 0x0FFFFFFF
    | 0x2C => w32 0x00FFFFFF
    | _ => 0
  else if off = 0x3000 then w32 0xFFFF
  else if off = 0x3004 then w32 0xFFFF03FF
  else if 0x3100 ≤ off ∧ off < 0x3300 then (if off % 32 = 0x1C then w32 0xFFFF else 0)
  else if 0x3800 ≤ off ∧ off < 0x3880 then
    match off % 16 with
    | 0 => if off < 0x3860 then w32 0x000303FF else w32 0x3FF
    | 4 => w32 0x00FF1F1F
    | 8 => w32 0x00FF3F3F
    | _ => 0
  else if off = 0x38A8 then w32 0x00FF1F1F
  else if off = 0x38AC then w32 0x00FF3F3F
  else if off = 0x38B0 then w32 0x1F
  else if off = 0x38C0 then w32 0x3FF
  else if 0x3900 ≤ off ∧ off < 0x3B00 then
    match off % 16 with
    | 0 => w32 0x00FFFF03
    | 4 => w32 0xFFFFFFFF
    | 8 => w32 0xFFFFFFFF
    | _ => 0
  else if 0x4000 ≤ off ∧ off < 0x402C then
    match off with
    | 0x4000 => w32 0x1F0F
    | 0x4004 => w32 0x1FFF1FFF
    | 0x4008 => w32 0x1FFF1FFF
    | 0x400C => w32 0x1FFF1FFF
    | 0x4010 => w32 0x007F07FF
    | 0x4014 => w32 0x001FFFFF
    | 0x4018 => w32 0xFFFFFFFF
    | 0x401C => w32 0x0007FFFF
    | 0x4020 => w32 0x00FFFFFF
    | 0x4024 => w32 0xFFFFFFFF
    | 0x4028 => w32 0x0000FFFF
    | _ => 0
  else if 0x8000 ≤ off ∧ off < 0xA000 then
    match off % 128 with
    | 0x00 => w32 0xFFFFFFFF
    | 0x04 => w32 0xFFFFFFFF
    | 0x08 => w32 0xFFFFFFFF
    | 0x0C => w32 0x00FFFFFF
    | _ => 0
  else if 0x10000 ≤ off ∧ off < 0x10200 then w32 0xF
  else 0

/-- Reserved source numbers (R314). -/
def reservedSource (n : Nat) : Bool :=
  n == 0 || (decide (43 ≤ n ∧ n ≤ 47)) || (decide (53 ≤ n ∧ n ≤ 55)) || (decide (69 ≤ n ∧ n ≤ 71))
  || (decide (81 ≤ n ∧ n ≤ 83)) || (decide (90 ≤ n ∧ n ≤ 95))
  || (decide (96 ≤ n ∧ n < 224) && decide (6 ≤ (n - 96) % 8)) || decide (255 < n)

/-- Bits of access code RW of the words held in `Regs.rw` (R3; R72, R127, R165, R325, R355, R378, R398). -/
def rwMask (off : Nat) : Word :=
  match off with
  | 0x002C => w32 0x1F
  | 0x0400 => w32 0x3F01
  | 0x0408 => w32 0xFFFFFFC0
  | 0x040C => w32 0xFFFFFFFF
  | 0x0410 => w32 0xFFFFFFC0
  | 0x0414 => w32 0xFFFFFFFF
  | 0x0418 => w32 0xFFFFFFC0
  | 0x041C => w32 0xFFFFFFFF
  | 0x0420 => w32 0xFFFFFFC0
  | 0x0424 => w32 0xFFFFFFFF
  | 0x0428 => w32 0xFFFFFFC0
  | 0x042C => w32 0xFFFFFFFF
  | 0x1070 => w32 0x0017FFFF
  | 0x480C => w32 0x1FF
  | 0x5000 => w32 1
  | 0x6808 => w32 0x1FF
  | 0x6818 => w32 0x1FF
  | 0x681C => w32 0xFFFFFFFF
  | 0x6840 => w32 0x0007FFFF
  | 0x6844 => w32 0xFFFFFFFF
  | 0x7014 => w32 0x1FFF
  | 0x7100 => w32 0xFFFFF000
  | 0x7104 => w32 0xFFFFFFFF
  | 0x7108 => w32 0xFF0FFFFF
  | 0x710C => w32 0xFFFF
  | 0x7110 => w32 0xFFFFFFC0
  | 0x7114 => w32 0xFFFFFFFF
  | 0x7118 => w32 0xFFFFFFC0
  | 0x711C => w32 0xFFFFFFFF
  | 0x7200 => w32 0xFFFFF000
  | 0x7204 => w32 0xFFFFFFFF
  | 0x7208 => w32 0xFFFFF000
  | 0x720C => w32 0xFFFFFFFF
  | 0x7210 => w32 0x00013F3F
  | 0x7800 => w32 7
  | 0x7804 => w32 0x3F3F
  | _ =>
    if 0x0500 ≤ off ∧ off < 0x0900 then
      match off % 32 with
      | 0 => w32 0xFFFFFFC0
      | 4 => w32 0xFFFFFFFF
      | 8 => w32 0x001F031F
      | 12 => w32 0x1FFF
      | 16 => w32 0xFFFF
      | _ => 0
    else if 0x0900 ≤ off ∧ off < 0x0B00 then
      match off % 16 with
      | 0 => w32 0xFFFFFFC0
      | 4 => w32 0xFFFFFFFF
      | 8 => w32 0x1F
      | _ => 0
    else if 0x5100 ≤ off ∧ off < 0x5500 then
      (if reservedSource ((off - 0x5100) / 4) then 0 else if off % 4 = 0 then w32 0xBF else 0)
    else 0

/-! ### Reading stored fields -/

/-- Value in force of an RS word (R195). -/
def inForce (d : Dev) (off : Nat) : Word := d.cfg.force.get (regReset d off) off

/-- Staged copy of an RS word (R195). -/
def stagedOf (d : Dev) (off : Nat) : Word := d.cfg.staged.get (regReset d off) off

/-- A plain RW word (R3). -/
def rwOf (d : Dev) (off : Nat) : Word := d.cfg.rw.get (regReset d off) off

/-- A field of the value in force. -/
def rsF (d : Dev) (off lo n : Nat) : Nat := fld (inForce d off) lo n

/-- A field of an RW word. -/
def rwF (d : Dev) (off lo n : Nat) : Nat := fld (rwOf d off) lo n

/-- Store a word in force, staged, or RW, in canonical form. -/
def setForce (d : Dev) (off : Nat) (v : Word) : Dev :=
  { d with cfg := { d.cfg with force := d.cfg.force.set (regReset d off) off v } }
def setStaged (d : Dev) (off : Nat) (v : Word) : Dev :=
  { d with cfg := { d.cfg with staged := d.cfg.staged.set (regReset d off) off v } }
def setRw (d : Dev) (off : Nat) (v : Word) : Dev :=
  { d with cfg := { d.cfg with rw := d.cfg.rw.set (regReset d off) off v } }

/-- Writes of a commit's tick land in their staged copies (R196). -/
def landStaged (d : Dev) : Dev :=
  let d' := d.cfg.after.foldl (fun d e => setStaged d e.1 (merge (stagedOf d e.1) e.2 (rsMask e.1))) d
  { d' with cfg := { d'.cfg with after := [] } }

/-! ### Strings and phases -/

/-- Base of string `k` and of phase `p` (R200, R201). -/
def strBase (k : Nat) : Nat := 0x2000 + 0x40 * k
def phBase (p : Nat) : Nat := 0x8000 + 0x80 * p

/-- Kind of a code (R166). -/
def kindOfCode : Nat → Kind
  | 0 => .unused | 1 => .axis | 2 => .store | 3 => .pack | 4 => .aux | _ => .reserved

/-- STR_CONFIG fields in force (R200). -/
def kindOf (d : Dev) (k : Nat) : Kind := kindOfCode (rsF d (strBase k) 0 3)
def isSafety (d : Dev) (k : Nat) : Bool := decide (rsF d (strBase k) 3 1 = 1)
def safeDischarges (d : Dev) (k : Nat) : Bool := decide (rsF d (strBase k) 4 1 = 1)
def firstPhase (d : Dev) (k : Nat) : Nat := rsF d (strBase k) 8 6
def nPhases (d : Dev) (k : Nat) : Nat := rsF d (strBase k) 16 5
/-- STR_CAPO.CAPO, STR_TARGET, STR_IDLE_BUS (R200). -/
def strCapo (d : Dev) (k : Nat) : Nat := rsF d (strBase k + 4) 0 16
def vDefault (d : Dev) (k : Nat) : Nat := rsF d (strBase k + 8) 0 16
def strSlew (d : Dev) (k : Nat) : Nat := rsF d (strBase k + 8) 16 10
def strIdle (d : Dev) (k : Nat) : Nat := rsF d (strBase k + 0xC) 0 16
def busLow (d : Dev) (k : Nat) : Nat := rsF d (strBase k + 0xC) 16 8
def busHigh (d : Dev) (k : Nat) : Nat := rsF d (strBase k + 0xC) 24 8
def hicN (d : Dev) (k : Nat) : Nat := rsF d (strBase k + 0x28) 0 10
def hicT (d : Dev) (k : Nat) : Nat := rsF d (strBase k + 0x28) 10 8
def hicK (d : Dev) (k : Nat) : Nat := rsF d (strBase k + 0x28) 18 4
def hicWindow (d : Dev) (k : Nat) : Nat := rsF d (strBase k + 0x28) 22 6
def iDischarge (d : Dev) (k : Nat) : Nat := rsF d (strBase k + 0x2C) 0 16
def safeTimeout (d : Dev) (k : Nat) : Nat := rsF d (strBase k + 0x2C) 16 8

/-- Phases of the course of a string (R169). -/
def course (d : Dev) (k : Nat) : List Nat :=
  if kindOf d k = .unused ∨ kindOf d k = .reserved then []
  else ((List.range (nPhases d k)).map (· + firstPhase d k)).filter (· < 64)

/-- The string whose course holds a phase (R169). -/
def stringOf (d : Dev) (p : Nat) : Option Nat := (List.range 64).find? (fun k => (course d k).contains p)

/-- Region of a string's course, of a phase and of a link (R24). -/
def regionOfPhase (p : Nat) : Nat := p / 16
def regionOfLink (k : Nat) : Nat := k / 4
def regionOfString (d : Dev) (k : Nat) : Nat := regionOfPhase (firstPhase d k)

/-- Link and lane of a phase (R169). -/
def linkOfPhase (p : Nat) : Nat := p / 4

/-- Link k is used (R232). -/
def linkUsed (d : Dev) (k : Nat) : Bool := bit (inForce d 0x3000) k

/-- A string, phase, link unit of the device. -/
def strU (d : Dev) (k : Nat) : StringUnit := at' {} d.str k
def phU (d : Dev) (p : Nat) : PhaseUnit := at' {} d.ph p
def lkU (d : Dev) (k : Nat) : LinkUnit := at' {} d.lk k

/-- Change one unit. -/
def updStr (d : Dev) (k : Nat) (f : StringUnit → StringUnit) : Dev := { d with str := upd d.str k f }
def updPh (d : Dev) (p : Nat) (f : PhaseUnit → PhaseUnit) : Dev := { d with ph := upd d.ph p f }
def updLk (d : Dev) (k : Nat) (f : LinkUnit → LinkUnit) : Dev := { d with lk := upd d.lk k f }

/-- STORE and PACK strings of FB_STORAGE with their validity (R137, R165). -/
def storeString (d : Dev) : Nat := rsF d 0x1030 0 6
def storeValid (d : Dev) : Bool := decide (rsF d 0x1030 6 1 = 1)
def packString (d : Dev) : Nat := rsF d 0x1030 8 6
def packValid (d : Dev) : Bool := decide (rsF d 0x1030 14 1 = 1)

/-- A string is enabled: it is in a state that a power-up step gives (R168). -/
def SState.enabled : SState → Bool
  | .softStart => true | .regulating => true | .slewing => true | .hiccup => true | _ => false

/-- A string drives its phases by its loop (R172). -/
def SState.switching : SState → Bool
  | .softStart => true | .regulating => true | .slewing => true | _ => false

/-- Phases in service of a string: of an enabled string and not retired; a follower is in service (R170). -/
def inService (d : Dev) (k : Nat) : List Nat :=
  if (strU d k).st.enabled then (course d k).filter (fun p => !(phU d p).retired) else []

/-- Phases of a string that are not retired (R190: the sum of δp). -/
def unretired (d : Dev) (k : Nat) : List Nat := (course d k).filter (fun p => !(phU d p).retired)

/-- The lead (R170): the lowest phase in service that is not a follower. -/
def lead (d : Dev) (k : Nat) : Option Nat := (inService d k).find? (fun p => !(phU d p).follower)

/-! ### Power domains of registers (R30, R59, R72, R165, R200, R201, R232, R259, R284, R312, R325, R339, R355, R378, R398) -/

/-- FASTA for regions 0 and 1, FASTB for 2 and 3 (R25). -/
def regionDomain (r : Nat) : Domain := if r < 2 then .fasta else .fastb

/-- Domain with which a register of BAR0 resets and from which it is served. -/
def regDomain (d : Dev) (off : Nat) : Domain :=
  if off < 0x0400 then .mgmt
  else if off < 0x1000 then .host
  else if off < 0x2000 then .sched
  else if off < 0x3000 then
    (if kindOf d ((off - 0x2000) / 64) = .unused then .fasta else regionDomain (regionOfString d ((off - 0x2000) / 64)))
  else if off < 0x3100 then .links
  else if off < 0x3300 then regionDomain (regionOfLink ((off - 0x3100) / 32))
  else if off < 0x38A0 then .aon
  else if off = 0x38B0 ∨ off = 0x38B4 ∨ off = 0x38B8 ∨ off = 0x38BC then .aon
  else if off < 0x4000 then .mgmt
  else if off = 0x4024 then .aon
  else if off < 0x4800 then .aux
  else if off = 0x480C ∨ off = 0x4824 ∨ off = 0x4828 then .mgmt
  else if off < 0x5000 then .aon
  else if off < 0x6000 then .mgmt
  else if off < 0x6800 then (if off < 0x600C then .aon else .mgmt)
  else if off < 0x7000 then .mgmt
  else if off < 0x7100 then (if 0x7014 ≤ off ∧ off < 0x7040 then .mgmt else .aon)
  else if off < 0x7800 then .host
  else if off < 0x8000 then (if off = 0x7810 ∨ off = 0x7814 then .aon else .mgmt)
  else if off < 0xA000 then regionDomain (regionOfPhase ((off - 0x8000) / 128))
  else .aon

/-- A domain is powered (R59). -/
def powered (d : Dev) (x : Domain) : Bool := bit d.pwr.on x.bit

/-- Drop every stored word of a domain: each reads as its reset value again (R4, R195). -/
def resetRegs (d : Dev) (x : Domain) : Dev :=
  { d with cfg := { d.cfg with
      force := d.cfg.force.filter (fun e => regDomain d e.1 != x)
      staged := d.cfg.staged.filter (fun e => regDomain d e.1 != x)
      after := d.cfg.after.filter (fun e => regDomain d e.1 != x)
      rw := d.cfg.rw.filter (fun e => regDomain d e.1 != x) } }

/-! ### Charger fields -/

def cells (d : Dev) : Nat := rsF d 0x4000 8 5
def vCv (d : Dev) : Nat := rsF d 0x4004 0 13
def vOv (d : Dev) : Nat := rsF d 0x4004 16 13
def vPre (d : Dev) : Nat := rsF d 0x4008 0 13
def vRecharge (d : Dev) : Nat := rsF d 0x4008 16 13
def vCutoff (d : Dev) : Nat := rsF d 0x400C 0 13
def vRideEntry (d : Dev) : Nat := rsF d 0x400C 16 13
def chgFast (d : Dev) : Nat := rsF d 0x4010 0 11
def termDiv (d : Dev) : Nat := rsF d 0x4010 16 7
def capacity (d : Dev) : Nat := rsF d 0x4014 0 16
def timerHours (d : Dev) : Nat := rsF d 0x4014 16 5
/-- Pack voltage of a cell, mV (R260). -/
def cellMv (d : Dev) : Nat := if cells d = 0 then 0 else d.chg.vPack * 10 / cells d

end Sys2Proof.Machine
end

