-- ==== Sys2Proof/Machine/Ops.lean ====
section
/-!
DEFINITION. Operations shared by the commands: outputs, event bits and their occurrences, fault inputs, recorder records, capture records, journal entries and completions.
-/
set_option Elab.async false
namespace Sys2Proof.Machine

/-! ### Outputs -/

/-- Issue an output. -/
def emit (d : Dev) (o : Out) : Dev := { d with out := d.out ++ [o] }

/-- Issue an output that the digest of R371 covers (types 0x41–0x46 of R373), stamped with its tick. -/
def emitFast (d : Dev) (o : Out) : Dev := { emit d o with fretOut := d.fretOut ++ [(d.clk.tick, o)] }

/-- Low 32 bits of the fret counter. -/
def fretLow (d : Dev) : Nat := d.clk.fret % 2 ^ 32

/-- A free value's counter, advanced (log 7). -/
def nextFree (d : Dev) : Dev := { d with clk := { d.clk with free := d.clk.free + 1 } }

/-! ### Interrupt occurrences and event bits (R313, R314, R320) -/

/-- A source is active: it lies on some target's stack (R317). -/
def activeSrc (d : Dev) (n : Nat) : Bool := d.int.claimStacks.any (fun s => s.any (fun e => e.1 == n))

/-- An occurrence of a source while it is active sets its REFIRED flag (R320). -/
def occur (d : Dev) (n : Nat) : Dev :=
  if activeSrc d n then { d with int := { d.int with refired := d.int.refired ||| (1#256 <<< n) } } else d

/-- A word with one bit set. -/
def withBit (w : Word) (b : Nat) : Word := w ||| (1#32 <<< b)

def setModeEvent (d : Dev) (b : Nat) : Dev :=
  occur { d with mm := { d.mm with event := withBit d.mm.event b } } (33 + b)
def setFbEvent (d : Dev) (b : Nat) : Dev :=
  occur { d with fb := { d.fb with event := withBit d.fb.event b } } (48 + b)
def setSeqEvent (d : Dev) (b : Nat) : Dev :=
  occur { d with seq := { d.seq with event := withBit d.seq.event b } } (56 + b)
def setChgEvent (d : Dev) (b : Nat) : Dev :=
  occur { d with chg := { d.chg with event := withBit d.chg.event b } } (72 + b)
def setFltEvent (d : Dev) (b : Nat) : Dev :=
  occur { d with flt := { d.flt with event := withBit d.flt.event b } } (84 + b)
def setLinkEvent (d : Dev) (k b : Nat) : Dev :=
  occur (updLk d k (fun l => { l with event := withBit l.event b })) (96 + 8 * k + b)
def setRecEvent (d : Dev) (b : Nat) : Dev :=
  occur { d with rcd := { d.rcd with event := withBit d.rcd.event b } } (248 + b)
def setMpEvent (d : Dev) (b : Nat) : Dev :=
  occur { d with mp := { d.mp with event := withBit d.mp.event b } } (252 + b)
/-- STR_EVENT bits drive no interrupt source of their own (R200, R314). -/
def setStrEvent (d : Dev) (k b : Nat) : Dev := updStr d k (fun u => { u with event := withBit u.event b })
/-- ID_JOURNAL.RESTORED, LOST, REBUILT (R127, R314). -/
def setRestored (d : Dev) : Dev := occur { d with jr := { d.jr with restored := true } } 40
def setLost (d : Dev) : Dev := occur { d with jr := { d.jr with lost := true } } 41
def setRebuilt (d : Dev) : Dev := occur { d with jr := { d.jr with rebuilt := true } } 42

/-! ### Stamps (R15) -/

/-- The tick that a 16-bit stamp names: the most recent one with its bits, not after now (R15). -/
def stampTick (d : Dev) (s : BitVec 16) : Nat := d.clk.tick - (d.clk.tick + 65536 - s.toNat) % 65536

/-! ### Fault inputs (R17, R291) -/

/-- A checker's fault input reaches the collector in the tick after detection (R17). -/
def detect (d : Dev) (code p0 p1 p2 : Nat) : Dev :=
  { d with flt := { d.flt with inbox := d.flt.inbox ++ [{ due := d.clk.tick + 1, code := code, p0 := p0, p1 := p1, p2 := p2 }] } }

/-- A detection under check-bit injection (R306–R308): it carries the injection's flags. -/
def detectInj (d : Dev) (code p0 p1 p2 : Nat) (inj obs : Bool) : Dev :=
  { d with flt := { d.flt with inbox := d.flt.inbox ++ [{ due := d.clk.tick + 1, code := code, p0 := p0, p1 := p1, p2 := p2, injected := inj, observe := obs }] } }

/-- A message misses its due tick: counted once in ID_LATE_INPUT and LATE_INPUT raised (R18, R32). Paths as LAST_PATH. -/
def lateInput (d : Dev) (path inst : Nat) : Dev :=
  let d := { d with pwr := { d.pwr with lateCount := sat 0xFFFFFF (d.pwr.lateCount + 1), lastPath := path } }
  detect d 0x1002 inst path 0

/-- A checker armed for injection takes its next operation (R306): the injection ends, INJECT_DONE is set. -/
def takeInjection (d : Dev) : Dev :=
  setFltEvent { d with flt := { d.flt with pending := false } } 5

/-- The injected check also fails with the true check bits: the error is real (R309). -/
def realFound (d : Dev) (code : Nat) (r : Reaction) : Dev :=
  { d with flt := { d.flt with resCode := code, resReaction := r.code, resObserved := false, resReal := true } }

/-- The injection armed on a checker and instance, if any. -/
def injectionOn (d : Dev) (checker inst : Nat) : Bool :=
  d.flt.pending && d.flt.checker == checker && d.flt.inst == inst

/-! ### Recorder (R356–R362) -/

/-- The next free slot at or after `n` that is not marked bad (R360). -/
def skipBad (bad : List Nat) : Nat → Nat → Nat
  | 0, n => n
  | k + 1, n => if bad.contains n then skipBad bad k (n + 1) else n

/-- Where the next record of the log goes. -/
def logNext (r : Recorder) : Nat := skipBad r.bad r.bad.length r.next

/-- LOG_FULL is written into slot 8191 when the first record finds slots 0–8190 used (R362). -/
def writeLogFull (d : Dev) (firstSeq : Nat) : Dev :=
  let r := d.rcd
  let full : Record := { code := 0xF0FF, source := 0x30, flags := 2 * b2n (d.mm.mode == .replay), cycle := r.cycle, second := r.seconds % 3600, hours := r.seconds / 3600 % 2 ^ 20, p0 := firstSeq, p1 := 0, p2 := 0, p3 := 0, seq := r.seq }
  setRecEvent { d with rcd := { r with log := r.log.set none 8191 (some full), next := 8191, full := true, fullWritten := true, seq := (r.seq + 1) % 65536 } } 0

/-- A record generated: it takes the next SEQUENCE (R357) and enters the buffer, or is dropped (R361) or discarded (R362).
With the power die lost the recorder is unreachable, and no record is kept (R12); if both dies lost each other, the power die goes on
recording (R310). -/
def recordRaw (d : Dev) (fault : Bool) (code source flags p0 p1 p2 p3 : Nat) : Dev :=
  let r := d.rcd
  let seq := r.seq
  let lost := d.pwr.pwrLost && !d.pwr.ctlLost
  let d := if lost then d else { d with rcd := { r with seq := (seq + 1) % 65536 } }
  if lost then d
  else if r.full then { d with rcd := { d.rcd with discarded := sat 65535 (r.discarded + 1) } }
  else if r.buffer.isEmpty && decide (8191 ≤ logNext r) then
    let d := { d with rcd := { d.rcd with discarded := sat 65535 (r.discarded + 1) } }
    if r.fullWritten then d else writeLogFull d seq
  else if 64 ≤ r.buffer.length then
    setRecEvent { d with rcd := { d.rcd with dropped := sat 65535 (r.dropped + 1), afterDrop := true, drops := r.drops + 1, firstDrop := if r.drops = 0 then seq else r.firstDrop } } 1
  else
    let fl := if fault then flags else flags + 4 * b2n r.afterDrop
    let rec' : Record := { code := code, source := source, flags := fl, cycle := r.cycle, second := r.seconds % 3600, hours := r.seconds / 3600 % 2 ^ 20, p0 := p0 % 2 ^ 32, p1 := p1 % 2 ^ 32, p2 := p2 % 2 ^ 32, p3 := p3 % 2 ^ 32, seq := seq }
    let buf := r.buffer ++ [rec']
    { d with rcd := { d.rcd with buffer := buf, afterDrop := false, want := r.want || decide (16 ≤ buf.length) || (fault && decide (2 ≤ source / 64)) } }

/-- A record that is no fault record: FLAGS hold CAPTURE_MARK and REPLAY (R356). -/
def record (d : Dev) (code source : Nat) (mark : Bool) (p0 p1 p2 p3 : Nat) : Dev :=
  recordRaw d false code source (b2n mark + 2 * b2n (d.mm.mode == .replay)) p0 p1 p2 p3

/-- A record whose chapter states only its first parameters: the others are free values (log 7). -/
def recordN (d : Dev) (code source : Nat) (ps : List Nat) : Dev :=
  let q := fun (i : Nat) => match ps[i]? with | some v => v | none => Config.recordParam d.clk.free i
  nextFree (record d code source false (q 0) (q 1) (q 2) (q 3))

/-- SOURCE bytes: subsystem number and die of R10, R356. -/
def srcModes : Nat := 0x27
def srcSeq : Nat := 0x27
def srcCharger : Nat := 0x28
def srcJournalP : Nat := 0x22
def srcJournalC : Nat := 0x02
def srcOtp : Nat := 0x2F
def srcRecorder : Nat := 0x30
def srcCapture : Nat := 0x10

/-! ### Status line and capture stream (R365–R370) -/

/-- REC_CAPTURE_STATE (R378). -/
def captureState (d : Dev) : Nat := d.cap.st.code + (d.cap.reason <<< 3) + (sat (2 ^ 26 - 1) d.cap.written <<< 6)

/-- REC_REPLAY_STATUS (R378). -/
def replayStatus (d : Dev) : Nat := d.cap.rst.code + (b2n d.cap.mismatch <<< 3) + (b2n d.cap.diverged <<< 4)

/-- The status line, written whole (R365). -/
def statusLine (d : Dev) : Dev :=
  emit d (.statusLine [d.cap.producer, d.cap.oldest, d.cap.snapshot, d.cap.inConsumer, d.cap.outProducer,
    captureState d, replayStatus d, d.cap.replayed])

/-- The capture is writing its stream. -/
def capturing (d : Dev) : Bool :=
  d.cap.st == .running || d.cap.st == .wrap || d.cap.st == .post

/-- A capture is active: it awaits its start fret or is writing (R369). -/
def captureActive (d : Dev) : Bool := capturing d || d.cap.st == .awaiting

/-- A replay is active. -/
def replayActive (d : Dev) : Bool :=
  d.cap.rst == .loading || d.cap.rst == .running || d.cap.rst == .pausedIn || d.cap.rst == .pausedOut

/-- Bytes of the capture ring; 0 when disabled (R378). -/
def capRing (d : Dev) : Nat := let s := rwF d 0x7108 0 6; if s = 0 then 0 else 2 ^ s

/-- Size of a stream record with its header (R366); a snapshot is its run of chunks (R367). -/
def capSize : CapRec → Nat
  | .fret _ _ _ => 24
  | .snapshot n => (n + 7) / 8 * 8 + 8 * ceilDiv n 2040
  | .descriptor .. => 80
  | .uplink .. => 40
  | .lost .. => 8
  | .monitor _ => 56
  | .sync .. => 8
  | .modeInput _ => 8
  | .faultInput _ => 16
  | .mgmt _ items => 8 + 8 * items.length
  | .freeze .. => 16
  | .ended .. => 16

/-- Position at which a record of `n` bytes starts: a PAD fills the ring's end when it does not fit (R366). -/
def capAt (ring pos n : Nat) : Nat :=
  if ring = 0 then pos else if pos % ring + n ≤ ring then pos else pos + (ring - pos % ring)

/-- Put one record into the capture ring at its place. -/
def capPut (d : Dev) (stamp : Nat) (r : CapRec) : Dev :=
  let ring := capRing d
  let n := capSize r
  let pos := capAt ring d.cap.producer n
  let stop := pos + n
  let kept := if d.cap.wrap then (d.cap.starts.filter (fun e => decide (stop ≤ e.1 + ring))) ++ [(pos, n)] else []
  let oldest := if d.cap.wrap then (match kept with | [] => pos | e :: _ => e.1) else d.cap.oldest
  let c := { d.cap with producer := stop, starts := kept, oldest := oldest, written := d.cap.written + 1, fretPos := (match r with | .fret .. => pos | _ => d.cap.fretPos), prevSnapshot := (match r with | .snapshot _ => d.cap.snapshot | _ => d.cap.prevSnapshot), snapshot := (match r with | .snapshot _ => pos | _ => d.cap.snapshot) }
  emit { d with cap := c } (.capture pos (stamp % 65536) r)

/-- The capture ends: its state, its event, its record and the status line (R369, R378); RESET writes no END record. -/
def captureEnd (d : Dev) (reason : Nat) : Dev :=
  let d := if reason = 4 then d else capPut d d.clk.tick (.ended reason (sat (2 ^ 32 - 1) (d.cap.written + 1)))
  let d := { d with cap := { d.cap with st := .ended, reason := reason, startFret := 0 }, capQueue := {} }
  let d := setRecEvent d 2
  statusLine (recordN d 0x4011 srcCapture [reason])

/-- There is room for a record of `n` bytes and the END record after it (R369, R370). -/
def capRoom (d : Dev) (n : Nat) : Bool :=
  let ring := capRing d
  let stop := capAt ring d.cap.producer n + n
  if d.cap.wrap then
    if d.cap.st == .post then decide (capAt ring stop 16 + 16 ≤ d.cap.guard + ring) else true
  else decide (capAt ring stop 16 + 16 ≤ d.cap.consumer + ring)

/-- Move buffered records into the ring while there is room (R369). -/
def capDrain (d : Dev) : List (Nat × CapRec) → Dev
  | [] => { d with capQueue := { d.capQueue with queue := [] } }
  | r :: rs => if capRoom d (capSize r.2) then capDrain (capPut d r.1 r.2) rs else { d with capQueue := { d.capQueue with queue := r :: rs } }

/-- A record enters the stream with its STAMP: buffered, moved into the ring as room allows; a full 64 KiB buffer ends the capture with
OVERRUN at the last whole fret (R369), and records that reach the protected snapshot end it FROZEN (R370). -/
def stream (d : Dev) (stamp : Nat) (r : CapRec) : Dev :=
  if !capturing d then d else
  let d := { d with cap := { d.cap with fretRecords := d.cap.fretRecords + 1 } }
  let d := capDrain d (d.capQueue.queue ++ [(stamp, r)])
  if d.cap.st == .post && !d.capQueue.queue.isEmpty then captureEnd d 1
  else if 65536 < (d.capQueue.queue.map (fun q => capSize q.2)).sum then
    let d := { d with capQueue := {}, cap := { d.cap with producer := if d.cap.consumer ≤ d.cap.fretPos then d.cap.fretPos else d.cap.producer } }
    detect (captureEnd d 2) 0x1802 (d.cap.producer % 2 ^ 32) 1 0
  else d

/-- Place of a record within its tick: FRET and MONITOR, then the order of R16 with MGMT behind the mode inputs; SYNC edges, which R16 does not
order, last (R368, log 11). -/
def capRank : CapRec → Nat
  | .fret .. => 0
  | .snapshot _ => 0
  | .monitor _ => 1
  | .faultInput _ => 2
  | .freeze .. => 2
  | .modeInput _ => 3
  | .mgmt .. => 4
  | .descriptor .. => 5
  | .uplink .. => 6
  | .lost .. => 6
  | .sync .. => 7
  | .ended .. => 8

/-- A record comes before another in the stream (R368). -/
def capBefore (a b : Nat × CapRec) : Bool :=
  if a.1 ≠ b.1 then decide (a.1 < b.1) else decide (capRank a.2 < capRank b.2)

/-- Insert a record behind those that it does not come before. -/
def insertDue (a : Nat × CapRec) : List (Nat × CapRec) → List (Nat × CapRec)
  | [] => [a]
  | b :: bs => if capBefore a b then a :: b :: bs else b :: insertDue a bs

/-- An input that takes effect at its due tick: it enters the stream when that tick ends (R368). -/
def captureAt (d : Dev) (due : Nat) (r : CapRec) : Dev :=
  if capturing d then { d with capQueue := { d.capQueue with due := insertDue (due, r) d.capQueue.due } } else d

/-- The inputs due by now enter the stream, in its order (R368). -/
def streamDue (d : Dev) : Dev :=
  let now := d.capQueue.due.filter (fun q => decide (q.1 ≤ d.clk.tick))
  if now.isEmpty then d
  else now.foldl (fun d q => stream d q.1 q.2) { d with capQueue := { d.capQueue with due := d.capQueue.due.filter (fun q => decide (d.clk.tick < q.1)) } }

/-- A record that takes effect now. -/
def capture (d : Dev) (r : CapRec) : Dev := captureAt d d.clk.tick r

/-- An MGMT record of the stream (R366, R368). -/
def captureMgmt (d : Dev) (kind target value : Nat) : Dev := capture d (.mgmt kind [(target, value)])

/-! ### Replay output (R366, R373) -/

/-- Bytes of the replay output ring; 0 when disabled (R378). -/
def replayRing (d : Dev) : Nat := let s := rwF d 0x7210 8 6; if s = 0 then 0 else 2 ^ s

/-- A record is written into the replay output ring (R366, R373). -/
def replayPut (d : Dev) (stamp type info : Nat) (payload : List Nat) : Dev :=
  let n := 8 + payload.length
  let pos := capAt (replayRing d) d.cap.outProducer n
  emit { d with cap := { d.cap with outProducer := pos + n } } (.replayOut (stamp % 65536) type info payload)

/-- The replay writes END: its state, its event, its record and the status line (R373, R375, R377). -/
def replayEnd (d : Dev) (result : Nat) : Dev :=
  if !replayActive d then d
  else
    let d := replayPut d d.clk.tick 0x48 result (leBytes 8 d.cap.replayed)
    let d := { d with cap := { d.cap with rst := if result = 2 then .aborted else .done } }
    statusLine (setRecEvent (recordN d 0x4021 srcCapture [result, d.cap.replayed]) 3)

/-! ### Journal entries (R105–R112) -/

/-- The entries as the device reads them: the primary copy's, or the secondary's when the primary is retired or rebuilt (R113, R115). -/
def entries (d : Dev) : List Entry :=
  if d.jr.retired = some 0 ∨ d.jr.rebuilding = some 0 then d.jr.secondary else d.jr.primary

/-- An entry by its number. -/
def entryOf (d : Dev) (e : Nat) : Option Entry := (entries d).find? (fun x => x.idx == e)

/-- Every write goes to both copies (R107). -/
def mapJournal (d : Dev) (f : List Entry → List Entry) : Dev :=
  { d with jr := { d.jr with primary := f d.jr.primary, secondary := f d.jr.secondary } }

/-- Change one entry in both copies. -/
def updEntry (d : Dev) (e : Nat) (f : Entry → Entry) : Dev :=
  mapJournal d (fun l => l.map (fun x => if x.idx == e then f x else x))

/-- An entry retires to FREE (R108). -/
def dropEntry (d : Dev) (e : Nat) : Dev := mapJournal d (fun l => l.filter (fun x => x.idx != e))

/-- Entries in use, lists included (R79, R127). -/
def journalUsed (l : List Entry) : Nat := (l.map (fun x => x.cost)).sum

/-- Entries in WRITING: the first copy, the secondary one, holds their image (R107, R108). -/
def writing (d : Dev) : List Entry := d.jr.secondary.filter (fun x => x.st == .writing)

/-- Free journal entries; a copy that is being rebuilt or is retired counts as having none (R114, R115). -/
def journalFree (d : Dev) : Nat :=
  if d.jr.rebuilding.isSome || d.jr.retired.isSome then 0 else 4096 - (journalUsed d.jr.primary + journalUsed (writing d))

/-- An acceptance does not complete: its entry in WRITING returns to FREE (R108). -/
def dropWriting (d : Dev) (n : Nat) : Dev := mapJournal d (fun l => l.filter (fun x => !(x.st == .writing && x.ring == n)))

/-- Lowest entry number that no entry holds. -/
def freeIdx (l : List Entry) : Nat :=
  ((List.range 4096).find? (fun n => l.all (fun x => x.idx != n))).getD 0

/-- MODE before and after of a finished port request, its status, and the event (R390, R398). -/
def mpFinish (d : Dev) (e : Nat) (st : Status) (frm dest : Nat) : Dev :=
  let fin := fun (s : MpSlot) =>
    if s.entry = some e then { s with st := .done, status := st.code, frm := frm, dest := dest, entry := none } else s
  setMpEvent { d with mp := { d.mp with ordinary := fin d.mp.ordinary, urgent := fin d.mp.urgent } } 3

/-- Header flags of an entry's image (R80). -/
def flagUrgent (x : Entry) : Bool := bit x.image 8
def flagFence (x : Entry) : Bool := bit x.image 9
def flagRideSafe (x : Entry) : Bool := bit x.image 10
def flagMark (x : Entry) : Bool := bit x.image 11
/-- Opcode and LENGTH (R80). -/
def opcodeOf (i : Image) : Nat := byteAt i 0
def lengthOf (i : Image) : Nat := leAt i 2 2

/-- Queue a completion entry in its journal entry; it is due now (R20, R100, R105). The management port has none (R104). -/
def pushCpl (d : Dev) (x : Entry) (c : Cpl) : Dev :=
  if x.ring = 32 then d
  else
    let d := updEntry d x.idx (fun y => { y with cpls := y.cpls ++ [c], firstCpl := true })
    emitFast { d with jr := { d.jr with due := d.jr.due ++ [x.idx] } } (.completionDue c)

/-- The commit record of an effect that takes hold (R109). -/
def commitEntry (d : Dev) (e : Nat) : Dev := updEntry d e (fun y => { y with commit := true })

/-- Opcodes that commit no effect (R109). -/
def noEffect (i : Image) : Bool := opcodeOf i == 0 || opcodeOf i == 9 || opcodeOf i == 10

/-- The final effect of a descriptor is committed (R108, R109); QUERY, FENCE, NOP and a descriptor that executed nothing pass it by. -/
def commitFinal (d : Dev) (x : Entry) (st : Status) : Dev :=
  if (st == .ok || st == .partialDone) && !noEffect x.image then updEntry d x.idx (fun y => { y with st := .committed, commit := true }) else d

/-- The FINAL completion of an entry is fixed, once (R112): the entry is DONE (R108). A port request ends its slot and its entry retires
(R104, R390). -/
def finishWith (d : Dev) (e : Nat) (st : Status) (effect detail : Nat) (f : Cpl → Cpl) : Dev :=
  match entryOf d e with
  | none => d
  | some x =>
    if x.st == .done then d else
    let d := commitFinal d x st
    let c : Cpl := f { seq := x.seq, status := st, ring := x.ring, effect := effect % 2 ^ 32, detail := detail % 2 ^ 32, mark := flagMark x }
    let d := updEntry d e (fun y => { y with st := .done, deferred := false, latched := false, refuse := false })
    if x.ring = 32 then dropEntry (mpFinish d e st (detail % 16) (detail / 16 % 16)) e
    else pushCpl d x c

/-- The plain FINAL completion. -/
def finish (d : Dev) (e : Nat) (st : Status) (effect detail : Nat) : Dev := finishWith d e st effect detail (fun c => c)

/-- FINAL now. -/
def finishNow (d : Dev) (e : Nat) (st : Status) (detail : Nat) : Dev := finish d e st d.clk.fret detail

/-- A capture that awaits its start fret does not start: its START completes, but in a control die that is lost (R120, R369). -/
def dropAwaiting (d : Dev) : Dev :=
  if d.cap.st != .awaiting then d
  else
    let e := d.cap.startEntry
    let d := statusLine { d with cap := { d.cap with st := .idle, startFret := 0, startEntry := none } }
    match e with | some e => if d.pwr.ctlLost then d else finishNow d e .ok 0 | none => d

/-- An active capture ends with a reason; with reason MODE, behind the inputs of its tick (R369). -/
def endCapture (d : Dev) (reason : Nat) : Dev :=
  let d := if reason = 3 then streamDue d else d
  if capturing d then captureEnd d reason else dropAwaiting d

/-- The ADMISSION entry of timed work, issued once (R112). -/
def admission (d : Dev) (e : Nat) (st : Status) (effect detail : Nat) (pre retry : Bool) : Dev :=
  match entryOf d e with
  | none => d
  | some x =>
    if x.admIssued then d else
    let c : Cpl := { seq := x.seq, status := st, final := false, admission := true, precharge := pre, retrySwap := retry, ring := x.ring, effect := effect % 2 ^ 32, detail := detail % 2 ^ 32, mark := flagMark x }
    pushCpl (updEntry d e (fun y => { y with admIssued := true })) x c

/-- DETAIL of BAD_FIELD, BAD_LENGTH and BAD_OPCODE (R103). -/
def badDetail (offset index reason : Nat) : Nat := offset + (index <<< 8) + (reason <<< 16)

/-- DETAIL of a MODE request (R104). -/
def modeDetail (frm dest : Mode) : Nat := frm.code + (dest.code <<< 4)

/-! ### Tail records (R106) -/

def tailOf (d : Dev) (n : Nat) : Tail := at' {} d.jr.tails n
def updTail (d : Dev) (n : Nat) (f : Tail → Tail) : Dev := { d with jr := { d.jr with tails := upd d.jr.tails n f } }

/-! ### Opcodes (R81) -/

/-- The class of a descriptor (R81, R94, R96, R98). -/
def classOf (i : Image) : Class :=
  match opcodeOf i with
  | 0x00 => .nop | 0x01 => .reserve | 0x02 => .replan | 0x03 => .profile | 0x04 => .setpoint | 0x05 => .mode
  | 0x06 => .sequence | 0x07 => .commit
  | 0x08 => (match byteAt i 8 with
    | 0 => .chgStop | 1 => .chgCharge | 2 => .chgSearch | 3 => .chgRide | 4 => .chgClear | 5 => .chgLimit | _ => .bad)
  | 0x09 => .fence
  | 0x0A => if lengthOf i = 0 then .qFree else (match byteAt i 8 with
    | 0 => .qFree | 1 => .qFret | 2 => .qString | 3 => .qUnreserved | 4 => .qBank | 5 => .qTag | _ => .bad)
  | 0x0B => .mark
  | 0x0C => (match byteAt i 8 with | 0 => .capStop | 1 => .capStart | 2 => .capFreeze | _ => .bad)
  | _ => .bad

/-- The target of a MODE image (R91). -/
def modeTarget (i : Image) : Nat := fld i 64 4

/-- A MODE request for SHUTDOWN, SAFE or OFF is urgent (R42). -/
def urgentMode (x : Entry) : Bool :=
  x.fixed.isNone && opcodeOf x.image == 5 && (modeTarget x.image == 0 || modeTarget x.image == 9 || modeTarget x.image == 10)

end Sys2Proof.Machine
end

