-- ==== Sys2Proof/Machine/Board.lean ====
section
/-!
DEFINITION. The fingerboard: cells, bank model, admission, pre-charge plans and removals (R128–R148, R155, R160).
-/
set_option Elab.async false
namespace Sys2Proof.Machine

/-! ### Cells (R130, R131) -/

/-- Key of a row and the column of a fret. -/
def cellKey (row f : Nat) : Nat := 4096 * row + f % 4096

/-- POWER of a cell word. -/
def cellPower (w : Word) : Int := signed 16 (fld w 0 16)
/-- A cell word. -/
def cellWord (p : Int) (tag : Nat) : Word := w32 (lowBits 16 p + (tag <<< 16))

def bankWord (b : Bank) (row f : Nat) : Word := b.get 0 (cellKey row f)
def setBankWord (b : Bank) (row f : Nat) (w : Word) : Bank := b.set 0 (cellKey row f) w
/-- POWER of string `k` in fret `f`. -/
def powerAt (b : Bank) (k f : Nat) : Int := cellPower (bankWord b k f)
/-- The total row (R130). -/
def totalAt (b : Bank) (f : Nat) : Int := signed 32 (bankWord b 64 f).toNat

/-- The live and the shadow bank (R132). -/
def liveBank (d : Dev) : Bank := if d.fb.liveB then d.fb.bankB else d.fb.bankA
def shadowBank (d : Dev) : Bank := if d.fb.liveB then d.fb.bankA else d.fb.bankB
def setLive (d : Dev) (b : Bank) : Dev :=
  if d.fb.liveB then { d with fb := { d.fb with bankB := b } } else { d with fb := { d.fb with bankA := b } }
def setShadow (d : Dev) (b : Bank) : Dev :=
  if d.fb.liveB then { d with fb := { d.fb with bankA := b } } else { d with fb := { d.fb with bankB := b } }

/-- Add power to one cell and to the total row; the cell takes a tag (R131). -/
def addCell (b : Bank) (k f : Nat) (p : Int) (tag : Nat) : Bank :=
  let b' := setBankWord b k f (cellWord (powerAt b k f + p) tag)
  setBankWord b' 64 f (w32 (lowBits 32 (totalAt b f + p)))

/-! ### Profiles (R133) -/

/-- The powers of one segment, from fret `f`. -/
def segCells (f : Nat) (p0 : Int) (l : Nat) (p1 : Int) : List (Nat × Int) :=
  (List.range l).map (fun i => (f + i, roundDiv (p0 * (l : Int) + (p1 - p0) * (i : Int)) l))

/-- The cells of a profile (R133). -/
def expand : Nat → Int → List (Nat × Int) → List (Nat × Int)
  | _, _, [] => []
  | f, p0, (l, p1) :: rest => segCells f p0 l p1 ++ expand (f + l) p1 rest

/-- The cells of a reservation that are in force: frets from `fromFret`, before the cut (R88, R163). -/
def resvCells (r : Resv) : List (Nat × Int) :=
  (expand r.start r.pStart r.segs).filter (fun c => decide (r.fromFret ≤ c.1) &&
    (match r.cutFret with | some q => decide (c.1 < q) | none => true))

/-- The cells of a reservation that one bank holds (R160). -/
def bankCells (r : Resv) (shadow : Bool) : List (Nat × Int) :=
  (resvCells r).filter (fun c => !shadow || decide (r.shadowFrom ≤ c.1))

/-- The reservation's own power in a fret of its span, enforced or not (R153). -/
def resvPower (r : Resv) (f : Nat) : Int :=
  match (expand r.start r.pStart r.segs).find? (fun c => c.1 == f) with | some c => c.2 | none => 0

/-! ### The bank model (R137, R138) -/

/-- The values the bank model works with (R137). -/
structure Model where
  pin : Nat
  pinCur : Nat
  cur : Nat
  store : Bool
  s : Nat
  capoS : Nat
  cMf : Nat
  eMin : Nat
  eRest : Nat
  eMax : Nat
  iDis : Nat
  etaIn : Nat
  etaOut : Nat
  pack : Bool
  capoQ : Nat
  packOn : Bool
  eFloor : Nat
  refill : Bool
  pRefill : Nat
  chgLimit : Nat
  devCapo : Nat

/-- Energy in µJ at a voltage in mV (R137: E = ½ C V²). -/
def energyAt (cMf mv : Nat) : Nat := cMf * mv * mv / 2000

/-- Bank voltage in mV at an energy in µJ (R137). -/
def voltsAt (cMf e : Nat) : Nat := if cMf = 0 then 0 else isqrt (2000 * e / cMf)

/-- Charging states of the charger (R270). -/
def charging (d : Dev) : Bool := d.chg.st == .precharge || d.chg.st == .fast || d.chg.st == .cv

/-- FAST, or FAST / 10 in PRECHARGE, that current with the zone's factor, and the CHARGE descriptor's limit: the least of them, 10 mA (R271,
R272, log 63). -/
def chargeDemand (d : Dev) : Nat :=
  let fast := if d.chg.st == .precharge then chgFast d / 10 else chgFast d
  let warm := if d.chg.zone = 1 ∨ d.chg.zone = 3 then fast / 2 else fast
  if d.chg.limit = 0 then warm else min warm d.chg.limit

/-- The charger limit of R138, W: what R271 allows apart from the headroom. -/
def chargerLimit (d : Dev) : Nat :=
  if !charging d then 0
  else min (chargeDemand d * d.chg.vPack / 10000) (if packValid d then (strU d (packString d)).capo else 0)

/-- The model in force now. -/
def modelOf (d : Dev) : Model :=
  let c := rsF d 0x101C 0 16
  let ride := d.mm.mode == .ride
  { pin := if ride then 0 else d.fb.pin, pinCur := if ride then 0 else d.fb.pinCur, cur := d.clk.fret, store := storeValid d, s := storeString d, capoS := if storeValid d then (strU d (storeString d)).capo else 0, cMf := c, eMin := energyAt c (10 * rsF d 0x1020 16 16), eRest := energyAt c (10 * rsF d 0x1024 0 16), eMax := if storeValid d then energyAt c (10 * rsF d 0x1020 0 16) else 0, iDis := rsF d 0x1024 16 16, etaIn := rsF d 0x1028 0 16, etaOut := rsF d 0x1028 16 16, pack := packValid d, capoQ := if packValid d then (strU d (packString d)).capo else 0, packOn := ride || decide (rsF d 0x1000 1 1 = 1), eFloor := if ride then 0 else (inForce d 0x1034).toNat * 1000000, refill := !ride && d.mm.mode != .config, pRefill := rsF d 0x102C 0 16, chgLimit := chargerLimit d, devCapo := rsF d 0x1010 0 16 }

/-- P_IN for a fret (R134: the model takes a new value from the next fret). -/
def Model.pinAt (m : Model) (f : Nat) : Nat := if f ≤ m.cur then m.pinCur else m.pin

/-- The bank term of P_BANK (R137), W. -/
def Model.bankTerm (m : Model) (e : Nat) : Nat := m.iDis * voltsAt m.cMf e / 1000

/-- Deliverable bank power (R137). -/
def Model.pBank (m : Model) (ss : Int) (e : Nat) : Nat :=
  if !m.store then 0
  else min (min ((m.capoS : Int) - max ss 0).toNat (m.bankTerm e)) ((e - m.eMin) * m.etaOut / (65536 * 32))

/-- Deliverable pack power (R137). -/
def Model.pPack (m : Model) (ep : Nat) : Nat :=
  if m.pack && m.packOn then min m.capoQ ((ep - m.eFloor) * m.etaOut / (65536 * 32)) else 0

/-- The quantities of R138 for one fret. -/
structure Flow where
  def' : Nat
  ret : Nat
  ref : Nat
  chg : Nat
  pBank : Nat
  pPack : Nat
  e : Nat
  ep : Nat

/-- Energy after a net power into storage for one fret (R138). -/
def advance (e : Nat) (n : Int) (etaIn etaOut : Nat) : Nat :=
  if 0 ≤ n then e + 32 * n.toNat * etaIn / 65536 else e - ceilDiv (32 * (-n).toNat * 65536) etaOut

/-- Refill (R138). -/
def Model.refillAt (m : Model) (pin : Nat) (inp ret : Nat) (ss : Int) (e : Nat) : Nat :=
  if !m.store || !m.refill || decide (m.eRest ≤ e) then 0
  else
    let room := (m.capoS : Int) - max ss 0 - (ret : Int)
    let want := if m.etaIn = 0 then Config.refillZeroEta else ceilDiv ((m.eRest - e) * 65536) (32 * m.etaIn)
    (min (min (min ((pin - inp : Nat) : Int) m.pRefill) room) want).toNat

/-- One fret of the model (R138). -/
def Model.flow (m : Model) (f : Nat) (t ss : Int) (e ep : Nat) : Flow :=
  let pin := m.pinAt f
  let inp := (clampInt t 0 pin).toNat
  let de := (t - (pin : Int)).toNat
  let ret := (-t).toNat
  let pb := m.pBank ss e
  let pp := m.pPack ep
  let fb := min de pb
  let fp := de - fb
  let ref := m.refillAt pin inp ret ss e
  let chg := if m.pack then min (pin - inp - ref) m.chgLimit else 0
  let n := ss + (ret : Int) + (ref : Int) - (fb : Int)
  { def' := de, ret := ret, ref := ref, chg := chg, pBank := pb, pPack := pp, e := if m.store then advance e n m.etaIn m.etaOut else 0, ep := if m.pack then (ep + 32 * chg * m.etaIn / 65536) - ceilDiv (32 * fp * 65536) m.etaOut else 0 }

/-- One fret of a prediction: its cells, the energies at its start and what follows. -/
structure FRow where
  f : Nat
  t : Int
  ss : Int
  e : Nat
  ep : Nat
  fl : Flow

/-- The predictions of a bank over `n` frets from `f` (R138). -/
def trace (m : Model) (b : Bank) : Nat → Nat → Nat → Nat → List FRow
  | 0, _, _, _ => []
  | n + 1, f, e, ep =>
    let t := totalAt b f
    let ss := if m.store then powerAt b m.s f else 0
    let fl := m.flow f t ss e ep
    { f := f, t := t, ss := ss, e := e, ep := ep, fl := fl } :: trace m b n (f + 1) fl.e fl.ep

/-- The horizon: 4096 frets from the anchored one (R139). -/
def predict (d : Dev) (m : Model) (b : Bank) : List FRow := trace m b 4096 d.clk.fret d.fb.e d.fb.ep

/-- Both prediction rows written from a trace, mJ rounded down (R138). -/
def writePred (b : Bank) (rs : List FRow) : Bank :=
  rs.foldl (fun b r => setBankWord (setBankWord b 65 r.f (w32 (r.e / 1000))) 66 r.f (w32 (r.ep / 1000))) b

/-- Recompute the prediction rows of the live bank, and of the shadow bank (R139). -/
def repredict (d : Dev) : Dev :=
  let m := modelOf d
  let d := setLive d (writePred (liveBank d) (predict d m (liveBank d)))
  setShadow d (writePred (shadowBank d) (predict d m (shadowBank d)))

/-! ### Admission (R143, R144) -/

/-- The four tests of R143. -/
inductive Test where
  | strCapo | devCapo | supply | absorb
deriving DecidableEq, Repr

/-- The first failing test of a span fret, in the table's order (R143). -/
def failIn (m : Model) (capoK : Nat) (sk : Int) (r : FRow) : Option Test :=
  if capoK < sk.natAbs then some .strCapo
  else if m.devCapo < r.t.natAbs then some .devCapo
  else if r.fl.pBank + r.fl.pPack < r.fl.def' then some .supply
  else if (m.capoS : Int) < (r.fl.ret : Int) + max r.ss 0 ∨ m.eMax < r.fl.e then some .absorb
  else none

/-- Tests 3 and 4 only, after the span (R143). -/
def failAfter (m : Model) (r : FRow) : Option Test :=
  if r.fl.pBank + r.fl.pPack < r.fl.def' then some .supply
  else if (m.capoS : Int) < (r.fl.ret : Int) + max r.ss 0 ∨ m.eMax < r.fl.e then some .absorb
  else none

/-- First failing fret of a scratch copy against the old predictions: the span from `lo` to `hi`, then the frets whose
predicted energy the reservation lowered (R143). -/
def firstFailure (m : Model) (capoK k lo hi : Nat) (b : Bank) : List FRow → List FRow → Option (Nat × Test)
  | [], _ => none
  | r :: rs, old =>
    let o := old.head?
    let bad :=
      if r.f < lo then none
      else if r.f < hi then failIn m capoK (powerAt b k r.f) r
      else if (match o with | some q => decide (r.e < q.e ∨ r.ep < q.ep) | none => false) then failAfter m r else none
    match bad with
    | some t => some (r.f, t)
    | none => firstFailure m capoK k lo hi b rs old.tail

/-- headroom(f) of R144. -/
def headroom (m : Model) (r : FRow) : Int :=
  min ((m.pinAt r.f : Int) + r.fl.pBank + r.fl.pPack) m.devCapo - r.t

/-- Least headroom over a span (R144). -/
def leastHeadroom (m : Model) (lo hi : Nat) (rs : List FRow) : Option Int :=
  ((rs.filter (fun r => decide (lo ≤ r.f ∧ r.f < hi))).map (headroom m)).foldl
    (fun a h => match a with | none => some h | some x => some (min x h)) none

/-- What an admission works on: one bank, and the first fret it may test and write there (R160). -/
structure Scratch where
  shadow : Bool
  bank : Bank
  lo : Nat

/-- Add cells to a bank from a fret on. -/
def addCells (b : Bank) (k tag lo : Nat) (cs : List (Nat × Int)) : Bank :=
  cs.foldl (fun b c => if lo ≤ c.1 then addCell b k c.1 c.2 tag else b) b

/-- Add a plan's cells on the STORE string with tag 0xFFFF (R148). -/
def addPlan (m : Model) (b : Bank) (lo : Nat) (plan : List (Nat × Nat)) : Bank :=
  plan.foldl (fun b c => if lo ≤ c.1 then addCell b m.s c.1 c.2 0xFFFF else b) b

/-- The result of testing a scratch bank. -/
structure Tested where
  sc : Scratch
  old : List FRow
  new : List FRow
  after : Bank
  fail : Option (Nat × Test)

/-- Test a reservation's cells in one bank (R143). -/
def testIn (d : Dev) (m : Model) (k tag start stop : Nat) (cs : List (Nat × Int)) (plan : List (Nat × Nat)) (sc : Scratch) : Tested :=
  let old := predict d m sc.bank
  let b := addCells (addPlan m sc.bank sc.lo plan) k tag sc.lo cs
  let new := predict d m b
  { sc := sc, old := old, new := new, after := b, fail := firstFailure m (strU d k).capo k (max start sc.lo) stop b new old }

/-- The earliest failure over the banks tested; at equal frets the first bank's. -/
def worst (ts : List Tested) : Option (Nat × Test × Tested) :=
  ts.foldl (fun a t => match t.fail with
    | none => a
    | some (f, x) => match a with
      | none => some (f, x, t)
      | some (g, y, u) => if f < g then some (f, x, t) else some (g, y, u)) none

/-! ### Pre-charge plans (R146, R147) -/

/-- E_NEED at a fret from the rows of the span from it on, or none when some E_REQ exceeds E_MAX (R146). -/
def eNeed (m : Model) : List FRow → Option Nat
  | [] => some 0
  | r :: rs =>
    match eNeed m rs with
    | none => none
    | some next =>
      let fbReq := r.fl.def' - r.fl.pPack
      let vReq := ceilDiv (fbReq * 1000) m.iDis
      let eReq := energyAt m.cMf vReq
      let n : Int := r.ss + (r.fl.ret : Int) - (fbReq : Int)
      let need : Int := if n < 0 then (next : Int) + ceilDiv (32 * (-n).toNat * 65536) m.etaOut else (next : Int) - ((32 * n.toNat * m.etaIn / 65536 : Nat) : Int)
      if m.eMax < eReq then none else some (max (eReq : Int) need).toNat

/-- Fill frets from the latest back (R147): rows in falling order of fret, the energy gained so far, the greatest later
energy. Answers the plan and whether it covers the shortfall. -/
def fillPlan (m : Model) (short : Nat) : List FRow → Nat → Nat → List (Nat × Nat) → List (Nat × Nat) × Bool
  | [], _, _, plan => (plan, false)
  | r :: rs, gained, top, plan =>
    let top := max top r.fl.e
    let p := (min (min ((m.pinAt r.f : Int) - r.t) ((m.capoS : Int) - r.ss)) (((m.eMax - top) * 65536 / (32 * m.etaIn) : Nat) : Int)).toNat
    if p = 0 then fillPlan m short rs gained top plan
    else
      let gain := 32 * p * m.etaIn / 65536
      if short ≤ gained + gain then
        ((r.f, min p (ceilDiv ((short - gained) * 65536) (32 * m.etaIn))) :: plan, true)
      else fillPlan m short rs (gained + gain) (top + gain) ((r.f, p) :: plan)

/-- Seek a plan for a supply failure at fret `g` (R146, R147). -/
def seekPlan (d : Dev) (m : Model) (t : Tested) (g stop lo : Nat) : Option (List (Nat × Nat) × Bool) :=
  match t.new.find? (fun r => r.f == g) with
  | none => none
  | some rg =>
    if rsF d 0x1000 0 1 = 0 ∨ !m.store ∨ m.iDis = 0 ∨ m.etaIn = 0 ∨ stop ≤ g then none
    else if (m.capoS : Int) - max rg.ss 0 ≤ (m.bankTerm rg.e : Int) then none
    else
      match eNeed m (t.new.filter (fun r => decide (g ≤ r.f ∧ r.f < stop))) with
      | none => none
      | some need =>
        let later := (t.new.filter (fun r => decide (g ≤ r.f))).foldl (fun a r => max a r.fl.e) 0
        some (fillPlan m (need - rg.e) (t.new.filter (fun r => decide (lo ≤ r.f ∧ r.f < g))).reverse 0 later [])

/-- The outcome of an admission. -/
inductive Admit where
  | ok (room : Nat) (plan : List (Nat × Nat)) (after : List Tested)
  | fail (f : Nat) (t : Test)

/-- Admit cells on string `k` into the scratch banks (R143–R147). `planLo` is the first fret a plan may use. -/
def tryAdmit (d : Dev) (m : Model) (k tag start stop planLo : Nat) (cs : List (Nat × Int)) (scs : List Scratch) : Admit :=
  let done (ts : List Tested) (plan : List (Nat × Nat)) : Admit :=
    let hs := ts.filterMap (fun t => leastHeadroom m (max start t.sc.lo) stop t.new)
    .ok (min 65535 (hs.foldl (fun a h => min a h.toNat) 65535)) plan ts
  let ts := scs.map (testIn d m k tag start stop cs [])
  match worst ts with
  | none => done ts []
  | some (f, x, t) =>
    if x = .supply then
      match seekPlan d m t f stop planLo with
      | none => .fail f x
      | some (plan, whole) =>
        let ts' := scs.map (testIn d m k tag start stop cs plan)
        match worst ts' with
        | some (f', x', _) => .fail f' x'
        | none => if whole then done ts' plan else .fail f x
    else .fail f x

/-- Status of a failed test (R143). -/
def Test.status : Test → Status
  | .strCapo => .rejectCapo | .devCapo => .rejectCapo | .supply => .rejectBudget | .absorb => .rejectBudget

/-- Write the tested banks back with their predictions (R144). -/
def writeTested (d : Dev) (ts : List Tested) : Dev :=
  ts.foldl (fun d t => if t.sc.shadow then setShadow d (writePred t.after t.new) else setLive d (writePred t.after t.new)) d

/-- A ready shadow stands beside the live bank: READY, SWAP_PENDING, or RETRY with a ready shadow (R160). -/
def shadowReady (d : Dev) : Option Nat :=
  match d.fb.replan with
  | some r => if r.ready then some r.switch else none
  | none => none

/-- The banks a RESERVE is tested in: live for all frets, and a ready shadow from the switch fret (R160). -/
def scratches (d : Dev) : List Scratch :=
  { shadow := false, bank := liveBank d, lo := 0 } ::
    (match shadowReady d with | some q => [{ shadow := true, bank := shadowBank d, lo := q }] | none => [])

/-- Plan cells remembered beside the banks, so that they can be told from reservations (R148). -/
def addPlanCells (p : Sparse Int) (lo : Nat) (plan : List (Nat × Nat)) : Sparse Int :=
  plan.foldl (fun p c => if lo ≤ c.1 then p.set 0 c.1 (p.get 0 c.1 + c.2) else p) p

/-- Outside a re-plan both banks hold the same (R132). -/
def mirror (d : Dev) : Dev :=
  if d.fb.replan.isSome then d
  else setShadow { d with fb := { d.fb with planShadow := d.fb.planLive } } (liveBank d)

/-! ### Removal (R131, R155, R163) -/

/-- TAG of a cell when a contributor leaves: the latest admitted reservation that still covers the fret, a plan, or none (R131). -/
def tagAfter (rs : List Resv) (plan : Sparse Int) (isStore shadow : Bool) (k f : Nat) : Nat :=
  match (rs.filter (fun r => r.string == k && (if shadow then r.inShadow else r.inLive) && (bankCells r shadow).any (fun c => c.1 == f))).getLast? with
  | some r => r.tag
  | none => if isStore && decide (plan.get 0 f ≠ 0) then 0xFFFF else 0

/-- Subtract a reservation's cells from one bank from a fret on, restoring TAG; `rs` are the reservations that stay. -/
def subtract (b : Bank) (rs : List Resv) (plan : Sparse Int) (isStore shadow : Bool) (r : Resv) (f0 : Nat) : Bank :=
  (bankCells r shadow).foldl (fun b c => if f0 ≤ c.1 then addCell b r.string c.1 (-c.2) (tagAfter rs plan isStore shadow r.string c.1) else b) b

/-- A reservation is the one of a key. -/
def sameKey (r q : Resv) : Bool := r.entry == q.entry && r.add == q.add

/-- Remove a reservation's cells from a fret on, in both banks and any shadow in flight; it leaves the list. -/
def removeCells (d : Dev) (r : Resv) (f0 : Nat) : Dev :=
  let rest := d.fb.resv.filter (fun q => !sameKey r q)
  let st := storeValid d && decide (r.string = storeString d)
  let d := if r.inLive then setLive d (subtract (liveBank d) rest d.fb.planLive st false r f0) else d
  let d := if r.inShadow then setShadow d (subtract (shadowBank d) rest d.fb.planShadow st true r f0) else d
  { d with fb := { d.fb with resv := rest } }

/-- DETAIL of a reservation's end: clamped frets and overdraw frets (R104), or the retiring fault code (R103). -/
def resvDetail (d : Dev) (r : Resv) (st : Status) : Nat :=
  if st = .stringRetired then (strU d r.string).retireCode else min 65535 r.clamped + (min 65535 r.ovr <<< 16)

/-- Status of a REPLAN whose additions have all ended (R104). -/
def replanResult (rs : List (Nat × Status)) : Status × Nat :=
  rs.foldl (fun a q => if a.1 = .ok ∨ q.1 < a.2 then (q.2, q.1) else a) (.ok, 0)

/-- A reservation ends with a status: its own FINAL entry, or its part of a REPLAN's (R104, R131). -/
def endResv (d : Dev) (r : Resv) (st : Status) (effect : Nat) (replaced : Bool) : Dev :=
  let d := { d with fb := { d.fb with resv := d.fb.resv.filter (fun q => !sameKey r q) } }
  match r.add with
  | none => finishWith d r.entry st effect (resvDetail d r st) (fun c => { c with replaced := replaced })
  | some i =>
    let d := if st = .ok then d else updEntry d r.entry (fun x => { x with addResults := x.addResults ++ [(i, st)] })
    if d.fb.resv.any (fun q => q.entry == r.entry) || (match d.fb.replan with | some p => p.entry == r.entry | none => false) then d
    else
      match entryOf d r.entry with
      | none => d
      | some x =>
        let q := replanResult x.addResults
        finishWith d r.entry q.1 effect (if q.1 = .ok then 0 else q.2) (fun c => { c with retrySwap := x.retrySwap })

/-- End a reservation early: its cells go from a fret on, and it ends with a status (R55, R155). -/
def cutResv (d : Dev) (r : Resv) (st : Status) (f0 effect : Nat) : Dev :=
  endResv (removeCells d r f0) r st effect false

/-- Every reservation on a string whose end fret is after a fret ends with a status (R155). -/
def endStringResv (d : Dev) (k : Nat) (st : Status) : Dev :=
  let f := d.clk.fret
  (d.fb.resv.filter (fun r => r.string == k && decide (f < r.stop))).foldl (fun d r => cutResv d r st f f) d

/-- Clear plan cells from a fret on, in both banks (R148). -/
def clearPlans (d : Dev) (f0 : Nat) : Dev :=
  let s := storeString d
  let cut (b : Bank) (p : Sparse Int) (shadow : Bool) : Bank :=
    p.foldl (fun b c => if f0 ≤ c.1 then
      addCell b s c.1 (-c.2) (match (d.fb.resv.filter (fun r => r.string == s && (if shadow then r.inShadow else r.inLive) && (bankCells r shadow).any (fun x => x.1 == c.1))).getLast? with | some r => r.tag | none => 0)
      else b) b
  let d := setLive d (cut (liveBank d) d.fb.planLive false)
  let d := setShadow d (cut (shadowBank d) d.fb.planShadow true)
  { d with fb := { d.fb with planLive := d.fb.planLive.filter (fun c => decide (c.1 < f0)), planShadow := d.fb.planShadow.filter (fun c => decide (c.1 < f0)) } }

/-- The shadow of a REPLAN in flight is discarded: its additions go, its removals do not take effect (R157, R159, R162). -/
def discardShadow (d : Dev) : Dev :=
  match d.fb.replan with
  | none => d
  | some p =>
    let rs := (d.fb.resv.filter (fun r => !(r.entry == p.entry))).map (fun r => { r with inLive := true, inShadow := true, shadowFrom := 0 })
    mirror { d with fb := { d.fb with replan := none, resv := rs } }

/-- Every reservation, and any REPLAN in flight, ends on entry to SAFE, DRONE, SHUTDOWN or OFF (R55, R162). -/
def endFingerboard (d : Dev) (st : Status) : Dev :=
  let f := d.clk.fret
  let d := match d.fb.replan with
    | none => d
    | some p => finish (discardShadow d) p.entry st f 0
  let d := d.fb.resv.foldl (fun d r => cutResv d r st f f) d
  clearPlans d f

/-! ### The columns (R128–R130) -/

/-- The column of a fret that has passed is cleared in both banks (R128). -/
def clearColumn (b : Bank) (f : Nat) : Bank := foldN 67 (fun b row => setBankWord b row f 0) b

/-- The reservation with the latest end that covers a fret on a string (R151). -/
def latestEnd (d : Dev) (k f : Nat) : Nat :=
  (d.fb.resv.filter (fun r => r.string == k && r.inLive && decide (r.start ≤ f ∧ f < r.stop))).foldl (fun a r => max a r.stop) 0

/-- Some reservation's end fret is still to come (R39). -/
def resvToCome (d : Dev) : Bool := d.fb.resv.any (fun r => decide (d.clk.fret < r.stop))

end Sys2Proof.Machine
end

