-- ==== Sys2Proof/Machine/Units.lean ====
section
/-!
DEFINITION. Strings, phases and stage links: enabling, safe states, retirement, capos in force, hiccup, training (R166–R194, R220–R229).
-/
set_option Elab.async false
namespace Sys2Proof.Machine

/-! ### Capos in force (R190) -/

/-- A rational as a natural number, rounded down and clamped at 0. -/
def ratNat (x : Rat) : Nat := (x.floor).toNat

/-- The capo in force that the phases of a course give, from the exact thermal factors (R190): the phases that are in service, or
would be with the string enabled (log 52). -/
def capoNow (d : Dev) (k : Nat) : Nat :=
  if nPhases d k = 0 then 0 else ratNat ((strCapo d k : Rat) * ((unretired d k).map (fun p => (phU d p).derate)).sum / (256 * nPhases d k : Nat))

/-- Least output voltage of a kind for R150, 10 mV (R166). -/
def kindMin (d : Dev) (k : Nat) : Nat :=
  match kindOf d k with | .axis => 1200 | .store => 1000 | .pack => 1000 | .aux => 500 | _ => 1

/-- The string voltage of R150, 10 mV: measured, never below the least of the kind. -/
def stringVolts (d : Dev) (k : Nat) : Nat := max (kindMin d k) (ratNat (strU d k).vMeas)

/-- P / V in 25 mA units, at a voltage in 10 mV. -/
def ampsAt (p v : Nat) : Nat := min 65535 (p * 4000 / (max 1 v))

/-- The largest cell on a string above a capo, from the present fret on, by magnitude (R153, R419). -/
def largestOver (d : Dev) (k capo : Nat) : Nat :=
  ((List.range 4096).map (fun i => (powerAt (liveBank d) k (d.clk.fret + i)).natAbs)).foldl (fun a p => if capo < p then max a p else a) 0

/-- A capo clamp begins: FB_EVENT.CLAMP, and a CLAMP record at most once per string per management tick (R153, R419). -/
def clampBegins (d : Dev) (k first : Nat) : Dev :=
  let u := strU d k
  if u.capoClamp then d
  else
    let d := setFbEvent (updStr d k (fun u => { u with capoClamp := true })) 2
    if u.lastClamp = some d.clk.mgmt then d
    else record (updStr d k (fun u => { u with lastClamp := some d.clk.mgmt })) 0x0043 0x03 false k u.capo (largestOver d k u.capo) first

/-- Cap a held allotment at a capo in force (R150, R190). -/
def capAllot (a : Allot) (i : Nat) (clamped : Bool) : Allot :=
  { a with iDraw := min a.iDraw i, iReturn := min a.iReturn i, iLimit := min a.iLimit i, clamped := a.clamped || clamped }

/-- CAPO_DERATED is raised when its condition begins to hold: the capo in force lies below STR_CAPO.CAPO (R193). -/
def noteDerated (d : Dev) (k : Nat) : Dev :=
  let u := strU d k
  let low := decide (u.capo < strCapo d k)
  if u.derated == low then d
  else
    let d := updStr d k (fun u => { u with derated := low })
    if low then detect d 0x1107 k 0xFFFFFFFF u.capo else d

/-- An allotment that is published for the next fret takes the capo in force, as it caps the ceilings (R150, R190); `ovr`: its cell
lies above the capo. -/
def capNext (d : Dev) (k i : Nat) (ovr : Bool) : Dev :=
  updStr d k (fun u => { u with next := u.next.map (fun a => capAllot a i ovr), nextTop := min u.nextTop i })

/-- The capo in force of a string takes a value (R190): the allotment held and the one published are capped, and a fall sets
DERATED. A clamp begins in the present fret, or in the next one where only its cell lies above the capo (R153). -/
def moveCapo (d : Dev) (k capo : Nat) : Dev :=
  let u := strU d k
  if u.capo = capo then d
  else
    let i := ampsAt capo (stringVolts d k)
    let ovr := decide (capo < (powerAt (liveBank d) k d.clk.fret).natAbs)
    let ovn := u.next.isSome && decide (capo < (powerAt (liveBank d) k (d.clk.fret + 1)).natAbs)
    let d := updStr d k (fun u => { u with capo := capo, capoClamp := u.capoClamp && (ovr || ovn) })
    if u.capo ≤ capo then d
    else
      let d := setStrEvent (capNext (updStr d k (fun u => { u with allot := capAllot u.allot i ovr })) k i ovn) k 3
      if ovr then clampBegins d k d.clk.fret else if ovn then clampBegins d k (d.clk.fret + 1) else d

/-- The capo in force takes a value, and the condition of CAPO_DERATED follows (R190, R193). -/
def setCapo (d : Dev) (k capo : Nat) : Dev := noteDerated (moveCapo d k capo) k

/-- The capo in force after a retirement or a commit. -/
def recapo (d : Dev) (k : Nat) : Dev := setCapo d k (capoNow d k)

/-! ### Links that carry blocks -/

/-- Links that carry a phase of a string's course. -/
def linksOf (d : Dev) (k : Nat) : List Nat := ((course d k).map linkOfPhase).eraseDups

/-- The device sends blocks on a link, and its receiver listens (R228, R295). -/
def linkSends (d : Dev) (k : Nat) : Bool :=
  let r := regionOfLink k
  let safetyUp := (List.range 64).any (fun s => isSafety d s && (strU d s).st.enabled && (linksOf d s).contains k)
  linkUsed d k && powered d .links && d.mm.mode != .replay && !d.pwr.ctlLost
  && (if bit d.flt.regRetired r then d.mm.mode == .drone && safetyUp else true)
  && (d.mm.mode != .drone || r == 0)

/-- A phase's stage is released: its link is UP (R224). -/
def phaseUp (d : Dev) (p : Nat) : Bool := (lkU d (linkOfPhase p)).st == .up

/-- A phase can be enabled on its link (R224): UP, or HELD with a STAGE_ID that the link accepts. -/
def linkEnables (d : Dev) (k : Nat) : Bool :=
  let l := lkU d k
  let ex := rsF d (0x3100 + 0x20 * k + 0x1C) 0 16
  l.st == .up || (l.st == .held && (decide (ex = 0) || (l.idSeen && decide (l.stageId = ex))))

/-! ### Enabling and safe states (R168, R173, R191) -/

/-- A string can be enabled (R173, R192, R224, R295). -/
def canEnable (d : Dev) (k : Nat) : Bool :=
  let c := unretired d k
  let b := strBase k
  !c.isEmpty && !(strU d k).retired && !bit d.flt.regRetired (regionOfString d k)
  && c.all (fun p => linkEnables d (linkOfPhase p))
  && [0x14, 0x18, 0x1C, 0x20, 0x24].any (fun o => inForce d (b + o) != 0)

/-- The measured output as a ramp value, 10 µV. -/
def measuredRamp (d : Dev) (k : Nat) : Nat := ratNat ((strU d k).vMeas * 1000)

/-- Clear the loop history and the integrators of a course, and its run counters (R174, R194). -/
def clearLoops (d : Dev) (k : Nat) : Dev :=
  let d := updStr d k (fun u => { u with u1 := 0, u2 := 0, e1 := 0, e2 := 0 })
  (course d k).foldl (fun d p => updPh d p (fun q => { q with x := 0, limRun := 0, openRun := 0, stuckRun := 0, duties := [], rangeRun := 0, disRun := 0 })) d

/-- Enable a string by a power-up step or by the charger (R168): targets loaded, the ramp starts from the measured output. -/
def enableString (d : Dev) (k : Nat) : Dev :=
  if (strU d k).st.enabled || !canEnable d k then d
  else
    let d := clearLoops d k
    updStr d k (fun u => { u with st := .softStart, vCmd := vDefault d k, vRamp := measuredRamp d k, slew := strSlew d k, idle := strIdle d k, lfsr := k + 1, lfsrAt := d.clk.tick, pgood := false, uvArmed := false, hicUntil := 0, capoClamp := false, overClamp := false, overUntil := none, overRun := 0 })

/-- All phases of a course go high-impedance and the string rests (R191 OFF); a retired string shows RETIRED. -/
def restPhases (d : Dev) (k : Nat) : Dev :=
  let u := strU d k
  if u.retired then
    let d := updStr d k (fun u => { u with st := .retired })
    let d := if (unretired d k).isEmpty then d else setStrEvent d k 1
    let d := (unretired d k).foldl (fun d p => updPh d p (fun q => { q with retired := true, follower := false, cause := 5, fault := u.retireCode })) d
    recapo d k
  else updStr d k (fun u => { u with st := .safeOff })

/-- Phases that can take part in a discharge: not retired, on a link that is UP and carries blocks (R191, R228). -/
def discharging (d : Dev) (k : Nat) : List Nat := (unretired d k).filter (fun p => phaseUp d p && linkSends d (linkOfPhase p))

/-- Phases whose current a string controls: in service, or taking part in a discharge (R170, R191). -/
def driven (d : Dev) (k : Nat) : List Nat := if (strU d k).st == .safeDischarge then discharging d k else inService d k

/-- I_LIMIT of a string, 25 mA (R150): the allotment's, and for STORE and PACK, which have none, the capo's current. -/
def limitOf (d : Dev) (k : Nat) : Nat :=
  match kindOf d k with
  | .store => ampsAt (strU d k).capo (stringVolts d k)
  | .pack => ampsAt (strU d k).capo (stringVolts d k)
  | _ => (strU d k).allot.iLimit

/-- A string in SAFE_DISCHARGE with no phase left that takes part goes OFF (R191, R194). -/
def dropDischarge (d : Dev) (k : Nat) : Dev :=
  if (strU d k).st == .safeDischarge && (discharging d k).isEmpty then restPhases d k else d

/-- The same for every string, after links have changed (R191, R229). -/
def dropDischarges (d : Dev) : Dev := foldN 64 dropDischarge d

/-- A string takes its safe state (R191). A disabled string is safe already; the reference for 10 % is kept at entry. -/
def safeString (d : Dev) (k : Nat) : Dev :=
  let u := strU d k
  if !u.st.enabled then d
  else
    let ref := if kindOf d k = .store then vDefault d k else u.vCmd
    let now := if kindOf d k = .store then vDefault d k else u.vRamp / 1000
    let dis := safeDischarges d k && !(discharging d k).isEmpty
    let d := clearLoops d k
    let d := updStr d k (fun u => { u with pgood := false, uvArmed := false, offInFret := true, dischRef := ref, downRef := now, prof := none, dischBy := d.clk.tick + 100000 * safeTimeout d k })
    if dis then updStr d k (fun u => { u with st := .safeDischarge }) else restPhases d k

/-- The string's output lies below 10 % of the V_CMD held at entry to its safe state (R191). -/
def below10 (d : Dev) (k : Nat) : Bool :=
  let u := strU d k
  decide (u.vMeas * 10 < (u.dischRef : Rat)) || decide (u.dischRef = 0)

/-- A string is retired (R192): safe state, STR_EVENT.RETIRED, its reservations end STRING_RETIRED (R155). -/
def retireString (d : Dev) (k code : Nat) : Dev :=
  if (strU d k).retired then d
  else
    let d := updStr d k (fun u => { u with retired := true, retireCode := code })
    let d := setStrEvent d k 4
    let d := if (strU d k).st.enabled then safeString d k
      else if (strU d k).st == .safeDischarge then d else restPhases d k
    endStringResv d k .stringRetired

/-- The course is lost (R189): safe state and retirement in the same tick, COURSE_LOST with the phase's measured current (R193). -/
def courseLost (d : Dev) (k p : Nat) : Dev :=
  let value := lowBits 32 (phU d p).current
  detect (retireString d k 0x1104) 0x1104 k p value

/-- No in-service phase left, or all of them followers (R189); of a disabled string, no phase left. -/
def courseGone (d : Dev) (k : Nat) : Bool :=
  if (strU d k).st.enabled then (lead d k).isNone else (unretired d k).isEmpty

/-- One phase is retired (R192): high-impedance, n and the capo fall, the course may be lost. -/
def retirePhase (d : Dev) (p cause code : Nat) : Dev :=
  if (phU d p).retired then d
  else
    let d := updPh d p (fun q => { q with retired := true, follower := false, cause := cause, fault := code, limRun := 0, openRun := 0, stuckRun := 0, duties := [], rangeRun := 0, disRun := 0, fCycles := 0 })
    match stringOf d p with
    | none => d
    | some k =>
      let d := setStrEvent (recapo d k) k 1
      if (strU d k).retired then d
      else if (strU d k).st == .safeDischarge then dropDischarge d k
      else if courseGone d k then courseLost d k p else d

/-- A phase with a failed sense becomes a follower, or ends its course (R188, R189). -/
def makeFollower (d : Dev) (p : Nat) : Dev :=
  match stringOf d p with
  | none => d
  | some k =>
    let d := setStrEvent (updPh d p (fun q => { q with follower := true, fCycles := 0, openRun := 0, stuckRun := 0, duties := [], rangeRun := 0, disRun := 0 })) k 2
    if courseGone d k then courseLost d k p else d

/-- A reaction sends a string to its safe state without retiring it (R155, R288). -/
def reactString (d : Dev) (k : Nat) : Dev :=
  if kindOf d k = .unused ∨ (strU d k).retired then d else endStringResv (safeString d k) k .abortedSafe

/-! ### Hiccup (R183, R184) -/

/-- Hiccups of a string that began within the window before now (R184, R200). -/
def hiccupsIn (d : Dev) (k : Nat) : Nat :=
  ((strU d k).hicStarts.filter (fun t => decide (d.clk.tick < t + 1000000 * hicWindow d k))).length

/-- A hiccup begins, or the string is retired when K have begun within the window (R183, R184); a follower is retired at its start (R194). -/
def hiccup (d : Dev) (k value : Nat) : Dev :=
  if hicK d k ≤ hiccupsIn d k then detect (retireString d k 0x1101) 0x1101 k 0xFFFFFFFF value
  else
    let fs := (inService d k).filter (fun p => (phU d p).follower)
    let d := fs.foldl (fun d p => detect (retirePhase d p 2 0x1103) 0x1103 k p (lowBits 32 (phU d p).current)) d
    if (strU d k).retired then d
    else
      let d := clearLoops d k
      let d := updStr d k (fun u => { u with st := .hiccup, pgood := false, uvArmed := false, hicUntil := d.clk.tick + 500 * hicT d k, hicStarts := d.clk.tick :: (u.hicStarts.take 15) })
      detect (setStrEvent d k 0) 0x1100 k 0xFFFFFFFF value

/-- The retry after the off time: a soft start from the measured output (R183). -/
def retryString (d : Dev) (k : Nat) : Dev :=
  updStr (clearLoops d k) k (fun u => { u with st := .softStart, vRamp := measuredRamp d k, hicUntil := 0 })

/-! ### Stage links (R221, R224–R226) -/

/-- A link begins training (R224, R206): LINK_DELAY is judged when the delay is measured; STAGE_SAFE keeps the last report (R232). -/
def trainLink (d : Dev) (k : Nat) : Dev :=
  updLk d k (fun l => { l with st := .training, goodUp := 0, goodDown := 0, upRun := 0, hold := false, trainAt := d.clk.tick, trainFailed := false, lostJudged := 0, runSince := none, second := none, idSeen := false, inbox := [], nak := none, refused := [], refusing := none, lateDue := [], flight := [] })

/-- Every used link that is not RETIRED, of a set, enters TRAINING; an unused one is UNUSED (R224, R228). -/
def trainLinks (d : Dev) (ks : List Nat) : Dev :=
  ks.foldl (fun d k =>
    if bit d.flt.regRetired (regionOfLink k) || (lkU d k).st == .retired then d
    else if !linkUsed d k then updLk d k (fun l => { l with st := .unused })
    else trainLink d k) d

/-- The phases of a link restart their runs and integrators (R223). -/
def suspendTests (d : Dev) (k : Nat) : Dev :=
  (List.range 4).foldl (fun d i => updPh d (4 * k + i) (fun q => { q with x := 0, openRun := 0, stuckRun := 0, duties := [], rangeRun := 0, disRun := 0 })) d

/-- A link becomes RECOVERING (R221, R224): its event and LINK_STAGE_SAFE (R225). -/
def recoverLink (d : Dev) (k value : Nat) : Dev :=
  let d := updLk d k (fun l => { l with st := .recovering, recoverAt := d.clk.tick })
  detect (setLinkEvent (dropDischarges (suspendTests d k)) k 0) 0x1201 k 0xFFFFFFFF value

/-- Strings with a phase on a link. -/
def stringsOnLink (d : Dev) (k : Nat) : List Nat := (List.range 64).filter (fun s => (linksOf d s).contains k)

/-- A link is retired (R225, R192): its phases are retired with cause 4, and so is every string with a phase on it. -/
def retireLink (d : Dev) (k value : Nat) : Dev :=
  if (lkU d k).st == .retired then d
  else
    let d := setLinkEvent (updLk d k (fun l => { l with st := .retired, hold := false, inbox := [] })) k 1
    let ss := stringsOnLink d k
    let d := (List.range 4).foldl (fun d i =>
      let p := 4 * k + i
      if (phU d p).retired then d
      else updPh d p (fun q => { q with retired := true, follower := false, cause := 4, fault := 0x1202 })) d
    let d := dropDischarges (ss.foldl (fun d s => retireString (recapo (setStrEvent d s 1) s) s 0x1202) d)
    detect d 0x1202 k 0xFFFFFFFF value

/-- One lost slot of a link (R225): counted, LINK_CRC, and in the link's errors; only the states HELD, UP and RECOVERING
count it toward the verdict. `down` is a downlink slot, `inj` a loss under check-bit injection (R308). -/
def lostSlot (d : Dev) (k : Nat) (down inj : Bool) : Dev :=
  let judged := (lkU d k).st == .held || (lkU d k).st == .up || (lkU d k).st == .recovering
  let d := updLk d k (fun l => { l with down := if down then sat 65535 (l.down + 1) else l.down, up := if down then l.up else sat 65535 (l.up + 1), lostNow := l.lostNow + 1, lostJudged := l.lostJudged + b2n judged })
  detectInj d 0x1200 k 0xFFFFFFFF (lkU d k).lostNow inj false

/-! ### Regions (R295) -/

/-- Strings of a region. -/
def stringsInRegion (d : Dev) (r : Nat) : List Nat :=
  (List.range 64).filter (fun k => !(course d k).isEmpty && regionOfString d k == r)

/-- The region holds a SAFETY string (R25). -/
def regionHasSafety (d : Dev) (r : Nat) : Bool := (stringsInRegion d r).any (isSafety d)

/-- A region's fingerboard rows are cleared from the fret of its retirement onward (R295). -/
def clearRegionRows (d : Dev) (r : Nat) : Dev :=
  (stringsInRegion d r).foldl (fun d k => endStringResv d k .abortedSafe) d

/-! ### Tests on phases (R170, R201) -/

/-- PH_STATUS.STATE (R201): 0 unassigned, 1 held, 2 active, 3 follower, 4 off in hiccup, 5 retired. -/
def phaseState (d : Dev) (p : Nat) : Nat :=
  if (phU d p).retired then 5
  else match stringOf d p with
    | none => 0
    | some k =>
      let u := strU d k
      if u.st == .hiccup then 4
      else if !u.st.enabled then (if u.st == .safeDischarge && phaseUp d p then 2 else 1)
      else if (phU d p).follower then 3 else 2

/-- Rank of a phase in service (R170). -/
def rankOf (d : Dev) (k p : Nat) : Nat := ((inService d k).filter (· < p)).length

/-- ENABLE of a phase's lane word (R210, R221, R224): on a HELD link the enable writes 1 where the STAGE_ID is accepted. -/
def laneEnable (d : Dev) (p : Nat) : Bool :=
  match stringOf d p with
  | none => false
  | some k =>
    let u := strU d k
    !(phU d p).retired && !(lkU d (linkOfPhase p)).hold
    && (if u.st.switching then (lkU d (linkOfPhase p)).st == .recovering || linkEnables d (linkOfPhase p) else u.st == .safeDischarge && phaseUp d p)

/-- Units of a domain take their reset state (R4, R30): the strings, phases and links of two regions. -/
def resetRegions (d : Dev) (lo : Nat) : Dev :=
  let inDom (r : Nat) : Bool := decide (lo ≤ r ∧ r < lo + 2)
  let ss := (List.range 64).filter (fun k => if kindOf d k = .unused then lo == 0 else inDom (regionOfString d k))
  let d := ss.foldl (fun d k => updStr d k (fun _ => {})) d
  let d := foldN 32 (fun d i => updPh d (16 * lo + i) (fun _ => {})) d
  foldN 8 (fun d i => updLk d (4 * lo + i) (fun _ => {})) d

/-- After a commit or reset, the strings that STR_CONFIG gives a kind are DISABLED and the others UNUSED (R200). -/
def settleKinds (d : Dev) : Dev :=
  foldN 64 (fun d k =>
    let unused := (course d k).isEmpty
    if unused then (if (strU d k).st == .unused then d else updStr d k (fun _ => {}))
    else recapo (if (strU d k).st == .unused then updStr d k (fun u => { u with st := .disabled }) else d) k) d

end Sys2Proof.Machine
end

