-- ==== Sys2Proof/Machine/Charge.lean ====
section
/-!
DEFINITION. The charger and the pack: input limit, cycle, search, ride availability (R134, R260–R284).
-/
set_option Elab.async false
namespace Sys2Proof.Machine

/-! ### The input limit (R134, R29) -/

/-- P_IN before any host limit: (I_FOUND × V_BUS − margin) × share, W, not below 0. -/
def searchBased (d : Dev) : Nat :=
  (d.chg.iFound * d.fb.vbusAvg - rsF d 0x1014 0 16 * 10000) * rsF d 0x38C0 0 10 / 10000000

/-- Recompute P_IN (R134): 0 in RIDE. -/
def recomputePin (d : Dev) : Dev :=
  let b := min 65535 (searchBased d)
  let p := match d.fb.hostLimit with | some l => min l b | none => b
  { d with fb := { d.fb with pinBase := b, pin := if d.mm.mode == .ride then 0 else p } }

/-! ### The pack (R260, R261, R275) -/

/-- The PACK string of the charger, in service (R270). -/
def packUsable (d : Dev) : Bool := packValid d && kindOf d (packString d) == .pack && !(strU d (packString d)).retired

/-- E_FULL, mJ (R275). -/
def eFull (d : Dev) : Nat := min 0xFFFFFFFF (360 * capacity d * cells d * (vCutoff d + vCv d) / 2)

/-- The CV voltage of a cell, lowered by 100 mV in the WARM zone, mV (R272). -/
def cvCell (d : Dev) : Nat := if d.chg.zone = 3 then vCv d - 100 else vCv d

/-- The PACK string's V_CMD while charging, 10 mV (R270). -/
def packTarget (d : Dev) : Nat := cells d * cvCell d / 10

/-- Zone of a temperature in 0.1 °C (R272). -/
def zoneOf (d : Dev) (t : Int) : Nat :=
  let f (lo : Nat) : Int := 10 * signed 8 (rsF d 0x4018 lo 8)
  if t < -450 then 5 else if t < f 0 then 0 else if t < f 8 then 1 else if t < f 16 then 2 else if t < f 24 then 3 else 4

/-- The pack temperature lies within DIS_LOW to DIS_HIGH (R265). -/
def dischargeTemp (d : Dev) : Bool :=
  decide (10 * signed 8 (rsF d 0x401C 0 8) ≤ d.chg.temp ∧ d.chg.temp ≤ 10 * signed 8 (rsF d 0x401C 8 8))

/-- A fault status is set (R312). -/
def statusSet (d : Dev) (code : Nat) : Bool := (d.flt.srcs.get {} (srcIndex code)).status

/-- The conditions of RIDE_AVAILABLE (R265). -/
def rideConditions (d : Dev) : Bool :=
  packUsable d && d.chg.present && !statusSet d 0x1501 && !statusSet d 0x1503
  && (d.mm.mode == .ride || decide (vRideEntry d ≤ cellMv d)) && dischargeTemp d

/-- RIDE_AVAILABLE follows its conditions; a fall sets RIDE_UNAVAILABLE (R265). -/
def followRide (d : Dev) : Dev :=
  let a := rideConditions d
  if a = d.mm.rideAvailable then d
  else
    let d := { d with mm := { d.mm with rideAvailable := a } }
    if a then d else setChgEvent d 7

/-- The lowest-numbered reason why a ride ends, by R278 (1 is the cutoff). -/
def exhaustReason (d : Dev) (cutoff : Bool) : Nat :=
  if cutoff then 1
  else if !dischargeTemp d then 2
  else if !d.chg.present || statusSet d 0x1501 then 3
  else if (strU d (packString d)).retired then 4 else 5

/-- A charger record (R282): PARAM[3] is the fret, or 0 while SCHED is unpowered. -/
def chargerRecord (d : Dev) (code p0 p1 p2 : Nat) : Dev :=
  record d code srcCharger false p0 p1 p2 (if powered d .sched then fretLow d else 0)

/-- A charger fault input (R281): state, per-cell voltage, pack current. -/
def chargerFault (d : Dev) (code : Nat) : Dev := detect d code d.chg.st.code (cellMv d) (lowBits 32 d.chg.iPack)

/-! ### The PACK string (R260, R266) -/

/-- States in which the charger drives the PACK string (R266, R270, R277). -/
def CState.drives : CState → Bool
  | .precharge => true | .fast => true | .cv => true | .rideBoost => true | .search => true | _ => false

/-- The PACK string goes high-impedance. -/
def packOff (d : Dev) : Dev :=
  let k := packString d
  if packValid d && (strU d k).st.enabled then updStr (clearLoops d k) k (fun u => { u with st := .disabled, pgood := false, uvArmed := false }) else d

/-- The charger enables the PACK string, or keeps its target (R270); a search in ARMED with a bank does not use it (R266). -/
def packFollow (d : Dev) : Dev :=
  let k := packString d
  if !packUsable d then d
  else if d.chg.st.drives && !(d.chg.st == .search && storeValid d && d.mm.mode == .armed) then
    let d := enableString d k
    if d.chg.st == .rideBoost then d else updStr d k (fun u => { u with vCmd := packTarget d })
  else packOff d

/-! ### The charge cycle (R270, R274) -/

/-- The charger takes a state, and the PACK string follows. -/
def setCharger (d : Dev) (s : CState) : Dev := packFollow { d with chg := { d.chg with st := s } }

/-- A cycle enters QUALIFY: the safety timer starts; with TIMED_OUT set it goes to TIMEOUT (R270, R274). -/
def enterQualify (d : Dev) : Dev :=
  if d.chg.timedOut then setCharger d .timeout
  else
    let d := { d with chg := { d.chg with restUntil := d.clk.tick + 100000, timerStart := d.clk.tick, elapsed := 0, delivered := 0, cvCount := 0 } }
    setCharger d .qualify

/-- Modes in which the charge cycle runs (R266). -/
def cycleMode (m : Mode) : Bool := m == .config || m == .armed || m == .run || m == .hold

/-- A loss of the input was detected in the tick before this one, or earlier, and its mode input is still to act (R17, R277). -/
def lossComing (d : Dev) : Bool := d.waiting.any (fun q => q.2 == .mode .inputLoss && decide (q.1 ≤ d.clk.tick + 1))

/-- The input is lost in ARMED, RUN or HOLD: the cycle ends in the tick after the detection (R277, R283). -/
def cycleLost (d : Dev) : Bool := lossComing d && (d.mm.mode == .armed || d.mm.mode == .run || d.mm.mode == .hold)

/-- From DISABLED the charger goes to QUALIFY or STOPPED when the mode permits charging; without a usable PACK string it
goes to DISABLED (R270, R283). -/
def followCharger (d : Dev) : Dev :=
  if !powered d .aux then d
  else if d.chg.st == .absent then
    (if !d.chg.present || statusSet d 0x1501 then packOff d
     else if packUsable d && cycleMode d.mm.mode && d.mm.rideDue.isNone && !cycleLost d then enterQualify d
     else { d with chg := { d.chg with st := .disabled } })
  else if d.chg.st == .search then packFollow d
  else if cycleLost d then setCharger d .disabled
  else if !packUsable d then (if d.chg.st == .disabled then d else packOff { d with chg := { d.chg with st := .disabled } })
  else if d.chg.st == .disabled && cycleMode d.mm.mode && d.mm.rideDue.isNone then
    (if rsF d 0x4000 0 1 = 1 then enterQualify d else setCharger d .stopped)
  else packFollow d

/-- Removal of the pack (R276): ABSENT, its event and fault; the string goes high-impedance. -/
def packGone (d : Dev) : Dev :=
  chargerFault (setChgEvent (setCharger { d with chg := { d.chg with present := false, wasAbsent := true } } .absent) 5) 0x1501

/-! ### The input-current search (R267–R269, R283) -/

/-- The search ends (R268, R282): I_FOUND as given, the limit recomputed, every SEARCH descriptor completes alike. -/
def endSearch (d : Dev) (o : SearchEnd) (iFound : Nat) (st : Status) : Dev :=
  match d.chg.search with
  | none => d
  | some s =>
    let d := { d with chg := { d.chg with iFound := iFound, search := none, dwellEnd := if s.dwell then d.clk.tick else d.chg.dwellEnd } }
    let d := recomputePin d
    let d := if d.chg.st == .search then setCharger d s.back else d
    let d := setChgEvent (chargerRecord d 0x2001 o.code iFound d.fb.pin) 2
    s.entries.foldl (fun d e => finishNow d e st (iFound % 65536 + (d.fb.pin <<< 16))) d

/-- The search ends early, I_FOUND unchanged (R283). -/
def stopSearch (d : Dev) (st : Status) : Dev := endSearch d .early d.chg.iFound st

/-- Test current of a step, 10 mA (R267). -/
def testCurrent (k : Nat) : Nat := 100 + 50 * k

/-! ### Entry to a mode (R266, R277, R279, R283) -/

/-- What the charger does on entry to a mode; `frm` is the mode left. -/
def chargerMode (d : Dev) (frm m : Mode) : Dev :=
  let d := match d.chg.search with
    | none => d
    | some _ => stopSearch d (if m == .safe || m == .drone then .abortedSafe else if m == .shutdown || m == .off then .preempted else .partialDone)
  let d :=
    if frm == .ride && (m == .run || m == .hold) then
      let drawn := (d.mm.rideE - d.chg.ep) / 1000
      let d := chargerRecord d 0x2011 ((d.clk.tick - d.mm.rideStart) / 1000) drawn 0
      if d.chg.st == .absent then d else { d with chg := { d.chg with st := .disabled } }
    else d
  if m == .ride then
    let d := { d with mm := { d.mm with rideStart := d.clk.tick, rideE := d.chg.ep } }
    let d := chargerRecord d 0x2010 d.chg.rideLevel (d.chg.ep / 1000) (cellMv d)
    if d.chg.st == .absent then d else setCharger d .rideBoost
  else if cycleMode m then followCharger d
  else if d.chg.st == .absent then packOff d
  else packOff { d with chg := { d.chg with st := .disabled } }

end Sys2Proof.Machine
end

