-- ==== Sys2Proof/Machine/Modes.lean ====
section
/-!
DEFINITION. Entry to a mode: what R34, R55, R59, R266, R288, R301 and R309 attach to it, and the reset of a power domain (R4, R30).
-/
set_option Elab.async false
namespace Sys2Proof.Machine

/-! ### Power domains -/

/-- The HRST_N output (R249). -/
def hrst (d : Dev) : Bool := d.pins.hrstMode || d.pins.hrstTimed || d.pins.nmr

/-- Change the asserts of HRST_N; the output is issued on an edge (R249). -/
def setHrst (d : Dev) (f : Pins → Pins) : Dev :=
  let e := { d with pins := f d.pins }
  if hrst d = hrst e then e else emit e (.hrst (hrst e))

/-- FLT_EVENT and the injection end when MGMT resets (R312). -/
def resetMgmtFault (c : Collector) : Collector :=
  { c with srcs := c.srcs.set {} (srcIndex 0x1001) {}, selChecker := 0, selInst := 0, selBits := 1, selObserve := false, checker := 0, inst := 0, bits := 1, observe := false, pending := false, refused := false, cancelled := false, resCode := 0, resReaction := 0, resObserved := false, resReal := false }

/-- The units of a domain take their reset values (R4, R30; the reset clause of each register table). A word of the OTP that is being programmed when
MGMT resets completes, or is cut with AON (R353). -/
def clearUnits (d : Dev) (x : Domain) : Dev :=
  match x with
  | .aon => { d with waiting := [], mm := {}, flt := {}, rcd := { log := d.rcd.log, bad := d.rcd.bad, next := d.rcd.next, full := d.rcd.full, fullWritten := d.rcd.fullWritten, nvCycle := d.rcd.nvCycle, nvSeconds := d.rcd.nvSeconds }, seq := {}, jr := { nv := d.jr.nv, image := d.jr.image }, wd := {}, clk := { tick := d.clk.tick, mgmt := d.clk.mgmt, mgmtAt := d.clk.mgmtAt, free := d.clk.free + 1 }, chg := {}, mp := {}, otp := { normal := (cutProgram d).normal, tight := (cutProgram d).tight, programmed := d.otp.programmed } }
  | .mgmt => { d with int := { was := d.int.was }, tmr := List.replicate 8 {}, flt := resetMgmtFault d.flt, wd := { openAt := d.wd.openAt, closeAt := d.wd.closeAt, setup := d.wd.setup, on := d.wd.on }, otp := { d.otp with keyOne := false, enable := false, stopAfter := d.otp.cmd.isSome, result := 0, reason := 0, ignored := false, word := 0, bootImage := 0, bootSlot := 0, bootRollback := 0, rejectA := 0, rejectB := 0, bootVersion := 0, flashBusy := false, flashCmd := 0, flashDenied := false, buffer := List.replicate 64 0 }, mp := { ordinary := d.mp.ordinary, urgent := d.mp.urgent, address := d.mp.address }, pwr := { d.pwr with keyReg := 0, coreHalted := false, lateCount := 0, lastPath := 0, tempControl := 0, tempPower := 0 }, cfg := { d.cfg with commits := d.cfg.commits.filter (fun c => c.entry.isSome), result := 0, refused := false, failOffset := 0 }, seq := { d.seq with peers := List.replicate 4 {}, cmdValid := false, noToken := 0, tokenLock := false, dischTimeouts := 0 } }
  | .host => { endCapture d 4 with pci := {}, ring := {}, cap := {}, capQueue := {} }
  | .sched => { d with fb := {}, jr := { d.jr with secondary := [] }, cfg := { d.cfg with fretHigh := 0 }, seq := { d.seq with tokenSeen := false } }
  | .fasta => resetRegions d 0
  | .fastb => resetRegions d 2
  | .links => d
  | .aux => { d with chg := { timedOut := d.chg.timedOut, calibrated := d.chg.calibrated, iFound := d.chg.iFound, ep := d.chg.ep, epStale := d.chg.epStale } }

/-- A domain loses its supply: its units and its registers take their reset values. -/
def resetDomain (d : Dev) (x : Domain) : Dev := resetRegs (clearUnits d x) x

/-- Close a domain's switch: its units start at their reset values (R4); a locked watchdog begins in waiting (R337), and the port
samples its straps (R380). -/
def closeDomain (d : Dev) (x : Domain) : Dev :=
  let d := { d with pwr := { d.pwr with on := d.pwr.on ||| (1#8 <<< x.bit) } }
  if x == .mgmt then { d with mp := { d.mp with address := 0x40 + d.pins.mpa.toNat }, wd := { d.wd with waiting := d.wd.on }, pwr := { d.pwr with lastBlockC := d.clk.tick, lastBlockP := d.clk.tick, resendC := false, resendP := false } } else d

/-- A domain's supply is power-good (R59). -/
def domainGood (d : Dev) (x : Domain) : Dev :=
  { d with pwr := { d.pwr with pgood := d.pwr.pgood ||| (1#8 <<< x.bit) } }

/-- Open a domain's switch: its content is lost. -/
def openDomain (d : Dev) (x : Domain) : Dev :=
  let d := if bit d.pwr.on x.bit then resetDomain d x else d
  { d with pwr := { d.pwr with on := d.pwr.on &&& ~~~(1#8 <<< x.bit), pgood := d.pwr.pgood &&& ~~~(1#8 <<< x.bit) } }

/-- Open every domain but AON. -/
def openAll (d : Dev) : Dev :=
  [Domain.fastb, .fasta, .links, .host, .sched, .mgmt, .aux].foldl openDomain d

/-- All supply is lost, VHOLD included: OFF, and no record marks it (R39, R116). HRST_N reads low (R249). -/
def goOff (d : Dev) : Dev :=
  let d := resetDomain (openAll d) .aon
  { d with pwr := { packPath := d.pwr.packPath }, pins := { d.pins with pressed := false, longDone := false, hrstMode := true, hrstTimed := false } }

/-! ### Accepted work (R55) -/

/-- Timed work other than reservations: its entry is SCHEDULED (R110). -/
def isTimed (x : Entry) : Bool := x.st == .scheduled

/-- DETAIL of a PROFILE's end (R104). -/
def profDetail (x : Entry) : Nat := match x.limited with | some i => i | none => 0xFF

/-- Drop what a timed descriptor still had to do: its PROFILE, its commit, its capture fret. -/
def dropTimed (d : Dev) (e : Nat) : Dev :=
  let d := { d with str := d.str.map (fun (u : StringUnit) => match u.prof with | some p => if p.entry == e then { u with prof := none } else u | none => u) }
  let d := { d with cfg := { d.cfg with commits := d.cfg.commits.filter (fun c => c.entry != some e) } }
  if d.cap.startEntry = some e then { d with cap := { d.cap with startEntry := none, st := if d.cap.st == .awaiting then .idle else d.cap.st, startFret := 0 } } else d

/-- End one piece of timed work early with a status at a fret. -/
def endTimed (d : Dev) (x : Entry) (st : Status) (effect : Nat) : Dev :=
  let d := dropTimed d x.idx
  finish d x.idx st effect (match classOf x.image with | .profile => if st = .ok ∨ st = .partialDone then profDetail x else 0 | _ => 0)

/-- All timed work ends on entry to SAFE, DRONE, SHUTDOWN or OFF (R55): reservations and re-plan, then the rest in journal order. -/
def endAllTimed (d : Dev) (st : Status) : Dev :=
  let d := endFingerboard d st
  ((entries d).filter isTimed).foldl (fun d x => endTimed d x st d.clk.fret) d

/-- Accepted work that has not executed completes PREEMPTED in SHUTDOWN, MODE requests apart; a status fixed at acceptance stands (R55, R110). -/
def preemptAccepted (d : Dev) : Dev :=
  ((entries d).filter (fun x => x.st == .accepted && !(x.fixed.isNone && classOf x.image == .mode))).foldl (fun d x =>
    match x.fixed with
    | some (st, detail) => finishNow d x.idx st detail
    | none => finishNow d x.idx .preempted 0) d

/-- A host transition that waits for its boundary is overtaken by a mode entered from `frm` (R55, log 59). -/
def endPending (d : Dev) (st : Status) (frm : Mode) : Dev :=
  match d.mm.pend with
  | none => d
  | some p => finishNow { d with mm := { d.mm with pend := none } } p.entry st (if st == .preempted then modeDetail frm d.mm.mode else 0)

/-! ### Entry to a mode (R33–R60) -/

/-- Every external string takes its safe state; SAFETY strings that regulate keep on in DRONE (R288, R301). -/
def allSafe (d : Dev) (keepSafety : Bool) : Dev :=
  foldN 64 (fun d k => if keepSafety && isSafety d k then d else safeString d k) d

/-- SAFETY strings in DRONE: no allotment binds them, the draw ceiling is the capo in force, no return (R301). -/
def droneAllot (d : Dev) : Dev :=
  foldN 64 (fun d k =>
    let u := strU d k
    if isSafety d k && u.st.enabled then
      let i := ampsAt u.capo (stringVolts d k)
      updStr d k (fun u => { u with prof := none, next := none, overClamp := false, overUntil := none, allot := { u.allot with iDraw := i, iReturn := 0, iLimit := i, draw := true, ret := false, idle := false, clamped := false } })
    else d) d

/-- DRONE entered on the loss of the control die (R119, R120, R302): the SAFETY strings that regulate are remembered and
every string stops; accepted work waits in the journal for the rebuild. -/
def lostDrone (d : Dev) : Dev :=
  let keep := (List.range 64).filter (fun k => isSafety d k && (strU d k).st.enabled)
  let d := { d with pwr := { d.pwr with droneSafety := keep, lostFret := d.clk.fret }, mm := { d.mm with pend := none } }
  foldN 64 (fun d k => let e := safeString d k; if (strU e k).st == .safeDischarge then restPhases e k else e) d

/-- An injection that waits is cancelled by a mode change (R309). -/
def cancelInjection (d : Dev) : Dev :=
  if d.flt.pending then { d with flt := { d.flt with pending := false, cancelled := true } } else d

/-- Some CRITICAL status is set (R298). -/
def criticalSet (d : Dev) : Bool :=
  d.flt.srcs.any (fun e => e.2.status && (match srcInfo (srcCode e.1) with | some i => i.severity == 3 | none => false))

/-- nALIVE toggles in these modes (R298). -/
def naliveMode (m : Mode) : Bool :=
  m == .config || m == .armed || m == .run || m == .hold || m == .ride || m == .drone || m == .safe || m == .replay

/-- nALIVE is frozen by a CRITICAL status or by the test; it takes no edge then (R299, R300). -/
def followNalive (d : Dev) : Dev :=
  let stop := criticalSet d || d.flt.naliveTest
  if !naliveMode d.mm.mode then
    let e := { d with flt := { d.flt with naliveLevel := false, naliveFrozen := stop } }
    if d.flt.naliveLevel then emit e (.nalive false) else e
  else { d with flt := { d.flt with naliveFrozen := stop } }

/-- Links at a mode change (R224, R228): all used links train on entry to CONFIG; on DRONE to SAFE those that were silent. -/
def linksMode (old d : Dev) (frm m : Mode) : Dev :=
  if m == .config then trainLinks d (List.range 16)
  else if frm == .drone && m == .safe then trainLinks d ((List.range 16).filter (fun k => !linkSends old k))
  else d

/-- Registers of the mode change (R59): MODE and TARGET, cause, event; the record of R358, but not for the HOLD of R58. -/
def noteMode (d : Dev) (m : Mode) (c : Cause) (detail : Nat) (rec' : Bool) : Dev :=
  let frm := d.mm.mode
  let d := setModeEvent { d with mm := { d.mm with mode := m, target := m, causeFrom := frm, causeTo := m, cause := c, causeDetail := detail, changedAt := some d.clk.tick } } 0
  let d := emitFast d (.mode frm.code m.code c.code)
  let d := if rec' then record d 0x0001 srcModes false (frm.code + (m.code <<< 4)) c.code detail (fretLow d) else d
  let d := cancelInjection { d with flt := { d.flt with naliveTest := false } }
  followNalive (if frm == .config then { d with otp := { d.otp with enable := false, keyOne := false, stopAfter := d.otp.cmd.isSome } } else d)

/-- REPLAY is left (R375): for CONFIG the replay state is discarded, the fingerboard cleared and every string unit disabled;
for any other mode the replay ends with result 2. -/
def leaveReplay (d : Dev) (m : Mode) : Dev :=
  if d.mm.mode != .replay || m == .replay then d
  else if m == .config then
    let d := { d with cap := { d.cap with rst := .idle }, fb := { d.fb with bankA := [], bankB := [], epoch := [], resv := [], planLive := [], planShadow := [], replan := none } }
    statusLine { d with str := d.str.map (fun (u : StringUnit) => if u.st.enabled || u.st == .safeDischarge || u.st == .safeOff then { u with st := .disabled } else u) }
  else replayEnd d 2

/-- Entry to a mode (R39, R55). The mode registers change first, so that every later effect is judged in the new mode. -/
def enterModeWith (d : Dev) (m : Mode) (c : Cause) (detail : Nat) (rec' : Bool) : Dev :=
  let d := leaveReplay d m
  let frm := d.mm.mode
  let old := d
  let d := noteMode d m c detail rec'
  let d := linksMode old d frm m
  let d := if m == .ride || frm == .ride then recomputePin d else d
  match m with
  | .safe =>
    let d := allSafe (endPending d .abortedSafe frm) false
    endAllTimed (chargerMode d frm m) .abortedSafe
  | .drone =>
    if d.pwr.ctlLost then lostDrone (chargerMode d frm m)
    else dropDischarges (droneAllot (endAllTimed (chargerMode (allSafe (endPending d .abortedSafe frm) true) frm m) .abortedSafe))
  | .shutdown =>
    let d := endPending d .preempted frm
    let d := endAllTimed (chargerMode d frm m) .preempted
    let d := preemptAccepted d
    { d with rcd := { d.rcd with want := true } }
  | .ride => chargerMode { d with mm := { d.mm with rideFret := some (d.clk.fret + 2), rideDue := none } } frm m
  | .armed => chargerMode (if frm == .run then clearPlans d d.clk.fret else d) frm m
  | .cold =>
    let d := setHrst d (fun p => { p with hrstMode := true })
    let d := openAll (chargerMode d frm m)
    { d with pwr := { d.pwr with ctlLost := false, pwrLost := false, droneSafety := [] } }
  | .off => goOff d
  | .boot => setHrst d (fun p => { p with hrstMode := true })
  | _ => chargerMode d frm m

/-- Entry to a mode with its record. -/
def enterMode (d : Dev) (m : Mode) (c : Cause) (detail : Nat) : Dev := enterModeWith d m c detail true

/-! ### Which transitions a MODE request may name (R36, R39, R40, R254, R255) -/

/-- A status with TAKEN at or above a reaction is set (R303, R312). -/
def takenAtLeast (d : Dev) (r : Reaction) : Bool :=
  d.flt.srcs.any (fun e => e.2.status && decide (r.code ≤ e.2.taken.code))

/-- A status with TAKEN = DRONE is set (R312). -/
def droneTaken (d : Dev) : Bool := d.flt.srcs.any (fun e => e.2.status && e.2.taken == .drone)

/-- A string power-down is under way: its target is CONFIG, or SEQUENCE down steps (R52). -/
def poweringDown (d : Dev) : Bool :=
  match d.seq.run with
  | some r => r.kind == .disarm || r.kind == .shutdown || r.kind == .seqDown
  | none => false

/-- A power-up is under way (R49). -/
def poweringUp (d : Dev) : Bool :=
  match d.seq.run with
  | some r => (r.kind == .boot || r.kind == .arm || r.kind == .seqUp) && r.phase != .unwind
  | none => false

/-- The host transitions of R39 from a settled mode, SAFE, SHUTDOWN and OFF apart. -/
def permitted (d : Dev) (m : Mode) : Bool :=
  match d.mm.mode, m with
  | .config, .armed => !follower d
  | .config, .replay => decide (sysCount d = 0)
  | .armed, .run => true
  | .armed, .config => !follower d
  | .armed, .hold => true
  | .run, .hold => true
  | .run, .armed => !resvToCome d
  | .hold, .run => d.mm.inputPresent
  | .hold, .armed => !resvToCome d
  | .ride, .run => d.mm.inputPresent
  | .ride, .hold => d.mm.inputPresent
  | .replay, .config => true
  | .config, .drone => true
  | .armed, .drone => true
  | .run, .drone => true
  | .hold, .drone => true
  | .ride, .drone => true
  | .safe, .drone => true
  | .replay, .drone => true
  | .drone, .safe => !droneTaken d
  | .safe, .config => !takenAtLeast d .regionSafe
  | .config, .safe => true
  | .armed, .safe => true
  | .run, .safe => true
  | .hold, .safe => true
  | .ride, .safe => true
  | .replay, .safe => true
  | _, _ => false

/-- A request's cause and DETAIL of ID_MODE_CAUSE: its ring, or the port (R59). -/
def requestCause (x : Entry) : Cause × Nat := if x.ring = 32 then (.hostPort, 0x00FF) else (.hostRing, x.ring)

/-- IN_TRANSITION (R59): a transition, power-up, power-down or unwind is in progress. -/
def inTransition (d : Dev) : Bool :=
  d.seq.run.isSome || d.mm.target != d.mm.mode || d.mm.pend.isSome || d.mm.after.isSome

end Sys2Proof.Machine
end

