-- ==== Sys2Proof/Machine/Runs.lean ====
section
/-!
DEFINITION. The sequencer's runs: step tables, up and down steps, unwinding, boot, shutdown, and the system runs of several packages (R233–R258, R49–R57).
-/
set_option Elab.async false
namespace Sys2Proof.Machine

/-! ### Step tables (R240) -/

/-- The words of a step: boot 1, up 2, down 3. -/
def stepWord (d : Dev) (table n : Nat) : Word :=
  match table with
  | 1 => bootStep d n
  | 2 => inForce d (0x3900 + 0x10 * n)
  | _ => inForce d (0x3A00 + 0x10 * n)

def stepUsed (d : Dev) (table n : Nat) : Bool :=
  if table = 1 then bit (stepWord d table n) 25 else bit (stepWord d table n) 0
def stepStrict (d : Dev) (table n : Nat) : Bool :=
  if table = 1 then bit (stepWord d table n) 24 else table == 3 && bit (stepWord d table n) 1
/-- DELAY and TIMEOUT, ms. -/
def stepDelay (d : Dev) (table n : Nat) : Nat := fld (stepWord d table n) 8 8
def stepTimeoutMs (d : Dev) (table n : Nat) : Nat := fld (stepWord d table n) 16 8

/-- GROUP_SIZE and VOUT of a rail group (R234). -/
def railSize (d : Dev) (r : Nat) : Nat := fld (railConfigImage d r) 10 3
def railVout (d : Dev) (r : Nat) : Nat := rsF d (0x3800 + 0x10 * r) 0 10

/-- The items of a step; only a used step names any (R244). -/
def stepItems (d : Dev) (table n : Nat) : List Item :=
  if !stepUsed d table n then []
  else if table = 1 then ((List.range 8).filter (fun r => bit (bootStep d n) r && decide (railSize d r ≠ 0))).map Item.rail
  else
    let b := (if table = 2 then 0x3900 else 0x3A00) + 0x10 * n
    ((List.range 64).filter (fun k => if k < 32 then bit (inForce d (b + 4)) k else bit (inForce d (b + 8)) (k - 32))).map Item.string

/-! ### Items (R238–R242) -/

def railU (d : Dev) (r : Nat) : Rail := at' {} d.seq.rails r
def updRail (d : Dev) (r : Nat) (f : Rail → Rail) : Dev := { d with seq := { d.seq with rails := upd d.seq.rails r f } }

/-- Enable an item; one that is enabled already keeps its state (R241). -/
def itemEnable (d : Dev) : Item → Dev
  | .rail r => if (railU d r).enabled then d else updRail d r (fun u => { u with enabled := true, pgood := false, uvArmed := false, levels := 0 })
  | .string k => enableString d k

/-- Power-good of an item (R238). -/
def itemGood (d : Dev) : Item → Bool
  | .rail r => (railU d r).enabled && (railU d r).pgood
  | .string k => (strU d k).st.enabled && (strU d k).pgood

/-- Command an item down (R242). -/
def itemDown (d : Dev) : Item → Dev
  | .rail r => updRail d r (fun u => { u with enabled := false, pgood := false, uvArmed := false, levels := 0 })
  | .string k => safeString d k

/-- The reference of a string in a down step, 10 mV: V_DEFAULT for a STORE string, else V_RAMP at the entry to its safe state (R242). A string
that has not been enabled since its reset has none, and V_DEFAULT stands for it (log 60). -/
def downReference (d : Dev) (k : Nat) : Nat :=
  if kindOf d k = .store ∨ (strU d k).downRef = 0 then vDefault d k else (strU d k).downRef

/-- A rail group is disabled and below 10 % of VOUT (R242). -/
def railLow (d : Dev) (r : Nat) : Bool := !(railU d r).enabled && decide ((railU d r).vMeas * 10 < railVout d r || railVout d r = 0)

/-- An item is down and below 10 % of its reference (R242). -/
def itemLow (d : Dev) : Item → Bool
  | .rail r => railLow d r
  | .string k => !(strU d k).st.enabled && decide ((strU d k).vMeas * 10 < (downReference d k : Rat))

/-- An item of an unwind is down and below 10 % of its target (R51). -/
def itemUnwound (d : Dev) : Item → Bool
  | .rail r => railLow d r
  | .string k => !(strU d k).st.enabled && below10 d k

/-- An item's number for a record or fault parameter. -/
def Item.num : Item → Nat
  | .rail r => r
  | .string k => k

/-- The down step that names an item, with its table (R51). -/
def downStepOf (d : Dev) (i : Item) : Option (Nat × Nat) :=
  let t := match i with | .rail _ => 1 | .string _ => 3
  let n := match i with | .rail _ => 8 | .string _ => 16
  ((List.range n).find? (fun s => (stepItems d t s).contains i)).map (fun s => (t, s))

/-- An item's own discharge timeout in an unwind, ms (R51). -/
def unwindMs (d : Dev) (i : Item) : Nat :=
  match downStepOf d i with | some (t, s) => stepTimeoutMs d t s | none => 255

/-- The table and step of R258's first parameter. -/
def stepParam (table step : Nat) : Nat := table + (step <<< 8)

/-- A sequencer record (R258). -/
def seqRecord (d : Dev) (code table step : Nat) : Dev := recordN d code srcSeq [stepParam table step]

/-- A DISCHARGE_TIMEOUT (R242, R259): record, event and counts. -/
def dischargeRecord (d : Dev) (table step : Nat) : Dev :=
  setSeqEvent (seqRecord { d with seq := { d.seq with dischTimeouts := sat 255 (d.seq.dischTimeouts + 1) } } 0x3001 table step) 10

/-! ### Runs -/

/-- The table and step of a run, 0 and 0 in the closing step and while domains close or open (R258, R259). -/
def runPlace (r : Run) : Nat × Nat :=
  match r.phase with
  | .domainUp _ => (0, 0)
  | .verify => (0, 0)
  | .closing => (0, 0)
  | .domainDown _ => (0, 0)
  | _ => (r.table, r.step)

def setRun (d : Dev) (r : Run) : Dev := { d with seq := { d.seq with run := some r } }
def clearRun (d : Dev) : Dev := { d with seq := { d.seq with run := none, cmdValid := false } }

/-- Runs that every package of a system makes together (R253). -/
def RunKind.system : RunKind → Bool
  | .boot => true | .arm => true | .disarm => true | .shutdown => true | _ => false

/-- Peers within COUNT (R250, R252). -/
def systemPeers (d : Dev) : List Nat := (List.range 4).filter (fun j => decide (j ≤ sysCount d ∧ j ≠ d.pins.index.toNat))
def peerU (d : Dev) (j : Nat) : Peer := at' {} d.seq.peers j

/-- Every follower's DONE for the step under command is in (R253). -/
def peersDone (d : Dev) : Bool :=
  (systemPeers d).all (fun j =>
    let b := (peerU d j).block
    b.done && b.resNumber == d.seq.cmdNumber && b.resStep == d.seq.cmdStep && b.resTable == d.seq.cmdTable)

/-- The block that this package sends (R250). -/
def ownBlock (d : Dev) : PeerBlock :=
  let f := follower d
  { safe := d.mm.mode == .safe || d.mm.mode == .drone, drone := d.mm.mode == .drone, master := d.pins.master, fwdDown := f && d.seq.fwdDown, fwdOff := f && d.seq.fwdOff, index := d.pins.index.toNat, count := sysCount d, mode := d.mm.mode.code, cmdStep := if f then 0 else d.seq.cmdStep, cmdTable := if f then 0 else d.seq.cmdTable, cmdUnwind := !f && d.seq.cmdUnwind, cmdValid := !f && d.seq.cmdValid, cmdNumber := if f then 0 else d.seq.cmdNumber, resStep := if f then d.seq.resStep else 0, resTable := if f then d.seq.resTable else 0, fail := f && d.seq.resFail, done := f && d.seq.resDone, resNumber := if f then d.seq.resNumber else 0, share := rsF d 0x38C0 0 10, fret := if d.pins.master then d.clk.fret else 0 }

/-- The 32 payload bytes of a sympathetic block (R250). -/
def peerPayload (b : PeerBlock) : List Nat :=
  [b2n b.safe + (b2n b.drone <<< 1) + (b2n b.master <<< 2) + (b2n b.fwdDown <<< 3) + (b2n b.fwdOff <<< 4),
    b.index % 4 + ((b.count % 4) <<< 2) + ((b.mode % 16) <<< 4),
    b.cmdStep % 16 + ((b.cmdTable % 4) <<< 4) + (b2n b.cmdUnwind <<< 6) + (b2n b.cmdValid <<< 7), b.cmdNumber % 256,
    b.resStep % 16 + ((b.resTable % 4) <<< 4) + (b2n b.fail <<< 6) + (b2n b.done <<< 7), b.resNumber % 256]
  ++ leBytes 2 b.share ++ leBytes 6 b.fret ++ List.replicate 18 0

/-- A sympathetic block as it leaves in a tick: SLOT 0, TYPE 0 (R207, R250). -/
def peerOut (j tick : Nat) (b : PeerBlock) : Out :=
  .peerBlock j (header 0 tick 0) (peerPayload b) (crc16 (header 0 tick 0 :: peerPayload b))

/-- One tick of the sympathetic links (R250, R252): a missing block is counted, and this package's block is sent to each peer. -/
def peerTick (d : Dev) : Dev :=
  if d.mm.mode == .off || d.pwr.ctlLost then d
  else (systemPeers d).foldl (fun d j =>
    let p := peerU d j
    let p := if p.st != 0 && p.seen != d.clk.tick + 1 then { p with lost := sat 65535 (p.lost + 1), goodRun := 0 } else p
    emit { d with seq := { d.seq with peers := upd d.seq.peers j (fun _ => p) } } (peerOut j d.clk.tick (ownBlock d))) d

/-- DETAIL of a SEQUENCE (R104). -/
def sequenceDetail (r : Run) (timeouts : Nat) : Nat :=
  (match r.done with | some s => s + 16 | none => 0) + (min 15 timeouts <<< 8)

/-- The request that commanded a run completes (R104): a transition with the fret at whose boundary it took effect (R41). -/
def endRequest (d : Dev) (r : Run) (st : Status) (frm dest : Mode) : Dev :=
  match r.entry with
  | none => d
  | some e =>
    match r.kind with
    | .seqUp => finishNow d e st (if st = .abortedSafe then 0 else sequenceDetail r (if st = .partialDone then 0 else r.timeouts))
    | .seqDown => finishNow d e st (if st = .abortedSafe then 0 else sequenceDetail r r.timeouts)
    | _ => finish d e st (if st = .ok then r.fret else d.clk.fret) (if st = .modeRefused ∨ st = .abortedSafe then 0 else modeDetail frm dest)

/-- A run is stopped where it stands, for a mode that follows; its request ends with a status (R53, R288, log 59). -/
def stopRun (d : Dev) (st : Status) (dest : Mode) : Dev :=
  match d.seq.run with
  | none => d
  | some r => endRequest { clearRun d with mm := { d.mm with target := d.mm.mode } } r st d.mm.mode dest

/-- The command of a system step that the master sends (R250, R253). -/
def sendCommand (d : Dev) (table step : Nat) : Dev :=
  { d with seq := { d.seq with cmdNumber := (d.seq.cmdNumber + 1) % 256, cmdStep := step, cmdTable := table, cmdUnwind := false, cmdValid := true, cmdAt := d.clk.tick } }

/-- A follower reports a step (R250). -/
def report (d : Dev) (fail done : Bool) : Dev :=
  if follower d then { d with seq := { d.seq with resFail := fail, resDone := done } } else d

/-! ### Entry to CONFIG (R118) -/

/-- Timed work by its body: RESERVE, PROFILE, SETPOINT, REPLAN, and a CONFIG_COMMIT or CAPTURE with a fret (R110). -/
def timedImage (i : Image) : Bool :=
  match classOf i with
  | .reserve => true | .profile => true | .setpoint => true | .replan => true
  | .commit => leAt i 8 6 != 0
  | .capStart => leAt i 10 6 != 0
  | .capFreeze => leAt i 10 6 != 0
  | .capStop => leAt i 10 6 != 0
  | _ => false

/-- Count an entry completed MISSED_OUTAGE, and one returned to ACCEPTED (R127). -/
def countMissed (d : Dev) : Dev := { d with jr := { d.jr with missed := sat 8191 (d.jr.missed + 1) } }
def countAgain (d : Dev) : Dev := { d with jr := { d.jr with reexec := sat 8191 (d.jr.reexec + 1) } }

/-- A restored or rebuilt entry with an intent record alone is ACCEPTED again (R118, R120, R121). -/
def acceptAgain (d : Dev) (e : Nat) : Dev := updEntry (countAgain d) e (fun y => { y with st := .accepted, intent := false, commit := false, deferred := false })

/-- One restored entry; every fret that retained work names counts as passed (R118). The effect fret of a completion fixed here is the fret of
the entry to CONFIG (log 57). -/
def restoreEntry (d : Dev) (x : Entry) : Dev :=
  let d := updEntry d x.idx (fun y => { y with endFret := 0, restored := false })
  match x.st with
  | .done => if x.cpls.isEmpty then dropEntry d x.idx else d
  | .committed => finishNow d x.idx .ok (modeDetail x.fromMode .shutdown)
  | .writing => dropEntry d x.idx
  | .scheduled => finishNow (countMissed d) x.idx .missedOutage 0
  | _ =>
    match x.fixed with
    | some (st, detail) => finishNow d x.idx st detail
    | none =>
      if timedImage x.image then finishNow (countMissed d) x.idx .missedOutage 0
      else if x.st = .intent then acceptAgain d x.idx
      else d

/-- Load the secondary copy on entry to CONFIG and treat the restored entries in journal order (R118). -/
def restoreEntries (d : Dev) : Dev :=
  let d := { d with jr := { d.jr with secondary := d.jr.primary } }
  if !d.jr.needRestore then d
  else
    let d := { d with jr := { d.jr with needRestore := false, missed := 0, reexec := 0 } }
    (d.jr.primary.filter (fun x => x.restored)).foldl restoreEntry d

/-! ### The end of a power-down (R47, R54, R57) -/

/-- COLD after a SHUTDOWN or an unwound power-up, with the minimum off time (R47). -/
def enterCold (d : Dev) (c : Cause) (detail : Nat) : Dev :=
  let d := enterMode (clearRun d) .cold c detail
  { d with mm := { d.mm with offUntil := some (d.clk.tick + 200000), safeAfterBoot := none, after := none }, seq := { d.seq with fwdDown := false, fwdOff := false } }

/-- The last power-down step is done (R39, R54, R57). After OFF the pack path is open; with VIN absent SUPPLY_FREEZE follows (R116, log 23). -/
def endShutdown (d : Dev) : Dev :=
  let off := d.mm.offPath
  let d := match d.mm.retInfo with
    | none => enterCold d .shutdownDone 0
    | some q =>
      let d := enterCold d .inputReturned 0
      record { d with mm := { d.mm with retInfo := none } } 0x0021 srcModes false q.vin q.step 0 (q.fret % 2 ^ 32)
  let d := { d with mm := { d.mm with offPath := false, downEntries := [] } }
  if !off then d
  else
    { d with pwr := { d.pwr with packPath := false } }

/-! ### Domains (R243) -/

/-- The domains that BOOT closes: stage 0 is MGMT and AUX, then SCHED, HOST, LINKS, FASTA, FASTB. -/
def bootStage : Nat → List Domain
  | 0 => [.mgmt, .aux] | 1 => [.sched] | 2 => [.host] | 3 => [.links] | 4 => [.fasta] | _ => [.fastb]

/-- The power-down order. -/
def downStage : Nat → Domain
  | 0 => .fastb | 1 => .fasta | 2 => .links | 3 => .host | 4 => .sched | 5 => .mgmt | _ => .aux

/-- Close the domains of a stage, each to be good within 1 ms. -/
def closeStage (d : Dev) (r : Run) (i : Nat) : Dev :=
  setRun ((bootStage i).foldl closeDomain d) { r with phase := .domainUp i, items := [], deadline := d.clk.tick + 1000 }

/-- Open the next domain; at HOST a capture ends, the SHUTDOWN requests complete and HRST_N is asserted (R56, R243, R249, R369). -/
def openStage (d : Dev) (r : Run) (i : Nat) : Dev :=
  let d := if i = 3 then
      let d := endCapture d 3
      let d := d.mm.downEntries.foldl (fun d e => finishNow d e .ok (modeDetail (match entryOf d e with | some x => x.fromMode | none => .shutdown) .shutdown)) d
      setHrst { d with mm := { d.mm with downEntries := [] } } (fun p => { p with hrstMode := true })
    else d
  setRun (openDomain d (downStage i)) { r with phase := .domainDown (i + 1), items := [], deadline := d.clk.tick }

/-! ### Steps (R241, R242) -/

/-- The order of the steps of a run: the next step after `n` in a table, or none. -/
def nextStepNo (k : RunKind) (table n last : Nat) : Option Nat :=
  if k == .shutdown && table == 1 then (if n = 0 then none else some (n - 1))
  else if n < last then some (n + 1) else none

/-- The closing step (R243): every string still enabled, the PACK string apart. -/
def closingItems (d : Dev) : List Item :=
  ((List.range 64).filter (fun k => (strU d k).st.enabled && kindOf d k != .pack)).map Item.string

/-- Start the closing step: a normal down step with a timeout of 255 ms and no DELAY. -/
def startClosing (d : Dev) (r : Run) : Dev :=
  let is := closingItems d
  setRun (is.foldl itemDown d) { r with phase := .closing, items := is, deadline := d.clk.tick + 255000 }

/-- A run of several packages in which this package follows (R46, R253). -/
def follows (d : Dev) (r : Run) : Bool := follower d && r.kind.system

/-- The step's items are up, or down: DELAY begins (R241, R242), and a follower reports DONE (R250, R253). -/
def stepDone (d : Dev) (r : Run) : Dev :=
  let d := if follows d r then report d false true else d
  setRun d { r with phase := .delay, deadline := d.clk.tick + 1000 * (if stepUsed d r.table r.step then stepDelay d r.table r.step else 0) }

/-- Start one step of a run; an unused step passes at once (R240–R242). -/
def startStep (d : Dev) (r : Run) (n : Nat) : Dev :=
  let t := d.clk.tick
  let sys := sysMaster d && r.kind.system
  let d := if sys then sendCommand d r.table n else d
  let is := stepItems d r.table n
  let r := { r with step := n, waitPeers := sys, items := is }
  let up := r.table == 2 || (r.table == 1 && r.kind == .boot)
  if !stepUsed d r.table n then stepDone d r
  else if up then
    let fresh := is.filter (fun i => match i with | .rail q => !(railU d q).enabled | .string k => !(strU d k).st.enabled)
    let d := is.foldl itemEnable d
    let on := fresh.filter (fun i => match i with | .rail q => (railU d q).enabled | .string k => (strU d k).st.enabled)
    let r := { r with enabled := if on.isEmpty then r.enabled else on :: r.enabled }
    if is.all (itemGood d) then stepDone d r
    else setRun d { r with phase := .upWait, deadline := t + 1000 * stepTimeoutMs d r.table n }
  else
    let d := is.foldl itemDown d
    if is.all (itemLow d) then stepDone d r
    else setRun d { r with phase := .downWait, deadline := t + 1000 * stepTimeoutMs d r.table n }

/-- Start a step, passing over unused steps, which take no time (R240); a master's step waits for its followers. -/
def startFrom (d : Dev) (r : Run) (last : Nat) : Nat → Nat → Dev
  | 0, n => startStep d r n
  | k + 1, n =>
    if stepUsed d r.table n || (sysMaster d && r.kind.system) then startStep d r n
    else
      let r := { r with done := some n }
      match nextStepNo r.kind r.table n last with
      | some n' => startFrom d r last k n'
      | none => setRun d { r with step := n, phase := .delay, items := [], deadline := d.clk.tick, waitPeers := false }

/-- The end of the last step of a table (R243). -/
def endTable (d : Dev) (r : Run) : Dev :=
  match r.kind with
  | .boot => closeStage d r 0
  | .arm =>
    let d := clearRun d
    let c := match r.entry with | some e => (match entryOf d e with | some x => requestCause x | none => (.master, 0)) | none => (.master, 0)
    endRequest (enterMode d .armed c.1 c.2) r .ok .config .armed
  | .disarm => startClosing d r
  | .shutdown => if r.table = 3 then startClosing d r else endShutdown d
  | .seqUp => endRequest (clearRun d) r .ok d.mm.mode d.mm.mode
  | .seqDown => endRequest (clearRun d) r .ok d.mm.mode d.mm.mode

/-- A step and its DELAY are done: the next one follows, or the table ends; a follower waits for its next command (R253). -/
def afterStep (d : Dev) (r : Run) : Dev :=
  let r := { r with done := some r.step, waitPeers := false }
  if follows d r then
    (match nextStepNo r.kind r.table r.step r.last with
    | some _ => setRun d { r with phase := .peers, items := [] }
    | none => endTable d r)
  else
    match nextStepNo r.kind r.table r.step r.last with
    | some n => startFrom d r r.last 16 n
    | none => endTable d r

/-- The closing step has ended (R243). -/
def endClosing (d : Dev) (r : Run) : Dev :=
  match r.kind with
  | .shutdown => setRun d { r with phase := .domainDown 0, items := [], deadline := d.clk.tick }
  | _ =>
    let d := clearRun d
    let c := match r.entry with | some e => (match entryOf d e with | some x => requestCause x | none => (.master, 0)) | none => (.master, 0)
    endRequest (restoreEntries (enterMode d .config c.1 c.2)) r .ok .armed .config

/-- A new run; its request's commit record is written (R109). -/
def newRun (d : Dev) (k : RunKind) (table first last : Nat) (entry : Option Nat) : Dev :=
  let d := match entry with | some e => commitEntry d e | none => d
  let d := { d with seq := { d.seq with dischTimeouts := 0 } }
  startFrom d { kind := k, table := table, step := first, phase := .delay, first := first, last := last, entry := entry, fret := d.clk.fret } last 16 first

/-! ### BOOT (R45, R52, R243) -/

/-- COLD to BOOT: the pack path closes (R262), the boot run begins. -/
def startBoot (d : Dev) (c : Cause) : Dev :=
  let latched := d.mm.latched
  let d := enterMode { d with mm := { d.mm with held := none, offUntil := none, offPath := false, latched := none, onLatched := false } } .boot c 0
  let d := { d with mm := { d.mm with target := .config, fwValid := false }, pwr := { d.pwr with packPath := true }, seq := { d.seq with vpllGood := none } }
  let d := match latched with
    | some (.entry e) => setModeEvent (updEntry d e (fun x => { x with latched := false, deferred := false })) 6
    | some _ => setModeEvent d 6
    | none => d
  if follower d then setRun d { kind := .boot, table := 1, step := 0, phase := .peers, last := 7 }
  else newRun d .boot 1 0 7 none

/-- BOOT has ended: HRST_N is released; CONFIG, or SAFE in its place (R50, R243). An arrival held for a failed power-up lapses (R45). -/
def endBoot (d : Dev) : Dev :=
  let d := setHrst (clearRun { d with mm := { d.mm with held := none } }) (fun p => { p with hrstMode := false })
  match d.mm.safeAfterBoot with
  | some (c, detail) => enterMode { d with mm := { d.mm with safeAfterBoot := none } } .safe c detail
  | none => restoreEntries (enterMode d .config .bootDone 0)

/-! ### SHUTDOWN (R38, R53, R55, R247, R254) -/

/-- SHUTDOWN begins: the requests for it are COMMITTED (R109), and the run starts at step 0 of the down table. -/
def startShutdown (d : Dev) (off : Bool) (c : Cause) (detail : Nat) : Dev :=
  let d := enterMode d .shutdown c detail
  let d := d.mm.downEntries.foldl (fun d e => updEntry d e (fun x => { x with st := .committed, commit := true })) d
  let d := { d with mm := { d.mm with target := .cold, offPath := off, after := none } }
  if follower d then setRun d { kind := .shutdown, table := 3, step := 0, phase := .peers, last := 15 }
  else newRun d .shutdown 3 0 15 none

/-! ### Unwinding (R49, R51) -/

/-- What follows the end of an unwind (R49, R50, R246). -/
def endUnwind (d : Dev) (r : Run) : Dev :=
  match r.kind with
  | .boot => enterCold d (if r.unwindEnd == .preempt then .preemptUnwind else .bootFailed) 0
  | _ =>
    let st := if r.unwindEnd == .preempt then Status.preempted else if r.kind == .seqUp then .partialDone else .modeRefused
    let a := d.mm.after
    let dest := match a with | some q => if q.safe.isSome then Mode.safe else if q.down.isSome then .shutdown else d.mm.mode | none => d.mm.mode
    let d := endRequest { clearRun d with mm := { d.mm with target := d.mm.mode, after := none } } r st d.mm.mode dest
    match a with
    | none => d
    | some q =>
      let d := match q.safe with
        | some (c, detail) =>
          let frm := d.mm.mode
          q.safeEntries.foldl (fun d e => finishNow d e .ok (modeDetail frm .safe)) (enterMode d .safe c detail)
        | none => d
      match q.down with
      | some (off, c, detail) => startShutdown d off c detail
      | none => d

/-- Begin the next unwind step: the newest list of enabled items goes down at once (R49, R51). -/
def unwindNext (d : Dev) (r : Run) : Dev :=
  match r.enabled with
  | [] => endUnwind d r
  | is :: rest => setRun (is.foldl itemDown d) { r with phase := .unwind, items := is, enabled := rest, timedOut := [], deadline := d.clk.tick }

/-- A power-up stops and unwinds (R49, R246); the domains that BOOT closed open first. -/
def startUnwind (d : Dev) (r : Run) (e : UnwindEnd) : Dev :=
  let d := if r.kind == .boot then openAll d else d
  let d := if sysMaster d && r.kind.system then { d with seq := { d.seq with cmdUnwind := true, cmdValid := true, cmdNumber := (d.seq.cmdNumber + 1) % 256 } } else d
  let d := if e == .preempt then setModeEvent d 4 else d
  unwindNext d { r with unwindEnd := e, items := [] }

/-! ### Urgent requests (R42, R49, R50, R53) -/

/-- SHUTDOWN or OFF, urgent; `entry` is the journal entry that waits for the HOST step (R53, R56). A follower forwards it (R254). -/
def requestDown (d : Dev) (off : Bool) (c : Cause) (detail : Nat) (entry : Option Nat) : Dev :=
  let d := match entry with
    | some e =>
      let now := d.mm.mode == Mode.shutdown
      updEntry { d with mm := { d.mm with downEntries := d.mm.downEntries ++ [e] } } e (fun x => { x with st := if now then .committed else .intent, intent := true, commit := now, fromMode := d.mm.mode })
    | none => d
  let after := fun (d : Dev) =>
    let a := d.mm.after.getD {}
    let dn := match a.down with | some (o, c', q) => some (o || off, c', q) | none => some (off, c, detail)
    { d with mm := { d.mm with after := some { a with down := dn }, target := .shutdown } }
  match d.mm.mode with
  | .off => d
  | .cold => d
  | .shutdown =>
    let d := if off then { d with mm := { d.mm with offPath := true } } else d
    (match d.seq.run, entry with
      | some r, some e =>
        if r.table == 1 || (match r.phase with | .domainDown i => decide (4 ≤ i) | _ => false) then finishNow { d with mm := { d.mm with downEntries := d.mm.downEntries.erase e } } e .ok (modeDetail .shutdown .shutdown) else d
      | _, _ => d)
  | _ =>
    if follower d then { d with seq := { d.seq with fwdDown := true, fwdOff := d.seq.fwdOff || off } }
    else
      match d.seq.run with
      | some r =>
        if r.phase == .unwind then
          (if r.kind == .boot then setRun d { r with unwindEnd := .preempt } else after d)
        else if r.kind == .boot then startUnwind d r .preempt
        else if r.kind == .arm || r.kind == .seqUp then startUnwind (after d) r .preempt
        else startShutdown (stopRun d .preempted .shutdown) off c detail
      | none => startShutdown d off c detail

/-- The master's power-down command at a follower: it preempts a power-up, which unwinds first (R46, R49, R50). -/
def masterDown (d : Dev) : Dev :=
  let off := d.seq.fwdOff
  match d.seq.run with
  | some r =>
    if r.kind == .boot then (if r.phase == .unwind then setRun d { r with unwindEnd := .preempt } else startUnwind d r .preempt)
    else if r.phase == .unwind || r.kind == .arm || r.kind == .seqUp then
      let a := d.mm.after.getD {}
      let d := { d with mm := { d.mm with after := some { a with down := some (a.down.getD (off, .master, 0)) }, target := .shutdown } }
      if r.phase == .unwind then d else startUnwind d r .preempt
    else startShutdown (stopRun d .preempted .shutdown) off .master 0
  | none => startShutdown d off .master 0

/-- SAFE by a host request (R41, R49, R50, R53): it unwinds a power-up first. A run of down steps that it interrupts ends PREEMPTED, and a SAFE
that comes while an unwind waits for SHUTDOWN or OFF is entered between the two (log 35). -/
def requestSafe (d : Dev) (c : Cause) (detail e : Nat) : Dev :=
  let frm := d.mm.mode
  match d.mm.mode with
  | .boot => finishNow { d with mm := { d.mm with safeAfterBoot := some (d.mm.safeAfterBoot.getD (c, detail)) } } e .ok (modeDetail .boot .safe)
  | .shutdown => finishNow (allSafe d false) e .modeRefused 0
  | .safe => finishNow d e .ok (modeDetail .safe .safe)
  | _ =>
    if !permitted d .safe then finishNow d e .modeRefused 0
    else
      match d.seq.run with
      | some r =>
        if r.kind == .arm || r.kind == .seqUp then
          let a := d.mm.after.getD {}
          let d := updEntry d e (fun x => { x with st := .intent, intent := true })
          let d := { d with mm := { d.mm with after := some { a with safe := some (a.safe.getD (c, detail)), safeEntries := a.safeEntries ++ [e] }, target := if a.down.isSome then d.mm.target else .safe } }
          if r.phase == .unwind then d else startUnwind d r .preempt
        else finishNow (enterMode (stopRun d .preempted .safe) .safe c detail) e .ok (modeDetail frm .safe)
      | none => finishNow (enterMode d .safe c detail) e .ok (modeDetail frm .safe)

/-- SAFE by the device itself (R39, R43, R288, R293): strings safe at once; a power-up ends PREEMPTED (R256). -/
def deviceSafe (d : Dev) (c : Cause) (detail : Nat) : Dev :=
  match d.mm.mode with
  | .off => d
  | .cold => d
  | .boot => { d with mm := { d.mm with safeAfterBoot := some (d.mm.safeAfterBoot.getD (c, detail)) } }
  | .shutdown => allSafe d false
  | .safe => d
  | .drone => d
  | _ =>
    let a := d.mm.after
    let frm := d.mm.mode
    let d := if poweringUp d && d.mm.mode != .boot then setModeEvent d 4 else d
    let st := match d.seq.run with | some r => (if r.kind == .seqDown || r.kind == .disarm then Status.abortedSafe else .preempted) | none => .preempted
    let d := stopRun d st .safe
    let d := enterMode { d with mm := { d.mm with after := none } } .safe c detail
    match a with
    | none => d
    | some q =>
      let d := q.safeEntries.foldl (fun d e => finishNow d e .ok (modeDetail frm .safe)) d
      match q.down with
      | some (off, c', detail') => startShutdown d off c' detail'
      | none => d

/-- DRONE by the device (R25, R288, R293). With the control die lost the interrupted requests wait in the journal for the rebuild (R120). -/
def deviceDrone (d : Dev) (c : Cause) (detail : Nat) : Dev :=
  match d.mm.mode with
  | .off => d
  | .cold => d
  | .boot => { d with mm := { d.mm with safeAfterBoot := some (d.mm.safeAfterBoot.getD (c, detail)) } }
  | .shutdown => allSafe d false
  | .drone => d
  | _ =>
    let a := d.mm.after
    let d := if d.pwr.ctlLost then { clearRun d with mm := { d.mm with target := d.mm.mode } } else stopRun d .abortedSafe .drone
    let d := enterMode { d with mm := { d.mm with after := none } } .drone c detail
    match a with
    | none => d
    | some q =>
      let d := if d.pwr.ctlLost then d else q.safeEntries.foldl (fun d e => finishNow d e .abortedSafe 0) d
      match q.down with
      | some (off, c', detail') => startShutdown d off c' detail'
      | none => d

/-- A boot ends as a failed step (R246, R293): its event and record, unwind, COLD with cause BOOT_FAILED. -/
def failBoot (d : Dev) : Dev :=
  match d.seq.run with
  | some r =>
    if r.kind == .boot && r.phase != .unwind then startUnwind (seqRecord (setSeqEvent d 12) 0x3002 (runPlace r).1 (runPlace r).2) r .timeout else d
  | none => d

end Sys2Proof.Machine
end

