-- ==== Sys2Proof/Machine/Collect.lean ====
section
/-!
DEFINITION. The fault collector: raising, reactions, clearing, regions (R285–R312).
-/
set_option Elab.async false
namespace Sys2Proof.Machine

/-- What the collector keeps of a code. -/
def srcOf (d : Dev) (code : Nat) : Source := d.flt.srcs.get {} (srcIndex code)
def updSrc (d : Dev) (code : Nat) (f : Source → Source) : Dev :=
  { d with flt := { d.flt with srcs := d.flt.srcs.set {} (srcIndex code) (f (srcOf d code)) } }

/-- REACTION in force of a code (R290). -/
def reactionOf (d : Dev) (code : Nat) : Reaction := Reaction.ofCode (rsF d (fltKey (srcIndex code)) 0 3)

/-- RECORD in force (R291). -/
def recordsInfo (d : Dev) (code : Nat) : Bool := decide (rsF d (fltKey (srcIndex code)) 3 1 = 1)

/-! ### The part a source names (R285, R287, R311) -/

/-- The phase that a source of scope UNIT names: the string sources carry it in the second parameter (R193), a lane source
its link and lane (R227), the device's own sources the instance (R311). -/
def unitPhase (f : FaultIn) : Option Nat :=
  if f.code / 256 = 0x11 then (if f.p1 < 64 then some f.p1 else none)
  else if f.code = 0x1204 then (if f.p0 < 16 ∧ f.p1 < 4 then some (4 * f.p0 + f.p1) else none)
  else if f.code = 0x1005 ∨ (f.code = 0x1002 ∧ (f.p1 = 1 ∨ f.p1 = 2)) then (if f.p0 < 64 then some f.p0 else none)
  else none

/-- Strings with a phase in the named part (R288). -/
def namedStrings (d : Dev) (scope : Nat) (f : FaultIn) : List Nat :=
  match scope with
  | 0 => (match unitPhase f with | some p => (match stringOf d p with | some k => [k] | none => []) | none => [])
  | 1 => if f.code / 256 = 0x15 then (if packValid d then [packString d] else []) else if f.p0 < 64 then [f.p0] else []
  | 2 => stringsOnLink d f.p0
  | 3 => stringsInRegion d f.p0
  | _ => (List.range 64).filter (fun k => !(course d k).isEmpty)

/-- The region of the instance, where the part lies in one (R311). -/
def namedRegion (d : Dev) (scope : Nat) (f : FaultIn) : Option Nat :=
  match scope with
  | 0 => (unitPhase f).map regionOfPhase
  | 1 => ((namedStrings d 1 f).head?).map (regionOfString d)
  | 2 => if f.p0 < 16 then some (regionOfLink f.p0) else none
  | 3 => if f.p0 < 4 then some f.p0 else none
  | _ => none

/-- Die of a checker (R10): the power die's subsystems are rails, sequencer, charger, OTP, the log and the clocks of AON; a journal copy
and a die-to-die receiver name theirs by the instance, of which 0 is the power die's (R307). -/
def powerDie (f : FaultIn) : Bool :=
  f.code == 0x1000 || f.code == 0x1006 || f.code / 256 == 0x13 || f.code / 256 == 0x15 || f.code / 256 == 0x17
  || f.code == 0x1800 || f.code == 0x1801
  || ((f.code == 0x1003 || f.code == 0x1400 || f.code == 0x1401 || f.code == 0x1402) && f.p0 == 0)

/-- SOURCE of a fault record (R311). -/
def faultSource (d : Dev) (i : SrcInfo) (f : FaultIn) : Nat :=
  i.scope + ((namedRegion d i.scope f).getD 0 <<< 3) + (b2n (powerDie f) <<< 5) + (i.severity <<< 6)

/-- FLAGS of a fault record (R311). -/
def faultFlags (i : SrcInfo) (f : FaultIn) (cleared : Bool) (r : Reaction) : Nat :=
  b2n f.injected + 2 * b2n f.observe + 4 * b2n (i.cls == 1 && !cleared) + 8 * b2n cleared + (r.code <<< 4)

/-- The record of a fault, at most one per source per management tick (R291); POWER_DIE_LOST is not recorded (R296). -/
def faultRecord (d : Dev) (i : SrcInfo) (f : FaultIn) (r : Reaction) : Dev :=
  if f.code = 0x1001 ∨ (i.severity = 0 ∧ !recordsInfo d f.code) ∨ (srcOf d f.code).lastRec = some d.clk.mgmt then d
  else
    let d := updSrc d f.code (fun s => { s with lastRec := some d.clk.mgmt })
    recordRaw d true f.code (faultSource d i f) (faultFlags i f false r) f.p0 f.p1 f.p2 (fretLow d)

/-- A REGION_SAFE reaction becomes DRONE when the region holds a SAFETY string (R25, R288). -/
def takenReaction (d : Dev) (i : SrcInfo) (f : FaultIn) : Reaction :=
  let r := reactionOf d f.code
  match r with
  | .regionSafe => (match namedRegion d i.scope f with | some g => if regionHasSafety d g then .drone else r | none => r)
  | _ => r

/-- Sources that can be raised in a mode: none in OFF, those of AON in COLD (R293). -/
def raisable (d : Dev) (code : Nat) : Bool :=
  match d.mm.mode with
  | .off => false
  | .cold => code == 0x1006 || code / 256 == 0x14 || code / 256 == 0x17 || code / 256 == 0x18
  | _ => true

/-- What a raise adds to the raises of its source in this tick (R305). -/
def freshRaise (d : Dev) (s : Source) (f : FaultIn) (r : Reaction) : Fresh :=
  match s.fresh with
  | some q =>
    if q.tick = d.clk.tick then { q with taken := if q.taken.code < r.code then r else q.taken, insts := if q.insts.contains f.p0 then q.insts else q.insts ++ [f.p0] }
    else { tick := d.clk.tick, prior := s.status, priorFirst := s.first, first := f.p0, taken := r, insts := [f.p0] }
  | none => { tick := d.clk.tick, prior := s.status, priorFirst := s.first, first := f.p0, taken := r, insts := [f.p0] }

/-- What a raise leaves of its source (R291): status, COUNT, the strongest TAKEN, the first values since the last clear. -/
def raiseSource (d : Dev) (f : FaultIn) (r : Reaction) (s : Source) : Source :=
  { s with status := true, count := sat 65535 (s.count + 1), taken := if s.taken.code < r.code then r else s.taken, first := if s.status then s.first else f.p0, insts := if s.insts.contains f.p0 then s.insts else s.insts ++ [f.p0], fret := if s.status then s.fret else fretLow d, fresh := some (freshRaise d s f r) }

/-- One raise (R291, R308): status, count, first values, TAKEN, event, record. -/
def raiseStatus (d : Dev) (f : FaultIn) : Dev :=
  match srcInfo f.code with
  | none => d
  | some i =>
    if !raisable d f.code then d
    else if f.observe then
      faultRecord { d with flt := { d.flt with resCode := f.code, resReaction := 0, resObserved := true } } i f .none
    else
      let r := takenReaction d i f
      let s := srcOf d f.code
      let d := if s.status then d else { d with flt := { d.flt with lastCode := f.code, lastSeverity := i.severity, lastReaction := r } }
      let d := updSrc d f.code (raiseSource d f r)
      let d := if r == .none then d else setFltEvent d i.severity
      let d := if f.injected then { d with flt := { d.flt with resCode := f.code, resReaction := r.code, resObserved := false } } else d
      let d := emitFast d (.fault f.code f.p0 r.code)
      followNalive (faultRecord d i f r)

/-- The reaction that a raise takes; none when it cannot be raised or is only observed. -/
def reactionNow (d : Dev) (f : FaultIn) : Reaction :=
  match srcInfo f.code with
  | none => .none
  | some i => if f.observe || !raisable d f.code then .none else takenReaction d i f

/-- A region is retired (R288, R295). -/
def retireRegion (d : Dev) (r : Nat) : Dev :=
  let d := { d with flt := { d.flt with regRetired := d.flt.regRetired ||| (1#4 <<< r), regHeld := d.flt.regHeld ||| (1#4 <<< r) } }
  clearRegionRows d r

/-- The cause of a PH_RETIRE (R201). -/
def retireCause (code : Nat) : Nat :=
  if code = 0x1102 then 1 else if code = 0x1103 then 2 else if code = 0x1106 then 3 else 6

/-- A monitor channel is retired (R294): supervision of a rail it measures reacts as to a fault-level UV trip. Channels are
numbered in the order of R412: thermistors 0–7, VIN, VBUS, VPACK, VSYS, VHOLD, ISNS 8–13, rails 14–21, dies 22 and 23 (log 17). -/
def retireMonitor (d : Dev) (c : Nat) : Dev :=
  if d.pwr.monRetired.contains c then d
  else
    let d := { d with pwr := { d.pwr with monRetired := d.pwr.monRetired ++ [c] } }
    if 14 ≤ c ∧ c < 22 ∧ (railU d (c - 14)).enabled then
      detect (updRail d (c - 14) (fun u => { u with levels := u.levels ||| 4#4, pgood := false })) 0x1300 (c - 14) 0xFFFFFFFF (5 * (railU d (c - 14)).vMeas)
    else d

/-- The unit that a fault names is retired: a monitor channel or a phase (R288, R294). -/
def retireUnit (d : Dev) (f : FaultIn) : Dev :=
  if f.code = 0x1007 then retireMonitor d f.p0
  else match unitPhase f with
    | some p => retirePhase d p (retireCause f.code) f.code
    | none => d

/-- A permanent verdict retires the smallest failing part, whatever reaction is in effect: a unit under RETIRE_UNIT or stronger, a region
under REGION_SAFE or stronger (R288, R294, R310, log 41). -/
def retireNamed (d : Dev) (i : SrcInfo) (f : FaultIn) (r : Reaction) : Dev :=
  if i.cls ≠ 1 then d
  else if i.scope = 3 ∧ 4 ≤ r.code then (match namedRegion d 3 f with | some g => retireRegion d g | none => d)
  else if i.scope = 0 ∧ 2 ≤ r.code then retireUnit d f
  else d

/-- A reaction of DEVICE_SAFE or DRONE is in effect, beside which a weaker one takes no action (R292, log 41). -/
def deviceHeld (d : Dev) : Bool := (d.mm.mode == .safe || d.mm.mode == .drone) && takenAtLeast d .deviceSafe

/-- What a reaction below DEVICE_SAFE does to its part (R288, R292–R294). -/
def react (d : Dev) (f : FaultIn) (r : Reaction) : Dev :=
  match srcInfo f.code with
  | none => d
  | some i =>
    let d := retireNamed d i f r
    if d.mm.mode == .shutdown then (if 3 ≤ r.code then allSafe d false else d)
    else if deviceHeld d then d
    else match r with
      | .retireUnit => retireUnit d f
      | .stringSafe => (namedStrings d i.scope f).foldl reactString d
      | .regionSafe => (match namedRegion d i.scope f with | some g => (stringsInRegion d g).foldl reactString d | none => d)
      | _ => d

/-- A reaction that ends a boot as a failed step: that of a lost control die, or of a fault-level trip of a rail of the boot table (R293). -/
def bootFails (d : Dev) (f : FaultIn) (r : Reaction) : Bool :=
  d.mm.mode == .boot && decide (5 ≤ r.code)
  && (f.code == 0x1000 || ((f.code == 0x1300 || f.code == 0x1301) && (List.range 8).any (fun n => (stepItems d 1 n).contains (.rail f.p0))))

/-- The mode part of the strongest reaction (R288, R292). -/
def modeReact (d : Dev) (f : FaultIn) (r : Reaction) : Dev :=
  let cause := if f.code = 0x1000 then (Cause.controlDieLost, 0) else if f.code = 0x1001 then (Cause.powerDieLost, 0) else (Cause.fault, f.code)
  match r with
  | .deviceSafe => deviceSafe d cause.1 cause.2
  | .drone => deviceDrone d cause.1 cause.2
  | _ => d

/-- The strongest of some reactions, with the first raise that took it. -/
def strongest (rs : List (FaultIn × Reaction)) : Option (FaultIn × Reaction) :=
  rs.foldl (fun a q => match a with
    | none => some q
    | some b => if b.2.code < q.2.code then some q else some b) none

/-- Insert a fault input in ascending code order, after those of the same code (R292). -/
def insertFault (f : FaultIn) : List FaultIn → List FaultIn
  | [] => [f]
  | g :: gs => if f.code < g.code then f :: g :: gs else g :: insertFault f gs

/-- The checker of FLT_INJECT that exercises a code in FAULT_RAISE's own operand (R307). -/
def checkerOf (code : Nat) : Option Nat :=
  if code = 0x1008 ∨ code = 0x1009 ∨ code = 0x1010 then some 2
  else if code = 0x1106 then some 3 else if code = 0x1011 then some 4 else if code = 0x1012 then some 5 else none

/-- The real error that an injected input of the same tick, source and part turns out to be (R309). -/
def realOf (fs : List FaultIn) (f : FaultIn) : Option FaultIn :=
  if f.injected then fs.find? (fun g => !g.injected && g.code == f.code && g.p0 == f.p0) else none

/-- What the reactions of one tick do: the mode first, by the strongest of them, then their parts (R292, R293). -/
def reactAll (d : Dev) (rs : List (FaultIn × Reaction)) : Dev :=
  let d := if rs.any (fun q => bootFails d q.1 q.2) then failBoot d
    else match strongest rs with | some (f, r) => modeReact d f r | none => d
  rs.foldl (fun d q => react d q.1 q.2) d

/-- Faults due in one tick (R292): every status and record in ascending code order, then the reactions. An injected input that meets the
real error is that error (R309). -/
def raiseFaults (d : Dev) (fs : List FaultIn) : Dev :=
  let real := (fs.filterMap (realOf fs)).head?
  let fs := (fs.filter (fun f => (realOf fs f).isNone)).foldl (fun a f => insertFault f a) []
  let rs := fs.map (fun f => (f, reactionNow d f))
  let d := fs.foldl (fun d f => raiseStatus (capture d (.faultInput f)) f) d
  let d := match real with | some f => realFound d f.code (reactionNow d f) | none => d
  reactAll d rs

/-! ### Clearing (R304, R305) -/

/-- The condition of a class C source holds, as far as State shows it; `held` names the codes whose physical condition holds. Those of the
OTP and of the boot hold from the raise to the next AON reset (R354). -/
def conditionHolds (d : Dev) (held : List Nat) (code : Nat) : Bool :=
  match code with
  | 0x1000 => d.pwr.ctlLost
  | 0x1001 => d.pwr.pwrLost
  | 0x1107 => (List.range 64).any (fun k => !(course d k).isEmpty && decide ((strU d k).capo < strCapo d k))
  | 0x1201 => d.lk.any (fun l => l.st == .recovering)
  | 0x1203 => d.lk.any (fun l => l.st == .training && l.trainFailed)
  | 0x1205 => d.lk.any (fun l => (l.status >>> 5) % 2 == 1)
  | 0x1206 => (List.range 16).any (fun k =>
      let ex := rsF d (0x3100 + 0x20 * k + 0x1C) 0 16
      (lkU d k).st == .held && decide (ex ≠ 0) && (lkU d k).idSeen && decide ((lkU d k).stageId ≠ ex))
  | 0x1300 => d.seq.rails.any (fun r => bit r.levels 2)
  | 0x1301 => d.seq.rails.any (fun r => bit r.levels 3)
  | 0x1305 => (match d.seq.run with | some r => r.phase == .hold | none => false)
  | 0x1306 => d.seq.peers.any (fun p => p.st == 3)
  | 0x1401 => d.jr.retired.isSome
  | 0x1403 => d.ring.sub.any (fun r => r.prodBad) || d.ring.cpl.any (fun r => r.consBad)
  | 0x1500 => d.chg.timedOut
  | 0x1501 => !d.chg.present
  | 0x1502 => d.chg.st == .tempPause
  | 0x1503 => decide (vOv d < cellMv d) || held.contains (srcIndex code)
  | _ => if code / 256 = 0x17 then decide ((srcOf d code).count ≠ 0) else held.contains (srcIndex code)

/-- The cause of a source is gone (R304): a transient at once, a permanent once its part is held, a condition once it does not hold. -/
def causeGone (d : Dev) (held : List Nat) (code : Nat) : Bool :=
  match srcInfo code with
  | none => true
  | some i => if i.cls = 2 then !conditionHolds d held code else true

/-- The raises of a source in this tick, if it was raised in it. -/
def freshNow (d : Dev) (code : Nat) : Option Fresh :=
  (srcOf d code).fresh.filter (fun q => q.tick == d.clk.tick)

/-- A raise of the source is due in this tick and has not yet been made. -/
def raiseDue (d : Dev) (code : Nat) : Bool :=
  d.flt.inbox.any (fun (f : FaultIn) => f.due == d.clk.tick && f.code == code && !f.observe)

/-- The record of a clear (R304): the instance of the first raise; parameters 1 and 2 are 0 (log 64). POWER_DIE_LOST is not recorded. -/
def clearRecord (d : Dev) (i : SrcInfo) (code first : Nat) : Dev :=
  let f : FaultIn := { code := code, p0 := first }
  if code = 0x1001 then d else recordRaw d true code (faultSource d i f) (faultFlags i f true .none) first 0 0 (fretLow d)

/-- A clear that is not refused; one written in the tick of a raise applies before it, so that the raise's values stand (R304, R305). -/
def statusCleared (d : Dev) (i : SrcInfo) (code : Nat) : Dev :=
  match freshNow d code with
  | some q =>
    if !q.prior then d
    else
      let d := updSrc d code (fun s => { s with taken := q.taken, first := q.first, insts := q.insts, fret := fretLow d, fresh := some { q with prior := false } })
      let d := { d with flt := { d.flt with lastCode := code, lastSeverity := i.severity, lastReaction := q.taken } }
      clearRecord d i code q.priorFirst
  | none =>
    let s := srcOf d code
    let d := if code = 0x1504 then { d with pins := { d.pins with psuLimit := false } } else d
    let d := updSrc d code (fun s => { s with status := false, taken := .none, first := 0, insts := [], fret := 0 })
    followNalive (clearRecord d i code s.first)

/-- One clear of a status (R304, R305, R312). -/
def clearStatus (d : Dev) (held : List Nat) (code : Nat) : Dev :=
  match srcInfo code with
  | none => d
  | some i =>
    if !(srcOf d code).status then d
    else if !causeGone d held code && (freshNow d code).isNone && !raiseDue d code then
      setFltEvent { d with flt := { d.flt with refusedCount := sat 65535 (d.flt.refusedCount + 1), refusedCode := code } } 4
    else statusCleared d i code

/-- FLT_STATUS word of a block (R312). -/
def statusWord (d : Dev) (b : Nat) : Word :=
  w32 ((List.range 32).foldl (fun a n => if (d.flt.srcs.get {} (32 * b + n)).status then a + 2 ^ n else a) 0)

/-! ### Region reinstate (R295) -/

/-- A source of scope REGION that names the region has its status set. -/
def regionFault (d : Dev) (r : Nat) : Bool :=
  [0x1010, 0x1011, 0x1012].any (fun c => (srcOf d c).status && (srcOf d c).insts.contains r)

/-- Reinstate a region in CONFIG (R295): its links that are not RETIRED train. -/
def reinstateRegion (d : Dev) (r : Nat) : Dev :=
  if d.mm.mode != .config || !bit d.flt.regRetired r || regionFault d r then d
  else
    let d := { d with flt := { d.flt with regRetired := d.flt.regRetired &&& ~~~(1#4 <<< r), regHeld := d.flt.regHeld &&& ~~~(1#4 <<< r) } }
    trainLinks d ((List.range 4).map (· + 4 * r))

end Sys2Proof.Machine
end

