-- ==== Sys2Proof/Machine/Flags.lean ====
section
/-!
DEFINITION. Flags computed from the state: ring state words, interrupt levels and claims, and what follows every command (R71, R265, R270, R313–R321).
-/
set_option Elab.async false
namespace Sys2Proof.Machine

/-! ### Rings (R69–R72) -/

/-- Register bases of a submission and of a completion ring (R72). -/
def subBase (n : Nat) : Nat := 0x0500 + 0x20 * n
def cplBase (m : Nat) : Nat := 0x0900 + 0x10 * m

/-- Entries of a ring, 0 when it is disabled. -/
def subSize (d : Dev) (n : Nat) : Nat := let s := rwF d (subBase n + 8) 0 5; if s = 0 then 0 else 2 ^ s
def cplSize (d : Dev) (m : Nat) : Nat := let s := rwF d (cplBase m + 8) 0 5; if s = 0 then 0 else 2 ^ s
def subBinding (d : Dev) (n : Nat) : Nat := rwF d (subBase n + 8) 16 5

def subU (d : Dev) (n : Nat) : SubRing := at' {} d.ring.sub n
def cplU (d : Dev) (m : Nat) : CplRing := at' {} d.ring.cpl m
def updSub (d : Dev) (n : Nat) (f : SubRing → SubRing) : Dev := { d with ring := { d.ring with sub := upd d.ring.sub n f } }
def updCpl (d : Dev) (m : Nat) (f : CplRing → CplRing) : Dev := { d with ring := { d.ring with cpl := upd d.ring.cpl m f } }

/-- The credit limit as the last poll took it (R73). -/
def subLimit (d : Dev) (n : Nat) : Nat := (subU d n).limit

/-- The ring engine is enabled (R72). -/
def engineOn (d : Dev) : Bool := powered d .host && decide (rwF d 0x0400 0 1 = 1)

/-- Entries of a ring in service: a disabled one serves on to the next poll (R74). -/
def ringSize (d : Dev) (n : Nat) : Nat := if subSize d n = 0 then (subU d n).disabling else subSize d n

/-- The slot after the last accepted one, and whether the ring holds work (R65, R67). -/
def nextSlot (d : Dev) (n : Nat) : Nat := ((subU d n).acc + 1) % (max 1 (ringSize d n))
def ringWork (d : Dev) (n : Nat) : Bool := decide (ringSize d n ≠ 0) && !(subU d n).prodBad && decide (nextSlot d n ≠ (subU d n).prod)

/-- Entries that a ready descriptor takes (R79). -/
def readyCost (r : Ready) : Nat := 1 + ceilDiv r.segs.length 16 + r.adds.length

/-- The journal has room for a ring's next descriptor: free entries, or those it has claimed already (R79, R108). -/
def roomFor (d : Dev) (n cost : Nat) : Bool :=
  decide (cost ≤ journalFree d) || (d.jr.rebuilding.isNone && d.jr.retired.isNone && (writing d).any (fun x => x.ring == n))

/-- No descriptor is accepted in these modes, or once a SHUTDOWN or OFF request has executed (R38). -/
def noAccept (d : Dev) : Bool :=
  d.mm.mode == .off || d.mm.mode == .cold || d.mm.mode == .boot || d.mm.mode == .shutdown || d.seq.fwdDown
  || (match d.mm.after with | some a => a.down.isSome | none => false)

/-- STOP (R71): the lowest-numbered cause, COPY_RETIRED in place of every code above 2. -/
def stopCode (d : Dev) (n : Nat) : Nat :=
  let r := subU d n
  if subSize d n = 0 ∨ !engineOn d then 1
  else if noAccept d then 2
  else if d.jr.retired.isSome then 8
  else if r.prodBad then 3
  else if r.fetchErr then 4
  else if r.holdStop && d.mm.mode == .hold then 5
  else if subLimit d n ≤ (tailOf d n).outstanding then 6
  else if ringWork d n && !roomFor d n (match r.ready with | some q => readyCost q | none => 1) then 7
  else 0

/-- The state word (R71). -/
def stateWord (d : Dev) (n : Nat) : Nat :=
  let s := stopCode d n
  (if s = 7 then 0x40 else 0) + (s <<< 8) + (min 4096 (tailOf d n).outstanding <<< 16)

/-- Put an output ahead of this tick's acceptance blocks, which are the last `k` of their kind (R71). -/
def beforeAccept (k : Nat) (os : List Out) (o : Out) : List Out :=
  let at' := (os.zipIdx.filter (fun q => match q.1 with | .acceptBlock _ _ => true | _ => false)).map (fun q => q.2)
  match at'[at'.length - k]? with
  | some i => os.take i ++ o :: os.drop i
  | none => os ++ [o]

/-- Issue a state block with the present words, before this tick's acceptance blocks (R71). -/
def writeStateBlock (d : Dev) (b : Nat) : Dev :=
  let ws := (List.range 16).map (fun i => stateWord d (16 * b + i))
  let d := (List.range 16).foldl (fun d i => updSub d (16 * b + i) (fun r => { r with shown := ws.getD i 0 })) d
  { d with out := beforeAccept (d.ring.accWrote.filter (fun q => q.1 == d.clk.tick)).length d.out (.stateBlock b ws) }

/-- Issue an acceptance block with the latest words, at most once per tick: a later one replaces the earlier (R70). -/
def writeAcceptBlock (d : Dev) (b : Nat) : Dev :=
  let ws := (List.range 16).map (fun i => (subU d (16 * b + i)).accWord)
  let seen := d.ring.accWrote.contains (d.clk.tick, b)
  let out := if seen then
      (match (d.out.reverse.findIdx? (fun o => match o with | .acceptBlock b' _ => b' == b | _ => false)) with
       | some i => d.out.eraseIdx (d.out.length - 1 - i)
       | none => d.out)
    else d.out
  emit { d with out := out, ring := { d.ring with accWrote := (d.clk.tick, b) :: d.ring.accWrote.filter (fun q => q.1 == d.clk.tick && q.2 != b) } } (.acceptBlock b ws)

/-- Write the state blocks in which a word changed (R71). -/
def followState (d : Dev) : Dev :=
  if !engineOn d then d
  else [0, 1].foldl (fun d b => if (List.range 16).any (fun i => stateWord d (16 * b + i) != (subU d (16 * b + i)).shown) then writeStateBlock d b else d) d

/-! ### Interrupts (R313–R321) -/

/-- Level of a completion ring's source (R313): an entry beyond the consumer index last read. -/
def cplLevel (d : Dev) (m : Nat) : Bool := decide (cplSize d m ≠ 0 ∧ (cplU d m).prod ≠ (cplU d m).cons)

/-- TMR_STATUS bits of R314: MATCH, NOT_EMPTY, OVERFLOW. -/
def tmrLevel (d : Dev) (i : Nat) : Bool :=
  let t := at' {} d.tmr (i / 3)
  match i % 3 with | 0 => t.matched | 1 => !t.queue.isEmpty | _ => t.overflow

/-- Level of a source (R313, R314); reserved numbers stay at 0. -/
def level (d : Dev) (n : Nat) : Bool :=
  if reservedSource n then false
  else if n < 33 then cplLevel d (n - 1)
  else if n < 40 then bit d.mm.event (n - 33)
  else if n = 40 then d.jr.restored
  else if n = 41 then d.jr.lost
  else if n = 42 then d.jr.rebuilt
  else if n < 53 then bit d.fb.event (n - 48)
  else if n < 69 then bit d.seq.event (n - 56)
  else if n < 81 then bit d.chg.event (n - 72)
  else if n < 90 then bit d.flt.event (n - 84)
  else if n < 224 then bit (lkU d ((n - 96) / 8)).event ((n - 96) % 8)
  else if n < 248 then tmrLevel d (n - 224)
  else if n < 252 then bit d.rcd.event (n - 248)
  else bit d.mp.event (n - 252)

/-- PRIORITY and TARGETS of a source (R315, R325); TARGETS[2] is firmware's. -/
def srcPriority (d : Dev) (n : Nat) : Nat := rwF d (0x5100 + 4 * n) 0 4
def srcTargets (d : Dev) (n t : Nat) : Bool := if t = 2 then bit d.int.target2 n else bit (rwOf d (0x5100 + 4 * n)) (4 + t)

def refired (d : Dev) (n : Nat) : Bool := bit d.int.refired n
def stackOf (d : Dev) (t : Nat) : List (Nat × Nat) := at' [] d.int.claimStacks t
def globalEnable (d : Dev) : Bool := powered d .mgmt && decide (rwF d 0x5000 0 1 = 1)

/-- Pending for a target (R315). -/
def pendingFor (d : Dev) (t n : Nat) : Bool := (level d n || refired d n) && !activeSrc d n && srcTargets d n t

/-- Sources that can have a target at all: those with a routing word, and firmware's (R325). -/
def routed (d : Dev) : List Nat :=
  ((d.cfg.rw.filter (fun e => decide (0x5100 ≤ e.1 ∧ e.1 < 0x5500))).map (fun e => (e.1 - 0x5100) / 4))
  ++ (if d.int.target2 = 0 then [] else (List.range 256).filter (fun n => bit d.int.target2 n))

/-- Claimable by a target (R315, R318). -/
def claimable (d : Dev) (t n : Nat) : Bool :=
  globalEnable d && pendingFor d t n
  && (match stackOf d t with | [] => true | (_, p) :: _ => decide (p < srcPriority d n))

/-- What a claim returns: the highest PRIORITY, the lowest number among equals, 0 for none (R317). -/
def claimOf (d : Dev) (t : Nat) : Nat :=
  (routed d).foldl (fun a n =>
    if !claimable d t n then a
    else if a = 0 ∨ srcPriority d a < srcPriority d n ∨ (srcPriority d a = srcPriority d n ∧ n < a) then n else a) 0

/-- INT_STACK_STATUS (R324). -/
def stackWord (d : Dev) (t : Nat) : Nat :=
  match stackOf d t with
  | [] => 0
  | (n, p) :: rest => (rest.length + 1) + (p <<< 8) + (n <<< 16)

/-- IRQ_N is low (R316). -/
def irqLow (d : Dev) : Bool := claimOf d 3 != 0

/-- A vector is masked, in its table entry or with the whole function (R316). -/
def vectorMasked (d : Dev) (t : Nat) : Bool := d.pci.mask || bit (at' 0 d.pci.table (4 * t + 3)) 0

/-- A vector's message: sent when its target became claimable, or was when it was masked; held in the pending bits while it is masked, and
dropped when the target is claimable no more. With MSI-X disabled none is sent (R316, log 13). -/
def message (d : Dev) (t : Nat) (now became : Bool) : Dev :=
  let want := now && (became || bit d.pci.pending t) && d.pci.enable && powered d .host
  let clear := d.pci.pending &&& ~~~(1#8 <<< t)
  if want && vectorMasked d t then { d with pci := { d.pci with pending := clear ||| (1#8 <<< t) } }
  else
    let e := { d with pci := { d.pci with pending := clear } }
    if want then emit e (.msix t) else e

/-- The line of target 2 or 3 follows its claimable sources (R316). -/
def intLine (d : Dev) (t : Nat) (now was : Bool) : Dev := if now = was then d else emit d (.intLine t now)

/-- Messages for targets 0 and 1, lines for targets 2 and 3 (R316). -/
def followInt (d : Dev) : Dev :=
  let now := (List.range 4).map (fun t => claimOf d t != 0)
  let was := d.int.was
  let d := { d with int := { d.int with was := now } }
  let d := [0, 1].foldl (fun d t => message d t (now.getD t false) (!was.getD t false)) d
  [2, 3].foldl (fun d t => intLine d t (now.getD t false) (was.getD t false)) d

/-- Forget that target 0 or 1 was claimable, so that it is told again (R316). -/
def retell (d : Dev) (t : Nat) : Dev := if t < 2 then { d with int := { d.int with was := d.int.was.set t false } } else d

/-! ### What follows every command -/

/-- The charger follows its conditions, then the state blocks and the messages are issued (R71, R270, R316). -/
def settle (d : Dev) : Dev := followInt (followState (followCharger d))

/-- The state after an effect on the device; leaving REPLAY discards the replay (R375), and a disabled input ring holds nothing (R365). -/
def withDev (s : State) (d : Dev) : State :=
  if s.dev.mm.mode == .replay && d.mm.mode != .replay then { s with dev := d, rep := none, repIn := [] }
  else { s with dev := d, repIn := if rwF d 0x7210 0 6 = 0 then [] else s.repIn }

/-- Run an effect on the device: the next state. -/
def run (f : Dev → Dev) (s : State) : Host.Outcome State Fault Refusal := .next (withDev s (settle (f s.dev)))

end Sys2Proof.Machine
end

