-- ==== Sys2Proof/Machine/Operands.lean ====
section
/-!
DEFINITION. Operands: the fields of each descriptor body and the checks of R83, steps 1 to 9 (R80–R98, R36).
-/
set_option Elab.async false
namespace Sys2Proof.Machine

/-! ### Fields -/

/-- A segment word: length in frets and end power (R87). -/
def segOf (w : Nat) : Nat × Int := (w % 65536, signed 16 (w / 65536 % 65536))

/-- A RESERVE body, of a descriptor or of an add record (R86, R88). -/
structure ResvBody where
  string : Nat
  indirect : Bool
  nSegs : Nat
  tag : Nat
  start : Nat
  stop : Nat
  pStart : Int
  segs : List (Nat × Int)
  rideSafe : Bool

/-- The RESERVE body at byte `b` of an image: 8 in a descriptor, 0 in an add record (R86, R88). -/
def resvBody (i : Image) (b : Nat) (list : List Word) (ride : Bool) : ResvBody :=
  let ind := b = 8 ∧ bit i 70
  let n := byteAt i (b + 1)
  { string := byteAt i b % 64, indirect := ind, nSegs := n, tag := leAt i (b + 2) 2, start := leAt i (b + 4) 6, stop := leAt i (b + 10) 6, pStart := signed 16 (leAt i (b + 16) 2), segs := if ind then list.map (fun w => segOf w.toNat) else (List.range (min n 8)).map (fun k => segOf (leAt i (b + 18 + 4 * k) 4)), rideSafe := ride }

/-- The RESERVE body of an entry (R86). -/
def reserveOf (x : Entry) : ResvBody := resvBody x.image 8 x.segs (flagRideSafe x)
/-- An add record's body; bit 7 of its byte 0 is RIDE_SAFE (R88). -/
def addOf (i : Image) : ResvBody := resvBody i 0 [] (bit i 7)

/-- REPLAN fields (R88). -/
def rpSwitch (i : Image) : Nat := leAt i 8 6
def rpRemoveCount (i : Image) : Nat := byteAt i 14
def rpAddCount (i : Image) : Nat := byteAt i 15
def rpLow (i : Image) : Nat := leAt i 16 2
def rpHigh (i : Image) : Nat := leAt i 18 2
def rpTags (i : Image) : List Nat := (List.range (min 8 (rpRemoveCount i))).map (fun k => leAt i (20 + 2 * k) 2)
def rpRange (i : Image) : Bool := decide (byteAt i 44 % 2 = 1)
def rpRetry (i : Image) : Nat := leAt i 45 6
/-- A REPLAN removes a tag (R88). -/
def rpRemoves (i : Image) (tag : Nat) : Bool := (rpTags i).contains tag || (rpRange i && decide (rpLow i ≤ tag ∧ tag ≤ rpHigh i))

/-- PROFILE fields (R89). -/
def prString (i : Image) : Nat := byteAt i 8 % 64
def prPoints (i : Image) : List (Nat × Nat) := (List.range (min 10 (byteAt i 9))).map (fun k => (leAt i (18 + 4 * k) 2, leAt i (20 + 4 * k) 2))
def prStart (i : Image) : Nat := leAt i 12 6
/-- Fret of the last point. -/
def prLast (i : Image) : Nat := prStart i + (match (prPoints i).getLast? with | some p => p.1 | none => 0)

/-- A voltage of a line in 10 mV steps; between two steps its rounding is open (R178, log 7). -/
def lineVolts (v w : Nat) (i n : Nat) : Nat :=
  let a : Int := (v : Int) * n + ((w : Int) - v) * i
  if n = 0 then v else (a / n).toNat + (if a % n = 0 then 0 else b2n (Config.lineUp a.toNat n))

/-- V_CMD of a PROFILE in a fret (R89, R178). -/
def profVolts (start f : Nat) : List (Nat × Nat) → Nat
  | [] => 0
  | [p] => p.2
  | p :: q :: rest => if f < start + q.1 then lineVolts p.2 q.2 (f - (start + p.1)) (q.1 - p.1) else profVolts start f (q :: rest)

/-- SETPOINT fields (R90). -/
def spString (i : Image) : Nat := byteAt i 8 % 64
def spSel (i : Image) : Nat := byteAt i 9 % 8
def spFret (i : Image) : Nat := leAt i 12 6
def spVolts (i : Image) : Nat := leAt i 18 2
def spIdle (i : Image) : Nat := leAt i 20 2
def spSlew (i : Image) : Nat := leAt i 22 2

/-- SEQUENCE, CONFIG_COMMIT, CHARGER, FENCE, QUERY, RECORD_MARK and CAPTURE fields (R92–R98). -/
def sqDown (i : Image) : Bool := decide (byteAt i 8 % 2 = 1)
def sqFirst (i : Image) : Nat := byteAt i 9
def sqLast (i : Image) : Nat := byteAt i 10
def coFret (i : Image) : Nat := leAt i 8 6
def chValue (i : Image) : Nat := leAt i 10 2
def feMask (i : Image) : Nat := leAt i 8 4
def quArg (i : Image) : Nat := if lengthOf i = 0 then 0 else leAt i 9 3
def mkCode (i : Image) : Nat := leAt i 8 2
def caFret (i : Image) : Nat := leAt i 10 6

/-! ### Timed work (R110) -/

/-- End fret of timed work by its body (R110). A REPLAN's is the fret after the last of its switch fret, its retry fret and its additions. -/
def endOf (x : Entry) : Nat :=
  let i := x.image
  match classOf i with
  | .reserve => (reserveOf x).stop
  | .replan => (x.adds.map (fun a => (addOf a).stop)).foldl max (max (rpSwitch i) (rpRetry i) + 1)
  | .profile => prLast i + 1
  | .setpoint => spFret i + 1
  | .commit => coFret i + 1
  | _ => caFret i + 1

/-! ### Target ranges (R166) -/

/-- A voltage, 10 mV, lies in the target range of a kind. -/
def voltsOk (k : Kind) (v : Nat) : Bool :=
  match k with
  | .axis => decide (1200 ≤ v ∧ v ≤ 6000)
  | .store => decide (1000 ≤ v ∧ v ≤ 10000)
  | .pack => decide (1000 ≤ v ∧ v ≤ 6720)
  | .aux => decide (500 ≤ v ∧ v ≤ 6000)
  | _ => false

/-- Kinds that PROFILE and SETPOINT reach (R89, R90). -/
def settable (k : Kind) : Bool := k == .axis || k == .aux

/-! ### The checks of R83 -/

/-- The outcome of a check: none when it passes. -/
abbrev Check := Option (Status × Nat)

/-- A failing check with its DETAIL (R103). -/
def bad (st : Status) (offset index reason : Nat) : Check := some (st, badDetail offset index reason)

/-- The first failing check of a list, in order. -/
def firstBad : List Check → Check
  | [] => none
  | some e :: _ => some e
  | none :: cs => firstBad cs

/-- A condition that must hold, else BAD_FIELD. -/
def need (c : Bool) (offset index reason : Nat) : Check := if c then none else bad .badField offset index reason

/-- Step 3: flags permitted (R80). -/
def checkFlags (i : Image) : Check :=
  let op := opcodeOf i
  need (!(bit i 8 && op != 5 && op != 10) && !(bit i 10 && op != 1 && op != 2)) 1 0xFF 7

/-- A length check, else BAD_LENGTH. -/
def needLen (c : Bool) (offset : Nat) : Check := if c then none else bad .badLength offset 0xFF 0

/-- Step 4: LENGTH and the counts that fix it (R81, R84). -/
def checkLength (i : Image) : Check :=
  let n := lengthOf i
  match opcodeOf i with
  | 0x00 => needLen (n == 0) 2
  | 0x01 =>
    if bit i 70 then firstBad [needLen (n == 32) 2, needLen (decide (1 ≤ leAt i 34 2 ∧ leAt i 34 2 ≤ 256)) 34]
    else needLen (decide (1 ≤ byteAt i 9 ∧ byteAt i 9 ≤ 8) && n == 18 + 4 * byteAt i 9) 2
  | 0x02 => firstBad [needLen (n == 43) 2, needLen (decide (byteAt i 15 ≤ 64)) 15]
  | 0x03 => needLen (decide (1 ≤ byteAt i 9 ∧ byteAt i 9 ≤ 10) && n == 10 + 4 * byteAt i 9) 2
  | 0x04 => needLen (n == 16) 2
  | 0x05 => needLen (n == 4) 2
  | 0x06 => needLen (n == 4) 2
  | 0x07 => needLen (n == 8) 2
  | 0x08 => needLen (n == 4) 2
  | 0x09 => needLen (n == 0 || n == 4) 2
  | 0x0A => needLen (n == 0 || n == 4) 2
  | 0x0B => needLen (n == 20) 2
  | 0x0C => needLen (n == 8) 2
  | _ => none

/-- Reserved bits of a body byte within LENGTH (R86–R98). -/
def reservedMask (i : Image) (n : Nat) : Nat :=
  match opcodeOf i with
  | 0x01 => if n = 8 then 0x80 else if bit i 70 ∧ n = 9 then 0xFF else if bit i 70 ∧ 36 ≤ n ∧ n ≤ 39 then 0xFF else 0
  | 0x02 => if n = 44 then 0xFE else 0
  | 0x03 => if n = 8 then 0xC0 else if n = 10 ∨ n = 11 then 0xFF else 0
  | 0x04 => if n = 8 then 0xC0 else if n = 9 then 0xF8 else if n = 10 ∨ n = 11 then 0xFF else 0
  | 0x05 => if n = 8 then 0xF0 else if 9 ≤ n then 0xFF else 0
  | 0x06 => if n = 8 then 0xFE else if n = 11 then 0xFF else 0
  | 0x07 => if n = 14 ∨ n = 15 then 0xFF else 0
  | 0x08 => if n = 9 then 0xFF else 0
  | 0x0B => if n = 10 ∨ n = 11 then 0xFF else 0
  | 0x0C => if n = 9 then 0xFF else 0
  | _ => 0

/-- Step 5: every reserved bit and byte is 0, bytes beyond LENGTH included (R80, R83). -/
def checkReserved (i : Image) : Check :=
  if byteAt i 1 / 16 ≠ 0 then bad .badField 1 0xFF 3
  else
    let n := lengthOf i
    match ((List.range 52).map (· + 8)).find? (fun k => if 8 + n ≤ k then byteAt i k != 0 else byteAt i k &&& reservedMask i k != 0) with
    | some k => bad .badField k 0xFF 3
    | none => none

/-- The segments of a body, in order: LENGTH, then the sign of P_END on an AUX string (R86, R87); a list segment is named by its index. -/
def checkSegs (r : ResvBody) (b idx : Nat) (aux : Bool) : Nat → List (Nat × Int) → Check
  | _, [] => none
  | j, s :: rest =>
    let place := fun (o : Nat) => if r.indirect then bad .badField o (j % 256) 0 else bad .badField (b + 18 + 4 * j + o) idx 0
    if s.1 = 0 ∨ 4096 < s.1 then place 0 else if aux && decide (s.2 < 0) then place 2 else checkSegs r b idx aux (j + 1) rest

/-- The string of a RESERVE body carries reservations (R86). -/
def stringTakes (d : Dev) (r : ResvBody) : Bool :=
  kindOf d r.string == .axis || kindOf d r.string == .aux || kindOf d r.string == .store

/-- Fields of a RESERVE body after its string, in byte order (R84, R86, R87); `b` is 8 or 0, `idx` the record index or 0xFF. -/
def checkBody (d : Dev) (r : ResvBody) (b idx : Nat) : Check :=
  let aux := kindOf d r.string == .aux
  firstBad [
    need (r.tag != 0xFFFF) (b + 2) idx 0,
    need (decide (r.start < r.stop)) (b + 10) idx 0,
    need (!(aux && decide (r.pStart < 0))) (b + 16) idx 0,
    checkSegs r b idx aux 0 r.segs]

/-- SUM_MISMATCH, which names END_FRET (R86, log 61). -/
def checkSum (r : ResvBody) (b idx : Nat) : Check := need ((r.segs.map (fun s => s.1)).sum == r.stop - r.start) (b + 10) idx 4

/-- One add record, its fields in byte order (R88, R103). -/
def checkAdd (d : Dev) (x : Entry) (idx : Nat) (i : Image) : Check :=
  let r := addOf i
  let used := 18 + 4 * r.nSegs
  firstBad [
    need (!bit i 6) 0 idx 3,
    need (!flagRideSafe x || r.rideSafe) 0 idx 0,
    need (stringTakes d r) 0 idx 0,
    need (decide (1 ≤ r.nSegs ∧ r.nSegs ≤ 8)) 1 idx 0,
    checkBody d r 0 idx,
    (match ((List.range 60).find? (fun n => decide (used ≤ n) && byteAt i n != 0)) with | some n => bad .badField n idx 3 | none => none),
    checkSum r 0 idx]

/-- The checks of a list of add records, in order (R88). -/
def checkAdds (d : Dev) (x : Entry) : Nat → List Image → Check
  | _, [] => none
  | n, i :: is => match checkAdd d x n i with | some e => some e | none => checkAdds d x (n + 1) is

/-- The points of a PROFILE, in order: OFFSET 0 first, then rising to 4095 at most; VOLTAGE in the kind's range (R89). -/
def checkPoints (k : Kind) : Nat → Option Nat → List (Nat × Nat) → Check
  | _, _, [] => none
  | j, prev, p :: rest =>
    if !(match prev with | none => p.1 == 0 | some o => decide (o < p.1 ∧ p.1 ≤ 4095)) then bad .badField (18 + 4 * j) 0xFF 0
    else if !voltsOk k p.2 then bad .badField (20 + 4 * j) 0xFF 0
    else checkPoints k (j + 1) (some p.1) rest

/-- Step 6: every field in range and consistent (R84–R98). -/
def checkFields (d : Dev) (x : Entry) : Check :=
  let i := x.image
  match classOf i with
  | .reserve => let r := reserveOf x; firstBad [need (stringTakes d r) 8 0xFF 0, checkBody d r 8 0xFF, checkSum r 8 0xFF]
  | .replan => firstBad [
      need (decide (rpRemoveCount i ≤ 8) && !(rpAddCount i == 0 && rpRemoveCount i == 0 && !rpRange i)) 14 0xFF 0,
      need (!(rpRange i && (decide (rpHigh i < rpLow i) || rpLow i == 0xFFFF))) 16 0xFF 0,
      need (!(rpRange i && rpHigh i == 0xFFFF)) 18 0xFF 0,
      (match (rpTags i).findIdx? (fun t => t == 0xFFFF) with | some j => bad .badField (20 + 2 * j) 0xFF 0 | none => none),
      (match ((List.range 8).find? (fun j => decide (rpRemoveCount i ≤ j) && leAt i (20 + 2 * j) 2 != 0)) with | some j => bad .badField (20 + 2 * j) 0xFF 3 | none => none),
      need (!(rpAddCount i == 0 && leAt i 36 8 != 0)) 36 0xFF 0,
      need (!(decide (rpRetry i ≠ 0) && decide (rpRetry i ≤ rpSwitch i))) 45 0xFF 0,
      checkAdds d x 0 x.adds]
  | .profile =>
    let ps := prPoints i
    let k := kindOf d (prString i)
    firstBad [
      need (settable k) 8 0xFF 0,
      checkPoints k 0 none ps]
  | .setpoint =>
    let s := spSel i
    firstBad [
      need (settable (kindOf d (spString i))) 8 0xFF 0,
      need (s != 0) 9 0xFF 0,
      need (if s % 2 = 1 then voltsOk (kindOf d (spString i)) (spVolts i) else spVolts i == 0) 18 0xFF 0,
      need (if s / 2 % 2 = 1 then decide (spIdle i ≤ 2000) else spIdle i == 0) 20 0xFF 0,
      need (if s / 4 = 1 then decide (100 ≤ spSlew i ∧ spSlew i ≤ 1000) else spSlew i == 0) 22 0xFF 0]
  | .mode => need (match Mode.ofCode (modeTarget i) with | some m => !(m == .cold || m == .boot || m == .ride) | none => false) 8 0xFF 0
  | .sequence => firstBad [need (decide (sqFirst i ≤ 15)) 9 0xFF 0, need (decide (sqFirst i ≤ sqLast i ∧ sqLast i ≤ 15)) 10 0xFF 0]
  | .chgStop => need (chValue i == 0) 10 0xFF 0
  | .chgCharge => need (decide (chValue i ≤ 2000)) 10 0xFF 0
  | .chgSearch => need (chValue i == 0) 10 0xFF 0
  | .chgRide => need (decide (4200 ≤ chValue i ∧ chValue i ≤ 5800) && !(storeValid d && decide (50 * busLow d (storeString d) < chValue i + 50))) 10 0xFF 0
  | .chgClear => need (chValue i == 0) 10 0xFF 0
  | .fence => need (!(lengthOf i == 4 && feMask i == 0)) 8 0xFF 0
  | .qFree => need (quArg i == 0) 9 0xFF 0
  | .qFret => need (quArg i == 0) 9 0xFF 0
  | .qString => need (decide (quArg i < 64)) 9 0xFF 0
  | .qUnreserved => need (decide (quArg i < 4096)) 9 0xFF 0
  | .qBank => need (decide (quArg i < 4096)) 9 0xFF 0
  | .qTag => need (decide (quArg i < 65536)) 9 0xFF 0
  | .mark => need (decide (0x6000 ≤ mkCode i ∧ mkCode i ≤ 0x6FFF)) 8 0xFF 0
  | .bad => if opcodeOf i ≤ 0x0C then bad .badField 8 0xFF 0 else none
  | _ => none

/-- Opcodes that execute in a mode (R36); in HOLD, whatever was accepted before it. -/
def modeRuns (m : Mode) (op : Nat) (ride : Bool) : Bool :=
  match m with
  | .config => [5, 6, 7, 8, 9, 10, 11, 12, 0].contains op
  | .armed => [5, 6, 7, 8, 9, 10, 11, 12, 0, 3, 4].contains op
  | .run => true
  | .hold => true
  | .ride => ((op == 1 || op == 2) && ride) || [3, 4, 5, 7, 9, 10, 11, 12, 0].contains op
  | .safe => [5, 9, 10, 11, 12, 0].contains op
  | .drone => [5, 9, 10, 11, 0].contains op
  | .shutdown => op == 5
  | .replay => [5, 9, 10, 0].contains op
  | _ => false

/-- Step 7: the mode, with the rules of R48, R94 and R245. -/
def checkMode (d : Dev) (x : Entry) : Check :=
  let i := x.image
  let op := opcodeOf i
  if d.mm.mode == .shutdown && op != 5 then some (.preempted, 0)
  else if !modeRuns d.mm.mode op (flagRideSafe x) then some (.modeRefused, 0)
  else match classOf i with
    | .chgSearch => if d.mm.mode == .config || d.mm.mode == .armed then none else some (.modeRefused, 0)
    | .sequence => if d.mm.mode == .config && !sqDown i then some (.modeRefused, 0) else none
    | .mode => if !d.mm.fwValid && modeTarget i != 10 && modeTarget i != 0 then some (.modeRefused, 0) else none
    | _ => none

/-- The strings a descriptor targets (R83 step 8). -/
def targetStrings (x : Entry) : List Nat :=
  match classOf x.image with
  | .reserve => [(reserveOf x).string]
  | .replan => x.adds.map (fun i => (addOf i).string)
  | .profile => [prString x.image]
  | .setpoint => [spString x.image]
  | _ => []

/-- Step 8: no target string is retired. -/
def checkRetired (d : Dev) (x : Entry) : Check :=
  match (targetStrings x).find? (fun k => (strU d k).retired) with
  | some k => some (.stringRetired, (strU d k).retireCode)
  | none => none

/-- LATE_START, which carries no DETAIL (R103). -/
def late (c : Bool) : Check := if c then some (.lateStart, 0) else none

/-- HORIZON (R85): a fret above A + 4096. -/
def horizon (a f offset idx : Nat) : Check := need (decide (f ≤ a + 4096)) offset idx 5

/-- The frets of a list of add records: START_FRET below A + 8, which fails R86, and the horizon (R85, R88, log 61). -/
def timeAdds (a : Nat) : Nat → List Image → Check
  | _, [] => none
  | n, i :: is =>
    match firstBad [need (decide (a + 8 ≤ (addOf i).start)) 4 n 0, horizon a (addOf i).stop 10 n] with
    | some e => some e
    | none => timeAdds a (n + 1) is

/-- Step 9: the timing of each opcode, against A, the last published fret and then the horizon (R85–R98, R142, log 61). -/
def checkTiming (d : Dev) (x : Entry) : Check :=
  let i := x.image
  let a := x.accFret
  match classOf i with
  | .reserve =>
    let r := reserveOf x
    firstBad [late (decide (r.start < a + 8) || (match d.fb.published with | some f => decide (r.start ≤ f) | none => false)), horizon a r.stop 18 0xFF]
  | .replan => firstBad [
      need (decide (a + 4 ≤ rpSwitch i)) 8 0xFF 0,
      horizon a (rpSwitch i) 8 0xFF,
      (if rpRetry i = 0 then none else horizon a (rpRetry i) 45 0xFF),
      timeAdds a 0 x.adds]
  | .profile => firstBad [late (decide (prStart i < a + 8)), horizon a (prLast i) (14 + 4 * (prPoints i).length) 0xFF]
  | .setpoint => firstBad [late (decide (spFret i < a + 8)), horizon a (spFret i) 12 0xFF]
  | .commit => if coFret i = 0 then none else firstBad [late (decide (coFret i < a + 8)), horizon a (coFret i) 8 0xFF]
  | .capStop => if caFret i = 0 then none else firstBad [late (decide (caFret i < a + 8)), horizon a (caFret i) 10 0xFF]
  | .capStart => if caFret i = 0 then none else firstBad [late (decide (caFret i < a + 8)), horizon a (caFret i) 10 0xFF]
  | .capFreeze => if caFret i = 0 then none else firstBad [late (decide (caFret i < a + 8)), horizon a (caFret i) 10 0xFF]
  | _ => none

/-- The checks of R83, steps 1 to 9: the first that fails. -/
def checkDesc (d : Dev) (x : Entry) : Check :=
  match x.fixed with
  | some e => some e
  | none =>
    let i := x.image
    firstBad [
      (if 0x0C < opcodeOf i then bad .badOpcode 0 0xFF 0 else none),
      checkFlags i, checkLength i, checkReserved i, checkFields d x, checkMode d x, checkRetired d x, checkTiming d x]

/-! ### When a descriptor executes (R42, R82, R83, R141, R420) -/

/-- Position order of entries is journal order; the entries before one. -/
def before (d : Dev) (e : Nat) : List Entry := (entries d).takeWhile (fun x => x.idx != e)

/-- An entry has executed: its intent record is written, or it is past that (R108). -/
def executed (x : Entry) : Bool := x.st != .accepted && x.st != .writing

/-- A descriptor's own urgency: an urgent MODE request or a QUERY with URGENT (R42, R96). -/
def isUrgent (x : Entry) : Bool := urgentMode x || (x.fixed.isNone && opcodeOf x.image == 10 && flagUrgent x)

/-- An ordinary MODE request (R42). -/
def ordinaryMode (x : Entry) : Bool := x.fixed.isNone && classOf x.image == .mode && !urgentMode x

/-- A descriptor is due (R17), nothing of its ring is ahead of it, no fence holds it, and no ordinary MODE request is ahead of another
(R42, R82, R123, R420). -/
def ready (d : Dev) (x : Entry) : Bool :=
  x.st == .accepted && !x.restored && decide (x.accTick + 4 ≤ d.clk.tick)
  && (d.mm.mode != .off && d.mm.mode != .cold && d.mm.mode != .boot) && !d.pwr.ctlLost
  && (isUrgent x
      || ((before d x.idx).all (fun y => y.ring != x.ring || executed y || isUrgent y)
          && (!ordinaryMode x || (before d x.idx).all (fun y => !ordinaryMode y || y.restored || executed y))
          && (!(flagFence x) || (before d x.idx).all (fun y => y.ring != x.ring || y.firstCpl))))

/-- RESERVE and REPLAN run on the fingerboard engine (R141). -/
def onEngine (x : Entry) : Bool := x.fixed.isNone && (opcodeOf x.image == 1 || opcodeOf x.image == 2)

/-- A re-anchor is due in this tick, and an admission waits for it (R139, R162). -/
def anchorDue (d : Dev) : Bool := d.clk.tickInFret == 1 && d.fb.anchorAt != d.clk.fret + 1

/-- Earlier work of the fingerboard engine still stands: one not started that its fence or its ring does not hold, a build under way, or a
re-anchor (R82, R139, R141, R156). -/
def engineBusy (d : Dev) (x : Entry) : Bool :=
  (before d x.idx).any (fun y => onEngine y && y.st == .accepted && ready d y)
  || anchorDue d
  || (match d.fb.replan with | some r => !r.ready || opcodeOf x.image == 2 | none => false)

/-- A non-urgent MODE or a SEQUENCE waits for a sequencer run, with the later ones in journal order (R420); SHUTDOWN preempts a SEQUENCE (R55). -/
def waitsRun (d : Dev) (x : Entry) : Bool :=
  let c := classOf x.image
  (ordinaryMode x || (x.fixed.isNone && c == .sequence && d.mm.mode != .shutdown))
  && (inTransition d || (before d x.idx).any (fun y => y.st == .accepted && y.deferred))

end Sys2Proof.Machine
end

