-- ==== Sys2Proof/Machine/Interrupts.lean ====
section
/-!
DEFINITION. Interrupt claims and completions (R317–R321).
-/
set_option Elab.async false
namespace Sys2Proof.Machine

/-- A value is returned on the bus. -/
def answer (d : Dev) (v : Nat) : Dev := { d with bus := w32 v }

/-- A claim read of a target (R317, R321). -/
def claimRead (d : Dev) (t : Nat) : Dev :=
  if !globalEnable d then answer d 0
  else
    let n := claimOf d t
    let d := retell d t
    if n = 0 then answer { d with int := { d.int with spurious := upd d.int.spurious t (fun c => sat 65535 (c + 1)) } } 0
    else answer { d with int := { d.int with refired := d.int.refired &&& ~~~(1#256 <<< n), claimStacks := upd d.int.claimStacks t (fun s => (n, srcPriority d n) :: s) } } n

/-- A completion write (R319): in order it pops the stack, otherwise the stack is cleared and INT_STACK raised. -/
def completeWrite (d : Dev) (t n : Nat) : Dev :=
  if !powered d .mgmt then d
  else
    let d := retell d t
    if n = 0 then d
    else match stackOf d t with
      | (m, _) :: rest =>
        if m = n then { d with int := { d.int with claimStacks := d.int.claimStacks.set t rest } }
        else detect { d with int := { d.int with claimStacks := d.int.claimStacks.set t [] } } 0x1600 t n m
      | [] => detect d 0x1600 t n 0

/-- INT_CLAIM (R317). -/
def execIntClaim (t : Nat) (s : State) : Host.Outcome State Fault Refusal := run (fun d => claimRead d t) s

/-- INT_COMPLETE (R319). -/
def execIntComplete (t n : Nat) (s : State) : Host.Outcome State Fault Refusal := run (fun d => completeWrite d t n) s

/-- INT_CONTROL.GLOBAL_ENABLE (R321). -/
def writeGlobal (d : Dev) (on : Bool) : Dev := if powered d .mgmt then setRw d 0x5000 (w32 (b2n on)) else d

/-- GLOBAL_ENABLE (R321). -/
def execGlobalEnable (on : Bool) (s : State) : Host.Outcome State Fault Refusal := run (fun d => writeGlobal d on) s

end Sys2Proof.Machine
end

