-- ==== Sys2Proof/Machine/Timers.lean ====
section
/-!
DEFINITION. The timers and their capture queues, and the halt of the Dunmal core (R326–R331, R344).
-/
set_option Elab.async false
namespace Sys2Proof.Machine

def tmrU (d : Dev) (t : Nat) : Timer := at' {} d.tmr t
def updTmr (d : Dev) (t : Nat) (f : Timer → Timer) : Dev := { d with tmr := upd d.tmr t f }

/-- ENABLE, RESTART, FREEZE, CAPTURE_SELECT and EDGE (R331). -/
def tmrEnabled (u : Timer) : Bool := bit u.ctl 0
def tmrRestart (u : Timer) : Bool := bit u.ctl 1
def tmrFrozen (d : Dev) (u : Timer) : Bool := bit u.ctl 2 && d.pwr.coreHalted
def tmrSelect (u : Timer) : Nat := fld u.ctl 8 4
def tmrEdge (u : Timer) : Nat := fld u.ctl 12 2

/-- A match (R327). -/
def tmrMatch (d : Dev) (t : Nat) : Dev := occur (updTmr d t (fun u => { u with matched := true, reload := true, matchAt := some d.clk.tick })) (224 + 3 * t)

def tmrPrescale (u : Timer) : Nat := fld u.ctl 4 4

/-- The bus clock at which the tick begins: 200 to the tick (R14, R326). -/
def busClock (d : Dev) : Nat := 200 * d.clk.tick

/-- The prescaler has come round by the end of this tick (R326, log 56). -/
def advanceDue (d : Dev) (u : Timer) : Bool := decide (u.next < busClock d + 200)

/-- The bus clock before which the advance after one made now cannot come (R326). -/
def nextAdvance (d : Dev) (u : Timer) : Nat := max u.next (busClock d) + 2 ^ tmrPrescale u

/-- One advance (R326, R327, R330). -/
def advanceTimer (d : Dev) (t : Nat) : Dev :=
  let u := tmrU d t
  if !powered d .mgmt || !tmrEnabled u || tmrFrozen d u || !advanceDue d u then d
  else
    let c : Word := if u.reload && tmrRestart u then 0 else u.count + 1
    let d := updTmr d t (fun u => { u with count := c, reload := false, next := nextAdvance d u })
    if c = u.compare then tmrMatch d t else d

/-- TIMER_ADVANCE (R326). -/
def execTimerAdvance (t : Nat) (s : State) : Host.Outcome State Fault Refusal := run (fun d => advanceTimer d t) s

/-- The event is the one the timer captures (R329). -/
def capturesEvent (u : Timer) (t : Nat) : CapEvent → Bool
  | .sync i rising _ => decide (i < 4) && tmrSelect u == i + 1 && (tmrEdge u == 2 || (tmrEdge u == 0 && rising) || (tmrEdge u == 1 && !rising))
  | .fretToken => tmrSelect u == 5
  | .managementTick => tmrSelect u == 6
  | .modeChange => tmrSelect u == 7
  | .timerMatch q => tmrSelect u == 8 && q == (t + 1) % 8

/-- The event is one of this tick: an edge comes with the command, the device's own events are in State (R329). -/
def eventNow (d : Dev) : CapEvent → Bool
  | .sync _ _ _ => true
  | .fretToken => d.clk.tickInFret == 0 && !d.clk.fretDue
  | .managementTick => d.clk.mgmtAt == some d.clk.tick
  | .modeChange => d.mm.changedAt == some d.clk.tick
  | .timerMatch q => (tmrU d q).matchAt == some d.clk.tick

/-- A SYNC edge enters the capture stream, once however many timers capture it (R329, R366). -/
def streamSync (d : Dev) : CapEvent → Dev
  | .sync i rising c =>
    let seen := if d.cap.syncTick = d.clk.tick then d.cap.syncs else []
    if seen.contains (i, rising, c) then d
    else capture { d with cap := { d.cap with syncTick := d.clk.tick, syncs := seen ++ [(i, rising, c)] } } (.sync i (!rising) c)
  | _ => d

/-- A capture stores the count; a full queue discards it and sets OVERFLOW (R329). A SYNC edge enters the capture stream. -/
def captureTimer (d : Dev) (t : Nat) (e : CapEvent) : Dev :=
  let u := tmrU d t
  if !powered d .mgmt || !capturesEvent u t e || !eventNow d e then d
  else
    let d := streamSync d e
    if 4 ≤ u.queue.length then occur (updTmr d t (fun u => { u with overflow := true })) (224 + 3 * t + 2)
    else occur (updTmr d t (fun u => { u with queue := u.queue ++ [u.count] })) (224 + 3 * t + 1)

/-- CAPTURE_EVENT (R329). -/
def execCaptureEvent (t : Nat) (e : CapEvent) (s : State) : Host.Outcome State Fault Refusal := run (fun d => captureTimer d t e) s

/-- A write of TMR_CONTROL (R326, R331): setting ENABLE starts the prescaler from 0. -/
def writeTmrControl (d : Dev) (t : Nat) (v : Word) : Dev :=
  if powered d .mgmt then
    updTmr d t (fun u => { u with ctl := v &&& w32 0x3FF7, next := if bit v 0 && !tmrEnabled u then busClock d + 2 ^ fld v 4 4 else u.next })
  else d

/-- TMR_CONTROL_WRITE (R326). -/
def execTmrControlWrite (t : Nat) (v : Word) (s : State) : Host.Outcome State Fault Refusal := run (fun d => writeTmrControl d t v) s

/-- A write of TMR_COUNT loads the counter while ENABLE = 0 (R326). -/
def writeTmrCount (d : Dev) (t : Nat) (v : Word) : Dev :=
  if powered d .mgmt && !tmrEnabled (tmrU d t) then updTmr d t (fun u => { u with count := v }) else d

/-- TMR_COUNT_WRITE (R326). -/
def execTmrCountWrite (t : Nat) (v : Word) (s : State) : Host.Outcome State Fault Refusal := run (fun d => writeTmrCount d t v) s

/-- A write of TMR_COMPARE goes to the live comparator; equal to the count of a running timer it matches at once (R327, R328). -/
def writeTmrCompare (d : Dev) (t : Nat) (v : Word) : Dev :=
  if !powered d .mgmt then d
  else
    let d := updTmr d t (fun u => { u with compare := v })
    if tmrEnabled (tmrU d t) && (tmrU d t).count == v then tmrMatch d t else d

/-- TMR_COMPARE_WRITE (R328). -/
def execTmrCompareWrite (t : Nat) (v : Word) (s : State) : Host.Outcome State Fault Refusal := run (fun d => writeTmrCompare d t v) s

/-- A read of TMR_CAPTURE returns and removes the oldest entry, or returns 0 (R329). -/
def readTmrCapture (d : Dev) (t : Nat) : Dev :=
  match (tmrU d t).queue with
  | [] => answer d 0
  | v :: rest => { updTmr d t (fun u => { u with queue := rest }) with bus := v }

/-- TMR_CAPTURE_READ (R329). -/
def execTmrCaptureRead (t : Nat) (s : State) : Host.Outcome State Fault Refusal := run (fun d => readTmrCapture d t) s

/-- TMR_STATUS (R331). -/
def tmrStatus (d : Dev) (t : Nat) : Nat :=
  let u := tmrU d t
  b2n u.matched + 2 * b2n (!u.queue.isEmpty) + 4 * b2n u.overflow + 8 * b2n (tmrFrozen d u) + (u.queue.length <<< 4)

/-- CORE_HALT: the key register clears (R344) and freezing timers stop (R330). -/
def haltCore (d : Dev) : Dev :=
  if powered d .mgmt then { d with pwr := { d.pwr with coreHalted := true, keyReg := 0 } } else d

/-- CORE_HALT (R344). -/
def execCoreHalt (s : State) : Host.Outcome State Fault Refusal := run haltCore s

/-- CORE_RESUME: FROZEN clears (R330). -/
def resumeCore (d : Dev) : Dev := { d with pwr := { d.pwr with coreHalted := false } }

/-- CORE_RESUME (R330). -/
def execCoreResume (s : State) : Host.Outcome State Fault Refusal := run resumeCore s

end Sys2Proof.Machine
end

