-- ==== Sys2Proof/Machine/Watch.lean ====
section
/-!
DEFINITION. The host-progress watchdog (R332–R339, R58).
-/
set_option Elab.async false
namespace Sys2Proof.Machine

/-- WD_SETUP fields (R339). -/
def wdMask (d : Dev) (k : Nat) : Bool := bit d.wd.setup k
def wdSlow (d : Dev) : Bool := bit d.wd.setup 8
def wdPrescale (d : Dev) : Nat := fld d.wd.setup 9 4
def wdSlot7 (d : Dev) : Bool := bit d.wd.setup 13
def wdWait (d : Dev) : Nat := fld d.wd.setup 14 6

/-- HRST_N is asserted for a time from now (R249). -/
def assertHrst (d : Dev) (us : Nat) : Dev :=
  setHrst d (fun p => { p with hrstTimed := true, hrstUntil := max (if p.hrstTimed then p.hrstUntil else 0) (d.clk.tick + us) })

/-- An expiry (R337, R58): HRST_N for 10 ms, HOLD at the next fret boundary in ARMED or RUN, waiting with the values kept. -/
def expire (d : Dev) (kept : List Word) : Dev :=
  let d := assertHrst d 10000
  let d := if d.mm.mode == .armed || d.mm.mode == .run then { d with mm := { d.mm with wdHold := true } } else d
  { d with wd := { d.wd with waiting := true, count := 0, frac := 0, marks := 0, kept := kept, waitTicks := 0 } }

/-- The slot values of a check-in line (R332). -/
def slotValues (d : Dev) (line : Line) : List Word :=
  (List.range 8).map (fun k => if k = 7 ∧ wdSlot7 d then d.wd.slot7 else w32 (leAt line (4 * k) 4))

/-- The judgement of one slot at a sample: a violation, and whether it is marked now (R335). -/
def judgeSlot (d : Dev) (vs : List Word) (k : Nat) : Bool × Bool :=
  let diff := (vs.getD k 0 - d.wd.prev.getD k 0).toNat
  let m := bit d.wd.marks k
  if diff = 0 then (false, m)
  else if diff = 1 then
    (if d.wd.count < d.wd.openAt then (true, m)
     else if d.wd.count < d.wd.closeAt then (m, true)
     else (true, m))
  else (true, m)

/-- Enabled slots. -/
def wdSlots (d : Dev) : List Nat := (List.range 8).filter (wdMask d)

/-- Some enabled slot is not marked. -/
def unmarked (d : Dev) (marks : BitVec 8) : Bool := (wdSlots d).any (fun k => !bit marks k)

/-- A sample of the check-in line (R335, R337). -/
def wdSample (d : Dev) (line : Line) : Dev :=
  if !d.wd.on then d
  else
    let vs := slotValues d line
    if d.wd.waiting then
      (if (wdSlots d).all (fun k => vs.getD k 0 != d.wd.kept.getD k 0) then { d with wd := { d.wd with waiting := false, prev := vs, marks := 0, count := 0, frac := 0 } } else d)
    else
      let js := (wdSlots d).map (fun k => (k, judgeSlot d vs k))
      let marks := js.foldl (fun m j => if j.2.2 then m ||| (1#8 <<< j.1) else m) 0
      let ends := decide (d.wd.closeAt ≤ d.wd.count)
      let d := { d with wd := { d.wd with prev := vs, marks := marks } }
      if js.any (fun j => j.2.1) || (ends && unmarked d marks) then expire d vs
      else if ends then { d with wd := { d.wd with marks := 0, count := 0, frac := 0 } } else d

/-- The counter advances by one µs of its clock (R334); it holds at 0 while waiting. -/
def wdTick (d : Dev) : Dev :=
  if !d.wd.on || d.wd.waiting || !powered d .mgmt then d
  else if wdSlow d then { d with wd := { d.wd with count := d.wd.count + 1 } }
  else
    let f := d.wd.frac + 200
    { d with wd := { d.wd with count := d.wd.count + f / 2 ^ wdPrescale d, frac := f % 2 ^ wdPrescale d } }

/-- The window ends with no sample at or after the close point (R336). -/
def wdTimeout (d : Dev) : Dev :=
  if !d.wd.on || d.wd.waiting || decide (d.wd.count < 2 * d.wd.closeAt) then d
  else if unmarked d d.wd.marks then expire d d.wd.prev
  else { d with wd := { d.wd with marks := 0, count := 0, frac := 0 } }

/-- WATCHDOG_WINDOW_TIMEOUT (R336). -/
def execWatchdogWindowTimeout (s : State) : Host.Outcome State Fault Refusal := run wdTimeout s

/-- Waiting has lasted WAIT management ticks: a further expiry (R337). -/
def wdWaited (d : Dev) : Dev :=
  if d.wd.on && d.wd.waiting && wdWait d != 0 && decide (wdWait d ≤ d.wd.waitTicks) then expire d d.wd.kept else d

/-- WATCHDOG_WAIT_LIMIT (R337). -/
def execWatchdogWaitLimit (s : State) : Host.Outcome State Fault Refusal := run wdWaited s

/-- The watchdog's clock is lost (R334). -/
def wdClockLost (d : Dev) : Dev := if d.wd.on then expire d (if d.wd.waiting then d.wd.kept else d.wd.prev) else d

/-- WATCHDOG_CLOCK_LOSS (R334). -/
def execWatchdogClockLoss (s : State) : Host.Outcome State Fault Refusal := run wdClockLost s

/-- A write of WD_SETUP (R333): it turns the watchdog on and locks it, or sets REJECTED; ignored once locked. -/
def writeWdSetup (d : Dev) (v : Word) : Dev :=
  if !powered d .mgmt || d.wd.on then d
  else if decide (d.wd.openAt < d.wd.closeAt ∧ d.wd.closeAt ≤ 0x7FFFFFFF) && fld v 0 8 != 0 then
    { d with wd := { d.wd with setup := v &&& w32 0xFFFFF, on := true, waiting := true, count := 0, frac := 0, marks := 0, kept := d.wd.prev, waitTicks := 0 } }
  else { d with wd := { d.wd with rejected := true } }

/-- WD_SETUP_WRITE (R333). -/
def execWdSetupWrite (v : Word) (s : State) : Host.Outcome State Fault Refusal := run (fun d => writeWdSetup d v) s

end Sys2Proof.Machine
end

