-- ==== Sys2Proof/Machine/Strings.lean ====
section
/-!
DEFINITION. Events of strings and phases: hiccup, open and failed phases, safe discharge, reinstatement (R182–R194).
-/
set_option Elab.async false
namespace Sys2Proof.Machine

/-- STRING_HICCUP: a phase in service has reached N_LIMIT limited cycles (R183, R184). -/
def hiccupEvent (d : Dev) (k : Nat) : Dev :=
  let run := ((inService d k).map (fun p => (phU d p).limRun)).foldl max 0
  if (strU d k).st.switching && decide (1 ≤ run ∧ hicN d k ≤ run) then hiccup d k run else d

/-- STRING_HICCUP (R183). -/
def execStringHiccup (k : Nat) (s : State) : Host.Outcome State Fault Refusal := run (fun d => hiccupEvent d k) s

/-- HICCUP_RETRY: the off time has ended (R183). -/
def retryEvent (d : Dev) (k : Nat) : Dev :=
  if (strU d k).st == .hiccup && decide ((strU d k).hicUntil ≤ d.clk.tick) then retryString d k else d

/-- HICCUP_RETRY (R183). -/
def execHiccupRetry (k : Nat) (s : State) : Host.Outcome State Fault Refusal := run (fun d => retryEvent d k) s

/-- Largest less smallest of some duties. -/
def dutySpan (l : List Rat) : Rat :=
  match l with
  | [] => 0
  | a :: as => as.foldl (fun m x => if m < x then x else m) a - as.foldl (fun m x => if x < m then x else m) a

/-- The sense of a phase is failed: stuck, out of range or disagreeing (R187). -/
def senseFailed (d : Dev) (p : Nat) : Bool :=
  let q := phU d p
  (decide (16 ≤ q.stuckRun) && decide ((1 : Rat) / 64 < dutySpan q.duties)) || decide (2 ≤ q.rangeRun) || decide (8 ≤ q.disRun)

/-- A phase carries current for its string and is not a follower, on a released link (R186, R187, R223). -/
def tested (d : Dev) (p : Nat) : Bool :=
  match stringOf d p with
  | some k => ((strU d k).st.switching || (strU d k).st == .safeDischarge) && (driven d k).contains p && !(phU d p).follower && phaseUp d p
  | none => false

/-- PHASE_OPEN: 32 low cycles; the sense test decides where both hold (R186, R188). -/
def openEvent (d : Dev) (p : Nat) : Dev :=
  if tested d p && decide (32 ≤ (phU d p).openRun) && !senseFailed d p then
    let v := lowBits 32 (phU d p).current
    let k := (stringOf d p).getD 0
    detect (retirePhase d p 1 0x1102) 0x1102 k p v
  else d

/-- PHASE_OPEN (R186). -/
def execPhaseOpen (p : Nat) (s : State) : Host.Outcome State Fault Refusal := run (fun d => openEvent d p) s

/-- PHASE_SENSE_FAILED: the phase becomes a follower (R187, R188). -/
def senseEvent (d : Dev) (p : Nat) : Dev := if tested d p && senseFailed d p then makeFollower d p else d

/-- PHASE_SENSE_FAILED (R187). -/
def execPhaseSenseFailed (p : Nat) (s : State) : Host.Outcome State Fault Refusal := run (fun d => senseEvent d p) s

/-- FOLLOWER_RETIRE: 64 of its own cycles as a follower (R188). -/
def followerEvent (d : Dev) (p : Nat) : Dev :=
  let q := phU d p
  if q.follower && !q.retired && decide (64 ≤ q.fCycles) then
    detect (retirePhase d p 2 0x1103) 0x1103 ((stringOf d p).getD 0) p (lowBits 32 q.current)
  else d

/-- FOLLOWER_RETIRE (R188). -/
def execFollowerRetire (p : Nat) (s : State) : Host.Outcome State Fault Refusal := run (fun d => followerEvent d p) s

/-- SAFE_DISCHARGE_DONE: below 10 % the phases go high-impedance (R191). -/
def dischargeDone (d : Dev) (k : Nat) : Dev :=
  if (strU d k).st == .safeDischarge && below10 d k then restPhases d k else d

/-- SAFE_DISCHARGE_DONE (R191). -/
def execSafeDischargeDone (k : Nat) (s : State) : Host.Outcome State Fault Refusal := run (fun d => dischargeDone d k) s

/-- SAFE_DISCHARGE_TIMEOUT (R191, R200). -/
def dischargeLate (d : Dev) (k : Nat) : Dev :=
  let u := strU d k
  if u.st == .safeDischarge && decide (u.dischBy ≤ d.clk.tick) then
    detect (setStrEvent (restPhases d k) k 5) 0x1105 k 0xFFFFFFFF (ratNat (u.vMeas * 10))
  else d

/-- SAFE_DISCHARGE_TIMEOUT (R191). -/
def execSafeDischargeTimeout (k : Nat) (s : State) : Host.Outcome State Fault Refusal := run (fun d => dischargeLate d k) s

/-- A fault status of the string or of its phases is set (R192): the sources of scope STRING that carry the string, those of the pack
for the PACK string, and those of scope UNIT that carry a phase of it. CAPO_DERATED, which reports the retirement that a reinstate
ends, does not count (log 20). -/
def stringFault (d : Dev) (k : Nat) : Bool :=
  [0x1100, 0x1101, 0x1102, 0x1103, 0x1104, 0x1105, 0x1106, 0x1302, 0x1303].any (fun c => (srcOf d c).status && (srcOf d c).insts.contains k)
  || (packValid d && packString d == k && [0x1501, 0x1502, 0x1503].any (fun c => (srcOf d c).status))
  || ((srcOf d 0x1204).status && (srcOf d 0x1204).insts.any (fun j => (linksOf d k).contains j))
  || ((srcOf d 0x1005).status && (srcOf d 0x1005).insts.any (fun p => (course d k).contains p))

/-- STR_STATUS.REINSTATE in CONFIG (R192): the string and its retired phases return to service. -/
def reinstateString (d : Dev) (k : Nat) : Dev :=
  if d.mm.mode != .config || stringFault d k then d
  else
    let d := (course d k).foldl (fun d p => updPh d p (fun q => if q.retired then { q with retired := false, cause := 0, fault := 0, follower := false } else q)) d
    let d := updStr d k (fun u => if u.retired then { u with retired := false, retireCode := 0, st := if u.st == .retired then .disabled else u.st } else u)
    recapo d k

/-- STRING_REINSTATE (R192). -/
def execStringReinstate (k : Nat) (s : State) : Host.Outcome State Fault Refusal := run (fun d => reinstateString d k) s

end Sys2Proof.Machine
end

