-- ==== Sys2Proof/Machine/Links.lean ====
section
/-!
DEFINITION. Stage links: block formats, uplink blocks, lost slots, re-send, training and retirement (R202–R229).
-/
set_option Elab.async false
namespace Sys2Proof.Machine

/-! ### Blocks (R207, R208) -/

/-- HEADER fields. -/
def hdrSlot (b : Block) : Nat := fld b 0 1
def hdrStamp (b : Block) : Nat := fld b 1 5
def hdrType (b : Block) : Nat := fld b 6 2
/-- The CRC of a block matches (R207). -/
def crcGood (b : Block) : Bool := leAt b 33 2 == crc16 (bytesOf b 33)
/-- Payload bytes 0–31. -/
def payload (b : Block) : List Nat := (List.range 32).map (fun i => byteAt b (i + 1))
/-- A payload field of `k` bytes at payload byte `n`. -/
def pf (b : Block) (n k : Nat) : Nat := leAt b (n + 1) k

/-- A stamp's low five bits extended to the latest tick not after now (R15). -/
def extendStamp (tick low : Nat) : Nat := tick - (tick + 32 - low) % 32

/-- A downlink block as it leaves: HEADER, payload, and the CRC over both (R207). -/
def downBlock (link slot hdr : Nat) (ws : List Nat) : Out := .downlink link slot hdr ws (crc16 (hdr :: ws))

/-! ### ACK (R213) -/

def ackValid (b : Block) : Bool := fld b 8 1 == 1
def ackNak (b : Block) : Bool := fld b 9 1 == 1
def ackJudged (b : Block) : Nat := fld b 10 6

/-- The credit of the block that a verdict in UA (`second` false) or UB judges returns (R219): D0's, or D1's, which is D0's again where
D1 was a re-send. -/
def creditBack (d : Dev) (k : Nat) (second : Bool) : Dev :=
  updLk d k (fun l => { l with flight := l.flight.filter (fun q => if second then q.1 == 0 && l.second != some (q.2, 0) else q.1 == 1) })

/-- D0's credit stays with a NAK that brings a re-send, until the verdict on D1 (R216, R219). -/
def creditHeld (l : LinkUnit) (b : Block) (second : Bool) : Bool := !second && ackNak b && l.resendOk

/-- The verdict on a downlink slot (R213, R219, R224, R225): a NAK is a lost slot; the credit returns. -/
def takeAck (d : Dev) (k : Nat) (b : Block) (second : Bool) : Dev :=
  if !ackValid b then d
  else
    let d := if creditHeld (lkU d k) b second then d else creditBack d k second
    let d := updLk d k (fun l => { l with judged := ackJudged b })
    if ackNak b then lostSlot (updLk d k (fun l => { l with goodDown := 0 })) k true false
    else updLk d k (fun l => { l with goodDown := l.goodDown + 1 })

/-- A good uplink slot: 8 in a row release the hold of R221. -/
def goodSlot (d : Dev) (k : Nat) : Dev :=
  updLk d k (fun l => { l with upRun := 0, goodUp := l.goodUp + 1, hold := l.hold && decide (l.goodUp + 1 < 8) })

/-! ### Lost slots (R221, R225) -/

/-- A bad UA is refused with /N/ in the gap after D1 (R218): its re-send is awaited. -/
def refuseBlock (d : Dev) (k hdr : Nat) : Dev :=
  emitFast (updLk d k (fun l => { l with refusing := none, refused := l.refused.filter (fun q => decide (d.clk.tick < q.2 + 3)) ++ [(hdr, d.clk.tick)] })) (.refuse k hdr)

/-- A UA is lost (R18, R218): its sample will be missing at its due tick, and it is refused after D1, at once where D1 has gone. -/
def loseA (d : Dev) (k hdr : Nat) : Dev :=
  let l := lkU d k
  let sent := match l.second with | some q => q.1 == d.clk.tick | none => false
  let d := updLk d k (fun l => { l with lateDue := l.lateDue ++ [d.clk.tick + 1], refusing := some hdr })
  if sent then refuseBlock d k hdr else d

/-- An uplink slot is lost, `inj` under check-bit injection: counted; a lost UA is refused and counts as LATE_INPUT at its due tick; the third in a row makes the link
RECOVERING and holds it at MODE = SAFE (R18, R218, R221). -/
def loseUplinkAs (d : Dev) (k : Nat) (second : Bool) (hdr : Nat) (inj : Bool) : Dev :=
  let d := lostSlot (capture d (.lost k (b2n second))) k false inj
  let d := updLk d k (fun l => { l with upRun := l.upRun + 1, goodUp := 0, refused := if second then l.refused.filter (fun q => decide (d.clk.tick < q.2 + 2)) else l.refused })
  let d := if second then d else loseA d k hdr
  let l := lkU d k
  if l.upRun = 3 && (l.st == .up || l.st == .held || l.st == .recovering) then
    let d := updLk d k (fun l => { l with hold := true, holdAt := d.clk.tick + 1 })
    if l.st == .recovering then d else recoverLink d k 3
  else d

/-- An uplink slot is lost (R18, R218, R221). -/
def loseUplink (d : Dev) (k : Nat) (second : Bool) (hdr : Nat) : Dev := loseUplinkAs d k second hdr false

/-- The receiver listens to a link (R228): blocks are sent on it, and it is neither UNUSED nor RETIRED. -/
def listening (d : Dev) (k : Nat) : Bool := linkSends d k && (lkU d k).st != .unused && (lkU d k).st != .retired

/-- LOST_UPLINK_SLOT (R221). -/
def execLostUplinkSlot (k : Nat) (second : Bool) (header : Nat) (s : State) : Host.Outcome State Fault Refusal :=
  run (fun d => if listening d k then loseUplink d k second header else d) s

/-! ### Telemetry (R214, R218) -/

/-- The telemetry of a TELEMETRY block. -/
def sampleOf (d : Dev) (b : Block) : Sample :=
  let lanes := List.range 4
  { stamp := extendStamp d.clk.tick (hdrStamp b), cur := lanes.map (fun i => signed 14 (pf b (1 + 2 * i) 2 % 2 ^ 14)), limited := lanes.map (fun i => pf b (1 + 2 * i) 2 / 2 ^ 14 % 2 == 1), vOut := lanes.map (fun i => pf b (9 + 2 * i) 2), vIn := pf b 17 2, est := lanes.map (fun i => signed 14 (pf b (19 + 2 * i) 2 % 2 ^ 14)), cycles := lanes.map (fun i => pf b 29 1 / 4 ^ i % 4) }

/-- PH_MEASURE.CURRENT of the link's phases (R201). -/
def showSample (d : Dev) (k : Nat) (q : Sample) : Dev :=
  (List.range 4).foldl (fun d i => updPh d (4 * k + i) (fun p => { p with current := q.cur.getD i 0 })) d

/-- The stage status word (R214, R224, R225): lane faults, over-temperature, and the STAGE_SAFE report. -/
def takeStatus (d : Dev) (k stamp st : Nat) : Dev :=
  let old := (lkU d k).status
  let safe := decide (st / 16 % 2 = 1)
  let d := updLk d k (fun l => { l with status := st, stageSafe := safe })
  let d := (List.range 4).foldl (fun d i =>
    let p := 4 * k + i
    if st / 2 ^ i % 2 = 1 && (old / 2 ^ i % 2 = 0 || !(phU d p).retired) then detect (setLinkEvent (retirePhase d p 6 0x1204) k 3) 0x1204 k i st else d) d
  let d := if st / 32 % 2 = 1 ∧ old / 32 % 2 = 0 then detect (setLinkEvent d k 4) 0x1205 k 0xFFFFFFFF st else d
  let l := lkU d k
  if l.st == .up && safe && (match l.runSince with | some m => decide (m + 1 ≤ stamp) | none => false) then recoverLink d k st
  else if l.st == .recovering && !safe && !l.hold then updLk d k (fun l => { l with st := .up })
  else d

/-- An uplink block enters the stream at its due tick; one that comes after it at its arrival, with LATE (R368). -/
def captureUplink (d : Dev) (k slot : Nat) (b : Block) : Dev :=
  let due := extendStamp d.clk.tick (hdrStamp b) + 2
  captureAt d (max due d.clk.tick) (.uplink k slot (decide (due < d.clk.tick)) (byteAt b 0) (payload b))

/-- A TELEMETRY block received good in its slot (R214). -/
def takeTelemetry (d : Dev) (k : Nat) (b : Block) : Dev :=
  let d := captureUplink d k 0 b
  let d := goodSlot (updLk d k (fun l => { l with nak := if ackValid b then some (ackNak b) else l.nak })) k
  let q := sampleOf d b
  let d := takeAck d k b false
  let d := updLk d k (fun l => { l with inbox := l.inbox ++ [q] })
  takeStatus (showSample d k q) k q.stamp (pf b 27 2)

/-- A block of the first slot: good, or lost (R208). A check under injection reads bad once (R306, R307). -/
def uplinkA (d : Dev) (k : Nat) (b : Block) : Dev :=
  if !listening d k then d
  else
    let good := hdrSlot b == 0 && hdrType b == 0 && crcGood b
    if injectionOn d 6 k then
      let obs := d.flt.observe
      let d := takeInjection d
      if !good then loseUplink (realFound d 0x1200 (reactionOf d 0x1200)) k false (byteAt b 0)
      else if obs then takeTelemetry (detectInj d 0x1200 k 0xFFFFFFFF 1 true true) k b
      else loseUplinkAs d k false (byteAt b 0) true
    else if good then takeTelemetry d k b else loseUplink d k false (byteAt b 0)

/-- UPLINK_TELEMETRY (R214). -/
def execUplinkTelemetry (k : Nat) (b : Block) (s : State) : Host.Outcome State Fault Refusal := run (fun d => uplinkA d k b) s

/-! ### STATUS blocks (R215) -/

/-- The first COMMAND with MODE = RUN that the stage acknowledged in UB, since MODE = SAFE was sent last (R224): UB judges the last D1. -/
def ackRun (d : Dev) (k : Nat) (b : Block) : Dev :=
  updLk d k (fun l => { l with runSince := if ackValid b && !ackNak b && l.runSince.isNone then (match l.second with | some (m, 2) => some m | _ => none) else l.runSince })

/-- A STATUS block received good (R215): temperatures, STAGE_ID, CAPS and the stage's lost slots. -/
def takeStageStatus (d : Dev) (k : Nat) (b : Block) : Dev :=
  let d := captureUplink d k 1 b
  let d := takeAck (ackRun (goodSlot d k) k b) k b true
  let d := (List.range 4).foldl (fun d i =>
    let t := signed 16 (pf b (1 + 2 * i) 2)
    updPh d (4 * k + i) (fun p => { p with temp := t, tSum := p.tSum + t, tCnt := p.tCnt + 1 })) d
  let id := pf b 9 2
  let ex := rsF d (0x3100 + 0x20 * k + 0x1C) 0 16
  let news := !(lkU d k).idSeen || (lkU d k).stageId != id
  let d := updLk d k (fun l => { l with stageId := id, caps := pf b 11 1, stageLost := pf b 12 2, idSeen := true })
  if news && decide (ex ≠ 0 ∧ id ≠ ex) then detect (setLinkEvent d k 5) 0x1206 k 0xFFFFFFFF id else d

/-- UPLINK_STATUS (R215). -/
def execUplinkStatus (k : Nat) (b : Block) (s : State) : Host.Outcome State Fault Refusal :=
  run (fun d => if !listening d k then d else if hdrSlot b == 1 && hdrType b == 1 && crcGood b then takeStageStatus d k b else loseUplink d k true (byteAt b 0)) s

/-- UPLINK_RESEND (R218): late for the phase units; PH_MEASURE and the stage status take it. -/
def takeResend (d : Dev) (k : Nat) (b : Block) : Dev :=
  let d := capture d (.uplink k 1 true (byteAt b 0) (payload b))
  let d := takeAck (ackRun (goodSlot d k) k b) k b true
  let d := updLk d k (fun l => { l with late := sat 65535 (l.late + 1), refused := l.refused.filter (fun q => q.1 != byteAt b 0) })
  let q := sampleOf d b
  takeStatus (showSample d k q) k q.stamp (pf b 27 2)

/-- UPLINK_RESEND (R218). -/
def execUplinkResend (k : Nat) (b : Block) (s : State) : Host.Outcome State Fault Refusal :=
  run (fun d => if !listening d k then d else if (lkU d k).refused.any (fun q => q.1 == byteAt b 0) && hdrSlot b == 0 && hdrType b == 0 && crcGood b then takeResend d k b else loseUplink d k true (byteAt b 0)) s

/-! ### Downlink (R209–R212, R216) -/

/-- Cycle limits of a phase: draw and return, 25 mA (R182). -/
def cycleLimits (d : Dev) (p : Nat) : Nat × Nat :=
  match stringOf d p with
  | none => (0, 0)
  | some k =>
    let n := max 1 (driven d k).length
    let i := limitOf d k
    let m := min (i / n + rsF d (phBase p + 8) 16 16) (rsF d (phBase p + 8) 0 16)
    (min 4095 m, if kindOf d k = .aux then min 4095 (rsF d (phBase p + 8) 16 16) else min 4095 m)

/-- A lane word of the tick's EDGE block has ENABLE = 1 (R209, R212). -/
def edgeEnables (l : LinkUnit) : Bool := (List.range 4).any (fun i => decide (128 ≤ l.edge.getD (8 * i + 1) 0))

/-- MODE of the COMMAND block, by the lane words of the tick (R212). -/
def linkRun (d : Dev) (k : Nat) : Bool :=
  let l := lkU d k
  (l.st == .held || l.st == .up || l.st == .recovering) && !l.hold && edgeEnables l

/-- Payload of the COMMAND block (R211). -/
def commandPayload (d : Dev) (k : Nat) : List Nat :=
  (List.range 4).flatMap (fun i =>
    let q := cycleLimits d (4 * k + i)
    leBytes 3 (q.1 + 4096 * q.2)) ++ [b2n (linkRun d k)] ++ List.replicate 19 0

/-- Credits that no verdict has returned come back at the start of the slot after the one that should have carried it (R219): D0's of
earlier ticks at D0, D1's of earlier ticks, and re-sent D0's, at D1. -/
def creditsPast (l : LinkUnit) (tick slot : Nat) : List (Nat × Nat) :=
  l.flight.filter (fun q => !(decide (q.2 < tick) && (slot == 1 || (q.1 == 0 && l.second != some (q.2, 0)))))

/-- A refusal that waits goes out in the gap after D1 (R218). -/
def refuseNow (d : Dev) (k : Nat) : Dev := match (lkU d k).refusing with | some h => refuseBlock d k h | none => d

/-- D1 is sent once in a tick, with a credit of its own or, for a re-send, with D0's (R19, R216, R219). -/
def secondFree (d : Dev) (k : Nat) : Bool :=
  let l := lkU d k
  !(match l.second with | some q => q.1 == d.clk.tick | none => false) && decide ((creditsPast l d.clk.tick 1).length < 2)

/-- D1 (R216): the re-send of D0 on a NAK in time, otherwise a COMMAND block; in the tick in which the third uplink slot in a row was
lost, no re-send (R229). Then the refusal of a bad UA (R218). A link that was held silent sends no block. -/
def sendSecond (d : Dev) (k : Nat) : Dev :=
  if !listening d k || !secondFree d k then d
  else
    let t := d.clk.tick
    let l := lkU d k
    let d := updLk d k (fun l => { l with flight := creditsPast l t 1 })
    if l.nak = some true && l.resendOk && !(l.hold && l.holdAt == t + 1) then
      refuseNow (emitFast (updLk d k (fun l => { l with sameTick := sat 65535 (l.sameTick + 1), nak := none, second := some (t, 0) })) (downBlock k 1 (header 0 t 0) l.edge)) k
    else
      let r := linkRun d k
      let d := updLk d k (fun l => { l with nak := none, second := some (t, if r then 2 else 1), runSince := if r then l.runSince else none, flight := (if l.nak = some true then l.flight.filter (fun q => q.1 != 0) else l.flight) ++ [(1, t)] })
      refuseNow (emitFast d (downBlock k 1 (header 1 t 1) (commandPayload d k))) k

/-- RESEND_DECISION (R216). -/
def execResendDecision (k : Nat) (s : State) : Host.Outcome State Fault Refusal := run (fun d => sendSecond d k) s

/-! ### Training, recovery, reinstatement (R206, R224–R226) -/

/-- A SAFETY string that regulated when the control die was lost is enabled again once its links have trained (R302). -/
def safetyAgain (d : Dev) : Dev :=
  if d.mm.mode != .drone || d.pwr.ctlLost then d
  else
    d.pwr.droneSafety.foldl (fun d k =>
      if (linksOf d k).all (fun j => (lkU d j).st == .held || (lkU d j).st == .up) then
        let u := strU d k
        let d := updStr (enableString d k) k (fun v => { v with vCmd := u.vCmd, slew := u.slew, idle := u.idle })
        let d := { d with pwr := { d.pwr with droneSafety := d.pwr.droneSafety.filter (· != k) } }
        droneAllot d
      else d) d

/-- LINK_TRAINED: 8 good slots each way and a delay within 100 ns; above 40 ns LINK_DELAY is raised (R206). A link with a larger delay
shows it and stays in TRAINING (R204, R206). -/
def trained (d : Dev) (k delay : Nat) : Dev :=
  let l := lkU d k
  if listening d k && l.st == .training && decide (8 ≤ l.goodUp ∧ 8 ≤ l.goodDown ∧ 100 < delay) then
    updLk d k (fun l => { l with delay := min 255 delay, resendOk := false })
  else if listening d k && l.st == .training && decide (8 ≤ l.goodUp ∧ 8 ≤ l.goodDown ∧ delay ≤ 100) then
    let d := updLk d k (fun l => { l with st := .held, delay := delay, resendOk := decide (delay ≤ 40), trainFailed := false })
    safetyAgain (if 40 < delay then detect d 0x1207 k 0xFFFFFFFF delay else d)
  else d

/-- LINK_TRAINED (R224). -/
def execLinkTrained (k delay : Nat) (s : State) : Host.Outcome State Fault Refusal := run (fun d => trained d k delay) s

/-- LINK_TRAIN_FAIL: TRAIN_TIMEOUT ms in TRAINING; the link keeps trying (R224). -/
def trainFail (d : Dev) (k : Nat) : Dev :=
  let l := lkU d k
  if listening d k && l.st == .training && !l.trainFailed && decide (l.trainAt + 1000 * rsF d 0x3004 24 8 ≤ d.clk.tick) then
    detect (setLinkEvent (updLk d k (fun l => { l with trainFailed := true })) k 2) 0x1203 k 0xFFFFFFFF l.delay
  else d

/-- LINK_TRAIN_FAIL (R224). -/
def execLinkTrainFail (k : Nat) (s : State) : Host.Outcome State Fault Refusal := run (fun d => trainFail d k) s

/-- LINK_RECOVERY_TIMEOUT: RECOVERING for longer than SL_POLICY.RECOVERY (R225). Its record carries the last STATUS word (R227, log 53). -/
def recoveryTimeout (d : Dev) (k : Nat) : Dev :=
  let l := lkU d k
  if listening d k && l.st == .recovering && decide (l.recoverAt + rsF d 0x3004 16 8 < d.clk.tick) then retireLink d k l.status else d

/-- LINK_RECOVERY_TIMEOUT (R225). -/
def execLinkRecoveryTimeout (k : Nat) (s : State) : Host.Outcome State Fault Refusal := run (fun d => recoveryTimeout d k) s

/-- SL_LINK_EXPECT.REINSTATE in CONFIG, with LINK_RETIRED no longer set for the link (R226). -/
def reinstateLink (d : Dev) (k : Nat) : Dev :=
  if d.mm.mode == .config && (lkU d k).st == .retired && !((srcOf d 0x1202).status && (srcOf d 0x1202).insts.contains k)
      && linkUsed d k && !bit d.flt.regRetired (regionOfLink k) then trainLink d k
  else d

/-- LINK_REINSTATE (R226). -/
def execLinkReinstate (k : Nat) (s : State) : Host.Outcome State Fault Refusal := run (fun d => reinstateLink d k) s

end Sys2Proof.Machine
end

