-- ==== Sys2Proof/Machine/Capture.lean ====
section
/-!
DEFINITION. The capture stream: the output digest, the start, keyframes, the freeze and the end (R365–R371).
-/
set_option Elab.async false
namespace Sys2Proof.Machine

/-! ### The output digest (R371, R373) -/

/-- The sixteen bytes of a completion entry, with PHASE 0 (R100, R373). -/
def cplBytes (c : Cpl) : List Nat :=
  leBytes 4 c.seq ++ [c.status.code, 2 * b2n c.final + 4 * b2n c.admission + 8 * b2n c.replaced + 16 * b2n c.precharge + 32 * b2n c.mark + 64 * b2n c.retrySwap, c.ring, 0] ++ leBytes 4 c.effect ++ leBytes 4 c.detail

/-- The sixteen bytes of an ALLOTMENT record (R373). -/
def allotBytes (a : Allot) : List Nat :=
  leBytes 2 a.iDraw ++ leBytes 2 a.iReturn ++ leBytes 2 a.iLimit ++ leBytes 2 a.vTarget ++ [b2n a.draw + 2 * b2n a.ret + 4 * b2n a.idle + 8 * b2n a.clamped, a.epoch] ++ List.replicate 6 0

/-- An output record of types 0x41–0x46: type, INFO, payload, with the number and slot that order it (R373). -/
structure OutRec where
  type : Nat
  num : Nat
  slot : Nat
  info : Nat
  payload : List Nat
deriving DecidableEq, Repr

/-- The output record of an output, where it is one (R373). -/
def outRec : Out → Option OutRec
  | .downlink k s h p _ => some ⟨0x41, k, s, k + (s <<< 4) + (h <<< 8), p⟩
  | .completionDue c => some ⟨0x42, c.ring, 0, 0, cplBytes c⟩
  | .allotment k a => some ⟨0x43, k, 0, k, allotBytes a⟩
  | .storage k c => some ⟨0x44, k, 0, k, leBytes 4 (lowBits 32 c.sched) ++ leBytes 4 c.support ++ leBytes 4 c.absorb ++ leBytes 4 c.charge⟩
  | .mode f t c => some ⟨0x45, 0, 0, f + (t <<< 4) + (c <<< 8), []⟩
  | .fault c p0 r => some ⟨0x46, 0, 0, c, leBytes 4 p0 ++ leBytes 4 r⟩
  | _ => none

/-- An output record's order within a fret: tick, type, number, slot (R373). -/
def outBefore (a b : Nat × OutRec) : Bool :=
  if a.1 ≠ b.1 then decide (a.1 < b.1)
  else if a.2.type ≠ b.2.type then decide (a.2.type < b.2.type)
  else if a.2.num ≠ b.2.num then decide (a.2.num < b.2.num)
  else decide (a.2.slot < b.2.slot)

/-- Insert a record behind those that do not come after it. -/
def insertOut (a : Nat × OutRec) : List (Nat × OutRec) → List (Nat × OutRec)
  | [] => [a]
  | b :: bs => if outBefore a b then a :: b :: bs else b :: insertOut a bs

/-- The output records of a fret in output order (R373). -/
def sortedOut (os : List (Nat × Out)) : List (Nat × OutRec) :=
  (os.filterMap (fun o => (outRec o.2).map (fun r => (o.1, r)))).foldl (fun l a => insertOut a l) []

/-- The header of a capture or replay record, and its payload (R366). -/
def withHeader (stamp type info : Nat) (payload : List Nat) : List Nat :=
  leBytes 2 stamp ++ [type, payload.length / 8] ++ leBytes 4 info ++ payload

/-- The bytes of an output record. -/
def recBytes (stamp : Nat) (r : OutRec) : List Nat := withHeader stamp r.type r.info r.payload

/-- The outputs of the fret that ends; those of the tick now begun belong to the next one (R17). -/
def fretOuts (d : Dev) : List (Nat × Out) := d.fretOut.filter (fun q => decide (q.1 < d.clk.tick))

/-- The output digest of the fret that ends (R371). -/
def fretDigest (d : Dev) : Nat := crc32c ((sortedOut (fretOuts d)).flatMap (fun q => recBytes (q.1 % 65536) q.2))

/-! ### The stream (R366–R370) -/

/-- A state of the capture is left for another: the status line is written (R365). -/
def setCapState (d : Dev) (s : CapState) : Dev := statusLine { d with cap := { d.cap with st := s } }

/-- A snapshot is written (R367, R370): its length is a free value of at most 2.5 MiB (log 11). -/
def captureSnapshot (d : Dev) : Dev :=
  let n := min (Config.snapshotBytes d.clk.free) 2621440
  let d := stream (nextFree d) d.clk.tick (.snapshot n)
  { d with cap := { d.cap with keyFret := d.clk.fret } }

/-- The FRET record that opens a fret (R366, R371). -/
def captureFret (d : Dev) : Dev :=
  let n := d.cap.fretRecords
  let d := stream d d.clk.tick (.fret d.clk.fret d.cap.digest n)
  { d with cap := { d.cap with fretRecords := b2n (capturing d) } }

/-- The stream starts: snapshot, then FRET (R367, R369). -/
def beginStream (d : Dev) : Dev :=
  let d := setCapState { d with cap := { d.cap with written := 0, reason := 0, fretRecords := 0, startFret := 0, starts := [] } } (if d.cap.wrap then .wrap else .running)
  let d := recordN d 0x4010 srcCapture []
  captureFret (captureSnapshot d)

/-- CAPTURE_BEGIN: the start fret has come (R367, R369). -/
def captureBegin (d : Dev) : Dev :=
  if d.cap.st == .awaiting && decide (d.cap.startFret ≤ d.clk.fret) then
    let d := beginStream d
    match d.cap.startEntry with
    | some e => finishNow { d with cap := { d.cap with startEntry := none } } e .ok 0
    | none => d
  else d

/-- CAPTURE_BEGIN (R367). -/
def execCaptureBegin (s : State) : Host.Outcome State Fault Refusal := run captureBegin s

/-- KEYFRAME_SNAPSHOT: every KEYFRAME × 4096 frets of a wrap-mode capture (R370). -/
def keyframe (d : Dev) : Dev :=
  let n := rwF d 0x7108 24 8
  if (d.cap.st == .wrap || d.cap.st == .post) && d.cap.wrap && decide (n ≠ 0 ∧ d.cap.keyFret + 4096 * n ≤ d.clk.fret) then captureSnapshot d else d

/-- KEYFRAME_SNAPSHOT (R370). -/
def execKeyframeSnapshot (s : State) : Host.Outcome State Fault Refusal := run keyframe s

/-- A raise triggers the freeze: that of the selected code, or of the selected severity; never an observe-only one (R308, R370). -/
def freezes (d : Dev) (f : FaultIn) : Bool :=
  let c := rwF d 0x710C 0 16
  !f.observe && raisable d f.code
  && (match srcInfo f.code with
    | none => false
    | some i => if c = 0 then decide (rwF d 0x7108 6 2 ≤ i.severity) else c == f.code)

/-- The freeze (R370): FREEZE in the stream, POST more frets; a later trigger is ignored (R376). -/
def captureFreeze (d : Dev) (code : Nat) : Dev :=
  if d.cap.st != .wrap then d
  else
    let d := capture d (.freeze code d.clk.fret)
    let d := { d with cap := { d.cap with postUntil := d.clk.fret + rwF d 0x7108 8 12, guard := d.cap.snapshot } }
    setCapState (recordN d 0x4012 srcCapture [code]) .post

/-- The fault inputs of one tick, in ascending code order: raised, and the first that freezes a capture triggers it (R292, R370). -/
def faultsAct (d : Dev) (fs : List FaultIn) : Dev :=
  let trig := (fs.foldl (fun a f => insertFault f a) []).find? (freezes d)
  let d := raiseFaults d fs
  match trig with | some f => captureFreeze d f.code | none => d

/-- CAPTURE_POST_END: POST frets after the trigger (R370). -/
def capturePost (d : Dev) : Dev :=
  if d.cap.st == .post && decide (d.cap.postUntil ≤ d.clk.fret) then captureEnd d 1 else d

/-- CAPTURE_POST_END (R370). -/
def execCapturePostEnd (s : State) : Host.Outcome State Fault Refusal := run capturePost s

/-- STOPs whose fret has come, in journal order (R369). -/
def dueStops (d : Dev) : List Entry :=
  (entries d).filter (fun x => x.st == .scheduled && classOf x.image == .capStop && decide (leAt x.image 10 6 ≤ d.clk.fret))

/-- The stream ends before the fret of a STOP; the descriptor completes with the records written (R104, R369). -/
def stopDue (d : Dev) : Dev :=
  (dueStops d).foldl (fun d x => let d := endCapture d 0; finishNow d x.idx .ok (sat (2 ^ 32 - 1) d.cap.written)) d

end Sys2Proof.Machine
end

