-- ==== Sys2Proof/Machine/Compensator.lean ====
section
/-!
DEFINITION. What the fast plane does in one tick: samples, tests, voltage and current loops, ramps, carriers and EDGE blocks (R17, R170–R190, R205, R209, R210, R223).
-/
set_option Elab.async false
namespace Sys2Proof.Machine

/-! ### Samples (R17, R18, R171, R186–R188) -/

/-- A current in A of an uplink value (R214). -/
def ampsOf (c : Int) : Rat := (c : Rat) * 10 / 1024

/-- A limit in 25 mA units, in A. -/
def amps25 (n : Nat) : Rat := (n : Rat) / 40

/-- In-service phases that are not followers: those that enter a course mean (R186, R188). -/
def trusted (d : Dev) (k : Nat) : List Nat := (driven d k).filter (fun p => !(phU d p).follower)

/-- Mean of some values; 0 of none. -/
def meanRat (l : List Rat) : Rat := if l.isEmpty then 0 else l.sum / l.length

/-- I_REQ of a string as its phases share it, A: the loop's output, or the discharge current (R172, R191). -/
def demand (d : Dev) (k : Nat) : Rat := if (strU d k).st == .safeDischarge then - amps25 (iDischarge d k) else (strU d k).u1

/-- The load condition of the open test, in the direction of I_REQ (R186). -/
def openLoad (d : Dev) (k : Nat) : Bool :=
  let u := strU d k
  if demand d k < 0 then decide (amps25 (ampsAt u.capo (stringVolts d k)) / 2 < - u.iOut) else decide (amps25 (limitOf d k) / 2 < u.iOut)

/-- The runs of the phase tests after one applied sample (R183, R186–R188, R201). `c` is the number of cycles that ended. -/
def runPhase (d : Dev) (k p c : Nat) (limited : Bool) : Dev :=
  let q := phU d p
  let mean := meanRat ((trusted d k).map (fun i => ampsOf (phU d i).sample))
  let dir : Rat := if demand d k < 0 then -1 else 1
  let low := decide (dir * ampsOf q.sample < dir * mean / 2) && openLoad d k
  let ends := q.sample == 8191 || q.sample == -8192
  let diff := (q.sample - q.estimate).natAbs
  let off := decide (max (2 * q.estimate.natAbs) 4096 < 10 * diff) && bit (w32 (lkU d (linkOfPhase p)).caps) 2
  let lim := if c = 0 then q.limRun else if limited then q.limRun + c else 0
  updPh d p (fun q => { q with limRun := lim, limited := if limited then sat (2 ^ 32 - 1) (q.limited + c) else q.limited, openRun := if phaseUp d p then (if low then q.openRun + c else if c = 0 then q.openRun else 0) else 0, rangeRun := if phaseUp d p && ends then q.rangeRun + 1 else 0, disRun := if phaseUp d p then (if off then q.disRun + c else if c = 0 then q.disRun else 0) else 0, fCycles := if q.follower then q.fCycles + c else q.fCycles })

/-- The stuck run (R187): ticks with the same uplink current, with the duties in them. -/
def runStuck (d : Dev) (p : Nat) (new : Int) : Dev :=
  updPh d p (fun q =>
    if !phaseUp d p then { q with stuckRun := 0, duties := [] }
    else if q.stuckRun ≠ 0 ∧ new = q.sample then { q with stuckRun := min 16 (q.stuckRun + 1), duties := (q.dutyR :: q.duties).take 16 }
    else { q with stuckRun := 1, duties := [q.dutyR] })

/-- The values of one sample reach the four phases of its link at its due tick (R17). -/
def applySample (d : Dev) (j : Nat) (q : Sample) : Dev :=
  (List.range 4).foldl (fun d i =>
    let p := 4 * j + i
    let d := runStuck d p (q.cur.getD i 0)
    updPh d p (fun u => { u with sample := q.cur.getD i 0, estimate := q.est.getD i 0, vOut := q.vOut.getD i 0, vIn := q.vIn })) d

/-- The tests on the phases of a link after one sample (R183, R186–R188): those of a string that drives them. -/
def testSample (d : Dev) (j : Nat) (q : Sample) : Dev :=
  (List.range 4).foldl (fun d i =>
    let p := 4 * j + i
    match stringOf d p with
    | some k => if (driven d k).contains p then runPhase d k p (q.cycles.getD i 0) (q.limited.getD i false) else d
    | none => d) d

/-- The samples that are due now, with their links (R17). -/
def samplesDue (d : Dev) : List (Nat × Sample) :=
  (List.range 16).flatMap (fun j => ((lkU d j).inbox.filter (fun q => q.stamp + 2 == d.clk.tick)).map (fun q => (j, q)))

/-- Samples past their due tick, and those that a lost UA should have carried, are held: LATE_INPUT once for each (R16–R18). -/
def holdLate (d : Dev) (j : Nat) : Dev :=
  let t := d.clk.tick
  let l := lkU d j
  let n := (l.inbox.filter (fun q => decide (q.stamp + 2 < t))).length + (l.lateDue.filter (fun q => decide (q ≤ t))).length
  let d := if l.inbox.isEmpty && l.lateDue.isEmpty then d else updLk d j (fun l => { l with inbox := l.inbox.filter (fun q => decide (t < q.stamp + 2)), lateDue := l.lateDue.filter (fun q => decide (t < q)) })
  (List.range n).foldl (fun d _ => lateInput d 2 (4 * j)) d

/-- V_MEAS, the course current and V_IN of a string, from the samples in force (R171, R200). -/
def measureString (d : Dev) (k : Nat) : Dev :=
  let ps := if (driven d k).isEmpty then unretired d k else driven d k
  if ps.isEmpty then d
  else
    let vm := meanRat (ps.map (fun p => ((phU d p).vOut : Rat)))
    let i := (ps.map (fun p => ampsOf (phU d p).sample)).sum
    let vin := (ps.map (fun p => (phU d p).vIn)).sum / ps.length
    updStr d k (fun u => { u with vMeas := vm, iOut := i, vIn := vin })

/-! ### Loops (R171–R176, R277) -/

/-- A coefficient in force, Q12.19 or Q2.29. -/
def coef (d : Dev) (off frac : Nat) : Rat := (signed 32 (inForce d off).toNat : Rat) / ((2 ^ frac : Nat) : Rat)

/-- The charger's search draws its test current now (R267). -/
def inDwell (d : Dev) : Bool := match d.chg.search with | some s => s.dwell | none => false

/-- The load string of a search: the bank in ARMED with a valid bank, else the pack (R266). -/
def searchString (d : Dev) : Nat := if d.mm.mode == .armed && storeValid d then storeString d else packString d

/-- Error and current limits of a course's voltage loop, V and A (R172, R175, R177, R271, R277). -/
def loopTerms (d : Dev) (k : Nat) : Rat × Rat × Rat :=
  let u := strU d k
  let e := (u.vRamp : Rat) / 100000 - u.vMeas / 100
  match kindOf d k with
  | .pack =>
    let top := amps25 (ampsAt u.capo (stringVolts d k))
    if d.chg.st == .rideBoost then ((u.vIn : Rat) / 100 - (d.chg.rideLevel : Rat) / 100, - top, 0)
    else (e, 0, min ((d.chg.iCharge : Rat) / 100) top)
  | .aux => (e, 0, amps25 (min u.allot.iDraw u.allot.iLimit))
  | _ => (e, if u.allot.ret then - amps25 u.allot.iReturn else 0, amps25 (min u.allot.iDraw u.allot.iLimit))

/-- I_REQ of the STORE string (R176): the scheduled term and the support term, within the storage command and below V_DEFAULT. -/
def storeDemand (d : Dev) (k : Nat) : Rat :=
  let u := strU d k
  let v := (stringVolts d k : Rat) / 100
  let sched := if inDwell d && searchString d == k then clampRat (Config.searchLoad d.clk.free) 0 ((u.storage.absorb : Rat) / v) else (u.storage.sched : Rat) / v
  let x := Config.storeSupport d.clk.free
  let support :=
    if u.vIn < 50 * busLow d k then clampRat x (- ((u.storage.support : Rat) / v)) 0
    else if 50 * busHigh d k < u.vIn then clampRat x 0 ((u.storage.absorb : Rat) / v)
    else 0
  let i := clampRat (sched + support) (- ((u.storage.support : Rat) / v)) ((u.storage.absorb : Rat) / v)
  if (vDefault d k : Rat) ≤ u.vMeas then min i 0 else i

/-- What the voltage loop of a string gives in one tick, after clamping (R172). -/
def loopResult (d : Dev) (k : Nat) : Rat :=
  let u := strU d k
  let b := strBase k
  let q := loopTerms d k
  let raw := coef d (b + 0x20) 29 * u.u1 + coef d (b + 0x24) 29 * u.u2 + coef d (b + 0x14) 19 * q.1 + coef d (b + 0x18) 19 * u.e1 + coef d (b + 0x1C) 19 * u.e2
  if kindOf d k = .store then storeDemand d k
  else if kindOf d k = .pack && inDwell d && searchString d == k then clampRat (Config.searchLoad d.clk.free) 0 q.2.2
  else clampRat (Config.loopRound raw) q.2.1 q.2.2

/-! ### Shadows and unit parity (R22, R23, R170) -/

/-- What a unit's first evaluation, or the lead's recomputation, of the loop adds to the right result. -/
def upsetOf (ups : List Upset) (p : Nat) (again : Bool) : Rat :=
  match ups.find? (fun x => x.p == p) with
  | none => 0
  | some x => if again then x.again else x.first

/-- Some shadow of the course differs from a result of the lead (R170). -/
def shadowsDiffer (d : Dev) (k l : Nat) (r : Rat) : Bool :=
  (inService d k).any (fun p => p != l && (phU d p).shadow != r)

/-- The cluster takes the reports of its units: each takes one of the cluster's 8 credits, the unit is retired, and its region is
told (R19, R22, R23, R170). A report with no credit free waits. -/
def clusterActs (d : Dev) (k : Nat) : Dev :=
  (strU d k).reports.foldl (fun d p =>
    if 8 ≤ (strU d k).sent.length then d
    else retirePhase (updStr d k (fun u => { u with reports := u.reports.erase p, sent := u.sent ++ [(0x1106, p)] })) p 3 0x1106) d

/-- The region consumes the messages of a cluster, which returns its credits: each is a fault input (R17, R19). -/
def regionTakes (d : Dev) (k : Nat) : Dev :=
  let ms := (strU d k).sent
  if ms.isEmpty then d
  else ms.foldl (fun d m => detect d m.1 k m.2 (lowBits 32 (phU d m.2).current)) (updStr d k (fun u => { u with sent := [] }))

/-- The result of the lead in force, by its shadow: that of the next lead once one is retired (R23, R170). -/
def leadResult (d : Dev) (k : Nat) : Dev × Rat :=
  match lead d k with
  | some n => (d, (phU d n).shadow)
  | none => (d, 0)

/-- A failed retry of the lead is reported to the cluster, which retires it (R22, R170). -/
def parityFails (d : Dev) (k l : Nat) : Dev × Rat :=
  leadResult (clusterActs (updStr d k (fun u => { u with reports := u.reports ++ [l] })) k) k

/-- The parity checker of the course is armed for injection, and the course has a shadow to compare (R306, R307). -/
def parityArmed (d : Dev) (k : Nat) : Bool :=
  d.flt.pending && d.flt.checker == 3 && (course d k).contains d.flt.inst && decide (2 ≤ (inService d k).length)

/-- The injected compare of a course with a lead: it and its retry see the inverted parity. If the check fails on the true parity too, the
error is real; if only observed, the result stands; else the lead is retired (R306–R309). -/
def injectedCompare (d : Dev) (k l : Nat) (again : Rat) : Dev × Rat :=
  let obs := d.flt.observe
  let d := takeInjection d
  let v := lowBits 32 (phU d l).current
  if shadowsDiffer d k l again then parityFails (realFound d 0x1106 (reactionOf d 0x1106)) k l
  else if obs then (updPh (detectInj d 0x1106 k l v true true) l (fun q => { q with shadow := again }), again)
  else leadResult (retirePhase (detectInj d 0x1106 k l v true false) l 3 0x1106) k

/-- Every unit of a course evaluates the loop; the lead's result stands unless a shadow differs from it. The lead then recomputes once; a
second difference is a failed retry (R22, R170). A course of one unit has no shadow to compare. -/
def agreedResult (d : Dev) (k : Nat) (ups : List Upset) : Dev × Rat :=
  let v := loopResult d k
  let d := (inService d k).foldl (fun d p => updPh d p (fun q => { q with shadow := v + upsetOf ups p false })) d
  match lead d k with
  | none => (d, v)
  | some l =>
    let r := (phU d l).shadow
    let again := v + upsetOf ups l true
    if parityArmed d k then injectedCompare d k l again
    else if !shadowsDiffer d k l r then (d, r)
    else if !shadowsDiffer d k l again then (updPh d l (fun q => { q with shadow := again }), again)
    else parityFails d k l

/-- The voltage loop of a string in one tick (R172): the result that its units agree on, and its history. -/
def voltageLoop (d : Dev) (k : Nat) (ups : List Upset) : Dev :=
  let e := (loopTerms d k).1
  let q := agreedResult d k ups
  if !(strU q.1 k).st.switching then nextFree q.1
  else nextFree (updStr q.1 k (fun u => { u with u2 := u.u1, u1 := q.2, e2 := u.e1, e1 := e }))

/-- The duty of a phase that is not a follower (R172); its integrator is 0 on a link that is HELD or RECOVERING (R223) and, with `rest`,
in the string's safe state (R174). -/
def currentLoop (d : Dev) (p : Nat) (ref : Rat) (rest : Bool) : Dev :=
  let q := phU d p
  let ei := ref - ampsOf q.sample
  let x := if phaseUp d p && !rest then clampRat (Config.loopRound (q.x + coef d (phBase p + 4) 27 * ei)) (-1) 1 else 0
  let r := if q.vIn = 0 then Config.ratioNoInput q.vOut else (q.vOut : Rat) / q.vIn
  let y := clampRat (Config.loopRound (r + coef d (phBase p) 27 * ei + x)) (1 / 64) (63 / 64)
  updPh d p (fun q => { q with x := x, dutyR := y, duty := ratNat (y * 65536) })

/-- A follower runs at the mean duty of the others (R172, R188). -/
def followDuty (d : Dev) (k p : Nat) : Dev :=
  let y := meanRat ((trusted d k).map (fun i => (phU d i).dutyR))
  updPh d p (fun q => { q with dutyR := y, duty := ratNat (y * 65536) })

/-- The current loops of a course share its demand (R172, R191). -/
def shareCurrent (d : Dev) (k : Nat) : Dev :=
  let ps := driven d k
  let rest := (strU d k).st == .safeDischarge
  if !((strU d k).st.switching || rest) || ps.isEmpty then d
  else
    let d := (trusted d k).foldl (fun d p => currentLoop d p (demand d k / ps.length) rest) d
    (ps.filter (fun p => (phU d p).follower)).foldl (fun d p => followDuty d k p) d

/-- The compensator update of one course (R170, R172, R191). -/
def courseLoops (d : Dev) (k : Nat) (ups : List Upset) : Dev :=
  shareCurrent (if (strU d k).st.switching && !(driven d k).isEmpty then voltageLoop d k ups else d) k

/-- V_RAMP moves toward V_CMD by at most the working slew, and the state follows the ramp (R177, R178, R200). -/
def rampString (d : Dev) (k : Nat) : Dev :=
  let u := strU d k
  if !u.st.switching then d
  else
    let goal := 1000 * u.vCmd
    let r := if u.vRamp < goal then min goal (u.vRamp + u.slew) else max goal (u.vRamp - u.slew)
    updStr d k (fun u => { u with vRamp := r, st := if r = goal then .regulating else if u.st == .softStart then .softStart else .slewing })

/-! ### Carriers and EDGE blocks (R180, R181, R209, R210) -/

/-- The triangle wave between −1 and +1 at a rate in kHz, at a time in 125 ps units; its origin is free (R180, log 7). -/
def triangle (k : Nat) (t : Int) (rate : Nat) : Rat :=
  let x := ((t + Config.triangleOrigin k : Int) : Rat) * rate / 8000000
  let f := x - (x.floor : Rat)
  if f < 1 / 2 then 4 * f - 1 else 3 - 4 * f

/-- Period of the carrier cycle that starts at a time within the tick, 125 ps units (R180). -/
def carrierPeriod (d : Dev) (k : Nat) (start : Int) : Nat :=
  let o := strBase k + 0x10
  let f0 : Rat := (rsF d o 0 12 : Nat)
  let dep : Rat := (rsF d o 16 5 : Nat) / (200 : Rat)
  let m : Rat := match rsF d o 12 2 with
    | 1 => triangle k (8000 * (d.clk.tick : Int) + start) (rsF d o 24 6)
    | 2 => Config.lfsrScale (strU d k).lfsr
    | _ => 0
  ratNat (8000000 / (f0 * (1 + dep * clampRat m (-1) 1)) + 1 / 2)

/-- A carrier cycle: its start against the tick's start, its period, its phases by rank. -/
structure Cycle where
  start : Int
  period : Nat
  phases : List Nat

/-- The carrier cycles from a given one on, to the first that begins after the tick; `fixed` is the period of the second where it is fixed
already, else 0. -/
def carrierCycles (d : Dev) (k : Nat) : Nat → Cycle → Nat → List Cycle
  | 0, c, _ => [c]
  | n + 1, c, fixed =>
    let next := c.start + (c.period : Int)
    if c.period = 0 ∨ 8000 ≤ c.start then [c]
    else c :: carrierCycles d k n { start := next, period := if fixed = 0 then carrierPeriod d k next else fixed, phases := driven d k } 0

/-- Where a phase's own cycle starts within a carrier cycle (R180). -/
def phaseStart (p : Nat) (c : Cycle) : Option Int :=
  (c.phases.findIdx? (· == p)).map (fun r => c.start + roundDiv ((r : Int) * c.period) c.phases.length)

/-- The cycles of a phase: their starts, and their periods from start to start, so that each cycle begins where the one before it ends
(R180, R209); of the last one the carrier's period stands. -/
def phaseCycles (p : Nat) : List Cycle → List (Int × Nat)
  | [] => []
  | c :: cs =>
    match phaseStart p c with
    | none => phaseCycles p cs
    | some s =>
      let stop := (cs.head?).bind (phaseStart p)
      (s, match stop with | some e => (e - s).toNat | none => c.period) :: phaseCycles p cs

/-- The cycles of a phase that begin in the tick: their starts and periods (R180, R209). -/
def phaseStarts (p : Nat) (cs : List Cycle) : List (Nat × Nat) :=
  ((phaseCycles p cs).filterMap (fun q => if 0 ≤ q.1 ∧ q.1 < 8000 then some (q.1.toNat, q.2) else none)).take 2

/-- The carrier of a string over the tick now beginning, before it is advanced. -/
def carrierNow (d : Dev) (k : Nat) : List Cycle :=
  let u := strU d k
  if !(u.st.switching || u.st == .safeDischarge) then []
  else if u.carPeriod = 0 then carrierCycles d k 5 { start := 0, period := if u.carNext = 0 then carrierPeriod d k 0 else u.carNext, phases := driven d k } 0
  else carrierCycles d k 5 { start := u.carStart, period := u.carPeriod, phases := u.carPh } u.carNext

/-- The carrier is advanced past the tick (R181): the cycle under way at its end, and the period fixed for the next one. -/
def advanceCarrier (d : Dev) (k : Nat) (cs : List Cycle) : Dev :=
  let ahead := match cs.getLast? with | some c => c.period | none => 0
  match (cs.filter (fun c => decide (c.start < 8000))).getLast? with
  | none => if (strU d k).carPeriod = 0 ∧ (strU d k).carNext = 0 then d else updStr d k (fun u => { u with carStart := 0, carPeriod := 0, carPh := [], carNext := 0 })
  | some c =>
    if c.start + (c.period : Int) ≤ 8000 then updStr d k (fun u => { u with carStart := 0, carPeriod := 0, carPh := [], carNext := ahead })
    else updStr d k (fun u => { u with carStart := c.start - 8000, carPeriod := c.period, carPh := c.phases, carNext := ahead })

/-- The LFSR steps once per 1 / RATE ms from the enable (R180): x¹⁵ + x¹⁴ + 1. -/
def stepLfsr (d : Dev) (k : Nat) : Dev :=
  let u := strU d k
  let t := d.clk.tick - u.lfsrAt
  let r := rsF d (strBase k + 0x10) 24 6
  if u.st.enabled && decide ((t - 1) * r / 1000 < t * r / 1000) then
    updStr d k (fun u => { u with lfsr := (2 * u.lfsr) % 32768 + (u.lfsr / 16384 + u.lfsr / 8192) % 2 })
  else d

/-- One lane word (R209). -/
def laneWord (d : Dev) (p : Nat) (cs : List (Nat × Nat)) : Nat :=
  let en := laneEnable d p
  let a := cs.getD 0 (0, 0)
  let b := if 2 ≤ cs.length then (cs.getD 1 (0, 0)).2 else 0
  if en then put a.1 0 13 + put cs.length 13 2 + (1 <<< 15) + put a.2 16 15 + put b 32 14 + put (phU d p).duty 48 16
  else 0

/-- The EDGE block of a link for the tick now beginning (R205, R209). -/
def sendEdge (d : Dev) (j : Nat) (starts : List (Nat × List (Nat × Nat))) : Dev :=
  let flight := creditsPast (lkU d j) d.clk.tick 0
  if !listening d j || decide (2 ≤ flight.length) then d
  else
    let d := refuseNow d j
    let ws := (List.range 4).flatMap (fun i => leBytes 8 (laneWord d (4 * j + i) ((starts.find? (fun q => q.1 == 4 * j + i)).elim [] (fun q => q.2))))
    let d := updLk d j (fun l => { l with edge := ws, nak := none, flight := flight ++ [(0, d.clk.tick)] })
    emitFast d (downBlock j 0 (header 0 d.clk.tick 0) ws)

/-- An UP link with no lane enabled passes to HELD, and a HELD one with a lane enabled, on which the device now sends MODE = RUN, to UP
(R224). A link on which the device sends no blocks keeps its state (R228). -/
def holdLink (d : Dev) (j : Nat) : Dev :=
  let on := (List.range 4).any (fun i => laneEnable d (4 * j + i))
  if !listening d j then d
  else if (lkU d j).st == .up && !on then updLk d j (fun l => { l with st := .held, runSince := none })
  else if (lkU d j).st == .held && on then updLk d j (fun l => { l with st := .up })
  else d

/-- Strings with a course. -/
def configured (d : Dev) : List Nat := (List.range 64).filter (fun k => !(course d k).isEmpty)

/-- The strings whose region is powered. -/
def liveStrings (d : Dev) : List Nat := (configured d).filter (fun k => powered d (regionDomain (regionOfString d k)))

/-- The fast plane runs: its islands are powered, and neither the control die nor the mode holds them (R35, R119). -/
def fastRuns (d : Dev) : Bool := (powered d .fasta || powered d .fastb) && !d.pwr.ctlLost && d.mm.mode != .replay

/-- The samples of the tick that ends (R16, R18): due ones are applied, all links together, and the courses measured; then the tests judge
each phase (R171, R183–R188). -/
def takeSamples (d : Dev) : Dev :=
  let due := samplesDue d
  let d := foldN 16 holdLate d
  let d := due.foldl (fun d q => applySample d q.1 q.2) d
  let d := (liveStrings d).foldl measureString d
  due.foldl (fun d q => testSample d q.1 q.2) d

/-- The tick that ends: samples, then ramps and loops of every course, then the messages to the regions (R16, R19, R172). -/
def finishTick (d : Dev) (ups : List Upset) : Dev :=
  if !fastRuns d then d
  else
    let d := (liveStrings (takeSamples d)).foldl (fun d k =>
      let d := courseLoops (rampString (clusterActs d k) k) k ups
      updStr d k (fun u => { u with iSum := u.iSum + u.iOut, iCnt := u.iCnt + 1, offInFret := u.offInFret || !u.st.enabled })) (takeSamples d)
    (liveStrings d).foldl regionTakes d

/-- The tick that begins: carriers, EDGE blocks, links without an enabled lane (R205, R209, R224). -/
def beginTick (d : Dev) : Dev :=
  if !fastRuns d then d
  else
    let d := foldN 16 holdLink d
    let ks := liveStrings d
    let cars := ks.map (fun k => (k, carrierNow d k))
    let starts := cars.flatMap (fun q => (driven d q.1).map (fun p => (p, phaseStarts p q.2)))
    let d := starts.foldl (fun d q => match q.2.getLast? with | some c => updPh d q.1 (fun u => { u with period := c.2 }) | none => d) d
    let d := foldN 16 (fun d j => sendEdge d j starts) d
    cars.foldl (fun d q => advanceCarrier (stepLfsr d q.1) q.1 q.2) d

end Sys2Proof.Machine
end

