-- ==== Sys2Proof/Machine/Timebase.lean ====
section
/-!
DEFINITION. Ticks, frets, allotments, re-anchors, management ticks and monitor samples (R13–R21, R128–R154, R190, R225, R271–R276, R412).
-/
set_option Elab.async false
namespace Sys2Proof.Machine

/-! ### TICK (R14) -/

/-- The pack current: that of the PACK course, 25 mA, positive into the pack (R274, R284; log 6). -/
def packCurrent (d : Dev) : Int := if packValid d then Config.showRound ((strU d (packString d)).iOut * 40) else 0

/-- Energy and charge of the pack over one tick (R274, R275): at the cutoff of a discharging pack the estimate is 0. -/
def packTick (d : Dev) : Dev :=
  if !powered d .aux then d
  else
    let i := packCurrent d
    let d := { d with chg := { d.chg with iPack := i } }
    let w : Int := i * (d.chg.vPack : Int)
    let w := if 0 < w then w * (rsF d 0x1028 0 16 : Nat) / 65536 else w
    let acc := d.chg.energyAcc + w
    let mj := acc / 4000000
    let ep := (clampInt ((d.chg.ep : Int) + mj) 0 (eFull d)).toNat
    let cut := decide (i < 0 ∧ cellMv d ≤ vCutoff d)
    let q := if charging d && decide (0 < i) then i.toNat else 0
    let el := if d.chg.st == .qualify || d.chg.st == .precharge || d.chg.st == .fast || d.chg.st == .cv || d.chg.st == .tempPause then (d.clk.tick - d.chg.timerStart) / 60000000 else d.chg.elapsed
    { d with chg := { d.chg with ep := if cut then 0 else ep, calibrated := d.chg.calibrated || cut, elapsed := el, energyAcc := acc - mj * 4000000, delivered := d.chg.delivered + q } }

/-- Ten die-to-die blocks leave each die in a tick, idle ones included (R11). -/
def sendBlocks (d : Dev) : Dev :=
  if !powered d .mgmt then d
  else { d with pwr := { d.pwr with sendC := (d.pwr.sendC + 10) % 65536, sendP := (d.pwr.sendP + 10) % 65536 } }

/-- A message that a lost die-to-die block carried misses its due tick (R11, R18). -/
def loseMessages (d : Dev) : Dev :=
  let ms := d.pwr.lostDue.filter (fun q => decide (q.1 ≤ d.clk.tick))
  if ms.isEmpty then d
  else ms.foldl (fun d q => lateInput (if q.2 = 3 then { d with pwr := { d.pwr with monFret := d.clk.fret + 1 } } else d) 7 0) { d with pwr := { d.pwr with lostDue := d.pwr.lostDue.filter (fun q => decide (d.clk.tick < q.1)) } }

/-- Fault inputs that nothing took in their due tick are late and are not applied (R17, R18). -/
def loseFaults (d : Dev) : Dev :=
  let fs := d.flt.inbox.filter (fun (f : FaultIn) => decide (f.due ≤ d.clk.tick))
  if fs.isEmpty then d
  else fs.foldl (fun d (f : FaultIn) => if f.code = 0x1002 then d else lateInput d 5 0) { d with flt := { d.flt with inbox := d.flt.inbox.filter (fun (f : FaultIn) => decide (d.clk.tick < f.due)) } }

/-- The tick that ends is worked off (R16), and its inputs enter the capture stream (R368). -/
def endTick (d : Dev) (ups : List Upset) : Dev := streamDue (loseFaults (loseMessages (peerTick (finishTick d ups))))

/-- The next tick begins (R14): every 32nd brings a fret boundary while SCHED is powered; a slave that has had a token waits for the next one,
and counts the frets without one (R27, R128). -/
def nextTick (d : Dev) : Dev :=
  let d := landStaged d
  let n := (d.clk.tickInFret + 1) % 32
  let on := n == 0 && powered d .sched && !d.pwr.ctlLost
  let slave := follower d && d.seq.tokenSeen
  let d := { d with clk := { d.clk with tick := d.clk.tick + 1, tickInFret := n, fretDue := on && !slave }, seq := { d.seq with noToken := if on && follower d then d.seq.noToken + 1 else d.seq.noToken } }
  followRide (packTick (wdTick (beginTick (sendBlocks d))))

/-! ### FRET_BOUNDARY (R128, R129, R151, R153) -/

/-- A fret of a reservation is clamped by its string (R153): the capo lies below the cell, or the string was disabled. -/
def clampedFret (d : Dev) (r : Resv) (f : Nat) : Bool :=
  let u := strU d r.string
  resvPower r f != 0 && (decide (u.capo < (powerAt (liveBank d) r.string f).natAbs) || u.offInFret)

/-- A fret of a reservation's span whose cell it holds: not before `fromFret`, nor from its cut on (R88, R153, R163). -/
def holdsFret (r : Resv) (f : Nat) : Bool :=
  decide (r.fromFret ≤ f) && r.inLive && !(match r.cutFret with | some q => decide (q ≤ f) | none => false)

/-- Clamp and overdraw counts of the reservations whose span holds the fret that ends (R152, R153): the overdraw count takes every fret of
the span. -/
def countFrets (d : Dev) : Dev :=
  let f := d.clk.fret
  { d with fb := { d.fb with resv := d.fb.resv.map (fun r =>
      if !(decide (r.start ≤ f ∧ f < r.stop)) then r
      else { r with clamped := r.clamped + b2n (holdsFret r f && clampedFret d r f), ovr := r.ovr + b2n (strU d r.string).overClamp }) } }

/-- The fret-average current of a course, 25 mA (R151). -/
def fretAverage (u : StringUnit) : Int := if u.iCnt = 0 then 0 else (u.iSum * 40 / u.iCnt).floor

/-- The overdraw test of the fret that ends, for one string (R151). -/
def overdrawTest (d : Dev) (k : Nat) : Dev :=
  let u := strU d k
  let a := fretAverage u
  let p := powerAt (liveBank d) k d.clk.fret
  let top : Nat := if p < 0 ∨ (p = 0 ∧ a < 0) then u.allot.iReturn else u.allot.iDraw
  let own : Int := if p < 0 ∨ (p = 0 ∧ a < 0) then -a else a
  let ovr := u.st.enabled && decide ((top : Int) < own) && (kindOf d k == .axis || kindOf d k == .aux) && d.mm.mode != .drone
  updStr d k (fun u => { u with iSum := 0, iCnt := 0, overRun := if ovr then u.overRun + 1 else 0, overAvg := if ovr then a else u.overAvg, overCeil := if ovr then top else u.overCeil, overFret := if ovr then d.clk.fret else u.overFret, overIdle := if ovr then p == 0 else u.overIdle })

/-- The column that has passed is cleared in both banks, with the plan cells in it (R128, R148). -/
def passColumn (d : Dev) : Dev :=
  let f := d.clk.fret
  let d := setShadow (setLive d (clearColumn (liveBank d) f)) (clearColumn (shadowBank d) f)
  { d with fb := { d.fb with planLive := d.fb.planLive.erase f, planShadow := d.fb.planShadow.erase f } }

/-- The energies move on by the model, so that they stand for the fret that begins (R138). -/
def advanceEnergy (d : Dev) : Dev :=
  match trace (modelOf d) (liveBank d) 1 d.clk.fret d.fb.e d.fb.ep with
  | r :: _ => { d with fb := { d.fb with e := r.fl.e, ep := r.fl.ep } }
  | [] => d

/-- The bank that a fret is read from, and its epoch (R130, R158). -/
def bankFor (d : Dev) (f : Nat) : Bank × Nat :=
  let swap := match d.fb.replan with | some r => r.st == 3 && decide (r.switch ≤ f) | none => false
  let b := if swap then !d.fb.liveB else d.fb.liveB
  (if swap then shadowBank d else liveBank d, (d.fb.swaps + b2n swap) % 128 + 128 * b2n b)

/-- POWER of a string in a fret, from the bank that the fret is read from. -/
def powerIn (d : Dev) (k f : Nat) : Int := powerAt (bankFor d f).1 k f

/-- The idle allotment of a string (R150). -/
def idleAllot (d : Dev) (k : Nat) : Allot :=
  let u := strU d k
  let top := ampsAt u.capo (stringVolts d k)
  let i := min (u.idle * 2 / 5) top
  { iDraw := i, iReturn := if kindOf d k = .aux then 0 else i, iLimit := top, vTarget := u.vCmd, draw := true, ret := kindOf d k != .aux, idle := true, clamped := u.allot.clamped, epoch := u.allot.epoch }

/-- The allotment of the fret that begins, from the one published for it: an overdraw clamp holds or no longer holds in this fret,
and V_TARGET is the target of this fret (R149–R151). -/
def settleAllot (d : Dev) (k : Nat) (a : Allot) : Allot :=
  let u := strU d k
  { a with iLimit := if u.overClamp then min a.iDraw u.nextTop else u.nextTop, clamped := u.overClamp || decide (u.capo < (powerIn d k d.clk.fret).natAbs), vTarget := u.vCmd }

/-- A string takes the allotment of the fret that begins; a late one holds for one fret, then the string idles (R18, R21). -/
def takeAllot (d : Dev) (k : Nat) : Dev :=
  let u := strU d k
  match kindOf d k with
  | .store => updStr d k (fun u => { u with storage := u.nextStorage.getD u.storage, nextStorage := none })
  | .pack => updStr d k (fun u => { u with storage := u.nextStorage.getD u.storage, nextStorage := none })
  | _ =>
    if d.mm.mode == .drone then d
    else match u.next with
      | some a => updStr d k (fun u => { u with allot := settleAllot d k a, next := none, lateRun := 0 })
      | none =>
        if d.fb.published.isNone then d
        else
          let d := lateInput d 0 k
          updStr d k (fun u => { u with lateRun := u.lateRun + 1, allot := if 1 ≤ u.lateRun then idleAllot d k else u.allot })

/-- The thermal factors of the last management tick are in force from a fret boundary on, and the capos with them; the value that the fast
plane takes is captured (R190, R368). -/
def adoptDerates (d : Dev) : Dev :=
  let ps := (List.range 64).filter (fun p => (phU d p).derateNext.isSome)
  if ps.isEmpty then d
  else
    let d := ps.foldl (fun d p => updPh d p (fun q => { q with derate := q.derateNext.getD q.derate, derateNext := none })) d
    (configured d).foldl (fun d k =>
      let c := capoNow d k
      if c = (strU d k).capo then d else setCapo (captureMgmt d 1 k c) k c) d

/-- An overdraw clamp holds in the fret that begins: before its end fret, or, after an idle fret, while the cell stays 0 (R151). -/
def clampHolds (d : Dev) (k : Nat) : Bool :=
  let u := strU d k
  u.overClamp && (match u.overUntil with | some q => decide (d.clk.fret < q) | none => powerIn d k d.clk.fret == 0)

/-- What the fret that begins brings to one string: the end of an overdraw clamp and its allotment (R149, R151). -/
def stringFret (d : Dev) (k : Nat) : Dev :=
  let on := clampHolds d k
  takeAllot (updStr d k (fun u => { u with offInFret := !u.st.enabled, overClamp := on, overUntil := if on then u.overUntil else none })) k

/-- Charge current of a fret, 10 mA (R271). -/
def chargeCurrent (d : Dev) : Nat :=
  if !charging d then 0
  else
    let w := min d.fb.chg (if packValid d then (strU d (packString d)).capo else 0)
    min (chargeDemand d) (if d.chg.vPack = 0 then 0 else w * 10000 / d.chg.vPack)

/-- The termination count over one fret (R273). -/
def countTermination (d : Dev) : Dev :=
  if d.chg.st != .cv then d
  else
    let u := strU d (packString d)
    let sets := decide (u.u1 < (d.chg.iCharge : Rat) / 100)
    let high := decide (termDiv d ≠ 0 ∧ (chgFast d : Int) * 2 ≤ 5 * d.chg.iPack * (termDiv d : Int))
    { d with chg := { d.chg with cvCount := if high then 0 else if sets then d.chg.cvCount + 32 else d.chg.cvCount } }

/-- The charger at a fret boundary: the ride level, the termination count, the current (R271, R273, R280). -/
def chargerFret (d : Dev) : Dev :=
  let d := { d with chg := { d.chg with rideLevel := d.chg.rideNext.getD d.chg.rideLevel, rideNext := none } }
  let d := countTermination d
  { d with chg := { d.chg with iCharge := chargeCurrent d } }

/-- HOLD after a watchdog expiry, behind any host transition due at this boundary; it writes no record (R58). -/
def holdDue (d : Dev) : Dev :=
  if !d.mm.wdHold then d
  else if (match d.mm.pend with | some p => decide (p.atFret ≤ d.clk.fret) | none => false) then d
  else
    let d := { d with mm := { d.mm with wdHold := false } }
    if d.mm.mode == .armed || d.mm.mode == .run then enterModeWith (capture d (.modeInput 5)) .hold .none 0 false else d

/-- The digest of the fret that ends is kept, and its outputs are let go (R371). -/
def closeDigest (d : Dev) : Dev :=
  { d with cap := { d.cap with digest := fretDigest d }, fretOut := d.fretOut.filter (fun q => decide (d.clk.tick ≤ q.1)) }

/-- Timed work whose FINAL entry is written retires once its end fret has passed, at tick 0 of the fret after it (R111, R129). -/
def retireTimed (d : Dev) : Dev :=
  mapJournal d (fun l => l.filter (fun x => !(x.st == .done && x.cpls.isEmpty && decide (x.endFret < d.clk.fret))))

/-- A fret in which no monitor sample came in time: one LATE_INPUT, at its end (R18, log 56). -/
def missMonitor (d : Dev) : Dev :=
  if !powered d .aux || d.pwr.monFret == d.clk.fret + 1 then d else lateInput d 3 0

/-- The fret that ends: its digest, clamp counts and overdraw tests; its column is cleared, and the energies move on (R128, R151–R153, R371). -/
def closeFret (d : Dev) : Dev :=
  passColumn (advanceEnergy ((configured d).foldl overdrawTest (countFrets (closeDigest (missMonitor d)))))

/-- The counter takes the fret that begins; a master sends its token (R128, R129, R251). -/
def openFret (d : Dev) : Dev :=
  let d := { d with clk := { d.clk with fret := (d.clk.fret + 1) % 2 ^ 48, tickInFret := 0, fretDue := false }, fb := { d.fb with pinCur := d.fb.pin } }
  let d := if sysMaster d then emit d .fretToken else d
  captureFret (stopDue (retireTimed d))

/-- The effects that the fret that begins has on the strings and the charger (R149, R190, R271), behind the mode inputs of its tick (R16). -/
def fretEffects (d : Dev) : Dev :=
  let d := adoptDerates d
  let d := chargerFret ((configured d).foldl stringFret d)
  let d := holdDue d
  if captureActive d || replayActive d then statusLine d else d

/-! ### ALLOTMENT_PUBLISH (R149, R150, R153, R154) -/

/-- The SETPOINT that gives a string its voltage in a fret: the last in journal order (R90, R177). -/
def setpointFor (d : Dev) (k f : Nat) : Option Nat :=
  (((entries d).filter (fun x => x.st == .scheduled && !x.restored && classOf x.image == .setpoint && spString x.image == k && spFret x.image == f && decide (spSel x.image % 2 = 1))).getLast?).map (fun x => spVolts x.image)

/-- The commanded target of a string in a fret to come, from SETPOINT and PROFILE (R149, R177, R178). -/
def targetFor (d : Dev) (k f : Nat) : Nat :=
  match setpointFor d k f with
  | some v => v
  | none => match (strU d k).prof with | some p => profVolts p.start f p.points | none => (strU d k).vCmd

/-- The allotment of a string for a fret (R150); a current between two steps of 25 mA is rounded down (log 55). -/
def allotOf (d : Dev) (k f : Nat) : Allot :=
  let q := bankFor d f
  let u := strU d k
  let p := powerAt q.1 k f
  let v := stringVolts d k
  let m := 200 + rsF d 0x1000 8 7
  let top := ampsAt u.capo v
  let idle := u.idle * 2 / 5
  let aux := kindOf d k == .aux
  let draw := min (max (p.toNat * m * 20 / max 1 v) idle) top
  let ret := if aux then 0 else min (max ((-p).toNat * m * 20 / max 1 v) idle) top
  let clamp := u.overClamp && (match u.overUntil with | some e => decide (f < e) | none => p == 0)
  { iDraw := draw, iReturn := ret, iLimit := if clamp then min draw top else top, vTarget := targetFor d k f, draw := true, ret := !aux, idle := p == 0, clamped := clamp || decide (u.capo < p.natAbs), epoch := q.2, stamp := d.clk.tick % 65536 }

/-- One string's allotment is published (R149); a cell above the capo begins a capo clamp (R153). -/
def publishString (d : Dev) (f k : Nat) : Dev :=
  let a := allotOf d k f
  let p := powerAt (bankFor d f).1 k f
  let d := if (strU d k).capo < p.natAbs then clampBegins d k f else updStr d k (fun u => { u with capoClamp := false })
  let top := ampsAt (strU d k).capo (stringVolts d k)
  emitFast (updStr d k (fun u => { u with next := some a, nextTop := top })) (.allotment k a)

/-- The storage command and the pack's limit for a fret (R154). -/
def publishStorage (d : Dev) (f : Nat) : Dev :=
  let m := modelOf d
  match ((trace m (bankFor d f).1 2 d.clk.fret d.fb.e d.fb.ep).find? (fun r => r.f == f)) with
  | none => d
  | some r =>
    let d := { d with fb := { d.fb with chg := r.fl.chg } }
    let d := if storeValid d then
        let c : Storage := { sched := r.ss + r.fl.ref, support := r.fl.pBank, absorb := m.capoS }
        emitFast (updStr d m.s (fun u => { u with nextStorage := some c })) (.storage m.s c)
      else d
    if packValid d then
      let k := packString d
      let c : Storage := { charge := if d.mm.mode == .ride then m.capoQ else r.fl.chg }
      emitFast (updStr d k (fun u => { u with nextStorage := some c })) (.storage k c)
    else d

/-- ALLOTMENT_PUBLISH at tick 0: the allotments of the next fret, its epoch, and the storage command (R17, R149, R154). -/
def publish (d : Dev) : Dev :=
  if !powered d .sched || d.pwr.ctlLost || d.clk.tickInFret != 0 then d
  else
    let f := d.clk.fret + 1
    let d := ((configured d).filter (fun k => kindOf d k == .axis || kindOf d k == .aux)).foldl (fun d k =>
      if d.mm.mode == .drone && isSafety d k then d else publishString d f k) d
    let d := publishStorage d f
    { d with fb := { d.fb with epoch := d.fb.epoch.set 0 (f % 4096) (BitVec.ofNat 8 (bankFor d f).2), published := some f } }

/-- ALLOTMENT_PUBLISH (R149). -/
def execAllotmentPublish (s : State) : Host.Outcome State Fault Refusal := run publish s

/-! ### RE_ANCHOR (R139, R140) -/

/-- Frets of the horizon whose deficit exceeds what storage delivers (R140). -/
def deficits (d : Dev) : List FRow :=
  (predict d (modelOf d) (liveBank d)).filter (fun r => decide (r.fl.pBank + r.fl.pPack < r.fl.def'))

/-- A deficit is found: its event, its fret, and its record at most once per management tick (R140, R419). -/
def noteDeficit (d : Dev) : Dev :=
  match deficits d with
  | [] => d
  | r :: rs =>
    let d := setFbEvent { d with fb := { d.fb with deficitFret := if d.fb.deficitFret = 0 then r.f % 2 ^ 32 else d.fb.deficitFret } } 1
    if d.fb.lastDeficit = some d.clk.mgmt then d
    else record { d with fb := { d.fb with lastDeficit := some d.clk.mgmt } } 0x0042 0x03 false r.f (r.fl.def' - r.fl.pBank - r.fl.pPack) (rs.length + 1) (fretLow d)

/-- The bank voltage that is due at this tick, mV: what the STORE string's stages report (R139, R176; log 6). -/
def bankNow (d : Dev) : Nat :=
  if !storeValid d then 0
  else (Config.showRound ((strU (measureString ((samplesDue d).foldl (fun d q => applySample d q.1 q.2) d) (storeString d)) (storeString d)).vMeas * 10)).toNat

/-- RE_ANCHOR at tick 1 of a fret (R139). -/
def reAnchor (d : Dev) : Dev :=
  if !powered d .sched || d.pwr.ctlLost || d.clk.tickInFret != 1 then d
  else
    let v := bankNow d
    let e := if storeValid d then energyAt (rsF d 0x101C 0 16) v else 0
    let ep := if packValid d && d.chg.present && d.chg.st != .absent then d.chg.ep * 1000 else 0
    noteDeficit (repredict { d with fb := { d.fb with anchorAt := d.clk.fret + 1, bankMv := v, e := e, ep := ep, eShown := e / 1000, epShown := ep / 1000 } })

/-- RE_ANCHOR (R139). -/
def execReAnchor (s : State) : Host.Outcome State Fault Refusal := run reAnchor s

/-! ### MANAGEMENT_TICK (R13, R134, R190, R225) -/

/-- δp of a phase in units of 1/256, exact, from its mean temperature over the management tick (R190). -/
def derateOf (d : Dev) (p : Nat) : Rat :=
  let q := phU d p
  let lo : Rat := 10 * rsF d (phBase p + 0xC) 0 8
  let hi : Rat := 10 * rsF d (phBase p + 0xC) 8 8
  let fl : Rat := (rsF d (phBase p + 0xC) 16 8 : Nat)
  if q.tCnt = 0 then q.derateNext.getD q.derate
  else
    let t : Rat := (q.tSum : Rat) / (q.tCnt : Nat)
    if t ≤ lo then 256
    else if hi ≤ t then fl
    else 256 - (256 - fl) * (t - lo) / (hi - lo)

/-- Thermal factors of all phases, in force from the next fret boundary (R190). -/
def thermal (d : Dev) : Dev :=
  foldN 64 (fun d p => let v := derateOf d p; updPh d p (fun q => { q with derateNext := if v = q.derate then none else some v, tSum := 0, tCnt := 0 })) d

/-- The link errors of the management tick that ends (R225). -/
def linkErrors (d : Dev) (k : Nat) : Dev :=
  let l := lkU d k
  let d := updLk d k (fun l => { l with last := sat 65535 l.lostNow, peak := max l.peak (sat 65535 l.lostNow), lostNow := 0, lostJudged := 0 })
  if linkSends d k && rsF d 0x3004 0 10 < l.lostJudged then captureMgmt (retireLink d k l.lostJudged) 2 k 0x1202 else d

/-- V_BUS over the management tick, and P_IN (R134); I_IN is shown (R284). -/
def averageBus (d : Dev) : Dev :=
  let v := if d.fb.vbusN = 0 then d.fb.vbusAvg else d.fb.vbusSum / d.fb.vbusN
  let d := recomputePin { d with fb := { d.fb with vbusAvg := v, vbusSum := 0, vbusN := 0 }, chg := { d.chg with iIn := d.chg.iNow } }
  captureMgmt d 4 0 d.fb.pin

/-- MANAGEMENT_TICK (R13). -/
def managementTick (d : Dev) : Dev :=
  let d := { d with clk := { d.clk with mgmt := d.clk.mgmt + 1, mgmtAt := some d.clk.tick } }
  if !powered d .mgmt || d.pwr.ctlLost then d
  else
    let d := { d with wd := { d.wd with waitTicks := if d.wd.waiting then d.wd.waitTicks + 1 else 0 } }
    let d := captureMgmt (averageBus (thermal d)) 5 0 d.chg.ep
    foldN 16 linkErrors d

/-- MANAGEMENT_TICK (R13). -/
def execManagementTick (s : State) : Host.Outcome State Fault Refusal := run managementTick s

/-! ### MONITOR_SAMPLE (R134, R139, R270–R272, R412, R416) -/

/-- Sources of VSYS by the last conversion (R408, R416): the higher one, or both within 0.3 V. -/
def supplySource (d : Dev) (m : Monitor) : Nat :=
  let pack := if d.pwr.packPath then m.vpack else 0
  if max m.vin pack < 600 then 0
  else if m.vin ≤ pack + 30 ∧ pack ≤ m.vin + 30 then 3
  else if pack < m.vin then 1 else 2

/-- A retired channel's sample is late, and its consumer holds the value it held before (R18, R294). -/
def heldMonitor (d : Dev) (m : Monitor) : Monitor :=
  let ret := fun (c : Nat) => d.pwr.monRetired.contains c
  { m with therm := m.therm.zipIdx.map (fun q => if ret q.2 then d.chg.temp else q.1), vpack := if ret 10 then d.chg.vPack else m.vpack, vhold := if ret 12 then d.pwr.vhold else m.vhold, rails := m.rails.zipIdx.map (fun q => if ret (14 + q.2) then (railU d q.2).vMeas else q.1), tControl := if ret 22 then d.pwr.tempControl else m.tControl, tPower := if ret 23 then d.pwr.tempPower else m.tPower }

/-- A conversion at a tick fell into a dwell of a search (R269). -/
def dwellAt (d : Dev) (t : Nat) : Bool :=
  match d.chg.dwellAt with
  | none => false
  | some a => decide (a ≤ t) && (inDwell d || decide (t < d.chg.dwellEnd))

/-- The sample that is due now, one fret after its conversion, stays out of the bus average (R17, R269, R294). -/
def busExcluded (d : Dev) : Bool := dwellAt d (d.clk.tick - 32) || d.pwr.monRetired.contains 9

/-- The converters' readings reach their consumers (R412); a search's dwell stays out of the bus average (R269). No channel
gives a rail group's current (R259), so it is a free value (log 7). -/
def takeMonitor (d : Dev) (m : Monitor) : Dev :=
  let d := { d with pwr := { d.pwr with tempControl := m.tControl, tempPower := m.tPower, vhold := m.vhold, vholdReady := decide (1100 ≤ m.vhold), source := supplySource d m } }
  let d := if powered d .sched then { d with fb := { d.fb with vbusSum := if busExcluded d then d.fb.vbusSum else d.fb.vbusSum + m.vbus, vbusN := if busExcluded d then d.fb.vbusN else d.fb.vbusN + 1 } } else d
  foldN 8 (fun d r => updRail d r (fun u => { u with vMeas := m.rails.getD r u.vMeas, iMeas := Config.railCurrent d.clk.free r })) (nextFree d)

/-- I_IN of a sample through the shunt, 10 mA; without a shunt, or with the channel retired, it keeps its value (R267, R294). -/
def inputCurrent (d : Dev) (m : Monitor) : Nat :=
  if rsF d 0x4028 0 16 = 0 ∨ d.pwr.monRetired.contains 13 = true then d.chg.iNow else 1000 * m.isns / rsF d 0x4028 0 16

/-- Charge states that the pack's voltage and temperature decide (R270, R272). -/
def chargerSample (d : Dev) (m : Monitor) : Dev :=
  if !powered d .aux then d
  else
    let t := m.therm.getD (rsF d 0x401C 16 3) (-500)
    let d := { d with chg := { d.chg with vPack := m.vpack, temp := t, iNow := inputCurrent d m, zone := zoneOf d t } }
    let cold := 10 * signed 8 (rsF d 0x4018 0 8)
    let hot := 10 * signed 8 (rsF d 0x4018 24 8)
    if charging d && (d.chg.zone == 0 || d.chg.zone == 4) then
      chargerFault (setChgEvent (setCharger { d with chg := { d.chg with pauseBack := d.chg.st, pauseHot := d.chg.zone == 4 } } .tempPause) 4) 0x1502
    else if d.chg.st == .tempPause then
      (if (if d.chg.pauseHot then decide (t + 20 ≤ hot) else decide (cold + 20 ≤ t)) && d.chg.zone != 0 && d.chg.zone != 4 && d.chg.zone != 5 then setCharger d d.chg.pauseBack else d)
    else if d.chg.st == .precharge && decide (vPre d ≤ cellMv d) then setCharger d .fast
    else if d.chg.st == .fast && decide (cvCell d ≤ cellMv d) then setCharger { d with chg := { d.chg with cvCount := 0 } } .cv
    else d

/-- MONITOR_SAMPLE (R412). -/
def monitorSample (d : Dev) (m : Monitor) : Dev :=
  if d.mm.mode == .off then d
  else
    let d := { d with pwr := { d.pwr with monFret := d.clk.fret + 1 } }
    let d := d.pwr.monRetired.foldl (fun d c => lateInput d 3 c) (capture d (.monitor m))
    let m := heldMonitor d m
    chargerSample (takeMonitor d m) m

end Sys2Proof.Machine
end

