-- ==== Sys2Proof/Machine/Dies.lean ====
section
/-!
DEFINITION. The two dies: the die-to-die interface, the loss of a die, the rebuild of the control die (R11, R12, R119–R121, R302).
-/
set_option Elab.async false
namespace Sys2Proof.Machine

/-! ### Die-to-die blocks (R11) -/

/-- Block sequence number: bytes 0 and 1 (R11, log 54). -/
def dieSeq (b : BitVec 256) : Nat := leAt b 0 2

/-- CRC-16/CCITT over bytes 0–29 stands in bytes 30 and 31 (R11, log 54). -/
def dieCrcGood (b : BitVec 256) : Bool := leAt b 30 2 == crc16 (bytesOf b 30)

/-- The re-send of a failed block is awaited at a receiving die (R11). -/
def resendDue (d : Dev) (power : Bool) : Bool := if power then d.pwr.resendP else d.pwr.resendC

/-- Set the awaited re-send of a receiving die. -/
def setResend (d : Dev) (power v : Bool) : Dev :=
  if power then { d with pwr := { d.pwr with resendP := v } } else { d with pwr := { d.pwr with resendC := v } }

/-- A block arrives whole (R11, R12). While a re-send is awaited only the block of the failed number ends the wait. -/
def dieGood (d : Dev) (power : Bool) (n : Nat) : Dev :=
  let last := if power then d.pwr.seqP else d.pwr.seqC
  let keep := resendDue d power && n != (last + 1) % 65536
  let d := if keep then d else setResend d power false
  let last := if keep then last else n
  if power then { d with pwr := { d.pwr with lastBlockP := d.clk.tick, seqP := last } }
  else { d with pwr := { d.pwr with lastBlockC := d.clk.tick, seqC := last, pwrLost := false } }

/-- Latency of a message by its LAST_PATH number, across the die-to-die interface (R17, R32). -/
def pathLatency (path : Nat) : Nat :=
  (match path with | 0 => 32 | 1 => 1 | 2 => 2 | 3 => 32 | 4 => 4 | 5 => 1 | _ => 2) + 2

/-- The message of a block that failed twice misses its due tick; an idle block carries none (R11, R18). -/
def loseCarried (d : Dev) : Option (Nat × BitVec 16) → Dev
  | none => d
  | some m => { d with pwr := { d.pwr with lostDue := d.pwr.lostDue ++ [(stampTick d m.2 + pathLatency m.1, m.1)] } }

/-- A block fails its CRC: it is re-sent once, with DIE_LINK_CRC; after a second failure its message is lost (R11, R18). -/
def dieBad (d : Dev) (power : Bool) (carried : Option (Nat × BitVec 16)) (inj obs : Bool) : Dev :=
  if resendDue d power then loseCarried (setResend d power false) carried
  else setResend (detectInj d 0x1003 (b2n (!power)) 7 0 inj obs) power true

/-- DIE_BLOCK_RECEIVE; `power` names the receiving die. An armed CRC checker reads one good block bad (R306–R309). -/
def dieBlock (d : Dev) (power : Bool) (b : BitVec 256) (carried : Option (Nat × BitVec 16)) : Dev :=
  let good := dieCrcGood b
  let n := dieSeq b
  if !powered d .mgmt || d.pwr.ctlLost then d
  else if injectionOn d 7 (b2n (!power)) then
    let obs := d.flt.observe
    let d := takeInjection d
    if !good then dieBad (realFound d 0x1003 (reactionOf d 0x1003)) power carried false false
    else if obs then dieGood (detectInj d 0x1003 (b2n (!power)) 7 0 true true) power n
    else dieBad d power carried true false
  else if good then dieGood d power n else dieBad d power carried false false

/-- DIE_BLOCK_RECEIVE (R11). -/
def execDieBlockReceive (power : Bool) (b : BitVec 256) (s : State) (carried : Option (Nat × BitVec 16) := none) : Host.Outcome State Fault Refusal :=
  run (fun d => dieBlock d power b carried) s

/-! ### The loss of a die (R12) -/

/-- CONTROL_DIE_LOST: 20 ticks without a valid block at the power die; DRONE on its own (R12, R296), unless AON runs on VHOLD (R116). Its
host interface stops (R63, R369). -/
def controlLost (d : Dev) : Dev :=
  if d.pwr.ctlLost || !powered d .mgmt || d.pwr.onVhold || decide (d.clk.tick < d.pwr.lastBlockP + 20) then d
  else faultsAct (resetDomain { d with pwr := { d.pwr with ctlLost := true, lostFret := d.clk.fret, lostTick := d.clk.tick - d.clk.tickInFret } } .host) [{ due := d.clk.tick, code := 0x1000 }]

/-- CONTROL_DIE_LOST (R12). -/
def execControlDieLost (s : State) : Host.Outcome State Fault Refusal := run controlLost s

/-- POWER_DIE_LOST: every string safe, SAFE is held, nothing is recorded (R12, R296). A control die that the power die has lost as well
holds every string safe too, and shows SAFE; the device's own mode stays DRONE (R310). -/
def powerLost (d : Dev) : Dev :=
  if d.pwr.pwrLost || !powered d .mgmt || decide (d.clk.tick < d.pwr.lastBlockC + 20) then d
  else if d.pwr.ctlLost then allSafe { d with pwr := { d.pwr with pwrLost := true } } false
  else faultsAct { d with pwr := { d.pwr with pwrLost := true } } [{ due := d.clk.tick, code := 0x1001 }]

/-- POWER_DIE_LOST (R12). -/
def execPowerDieLost (s : State) : Host.Outcome State Fault Refusal := run powerLost s

/-! ### The rebuild (R12, R119–R121, R228, R302) -/

/-- A domain of the control die (R30). -/
def onControlDie (x : Domain) : Bool := !(x == .aon || x == .aux)

/-- A string unit after the reset of the control die: its safe output stands, its targets come from the journal (R120, log 39). -/
def resetString (u : StringUnit) : StringUnit :=
  { st := u.st, vCmd := u.vCmd, idle := u.idle, slew := u.slew, vMeas := u.vMeas, dischRef := u.dischRef, downRef := u.downRef, dischBy := u.dischBy }

/-- A control die that recovers is reset: its units and its plain registers take their reset values; the set-up in force stands (R12, R119,
R302, log 39). -/
def resetControlDie (d : Dev) : Dev :=
  let str := d.str.map resetString
  let d := [Domain.mgmt, .host, .sched, .fasta, .fastb, .links].foldl clearUnits d
  let d := { d with str := str, wd := { d.wd with waiting := d.wd.on }, cfg := { d.cfg with commits := [], rw := d.cfg.rw.filter (fun e => !onControlDie (regDomain d e.1)) } }
  recomputePin (settleKinds d)

/-- The fret that the counter would have reached since the loss (R119). -/
def outageFret (d : Dev) : Nat := d.pwr.lostFret + (d.clk.tick - d.pwr.lostTick) / 32

/-- Status and index of a REPLAN whose additions stood at the loss: the lowest one that did not end in full (R104, R120). -/
def lostReplan (resv : List Resv) (x : Entry) : Status × Nat :=
  let q := replanResult (x.addResults ++ resv.filterMap (fun r => if r.entry == x.idx then r.add.map (fun i => (i, Status.abortedSafe)) else none))
  if q.1 = .ok then (.abortedSafe, 0) else q

/-- One entry at the rebuild; `resv` are the reservations that stood at the loss (R104, R120). Timed work in ACCEPTED counts as timed work
(log 58). -/
def rebuildEntry (resv : List Resv) (d : Dev) (x : Entry) : Dev :=
  let f := d.clk.fret
  if x.st = .done then d
  else match x.fixed with
    | some (st, detail) => finish d x.idx st f detail
    | none =>
      if timedImage x.image then
        let stop := if x.st = .scheduled then x.endFret else endOf x
        let d := updEntry d x.idx (fun y => { y with endFret := stop })
        if stop ≤ f then finish (countMissed d) x.idx .missedOutage f 0
        else
          let q := match resv.find? (fun r => r.entry == x.idx && r.add.isNone) with | some r => resvDetail d r .abortedSafe | none => 0
          let p := if x.admIssued && classOf x.image == .replan then lostReplan resv x else (.abortedSafe, q)
          finishWith d x.idx p.1 d.pwr.lostFret p.2 (fun c => { c with retrySwap := x.admIssued && x.retrySwap })
      else if x.commit then finish d x.idx .abortedSafe d.pwr.lostFret 0
      else if x.st = .intent then acceptAgain d x.idx
      else d

/-- CONTROL_DIE_REBUILD at the recovery fret, the entries in journal order, and every used link trains (R119–R121, R228, R302). -/
def rebuild (d : Dev) (fret : Nat) : Dev :=
  let near := outageFret d
  if !d.pwr.ctlLost || decide (fret + 2 < near) || decide (near + 2 < fret) then d
  else
    let resv := d.fb.resv
    let d := resetControlDie d
    let d := { d with mm := { d.mm with downEntries := [] }, pwr := { d.pwr with ctlLost := false, pwrLost := false, lastBlockP := d.clk.tick, lastBlockC := d.clk.tick, resendC := false, resendP := false }, clk := { d.clk with fret := fret % 2 ^ 48, tickInFret := 0, fretDue := false }, jr := { d.jr with secondary := d.jr.primary, missed := 0, reexec := 0 } }
    let d := setRebuilt (d.jr.primary.foldl (rebuildEntry resv) d)
    let d := recordN d 0x4003 srcJournalC [fretLow d, d.jr.missed, d.jr.reexec]
    ((List.range 16).filter (linkUsed d)).foldl trainLink d

/-- CONTROL_DIE_REBUILD (R120). -/
def execControlDieRebuild (fret : Nat) (s : State) : Host.Outcome State Fault Refusal := run (fun d => rebuild d fret) s

end Sys2Proof.Machine
end

