-- ==== Sys2Proof/Machine/Rings.lean ====
section
/-!
DEFINITION. The ring engine: polls, fetches, acceptance, completion writes, resets and the ring registers (R61–R79, R100–R102).
-/
set_option Elab.async false
namespace Sys2Proof.Machine

/-! ### POLL (R66, R67, R74) -/

/-- The poll is due: POLL_PERIOD + 1 ticks after the last, with the period that it took (R66, R73). -/
def pollDue (d : Dev) : Bool :=
  engineOn d && !d.pwr.ctlLost && (match d.ring.lastPoll with | some t => decide (t + d.ring.period + 1 ≤ d.clk.tick) | none => true)

/-- A disabled ring lets go of what it had not accepted, at the poll after its disabling; a descriptor whose journal write has begun stays
(R74). -/
def dropDisabled (d : Dev) (n : Nat) : Dev :=
  if subSize d n ≠ 0 ∨ (subU d n).disabling = 0 ∨ (writing d).any (fun x => x.ring == n) = true then d
  else updSub d n (fun r => { r with disabling := 0, fetchDue := false, listWait := none, ready := none, tries := 0, listTries := 0, fetchErr := false, holdStop := false, prodBad := false })

/-- One index of doorbell line A: invalid at or above the ring's size (R67). CLASS and LIMIT take effect here (R73). -/
def readProducer (d : Dev) (line : Line) (n : Nat) : Dev :=
  if subSize d n = 0 then d
  else
    let v := leAt line (2 * n) 2
    let d := updSub d n (fun r => { r with cls := rwF d (subBase n + 8) 8 2, limit := rwF d (subBase n + 0xC) 0 13 })
    if v < subSize d n then updSub d n (fun r => { r with prod := v, prodBad := false })
    else
      let was := (subU d n).prodBad
      let d := updSub d n (fun r => { r with prodBad := true, fetchDue := false })
      if was then d else detect d 0x1403 n v 0

/-- One index of doorbell line B; an invalid one leaves the last valid one in use (R67). -/
def readConsumer (d : Dev) (line : Line) (m : Nat) : Dev :=
  if cplSize d m = 0 then d
  else
    let v := leAt line (2 * m) 2
    if v < cplSize d m then updCpl d m (fun r => { r with cons := v, consBad := false })
    else
      let was := (cplU d m).consBad
      let d := updCpl d m (fun r => { r with consBad := true })
      if was then d else detect d 0x1403 m v 0

/-- The ring's next slot, or its list, is read now (R75, R76, R78); leaving HOLD frees a ring that HOLD stopped (R37). -/
def requestFetch (d : Dev) (n : Nat) : Dev :=
  let d := if d.mm.mode == .hold then d else updSub d n (fun r => { r with holdStop := false })
  let r := subU d n
  let due := ringWork d n && r.ready.isNone && !noAccept d && !r.holdStop
  updSub d n (fun r => { r with fetchDue := due })

/-- The capture line is read while a capture or a replay is active (R365); buffered records move into the freed room (R369). -/
def readCaptureLine (d : Dev) (line : Line) : Dev :=
  if !captureActive d && !replayActive d then d
  else
    let d := { d with cap := { d.cap with consumer := leAt line 0 8, inProducer := leAt line 8 8, outConsumer := leAt line 16 8 } }
    capDrain d d.capQueue.queue

/-- One poll (R66). The watchdog samples a check-in line that has an address (R335). -/
def poll (d : Dev) (a b checkin cap : Line) : Dev :=
  if !pollDue d then d
  else
    let d := { d with ring := { d.ring with lastPoll := some d.clk.tick, period := rwF d 0x0400 8 6 } }
    let d := foldN 32 dropDisabled d
    let d := foldN 32 (fun d n => readProducer d a n) d
    let d := foldN 32 (fun d m => readConsumer d b m) d
    let d := if rwOf d 0x0418 = 0 ∧ rwOf d 0x041C = 0 then d else wdSample d checkin
    let d := readCaptureLine d cap
    foldN 32 requestFetch d

/-- The records that the host has placed in the replay input ring since the last poll; a disabled ring holds none (R365, R373). -/
def takeReplay (d : Dev) (old : List RepRec) (rs : List RepRec) : List RepRec :=
  if pollDue d && decide (rwF d 0x7210 0 6 ≠ 0) then old ++ rs else old

/-- POLL (R66). -/
def execPoll (a b checkin cap : Line) (replay : List RepRec) (s : State) : Host.Outcome State Fault Refusal :=
  .next { s with dev := settle (poll s.dev a b checkin cap), repIn := takeReplay s.dev s.repIn replay }

/-! ### Fetches (R76–R78, R37) -/

/-- Opcodes that HOLD accepts (R37). -/
def holdAccepts (i : Image) : Bool := opcodeOf i == 5 || opcodeOf i == 10 || opcodeOf i == 0

/-- CRC of a 64-byte image (R76). -/
def imageGood (i : Image) : Bool := crc32c (bytesOf i 60) == leAt i 60 4

/-- A read returned a PCIe error (R71, R72). -/
def fetchFailed (d : Dev) (n : Nat) : Dev :=
  let d := updSub d n (fun r => { r with fetchErr := true, fetchDue := false })
  { d with ring := { d.ring with fetchError := true } }

/-- A descriptor is ready for acceptance. -/
def makeReady (d : Dev) (n : Nat) (i : Image) (segs : List Word) (adds : List Image) (fixed : Option (Status × Nat)) : Dev :=
  let slot := nextSlot d n
  updSub d n (fun r => { r with fetchDue := false, listWait := none, ready := some { slot := slot, image := i, segs := segs, adds := adds, fixed := fixed } })

/-- A check fails: fetched again at the next two polls, then accepted with its status (R76, R77). -/
def fetchAgain (d : Dev) (n : Nat) (i : Image) (fixed : Status × Nat) : Dev :=
  if 2 ≤ (subU d n).tries then makeReady d n i [] [] (some fixed)
  else updSub d n (fun r => { r with tries := r.tries + 1, fetchDue := false })

/-- The descriptor has a list to fetch (R78). -/
def needsList (i : Image) : Bool :=
  (opcodeOf i == 1 && bit i 70 && decide (1 ≤ leAt i 34 2 ∧ leAt i 34 2 ≤ 256))
  || (opcodeOf i == 2 && decide (1 ≤ byteAt i 15 ∧ byteAt i 15 ≤ 64))

/-- A descriptor read returns (R76–R78); HOLD leaves an opcode it does not accept in host memory (R37). -/
def descriptorReturn (d : Dev) (n : Nat) (data : Option Image) : Dev :=
  let r := subU d n
  if !engineOn d || d.pwr.ctlLost || !r.fetchDue || r.listWait.isSome || r.ready.isSome || !ringWork d n then d
  else match data with
    | none => fetchFailed d n
    | some i =>
      let d := updSub d n (fun r => { r with fetchErr := false })
      if !imageGood i then fetchAgain d n i (.badCheck, 0)
      else if leAt i 4 4 ≠ r.next then fetchAgain d n i (.badField, badDetail 4 0xFF 1)
      else if d.mm.mode == .hold && !holdAccepts i then updSub d n (fun r => { r with holdStop := true, fetchDue := false })
      else if needsList i then updSub d n (fun r => { r with listWait := some i })
      else makeReady d n i [] [] none

/-- DESCRIPTOR_FETCH_RETURN (R76). -/
def execDescriptorFetchReturn (ring : Nat) (data : Option Image) (s : State) : Host.Outcome State Fault Refusal :=
  run (fun d => descriptorReturn d ring data) s

/-- A list read fails: read again at the next two polls, then the descriptor is accepted with a status (R78, R88). -/
def listAgain (d : Dev) (n : Nat) (i : Image) (adds : List Image) (fixed : Status × Nat) : Dev :=
  if 2 ≤ (subU d n).listTries then makeReady d n i [] adds (some fixed)
  else updSub d n (fun r => { r with listTries := r.listTries + 1, fetchDue := false })

/-- A list read returns (R78); an add record that fails its CRC is read again (R88). -/
def listReturn (d : Dev) (n : Nat) (data : ListData) : Dev :=
  let r := subU d n
  match r.listWait with
  | none => d
  | some i =>
    if !engineOn d || d.pwr.ctlLost || !r.fetchDue then d
    else match data with
      | .error => listAgain (fetchFailed d n) n i [] (.badField, badDetail (if opcodeOf i = 1 then 26 else 36) 0xFF 2)
      | .segs bytes =>
        if opcodeOf i = 1 then makeReady (updSub d n (fun r => { r with fetchErr := false })) n i ((leWords bytes).take (leAt i 34 2)) [] none else d
      | .adds rs =>
        if opcodeOf i ≠ 2 then d
        else
          let d := updSub d n (fun r => { r with fetchErr := false })
          let rs := rs.take (byteAt i 15)
          match rs.findIdx? (fun a => !imageGood a) with
          | some k => listAgain d n i rs (.badCheck, k <<< 8)
          | none => makeReady d n i [] rs none

/-- LIST_FETCH_RETURN (R78). -/
def execListFetchReturn (ring : Nat) (data : ListData) (s : State) : Host.Outcome State Fault Refusal :=
  run (fun d => listReturn d ring data) s

/-! ### ACCEPTANCE (R69–R71, R75, R77, R79) -/

/-- Descriptors accepted so far in the present tick. -/
def acceptedNow (d : Dev) : Nat := if d.ring.accTick = d.clk.tick then d.ring.accCount else 0

/-- The ring has a descriptor that can be accepted now (R38, R71, R75, R79, R115, R116). -/
def acceptable (d : Dev) (n : Nat) : Bool :=
  match (subU d n).ready with
  | none => false
  | some q =>
    engineOn d && !d.pwr.ctlLost && decide (ringSize d n ≠ 0) && !(subU d n).prodBad && !noAccept d
    && !d.jr.frozen && roomFor d n (readyCost q)
    && decide ((tailOf d n).outstanding < subLimit d n) && decide (acceptedNow d < 8)

/-- How far a ring stands behind the one served last in its class (R75): the last one itself may go on with its read
request of up to four. -/
def turn (d : Dev) (n : Nat) : Nat := let l := at' 31 d.ring.last (subU d n).cls; if n = l then 0 else (n + 32 - l) % 32

/-- The ring is served before another: class first, then round-robin (R75, log 16). -/
def servedBefore (d : Dev) (n q : Nat) : Bool :=
  if (subU d n).cls ≠ (subU d q).cls then decide ((subU d n).cls < (subU d q).cls) else decide (turn d n < turn d q)

/-- The ring's turn has come. -/
def itsTurn (d : Dev) (n : Nat) : Bool := (List.range 32).all (fun q => !(acceptable d q && servedBefore d q n))

/-- Place a new entry in journal order: port requests of this tick or later follow it (R390). -/
def placeEntry (now : Nat) (l : List Entry) (x : Entry) : List Entry :=
  let late := (l.reverse.takeWhile (fun y => y.ring == 32 && decide (now ≤ y.accTick))).length
  l.take (l.length - late) ++ [x] ++ l.drop (l.length - late)

/-- Sixteen segment words as the 64-byte slice of a journal entry (R79, R105). -/
def sliceImage (ws : List Word) : Image :=
  BitVec.ofNat 512 (ws.zipIdx.foldl (fun a q => a + (q.1.toNat <<< (32 * q.2))) 0)

/-- Cut a list of words into runs of sixteen. -/
def slices : Nat → List Word → List Image
  | 0, _ => []
  | k + 1, ws => sliceImage (ws.take 16) :: slices k (ws.drop 16)

/-- The DESCRIPTOR records of an accepted entry (R366). -/
def captureEntry (d : Dev) (x : Entry) : Dev :=
  let fx := match x.fixed with | some (st, _) => st.code | none => 0
  let kind := if x.ring = 32 then 3 else 0
  let d := captureAt d (x.accTick + 4) (.descriptor kind (x.ring % 32) x.idx x.seq fx x.image)
  let d := (slices (ceilDiv x.segs.length 16) x.segs).foldl (fun d i => captureAt d (x.accTick + 4) (.descriptor 1 (x.ring % 32) x.idx x.seq fx i)) d
  x.adds.foldl (fun d i => captureAt d (x.accTick + 4) (.descriptor 2 (x.ring % 32) x.idx x.seq fx i)) d

/-- The journal entry of a ready descriptor (R105). -/
def newEntry (d : Dev) (n : Nat) (q : Ready) : Entry :=
  { idx := freeIdx (d.jr.primary ++ writing d), ring := n, slot := q.slot, seq := (subU d n).next, bind := subBinding d n, image := q.image, segs := q.segs, adds := q.adds, cost := readyCost q, accTick := d.clk.tick, accFret := d.clk.fret, fixed := q.fixed }

/-- The first journal write: the secondary copy holds the image, in WRITING, until the power die acknowledges the other (R107, R108). -/
def claimEntry (d : Dev) (n : Nat) (q : Ready) : Dev :=
  if (writing d).any (fun x => x.ring == n) then d
  else { d with jr := { d.jr with secondary := d.jr.secondary ++ [{ newEntry d n q with st := .writing }] } }

/-- The power die cannot acknowledge now: it is lost, or a die-to-die block is being re-sent (R11, R12, R107). -/
def ackWaits (d : Dev) : Bool := d.pwr.pwrLost || d.pwr.resendC || d.pwr.resendP

/-- The second journal write of a ready descriptor completes (R70, R108). -/
def acceptReady (d : Dev) (n : Nat) (q : Ready) : Dev :=
  let d := dropWriting d n
  let r := subU d n
  let x := newEntry d n q
  let d := mapJournal d (fun l => placeEntry d.clk.tick l x)
  let d := updTail d n (fun t => { seq := x.seq, slot := q.slot, bind := x.bind, outstanding := t.outstanding + 1 })
  let d := { d with ring := { d.ring with accTick := d.clk.tick, accCount := acceptedNow d + 1, last := d.ring.last.set r.cls n } }
  let d := updSub d n (fun r => { r with acc := q.slot, next := if r.next = 0xFFFFFFFF then 1 else r.next + 1, accWord := q.slot + ((r.next % 65536) <<< 16), tries := 0, listTries := 0, fetchErr := false, ready := none })
  let d := updSub d n (fun r => { r with fetchDue := ringWork d n })
  writeAcceptBlock (followState (captureEntry d x)) (n / 16)

/-- HOLD takes a descriptor: by its opcode, or whatever it is with a status that R76 or R77 fixed (R37). -/
def holdTakes (d : Dev) (n : Nat) (q : Ready) : Bool :=
  holdAccepts q.image || (q.fixed.isSome && !(imageGood q.image && leAt q.image 4 4 == (subU d n).next))

/-- ACCEPTANCE: in HOLD a descriptor that HOLD does not accept goes back to host memory (R37); the entry stands in WRITING until the power die
acknowledges (R107). -/
def accept (d : Dev) (n : Nat) : Dev :=
  match (subU d n).ready with
  | none => d
  | some q =>
    if !acceptable d n then (if noAccept d then dropWriting d n else d)
    else if d.mm.mode == .hold && !holdTakes d n q then
      updSub (dropWriting d n) n (fun r => { r with holdStop := true, ready := none, tries := 0, listTries := 0 })
    else if !itsTurn d n then d
    else if ackWaits d then claimEntry d n q
    else acceptReady d n q

/-- ACCEPTANCE (R70). -/
def execAcceptance (ring : Nat) (s : State) : Host.Outcome State Fault Refusal := run (fun d => accept d ring) s

/-! ### COMPLETION_WRITE (R101, R102, R112) -/

/-- A completion ring has no free slot (R101). -/
def cplFull (d : Dev) (m : Nat) : Bool := decide (((cplU d m).prod + 1) % max 1 (cplSize d m) = (cplU d m).cons)

/-- Completions of a ring that wait in the journal (R72). -/
def queued (d : Dev) (m : Nat) : Nat := (((entries d).filter (fun x => x.bind == m)).map (fun x => x.cpls.length)).sum

/-- The entry is written: one posted write, the producer advances, a FINAL entry returns the credit, and
the journal entry retires unless it is timed work whose end fret has not passed (R101, R102, R108, R111). -/
def writeCpl (d : Dev) (m : Nat) (x : Entry) (c : Cpl) : Dev :=
  let r := cplU d m
  let d := emit d (.completion m r.prod r.phase c)
  let p := (r.prod + 1) % max 1 (cplSize d m)
  let d := updCpl d m (fun r => { r with prod := p, phase := if p = 0 then !r.phase else r.phase })
  let d := updEntry { d with jr := { d.jr with due := d.jr.due.erase x.idx } } x.idx (fun y => { y with cpls := y.cpls.drop 1 })
  let d := if c.final then updTail d x.ring (fun t => { t with outstanding := t.outstanding - 1 }) else d
  let d := if c.final && (x.endFret == 0 || decide (x.endFret < d.clk.fret)) then dropEntry d x.idx else d
  occur d (1 + m)

/-- COMPLETION_WRITE: the completion of this ring that became due first (R101). -/
def completionWrite (d : Dev) (m : Nat) : Dev :=
  if !powered d .host || d.pwr.ctlLost || d.jr.frozen || decide (cplSize d m = 0) || cplFull d m then d
  else match (d.jr.due.filterMap (entryOf d)).find? (fun x => x.bind == m) with
    | none => d
    | some x => match x.cpls with
      | c :: _ => writeCpl d m x c
      | [] => d

/-- COMPLETION_WRITE (R101). -/
def execCompletionWrite (ring : Nat) (s : State) : Host.Outcome State Fault Refusal := run (fun d => completionWrite d ring) s

/-! ### FUNCTION_RESET (R63) -/

/-- The ring engine and the ring registers take their reset values; a capture ends with reason RESET (R63, R369). -/
def functionReset (d : Dev) : Dev :=
  if !powered d .host then d
  else
    let d := endCapture d 4
    mapJournal { d with pci := {}, ring := {}, cfg := { d.cfg with rw := d.cfg.rw.filter (fun e => !(decide (0x0400 ≤ e.1 ∧ e.1 < 0x1000))) } } (fun l => l.filter (fun x => x.st != .writing))

/-- FUNCTION_RESET (R63); the function's header and MSI-X are reset with it (log 13). -/
def execFunctionReset (s : State) : Host.Outcome State Fault Refusal := run functionReset s

/-! ### Ring registers (R71–R74) -/

/-- A write is ignored as a whole (R73). -/
def ignoreWrite (d : Dev) : Dev := { d with ring := { d.ring with writeIgnored := true } }

/-- A legal SIZE (R72, R73). -/
def sizeOk (s : Nat) : Bool := s == 0 || decide (4 ≤ s ∧ s ≤ 16)

/-- RING_CONTROL (R71, R72): on enable both state blocks, then both acceptance blocks. -/
def writeRingControl (d : Dev) (v : Word) : Dev :=
  if !powered d .host then d
  else
    let was := engineOn d
    let d := setRw d 0x0400 (v &&& w32 0x3F01)
    if engineOn d && !was then
      let d := writeStateBlock (writeStateBlock d 0) 1
      writeAcceptBlock (writeAcceptBlock d 0) 1
    else if was && !engineOn d then
      let d := mapJournal { d with ring := { d.ring with lastPoll := none } } (fun l => l.filter (fun x => x.st != .writing))
      foldN 32 (fun d n => let p := nextSlot d n; updSub d n (fun r => { r with fetchDue := false, listWait := none, ready := none, prod := p, prodBad := false })) d
    else d

/-- RING_CONTROL_WRITE (R71). -/
def execRingControlWrite (v : Word) (s : State) : Host.Outcome State Fault Refusal := run (fun d => writeRingControl d v) s

/-- A submission ring is enabled: nothing accepted since enable (R69). -/
def enableSub (d : Dev) (n : Nat) : Dev :=
  let z := max 1 (subSize d n)
  let start := rwF d (subBase n + 0x10) 0 16
  let acc := (start % z + z - 1) % z
  let d := updSub d n (fun r => { r with acc := acc, accWord := acc + (((r.next + 0xFFFF) % 65536) <<< 16), prod := (acc + 1) % z, prodBad := false, tries := 0, listTries := 0, fetchErr := false, holdStop := false, fetchDue := false, listWait := none, ready := none, disabling := 0 })
  if engineOn d then writeAcceptBlock (followState d) (n / 16) else d

/-- RING_SUB_CONTROL (R73, R74). -/
def writeSubControl (d : Dev) (n : Nat) (v : Word) : Dev :=
  if !powered d .host || decide (32 ≤ n) then d
  else
    let off := subBase n + 8
    let old := rwOf d off
    let size := fld v 0 5
    let cur := fld old 0 5
    let set := fun (d : Dev) => setRw d off (v &&& rwMask off)
    if !sizeOk size then ignoreWrite d
    else if cur = 0 then (if size = 0 then set d else enableSub (set d) n)
    else if fld v 16 5 ≠ fld old 16 5 ∨ (size ≠ 0 ∧ size ≠ cur) then ignoreWrite d
    else if size = 0 then updSub (set d) n (fun r => { r with disabling := 2 ^ cur })
    else set d

/-- RING_SUB_CONTROL_WRITE (R74). -/
def execRingSubControlWrite (n : Nat) (v : Word) (s : State) : Host.Outcome State Fault Refusal := run (fun d => writeSubControl d n v) s

/-- RING_CPL_CONTROL (R73, R74). -/
def writeCplControl (d : Dev) (m : Nat) (v : Word) : Dev :=
  if !powered d .host || decide (32 ≤ m) then d
  else
    let off := cplBase m + 8
    let size := fld v 0 5
    let cur := rwF d off 0 5
    if !sizeOk size then ignoreWrite d
    else if size = 0 then
      (if (List.range 32).any (fun n => decide (subSize d n ≠ 0) && subBinding d n == m) || decide (queued d m ≠ 0) then ignoreWrite d
       else updCpl (setRw d off 0) m (fun r => { r with consBad := false }))
    else if cur = 0 then updCpl (setRw d off (w32 size)) m (fun _ => {})
    else if size = cur then d
    else ignoreWrite d

/-- RING_CPL_CONTROL_WRITE (R74). -/
def execRingCplControlWrite (m : Nat) (v : Word) (s : State) : Host.Outcome State Fault Refusal := run (fun d => writeCplControl d m v) s

end Sys2Proof.Machine
end

