-- ==== Sys2Proof/Machine/Commit.lean ====
section
/-!
DEFINITION. Staged fields and commits: the checks of every block on the would-be values in force, and what a commit brings (R195–R199, R165, R167, R169, R173, R176, R180, R191, R232, R244, R255, R261, R277, R290, R404).
-/
set_option Elab.async false
namespace Sys2Proof.Machine

/-! ### Would-be values -/

/-- A field of the staged copy (R197). -/
def sf (d : Dev) (off lo n : Nat) : Nat := fld (stagedOf d off) lo n
/-- The commit would change a field. -/
def moves (d : Dev) (off lo n : Nat) : Bool := sf d off lo n != rsF d off lo n
/-- A number lies in a range. -/
def within (lo hi v : Nat) : Bool := decide (lo ≤ v ∧ v ≤ hi)

/-- A check: its register's BAR0 offset, and whether it passes. -/
abbrev Rule := Nat × Bool

def inConfig (d : Dev) : Bool := d.mm.mode == .config

/-! ### The fingerboard (R165) -/

def boardRules (d : Dev) : List Rule :=
  let cfg := inConfig d
  let still (off lo n : Nat) : Bool := cfg || !moves d off lo n
  let sv := sf d 0x1030 6 1 = 1
  let pv := sf d 0x1030 14 1 = 1
  [(0x1000, within 0 100 (sf d 0x1000 8 7)),
   (0x1014, still 0x1014 0 16),
   (0x101C, still 0x101C 0 16 && !(sv && sf d 0x101C 0 16 == 0)),
   (0x1020, still 0x1020 0 32 && (!sv || (decide (sf d 0x1020 16 16 < sf d 0x1024 0 16) && decide (sf d 0x1024 0 16 ≤ sf d 0x1020 0 16)))),
   (0x1024, still 0x1024 0 32),
   (0x1028, still 0x1028 0 32 && sf d 0x1028 16 16 != 0),
   (0x1030, still 0x1030 0 32 && (!sv || kindOfCode (sf d (strBase (sf d 0x1030 0 6)) 0 3) == .store)
      && (!pv || kindOfCode (sf d (strBase (sf d 0x1030 8 6)) 0 3) == .pack)),
   (0x1034, still 0x1034 0 32)]

/-! ### Strings (R166, R167, R169, R173, R176, R180, R191, R198, R277) -/

def stagedKind (d : Dev) (k : Nat) : Kind := kindOfCode (sf d (strBase k) 0 3)
def stagedCourse (d : Dev) (k : Nat) : List Nat :=
  if stagedKind d k = .unused then [] else (List.range (sf d (strBase k) 16 5)).map (· + sf d (strBase k) 8 6)

/-- Some string shares a phase with an earlier or later one; the lower register reports it (R169, R197). -/
def clashes (d : Dev) (k : Nat) : Bool :=
  (List.range 64).any (fun j => decide (k < j) && (stagedCourse d k).any (fun p => (stagedCourse d j).contains p))

/-- More than two SAFETY strings: reported at the lowest (R167). -/
def safetyExcess (d : Dev) (k : Nat) : Bool :=
  let ss := (List.range 64).filter (fun j => sf d (strBase j) 3 1 == 1)
  decide (2 < ss.length) && ss.head? == some k

/-- Strings that a staged step names; an unused step names none (R244). -/
def stagedMask (d : Dev) (b : Nat) : Nat := if sf d b 0 1 = 0 then 0 else (stagedOf d (b + 4)).toNat + ((stagedOf d (b + 8)).toNat <<< 32)

/-- A PACK or UNUSED string that some step of the two tables names (R244). -/
def namedWrongly (d : Dev) (k : Nat) : Bool :=
  (stagedKind d k == .pack || stagedKind d k == .unused)
  && (List.range 32).any (fun n => Nat.testBit (stagedMask d (0x3900 + 0x10 * n)) k)

/-- STR_CONFIG, with the checks that read the kind or the safe state of another register too: they are run at the lowest offset
(R166, R167, R169, R173, R176, R191, R197, R198, R244, R277). -/
def configOk (d : Dev) (k : Nat) : Bool :=
  let b := strBase k
  let kind := stagedKind d k
  let first := sf d b 8 6
  let n := sf d b 16 5
  let safety := sf d b 3 1 == 1
  (inConfig d || !moves d b 0 32) && kind != .reserved
  && (kind == .unused || voltsOk kind (sf d (b + 8) 0 16))
  && (sf d b 4 1 == 0 || within 1 3200 (sf d (b + 0x2C) 0 16))
  && (kind != .store || (within 84 116 (sf d (b + 0xC) 16 8) && within 84 116 (sf d (b + 0xC) 24 8)
      && decide (sf d (b + 0xC) 16 8 < sf d (b + 0xC) 24 8) && decide (d.chg.rideLevel + 50 ≤ 50 * sf d (b + 0xC) 16 8)))
  && !namedWrongly d k
  && (!safety || kind == .axis || kind == .aux) && !safetyExcess d k
  && (kind == .unused ||
      (within 1 16 n && decide (first + n ≤ 64) && decide (first / 16 = (first + n - 1) / 16)
       && !(kind == .pack && decide (2 < n)) && !clashes d k
       && [0x14, 0x18, 0x1C].any (fun o => stagedOf d (b + o) != 0)
       && !(safety && decide (1 ≤ first / 16))
       && !(sf d b 4 1 == 1 && (kind == .aux || kind == .pack))))

/-- STR_SWITCHING (R180). -/
def switchingOk (d : Dev) (k : Nat) : Bool :=
  let b := strBase k + 0x10
  let f := sf d b 0 12
  let m := sf d b 12 2
  let dp := sf d b 16 5
  within 250 2000 f && m != 3
  && (m == 0 || (within 2 24 dp && within 1 50 (sf d b 24 6) && decide (50000 ≤ f * (200 - dp)) && decide (f * (200 + dp) ≤ 400000)))

def stringRules (d : Dev) (k : Nat) : List Rule :=
  let b := strBase k
  [(b, configOk d k),
   (b + 4, decide (sf d (b + 4) 0 16 ≤ 32767)),
   (b + 8, within 100 1000 (sf d (b + 8) 16 10)),
   (b + 0xC, decide (sf d (b + 0xC) 0 16 ≤ 2000)),
   (b + 0x10, switchingOk d k),
   (b + 0x28, within 1 1023 (sf d (b + 0x28) 0 10) && within 1 128 (sf d (b + 0x28) 10 8) && within 1 15 (sf d (b + 0x28) 18 4) && within 1 60 (sf d (b + 0x28) 22 6)),
   (b + 0x2C, within 1 255 (sf d (b + 0x2C) 16 8))]

def phaseRules (d : Dev) (p : Nat) : List Rule :=
  let b := phBase p
  [(b + 8, within 1 3200 (sf d (b + 8) 0 16) && decide (sf d (b + 8) 16 16 ≤ sf d (b + 8) 0 16)),
   (b + 0xC, decide (sf d (b + 0xC) 0 8 < sf d (b + 0xC) 8 8))]

/-! ### Links (R229, R232) -/

def linkRules (d : Dev) : List Rule :=
  [(0x3000, inConfig d || !moves d 0x3000 0 16),
   (0x3004, within 1 1000 (sf d 0x3004 0 10) && within 8 255 (sf d 0x3004 16 8) && within 1 255 (sf d 0x3004 24 8))]

/-! ### Sequencer (R233, R237, R244, R255, R259, R404) -/

/-- Window of a device net, 5 mV units (R404); EXTERNAL has none. -/
def netWindow : Nat → Option (Nat × Nat)
  | 1 => some (145, 158) | 2 => some (174, 186) | 3 => some (342, 378) | 4 => some (291, 309) | 5 => some (174, 186) | _ => none

/-- The level pairs of an item set: warning register and fault register (R237). -/
def levelRules (d : Dev) (warn fault : Nat) : List Rule :=
  [(warn, within 2 20 (sf d warn 0 5) && within 2 20 (sf d warn 8 5) && within 1 255 (sf d warn 16 8)
      && decide (sf d warn 0 5 < sf d fault 0 6) && decide (sf d warn 8 5 < sf d fault 8 6)),
   (fault, within 4 40 (sf d fault 0 6) && within 4 40 (sf d fault 8 6) && within 1 255 (sf d fault 16 8))]

def railRules (d : Dev) (r : Nat) : List Rule :=
  if railSize d r = 0 then []
  else
    let b := 0x3800 + 0x10 * r
    let net := fld (railConfigImage d r) 13 3
    let v := sf d b 0 10
    (b, within (if r < 6 then 120 else 160) 660 v && (match netWindow net with | some w => within w.1 w.2 v | none => true)
        && (inConfig d || net == 0 || !moves d b 0 10))
      :: levelRules d (b + 4) (b + 8)

/-- A half of a step's mask: no string that a later step of the table names again (R244, R197). -/
def maskOk (d : Dev) (table n half : Nat) : Bool :=
  (List.range 32).all (fun i =>
    let k := 32 * half + i
    !Nat.testBit (stagedMask d (table + 0x10 * n)) k
    || (List.range 16).all (fun m => decide (m ≤ n) || !Nat.testBit (stagedMask d (table + 0x10 * m)) k))

def stepRules (d : Dev) (table n : Nat) : List Rule :=
  let b := table + 0x10 * n
  let used := sf d b 0 1 == 1
  [(b, (inConfig d || !(moves d b 0 32 || (used && (moves d (b + 4) 0 32 || moves d (b + 8) 0 32))))
      && !(used && sf d b 16 8 == 0) && !(table == 0x3900 && sf d b 1 1 == 1)),
   (b + 4, maskOk d table n 0), (b + 8, maskOk d table n 1)]

def seqRules (d : Dev) : List Rule :=
  (List.range 8).flatMap (railRules d) ++ levelRules d 0x38A8 0x38AC
  ++ [(0x38B0, within 2 16 (sf d 0x38B0 0 5)), (0x38C0, within 1 1000 (sf d 0x38C0 0 10) && (inConfig d || !moves d 0x38C0 0 10))]
  ++ (List.range 16).flatMap (stepRules d 0x3900) ++ (List.range 16).flatMap (stepRules d 0x3A00)

/-! ### Charger (R261, R284) -/

def chargerRules (d : Dev) : List Rule :=
  let still (off lo n : Nat) : Bool := inConfig d || !moves d off lo n
  let vcv := sf d 0x4004 0 13
  let vov := sf d 0x4004 16 13
  let vpre := sf d 0x4008 0 13
  let vre := sf d 0x4008 16 13
  let vcut := sf d 0x400C 0 13
  let vride := sf d 0x400C 16 13
  let t (lo : Nat) : Int := signed 8 (sf d 0x4018 lo 8)
  [(0x4000, within 4 16 (sf d 0x4000 8 5) && still 0x4000 3 1 && still 0x4000 8 5),
   (0x4004, (if sf d 0x4000 3 1 = 1 then within 4000 4200 vcv else within 3400 3650 vcv) && within 3500 4400 vov && still 0x4004 0 32
      && decide (vpre < vcut ∧ vcut < vride ∧ vride < vre ∧ vre < vcv ∧ vcv < vov) && decide (vre + 50 ≤ vcv)),
   (0x4008, within 2000 3300 vpre && within 3000 4150 vre && still 0x4008 0 32),
   (0x400C, within 2200 3500 vcut && within 2500 3900 vride && still 0x400C 0 32),
   (0x4010, within 1 2000 (sf d 0x4010 0 11) && within 10 64 (sf d 0x4010 16 7)),
   (0x4014, sf d 0x4014 0 16 != 0 && within 2 24 (sf d 0x4014 16 5) && still 0x4014 0 16),
   (0x4018, decide (t 0 < t 8 ∧ t 8 < t 16 ∧ t 16 < t 24)),
   (0x401C, decide (signed 8 (sf d 0x401C 0 8) < signed 8 (sf d 0x401C 8 8)) && still 0x401C 16 3),
   (0x4020, within 2 800 (sf d 0x4020 0 10) && within 1 50 (sf d 0x4020 10 6) && within 10 255 (sf d 0x4020 16 8)),
   (0x4024, decide (sf d 0x4024 0 16 < sf d 0x4024 16 16))]

/-! ### Fault reactions (R290) -/

/-- One source's REACTION (R290); all of them are seen through FLT_SOURCE_CONFIG at 0x4810. -/
def reactionOk (d : Dev) (i : Nat) : Bool :=
  match srcInfo (srcCode i) with
  | none => true
  | some s =>
    let new := sf d (fltKey i) 0 3
    let old := rsF d (fltKey i) 0 3
    decide ((srcFloor s).code ≤ new) && new != 7 && (inConfig d || decide (old ≤ new))
    && !(new == 2 && s.scope != 0) && !(new == 3 && decide (3 ≤ s.scope)) && !(new == 4 && s.scope == 4)

def faultRules (d : Dev) : List Rule := [(0x4810, (List.range 512).all (reactionOk d))]

/-! ### The commit (R195–R198) -/

/-- Every check, in ascending BAR0 offset (R197). -/
def rules (d : Dev) : List Rule :=
  boardRules d ++ (List.range 64).flatMap (stringRules d) ++ linkRules d ++ seqRules d ++ chargerRules d ++ faultRules d
  ++ (List.range 64).flatMap (phaseRules d)

/-- Offset of the first failing register (R197). -/
def firstFailing (d : Dev) : Option Nat := ((rules d).find? (fun q => !q.2)).map (fun q => q.1)

/-- BAR0 offset of a word of the register file. -/
def offsetOf (key : Nat) : Nat := if 0x10000 ≤ key then 0x4810 else key

/-- Words that a commit changes. -/
def changedWords (d : Dev) : List Nat :=
  (((d.cfg.staged.map (fun e => e.1)) ++ (d.cfg.force.map (fun e => e.1))).eraseDups).filter (fun k => stagedOf d k != inForce d k)

/-- A setter of a working value gives way to one of the same tick that stands after it in the journal (R194). -/
def overtaken (d : Dev) (by' : Option (Nat × Option Nat)) (e : Option Nat) : Bool :=
  match by' with
  | some (t, some a) => decide (t = d.clk.tick) && (match e with | some b => (before d a).any (fun y => y.idx == b) | none => true)
  | _ => false

/-- A commit or a SETPOINT sets the working slew, the working idle current (R90, R194, R198). -/
def setSlew (d : Dev) (k : Nat) (e : Option Nat) (v : Nat) : Dev :=
  if overtaken d (strU d k).slewBy e then d else updStr d k (fun u => { u with slew := v, slewBy := some (d.clk.tick, e) })
def setIdle (d : Dev) (k : Nat) (e : Option Nat) (v : Nat) : Dev :=
  if overtaken d (strU d k).idleBy e then d else updStr d k (fun u => { u with idle := v, idleBy := some (d.clk.tick, e) })

/-- Working slew and idle current that a commit changes (R198), in journal order with a SETPOINT of the tick (R194); a new carrier set-up acts
from the next carrier boundary (R181). -/
def newWorking (d old : Dev) (e : Option Nat) (k : Nat) : Dev :=
  let d := if strSlew d k = strSlew old k then d else setSlew d k e (strSlew d k)
  let d := if strIdle d k = strIdle old k then d else setIdle d k e (strIdle d k)
  if inForce d (strBase k + 0x10) = inForce old (strBase k + 0x10) then d else updStr d k (fun u => { u with carNext := 0 })

/-- Links after a commit: newly used ones train in CONFIG, unused ones stop; EXPECT_ID is judged again (R224, R225, R232). -/
def linkCommit (old d : Dev) (k : Nat) : Dev :=
  let d :=
    if linkUsed d k && !linkUsed old k then trainLinks d [k]
    else if !linkUsed d k && linkUsed old k && (lkU d k).st != .retired then updLk d k (fun l => { l with st := .unused })
    else d
  let ex := rsF d (0x3100 + 0x20 * k + 0x1C) 0 16
  let l := lkU d k
  if ex ≠ rsF old (0x3100 + 0x20 * k + 0x1C) 0 16 ∧ ex ≠ 0 ∧ l.idSeen = true ∧ l.stageId ≠ ex then detect (setLinkEvent d k 5) 0x1206 k 0xFFFFFFFF l.stageId else d

/-- Every staged copy moves into force together (R195, R198). -/
def applyStaged (d : Dev) (e : Option Nat) : Dev :=
  let old := d
  let ws := changedWords d
  let d := { d with cfg := { d.cfg with force := d.cfg.staged } }
  let d := if ws.isEmpty then d else capture d (.mgmt 3 (ws.map (fun k => (offsetOf k, (inForce d k).toNat))))
  let d := settleKinds d
  let d := foldN 64 (fun d k => newWorking d old e k) d
  foldN 16 (fun d k => linkCommit old d k) d

/-- One commit: all checks, then everything or nothing (R197); `e` is the descriptor. -/
def commitOne (d : Dev) (e : Option Nat) : Dev :=
  match firstFailing d with
  | some off =>
    let d := { d with cfg := { d.cfg with result := 2, failOffset := off % 65536 } }
    (match e with | some e => finishNow d e .badField (badDetail (off % 256) 0xFF 6) | none => d)
  | none =>
    let d := applyStaged d e
    let d := { d with cfg := { d.cfg with result := 1, failOffset := 0 } }
    (match e with | some e => finishNow d e .ok 0 | none => d)

/-- Commits whose fret has come, in journal order; those of ID_COMMIT first (R196). -/
def dueCommits (d : Dev) : List CommitReq :=
  let due := d.cfg.commits.filter (fun c => decide (c.fret ≤ d.clk.fret))
  due.filter (fun c => c.entry.isNone)
  ++ (entries d).flatMap (fun x => due.filter (fun c => c.entry == some x.idx))

/-- A commit of this fret is to be made in this tick: a write to a staged copy waits for it (R196). -/
def commitDue (d : Dev) : Bool := d.clk.tickInFret == 0 && d.cfg.commits.any (fun c => decide (c.fret ≤ d.clk.fret))

/-- COMMIT_APPLY at tick 0 of the commit fret (R195, R196). -/
def commitApply (d : Dev) : Dev :=
  if !powered d .sched || d.pwr.ctlLost || d.clk.tickInFret != 0 then d
  else
    let cs := dueCommits d
    let d := { d with cfg := { d.cfg with commits := d.cfg.commits.filter (fun c => !decide (c.fret ≤ d.clk.fret)) } }
    landStaged (cs.foldl (fun d c => commitOne d c.entry) d)

/-- COMMIT_APPLY (R195). -/
def execCommitApply (s : State) : Host.Outcome State Fault Refusal := run commitApply s

/-- First fret boundary at or after now (R41, R93). -/
def boundary (d : Dev) : Nat := if d.clk.tickInFret = 0 then d.clk.fret else d.clk.fret + 1

/-- ID_COMMIT.COMMIT: accepted only in CONFIG, at the next fret boundary (R196). -/
def requestCommit (d : Dev) : Dev :=
  if !powered d .mgmt then d
  else if d.mm.mode != .config then { d with cfg := { d.cfg with refused := true } }
  else { d with cfg := { d.cfg with commits := d.cfg.commits ++ [{ fret := d.clk.fret + 1, entry := none }] } }

/-- COMMIT (R196). -/
def execCommit (s : State) : Host.Outcome State Fault Refusal := run requestCommit s

/-- ID_COMMIT.DISCARD (R197). -/
def discardStaged (d : Dev) : Dev :=
  if !powered d .mgmt then d
  else if commitDue d then { d with cfg := { d.cfg with after := [] } }
  else { d with cfg := { d.cfg with staged := d.cfg.force } }

/-- DISCARD (R197). -/
def execDiscard (s : State) : Host.Outcome State Fault Refusal := run discardStaged s

end Sys2Proof.Machine
end

