-- ==== Sys2Proof/Machine/Otp.lean ====
section
/-!
DEFINITION. The OTP and the boot verifier: word states, digest slots, counters, programming, images and the QSPI port (R340–R355).
-/
set_option Elab.async false
namespace Sys2Proof.Machine

/-! ### Sensing and what the shadows say (R342–R345) -/

/-- Words of the array that are not blank at some margin. -/
def otpWritten (d : Dev) : List Nat := ((d.otp.normal.map (fun e => e.1)) ++ (d.otp.tight.map (fun e => e.1))).eraseDups

/-- All 512 words are sensed (R342). -/
def senseAll (d : Dev) : Dev :=
  let sh := (otpWritten d).foldl (fun (m : Sparse Shadow) w => m.set {} w (senseWord (d.otp.normal.get 0 w) (d.otp.tight.get 0 w))) []
  let o := { d.otp with shadow := sh, programmed := [], advRoll := 0, advEpoch := 0 }
  { d with otp := { o with trimDefaulted := (List.range 0x80).any (fun w => !((sh.get {} w).st == .good || (sh.get {} w).st == .corrected)) } }

def otpState (d : Dev) (w : Nat) : OtpState := (shadowOf d w).st

/-- Words of a state (R355). -/
def otpCount (d : Dev) (s : OtpState) : Nat := (d.otp.shadow.filter (fun e => e.2.st == s)).length

/-- BAD words outside COUNTERS, which are not reported (R354). -/
def badWords (d : Dev) : List Nat := (d.otp.shadow.filter (fun e => e.2.st == .bad && !(decide (0x100 ≤ e.1 ∧ e.1 < 0x1C0)))).map (fun e => e.1)

/-- Digest slots (R343). -/
def slotRevoked (d : Dev) (s : Nat) : Bool := otpState d (0xC0 + 9 * s + 8) != .blank
def slotValid (d : Dev) (s : Nat) : Bool := (List.range 8).all (fun i => otpUsable d (0xC0 + 9 * s + i)) && !slotRevoked d s

/-- The digest of a slot, bytes in ascending order (R341). -/
def slotDigest (d : Dev) (s : Nat) : Nat := (List.range 8).foldl (fun a i => a + ((shadowOf d (0xC0 + 9 * s + i)).val.toNat <<< (32 * i))) 0

/-- The secret is valid (R344). -/
def secretValid (d : Dev) : Bool := (List.range 8).all (fun i => otpUsable d (0xE4 + i))

/-- The secret as the core's key register receives it (R344). -/
def secretKey (d : Dev) : BitVec 256 :=
  if secretValid d then BitVec.ofNat 256 ((List.range 8).foldl (fun a i => a + ((Config.descramble i (shadowOf d (0xE4 + i)).val).toNat <<< (32 * i))) 0) else 0

/-- The value of a counter: 1 plus the index of its highest word that is not blank (R345). -/
def counterOf (d : Dev) (lo n : Nat) : Nat := (List.range n).foldl (fun a i => if otpState d (lo + i) == .blank then a else i + 1) 0
def rollbackValue (d : Dev) : Nat := counterOf d 0x100 128
def epochValue (d : Dev) : Nat := counterOf d 0x180 64

/-- A counted word is MARGINAL (R345). -/
def counterMarginal (d : Dev) (lo n : Nat) : Bool := (List.range (counterOf d lo n)).any (fun i => otpState d (lo + i) == .marginal)

/-! ### Service and commands (R347, R348) -/

/-- A write of OTP_SERVICE (R347): the two keys as consecutive writes, in CONFIG with the input present; any other write clears ENABLE. -/
def writeService (d : Dev) (key : Nat) : Dev :=
  if !powered d .mgmt then d
  else
    let ok := d.mm.mode == .config && d.mm.inputPresent
    { d with otp := { d.otp with keyOne := ok && key == 0x5A3C, enable := ok && key == 0xC3A5 && d.otp.keyOne } }

/-- OTP_SERVICE_KEY (R347). -/
def execOtpServiceKey (key : BitVec 16) (s : State) : Host.Outcome State Fault Refusal := run (fun d => writeService d key.toNat) s

/-- OTP_ADDRESS.WORD and OTP_DATA (R355). -/
def otpWord (d : Dev) : Nat := rwF d 0x6818 0 9
def otpData (d : Dev) : Word := rwOf d 0x681C

/-- A command is refused: nothing is programmed (R348). -/
def otpRefuse (d : Dev) (reason : Nat) : Dev := { d with otp := { d.otp with result := 2, reason := reason } }

/-- Programming of a word, and of those behind it, starts (R347). -/
def otpStart (d : Dev) (c : OtpCmd) : Dev := { d with otp := { d.otp with cmd := some { c with since := d.clk.tick }, stopAfter := false, result := 0, reason := 0 } }

/-- A command that programs one word: NOT_BLANK, else it starts (R348). -/
def otpOne (d : Dev) (op w : Nat) (v : Word) : Dev :=
  if otpState d w != .blank || d.otp.programmed.contains w then otpRefuse d 4 else otpStart d { op := op, word := w, data := v }

/-- An advance from a present value to a target (R346). -/
def otpAdvance (d : Dev) (op area now target : Nat) : Dev :=
  if target ≤ now then { d with otp := { d.otp with result := 1, reason := 0 } }
  else otpStart d { op := op, word := area + now, rest := target - now - 1, data := 0xFFFFFFFF }

/-- The words that PROGRAM may write (R341, R348). -/
def programmable (w : Nat) : Bool :=
  decide (0x80 ≤ w ∧ w < 0xC0) || (decide (0xC0 ≤ w ∧ w < 0xE4) && decide ((w - 0xC0) % 9 ≠ 8)) || decide (0x1C0 ≤ w ∧ w < 0x200)

/-- What each OP does once ENABLE and CONFIRM pass (R346, R348). -/
def otpOperate (d : Dev) (op : Nat) : Dev :=
  let w := otpWord d
  match op with
  | 1 => if programmable w then otpOne d 1 w (otpData d) else otpRefuse d 3
  | 2 => if 0xE4 ≤ w ∧ w < 0xEC then otpOne d 2 w (Config.scramble (w - 0xE4) (otpData d)) else otpRefuse d 3
  | 3 => if !d.mm.fwValid then otpRefuse d 6 else otpAdvance d 3 0x100 (rollbackValue d + d.otp.advRoll) d.otp.bootRollback
  | 4 => let n := epochValue d + d.otp.advEpoch; if 64 ≤ n then otpRefuse d 5 else otpAdvance d 4 0x180 n (n + 1)
  | 5 => if 3 < w then otpRefuse d 3 else otpOne d 5 (0xC0 + 9 * w + 8) 0xFFFFFFFF
  | _ => otpRefuse d 3

/-- A write of OTP_COMMAND (R348). -/
def otpCommand (d : Dev) (op confirm : Nat) : Dev :=
  if !powered d .mgmt then d
  else if d.otp.cmd.isSome then { d with otp := { d.otp with ignored := true } }
  else if !d.otp.enable || !d.mm.inputPresent then otpRefuse d 1
  else if confirm ≠ otpWord d then otpRefuse d 2
  else otpOperate d op

/-- PROGRAM (R347). -/
def execProgram (confirm : Nat) (s : State) : Host.Outcome State Fault Refusal := run (fun d => otpCommand d 1 confirm) s
/-- PROGRAM_SECRET (R348). -/
def execProgramSecret (confirm : Nat) (s : State) : Host.Outcome State Fault Refusal := run (fun d => otpCommand d 2 confirm) s
/-- ADVANCE_ROLLBACK (R346). -/
def execAdvanceRollback (confirm : Nat) (s : State) : Host.Outcome State Fault Refusal := run (fun d => otpCommand d 3 confirm) s
/-- ADVANCE_EPOCH (R346). -/
def execAdvanceEpoch (confirm : Nat) (s : State) : Host.Outcome State Fault Refusal := run (fun d => otpCommand d 4 confirm) s
/-- REVOKE (R348). -/
def execRevoke (confirm : Nat) (s : State) : Host.Outcome State Fault Refusal := run (fun d => otpCommand d 5 confirm) s

/-- The record of an advance that has ended (R354). -/
def advanceRecord (d : Dev) (op : Nat) : Dev :=
  if op = 3 then recordN d 0x5005 srcOtp [] else if op = 4 then recordN d 0x5006 srcOtp [] else d

/-- A word is programmed, which takes 50 µs, and read back at tight margin; bits only change from 0 to 1 (R340, R347, R353). `normal` and `tight`
are what the array then senses. With MGMT unpowered OTP_RESULT keeps its reset value. -/
def programDone (d : Dev) (normal tight : BitVec 39) : Dev :=
  match d.otp.cmd with
  | none => d
  | some c =>
    if d.clk.tick < c.since + 50 then d else
    let want := otpBits c.data
    let n := d.otp.normal.get 0 c.word ||| (normal &&& want)
    let t := d.otp.tight.get 0 c.word ||| (tight &&& want)
    let ok := t == want
    let on := powered d .mgmt
    let d := { d with otp := { d.otp with normal := d.otp.normal.set 0 c.word n, tight := d.otp.tight.set 0 c.word t, programmed := c.word :: d.otp.programmed.filter (· != c.word), word := if on then c.word else d.otp.word, advRoll := d.otp.advRoll + b2n (c.op == 3), advEpoch := d.otp.advEpoch + b2n (c.op == 4) } }
    let d := recordN d 0x5004 srcOtp [c.word, c.op, if ok then 1 else 3]
    let finish := fun (d : Dev) (r : Nat) => { d with otp := { d.otp with cmd := none, stopAfter := false, result := if on then r else 0, reason := 0 } }
    if !ok then finish d 3
    else if c.rest = 0 then finish (advanceRecord d c.op) 1
    else if d.otp.stopAfter then finish d 4
    else { d with otp := { d.otp with cmd := some { c with word := c.word + 1, rest := c.rest - 1, since := d.clk.tick } } }

/-- OTP_PROGRAM_DONE (R347). -/
def execOtpProgramDone (normal tight : BitVec 39) (s : State) : Host.Outcome State Fault Refusal := run (fun d => programDone d normal tight) s

/-! ### Verification (R350, R351) -/

/-- The first valid slot whose digest is the image's, tried from 0 to 3 (R351). -/
def keySlot (d : Dev) (f : ImageFacts) : Option Nat := (List.range 4).find? (fun s => slotValid d s && slotDigest d s == f.digest.toNat)

/-- The first check that an image fails, by its reject reason; none when it passes (R351). -/
def rejectReason (d : Dev) (f : ImageFacts) (second : Bool) (flashBytes : Nat) : Option Nat :=
  let start := if second then altOffset d else 0
  let stop := start + 512 + f.length
  if !f.readable then some 7
  else if f.magic ≠ 0x57464D51 then some 1
  else if f.length = 0 ∨ 0x3FFE00 < f.length ∨ flashBytes < stop ∨ (!second ∧ altOffset d < stop) then some 2
  else if !f.reservedZero ∨ 128 < f.rollback then some 3
  else if (keySlot d f).isNone then some 4
  else if f.rollback < rollbackValue d then some 6
  else if !f.signed then some 5
  else none

/-- The core is released with its key (R344, R351). -/
def releaseCore (d : Dev) (f : ImageFacts) (second : Bool) : Dev :=
  let slot := (keySlot d f).getD 0
  let d := recordN d 0x5002 srcOtp [b2n second, slot, f.version.toNat, f.rollback]
  { d with mm := { d.mm with fwValid := true }, pwr := { d.pwr with keyReg := secretKey d, coreHalted := false }, otp := { d.otp with bootImage := b2n second, bootSlot := slot, bootRollback := f.rollback, bootVersion := f.version } }

/-- An image is rejected (R351, R355). -/
def rejectImage (d : Dev) (second : Bool) (r : Nat) : Dev :=
  recordN { d with otp := { d.otp with rejectA := if second then d.otp.rejectA else r, rejectB := if second then r else d.otp.rejectB } } 0x5003 srcOtp [b2n second, r]

/-- Boot verification: image A, then image B (R351, R48). -/
def verifyImages (d : Dev) (a b : ImageFacts) (flashBytes : Nat) : Dev :=
  match rejectReason d a false flashBytes with
  | none => releaseCore d a false
  | some ra =>
    let d := rejectImage d false ra
    match rejectReason d b true flashBytes with
    | none => releaseCore d b true
    | some rb => detect (rejectImage d true rb) 0x1703 1 rb 2   -- image B and its reason, for two images (log 64)

/-- FW_VERIFY_DONE: the next domain closes (R243). -/
def verifyDone (d : Dev) (a b : ImageFacts) (flashBytes : Nat) : Dev :=
  match d.seq.run with
  | some r => if r.phase == .verify then closeStage (verifyImages d a b flashBytes) r 1 else d
  | none => d

/-- FW_VERIFY_DONE (R351). -/
def execFwVerifyDone (a b : ImageFacts) (flashBytes : Nat) (s : State) : Host.Outcome State Fault Refusal :=
  run (fun d => verifyDone d a b flashBytes) s

/-! ### The QSPI port (R352) -/

/-- The port is open to host software (R352). -/
def flashOpen (d : Dev) : Bool := !d.mm.fwValid || (d.mm.mode == .config && d.otp.enable)

/-- The bytes of the buffer that a write sends (R355). -/
def flashData (d : Dev) (n : Nat) : List Nat := (d.otp.buffer.flatMap (fun (w : Word) => leBytes 4 w.toNat)).take n

/-- A write of OTP_FLASH_COMMAND: its fields are plain, GO issues what they then hold; a GO while a command is under way does nothing, and
a LENGTH above 256 counts as 256 (R352, R355, log 64). -/
def writeFlash (d : Dev) (v : Word) : Dev :=
  if !powered d .mgmt then d
  else
    let d := setRw d 0x6840 (v &&& w32 0x7FFFF)
    if !bit v 19 || d.otp.flashBusy then d
    else if flashOpen d then
      emit { d with otp := { d.otp with flashBusy := true, flashCmd := v &&& w32 0x7FFFF } } (.flash (fld v 0 8) (if bit v 8 then some (rwOf d 0x6844).toNat else none) (min 256 (fld v 9 9)) (bit v 18) (if bit v 18 then flashData d (min 256 (fld v 9 9)) else []))
    else { d with otp := { d.otp with flashDenied := true } }

/-- FLASH_GO (R352). -/
def execFlashGo (v : Word) (s : State) : Host.Outcome State Fault Refusal := run (fun d => writeFlash d (v ||| w32 (1 <<< 19))) s

/-- The command completes: a read fills the buffer's first LENGTH bytes (R352, R355). -/
def flashDone (d : Dev) (data : List Word) : Dev :=
  if !d.otp.flashBusy then d
  else
    let len := min 256 (fld d.otp.flashCmd 9 9)
    let read := !bit d.otp.flashCmd 18
    let buf := if read then d.otp.buffer.zipIdx.map (fun q => merge q.1 (data.getD q.2 0) (maskAt 0 (8 * min 4 (len - 4 * q.2)))) else d.otp.buffer
    { d with otp := { d.otp with flashBusy := false, buffer := buf } }

/-- FLASH_COMMAND_DONE (R352). -/
def execFlashCommandDone (data : List Word) (s : State) : Host.Outcome State Fault Refusal := run (fun d => flashDone d data) s

end Sys2Proof.Machine
end

