-- ==== Sys2Proof/Machine/Snapshot.lean ====
section
/-!
DEFINITION. The start of a replay: its conditions and what a snapshot loads (R367, R372, R373).
-/
set_option Elab.async false
namespace Sys2Proof.Machine

/-- A snapshot's identity is this device's (R372). -/
def snapMatches (d : Dev) (version epoch stepping : Nat) : Bool :=
  decide (version = d.otp.bootVersion.toNat) && decide (epoch = epochValue d) && decide (stepping = 0x10 + ((Config.powerDieStepping % 256) <<< 8))

/-- A replay can start from what the input ring holds (R372). -/
def replayOk (d : Dev) (rs : List RepRec) : Bool :=
  decide (rwF d 0x7210 0 6 ≠ 0) && decide (rwF d 0x7210 8 6 ≠ 0)
  && (match rs.head? with
    | some (.snapshot v e s _ _) => decide (rwF d 0x7210 16 1 = 1) || snapMatches d v e s
    | _ => false)

/-- The state that a snapshot loads: the values in force, both banks, the journal, the string, phase and link units, the mode
machine, the bank model and the charger, with the supplies and the run they stand in (R367, log 11). -/
def loadSnapshot (d : Dev) : Dev :=
  { clk := d.clk, pins := d.pins, mm := d.mm, pwr := d.pwr, cfg := { force := d.cfg.force, staged := d.cfg.force, rw := d.cfg.rw }, jr := { d.jr with tails := List.replicate 32 {}, due := [] }, fb := d.fb, str := d.str, ph := d.ph, lk := d.lk, seq := d.seq, chg := d.chg, otp := d.otp, fretOut := d.fretOut.filter (fun q => decide (d.clk.tick ≤ q.1)) }

/-- The replay's own device, from the record at position 0 of the input ring. -/
def replayDev (rs : List RepRec) : Option Dev :=
  match rs.head? with
  | some (.snapshot _ _ _ _ d) => some (loadSnapshot d)
  | _ => none

/-- REPLAY begins: its counts, MISMATCH and its record (R365, R372, R377). -/
def startReplay (d : Dev) (rs : List RepRec) : Dev :=
  match rs.head? with
  | some (.snapshot v e s n _) =>
    let miss := !snapMatches d v e s
    let d := { d with cap := { d.cap with rst := .running, mismatch := miss, diverged := false, divFret := 0, replayed := 0, repAt := none, inConsumer := capSize (.snapshot n) } }
    statusLine (recordN d 0x4020 srcCapture [b2n miss])
  | _ => d

end Sys2Proof.Machine
end

