-- ==== Sys2Proof/Machine/Descriptors.lean ====
section
/-!
DEFINITION. How a descriptor executes, and the work of every opcode but the re-plan's (R81–R104, R110, R111, R123).
-/
set_option Elab.async false
namespace Sys2Proof.Machine

/-! ### Execution (R82, R83, R108, R109) -/

/-- The intent record is written, then the checks of R83: the first that fails completes the descriptor, else its work begins. -/
def beginDesc (d : Dev) (x : Entry) (work : Dev → Entry → Dev) : Dev :=
  let d := updEntry d x.idx (fun y => { y with st := .intent, intent := true, deferred := false })
  match checkDesc d x with
  | some (st, detail) => finishNow d x.idx st detail
  | none => work d x

/-- Execute a descriptor of a class: it must be due, first in its ring, and neither the engine nor a run may hold it (R82, R83, R141, R420). -/
def execDesc (d : Dev) (e : Nat) (c : Class) (work : Dev → Entry → Dev) : Dev :=
  match entryOf d e with
  | none => d
  | some x =>
    if !ready d x || classOf x.image != c || x.latched || x.deferred then d
    else if onEngine x && engineBusy d x then d
    else if waitsRun d x then updEntry d e (fun y => { y with deferred := true })
    else beginDesc d x work

/-- The work of a descriptor is done at once, with OK. -/
def done (d : Dev) (x : Entry) (detail : Nat) : Dev := finishNow d x.idx .ok detail

/-- NOP (R99). -/
def workNop (d : Dev) (x : Entry) : Dev := done d x 0

/-- NOP (R99). -/
def execNop (e : Nat) (s : State) : Host.Outcome State Fault Refusal := run (fun d => execDesc d e .nop workNop) s

/-! ### RESERVE (R86, R141–R148, R160) -/

/-- Timed work is scheduled until its end fret (R110). -/
def schedule (d : Dev) (x : Entry) (stop : Nat) : Dev := updEntry d x.idx (fun y => { y with st := .scheduled, commit := true, endFret := stop })

/-- The first fret in which a plan may stand (R147). -/
def planFrom (d : Dev) (x : Entry) : Nat := max (x.accFret + 8) (match d.fb.published with | some f => f + 1 | none => 0)

/-- The cells that a plan adds are remembered (R148). -/
def keepPlan (d : Dev) (plan : List (Nat × Nat)) : Dev :=
  let lo := (shadowReady d).getD 0
  { d with fb := { d.fb with planLive := addPlanCells d.fb.planLive 0 plan, planShadow := addPlanCells d.fb.planShadow lo plan, precharge := sat (2 ^ 32 - 1) (d.fb.precharge + b2n (!plan.isEmpty)) } }

/-- A RESERVE is rejected: nothing changes (R144). -/
def rejectReserve (d : Dev) (x : Entry) (f : Nat) (t : Test) : Dev :=
  finishNow { d with fb := { d.fb with rejected := sat (2 ^ 32 - 1) (d.fb.rejected + 1) } } x.idx t.status f

/-- A RESERVE is admitted: cells, plan, list of reservations, ADMISSION (R144, R148, R160). -/
def admitReserve (d : Dev) (x : Entry) (r : ResvBody) (room : Nat) (plan : List (Nat × Nat)) (ts : List Tested) : Dev :=
  let d := keepPlan (writeTested d ts) plan
  let q : Resv := { entry := x.idx, ring := x.ring, string := r.string, tag := r.tag, start := r.start, stop := r.stop, pStart := r.pStart, segs := r.segs, rideSafe := r.rideSafe, shadowFrom := (shadowReady d).getD 0 }
  let d := { d with fb := { d.fb with resv := d.fb.resv ++ [q], admitted := sat (2 ^ 32 - 1) (d.fb.admitted + 1) } }
  admission (schedule (mirror d) x r.stop) x.idx .ok d.clk.fret room (!plan.isEmpty) false

/-- RESERVE: admission against the live bank and any ready shadow (R143–R148, R160). -/
def workReserve (d : Dev) (x : Entry) : Dev :=
  let r := reserveOf x
  match tryAdmit d (modelOf d) r.string r.tag r.start r.stop (planFrom d x) (expand r.start r.pStart r.segs) (scratches d) with
  | .fail f t => rejectReserve d x f t
  | .ok room plan ts => admitReserve d x r room plan ts

/-- RESERVE (R143). -/
def execReserve (e : Nat) (s : State) : Host.Outcome State Fault Refusal := run (fun d => execDesc d e .reserve workReserve) s

/-! ### Start of a REPLAN and a missed decision point (R156, R159) -/

/-- A decision point has passed without a ready shadow (R159): RETRY, or LATE_REPLAN with the shadow discarded. -/
def missReplan (d : Dev) (p : Replan) : Dev :=
  let d := setFbEvent d 3
  if p.retry ≠ 0 ∧ (d.clk.fret + 2 < p.retry ∨ (d.clk.fret + 2 = p.retry ∧ d.clk.tickInFret = 0)) then
    let rs := (d.fb.resv.filter (fun r => r.entry != p.entry)).map (fun r => { r with inShadow := true })
    { d with fb := { d.fb with resv := rs, replan := some { p with st := 4, ready := false, switch := p.retry, retry := 0, retrying := true, removed := [], nAdded := 0, precharge := 0 } } }
  else finishNow (discardShadow d) p.entry .lateReplan 0

/-- REPLAN starts; a decision point already behind it is missed at once (R156, R158, R159). -/
def workReplan (d : Dev) (x : Entry) : Dev :=
  let p : Replan := { entry := x.idx, switch := rpSwitch x.image, retry := rpRetry x.image }
  let d := { d with fb := { d.fb with replan := some p } }
  if p.switch < d.clk.fret + 2 ∨ (p.switch = d.clk.fret + 2 ∧ d.clk.tickInFret ≠ 0) then missReplan d p else d

/-- REPLAN (R156). -/
def execReplan (e : Nat) (s : State) : Host.Outcome State Fault Refusal := run (fun d => execDesc d e .replan workReplan) s

/-! ### PROFILE and SETPOINT (R89, R90, R177, R178) -/

/-- A run from ARMED to CONFIG is under way: no PROFILE or SETPOINT takes effect in it (R55). -/
def disarming (d : Dev) : Bool := match d.seq.run with | some r => r.kind == .disarm | none => false

/-- PROFILE is scheduled (R89), or refused in a run from ARMED to CONFIG (R55). -/
def workProfile (d : Dev) (x : Entry) : Dev :=
  if disarming d then finish d x.idx .modeRefused (prStart x.image) 0 else schedule d x (prLast x.image + 1)

/-- PROFILE (R89). -/
def execProfile (e : Nat) (s : State) : Host.Outcome State Fault Refusal := run (fun d => execDesc d e .profile workProfile) s

/-- SETPOINT is scheduled (R90), or refused in a run from ARMED to CONFIG (R55). -/
def workSetpoint (d : Dev) (x : Entry) : Dev :=
  if disarming d then finish d x.idx .modeRefused (spFret x.image) 0 else schedule d x (spFret x.image + 1)

/-- SETPOINT (R90). -/
def execSetpoint (e : Nat) (s : State) : Host.Outcome State Fault Refusal := run (fun d => execDesc d e .setpoint workSetpoint) s

/-- Scheduled SETPOINTs on a string whose fret has come. -/
def dueSetpoints (d : Dev) (k : Nat) : List Entry :=
  (entries d).filter (fun x => x.st == .scheduled && !x.restored && classOf x.image == .setpoint && spString x.image == k && decide (spFret x.image ≤ d.clk.fret))

/-- A PROFILE runs on its string (R89). -/
def running (d : Dev) (k e : Nat) : Bool := match (strU d k).prof with | some p => p.entry == e | none => false

/-- Scheduled PROFILEs on a string whose start fret has come and that do not run yet. -/
def duePro (d : Dev) (k : Nat) : List Entry :=
  (entries d).filter (fun x => x.st == .scheduled && !x.restored && classOf x.image == .profile && prString x.image == k && decide (prStart x.image ≤ d.clk.fret) && !running d k x.idx)

/-- The index of the first point of a PROFILE that has not been applied before a fret. -/
def firstOpen (p : Prof) (f : Nat) : Nat := (p.points.findIdx? (fun q => decide (f ≤ p.start + q.1))).getD 0xFF

/-- A running PROFILE is superseded at this fret: PARTIAL (R89, R104). -/
def supersede (d : Dev) (k : Nat) : Dev :=
  match (strU d k).prof with
  | none => d
  | some p =>
    let lim := match entryOf d p.entry with | some x => x.limited | none => none
    finishNow (updStr d k (fun u => { u with prof := none })) p.entry .partialDone (lim.getD (firstOpen p d.clk.fret))

/-- A PROFILE begins on its string (R89). -/
def startProfile (d : Dev) (k : Nat) (x : Entry) : Dev :=
  updStr (supersede d k) k (fun u => { u with prof := some { entry := x.idx, start := prStart x.image, points := prPoints x.image } })

/-- A string's target, in force now: V_CMD and the V_TARGET of the fret's allotment (R149, R177). -/
def setTarget (d : Dev) (k v : Nat) : Dev := updStr d k (fun u => { u with vCmd := v, allot := { u.allot with vTarget := v } })

/-- One fret of a running PROFILE: the limited test of a point that falls due, V_CMD, the end at the last point (R89, R178). -/
def stepProfile (d : Dev) (k : Nat) (p : Prof) : Dev :=
  let f := d.clk.fret
  let u := strU d k
  let lag := u.st.enabled && u.vRamp != 1000 * u.vCmd
  let j := p.points.findIdx? (fun q => decide (p.start + q.1 = f))
  let d := match j with
    | some j => if lag && j != 0 then updEntry d p.entry (fun x => { x with limited := some (x.limited.getD j) }) else d
    | none => d
  let d := updStr (setTarget d k (profVolts p.start f p.points)) k (fun u => { u with prof := some { p with done := f + 1 } })
  let last := match p.points.getLast? with | some q => p.start + q.1 | none => p.start
  if f < last then d
  else
    let lim := match entryOf d p.entry with | some x => x.limited | none => none
    finishNow (updStr d k (fun u => { u with prof := none })) p.entry (if lim.isSome then .partialDone else .ok) (lim.getD 0xFF)

/-- PROFILE_POINT at tick 0: PROFILEs begin in journal order, then the running one takes its fret's voltage; a due SETPOINT that
stands before a PROFILE, or a SETPOINT of a voltage, comes first (R89, R90, R178). -/
def profilePoint (d : Dev) (k : Nat) : Dev :=
  if !powered d .sched || d.pwr.ctlLost || d.clk.tickInFret != 0 then d
  else
    let sps := dueSetpoints d k
    let d := (duePro d k).foldl (fun d x => if sps.any (fun y => (before d x.idx).any (fun z => z.idx == y.idx)) then d else startProfile d k x) d
    match (strU d k).prof with
    | none => d
    | some p => if p.done = d.clk.fret + 1 ∨ sps.any (fun y => decide (spSel y.image % 2 = 1)) then d else stepProfile d k p

/-- PROFILE_POINT (R178). -/
def execProfilePoint (k : Nat) (s : State) : Host.Outcome State Fault Refusal := run (fun d => profilePoint d k) s

/-- The selected values of a SETPOINT take effect (R90, R178). -/
def applySetpoint (d : Dev) (x : Entry) : Dev :=
  let i := x.image
  let k := spString i
  let d := if spSel i % 2 = 1 then setTarget (supersede d k) k (spVolts i) else d
  let d := if spSel i / 2 % 2 = 1 then setIdle d k (some x.idx) (spIdle i) else d
  if spSel i / 4 = 1 then setSlew d k (some x.idx) (spSlew i) else d

/-- SETPOINT_EFFECT at tick 0 of its fret, in journal order with the other SETPOINTs and PROFILEs of its string (R90). -/
def setpointEffect (d : Dev) (e : Nat) : Dev :=
  match entryOf d e with
  | none => d
  | some x =>
    let k := spString x.image
    if x.st != .scheduled || x.restored || classOf x.image != .setpoint || decide (d.clk.fret < spFret x.image) || d.clk.tickInFret != 0 || d.pwr.ctlLost then d
    else if (before d e).any (fun y => (dueSetpoints d k).any (fun z => z.idx == y.idx) || (duePro d k).any (fun z => z.idx == y.idx)) then d
    else done (applySetpoint d x) x 0

/-- SETPOINT_EFFECT (R90). -/
def execSetpointEffect (e : Nat) (s : State) : Host.Outcome State Fault Refusal := run (fun d => setpointEffect d e) s

/-! ### MODE (R39–R42, R48–R56, R91, R372, R420) -/

/-- The target of an ordinary MODE request needs a power-up (R52). -/
def onTarget (m : Mode) : Bool := m == .config || m == .armed || m == .run || m == .hold || m == .replay

/-- A power-down that an ON request waits for (R52): SHUTDOWN, or a run of string down steps. -/
def powerDown (d : Dev) : Bool :=
  d.mm.mode == .shutdown || (poweringDown d && (match d.seq.run with | some r => r.phase != .unwind | none => false))

/-- A due MODE request is an ON request of the power-down under way (R52); what R83 refuses before the mode is none. -/
def isOn (d : Dev) (x : Entry) : Bool :=
  powerDown d && x.fixed.isNone && x.st == .accepted && opcodeOf x.image == 5
  && (match Mode.ofCode (modeTarget x.image) with | some m => onTarget m | none => false)
  && (firstBad [checkFlags x.image, checkLength x.image, checkReserved x.image]).isNone && d.mm.fwValid

/-- One ON request is latched; a later one is refused when its turn comes (R52). -/
def latchOn (d : Dev) (x : Entry) : Dev :=
  if x.latched || x.refuse then d
  else if d.mm.latched.isSome then updEntry d x.idx (fun y => { y with refuse := true })
  else if ready d x then updEntry { d with mm := { d.mm with latched := some (.entry x.idx), onLatched := true } } x.idx (fun y => { y with latched := true, deferred := true })
  else d

/-- The request is permitted now; REPLAY also needs its rings and a snapshot (R39, R372). -/
def judge (rs : List RepRec) (d : Dev) (m : Mode) : Bool := permitted d m && (m != .replay || replayOk d rs)

/-- MODE: urgent at once, an ordinary one at the next fret boundary (R40–R42, R59). -/
def workMode (rs : List RepRec) (d : Dev) (x : Entry) : Dev :=
  let c := requestCause x
  match Mode.ofCode (modeTarget x.image) with
  | none => d
  | some .shutdown => requestDown d false c.1 c.2 (some x.idx)
  | some .off => requestDown d true c.1 c.2 (some x.idx)
  | some .safe => requestSafe d c.1 c.2 x.idx
  | some m =>
    if x.refuse then finishNow d x.idx .modeRefused 0
    else if m = d.mm.mode then finishNow d x.idx .ok (modeDetail m m)
    else if judge rs d m then { d with mm := { d.mm with pend := some { entry := x.idx, target := m, atFret := boundary d } } }
    else finishNow d x.idx .modeRefused 0

/-- A MODE descriptor is due: an ON request of a power-down is latched, and stays (R52); any other executes. -/
def modeRow (rs : List RepRec) (d : Dev) (e : Nat) : Dev :=
  let d := match entryOf d e with
    | some x => if decide (x.accTick + 4 ≤ d.clk.tick) && isOn d x then latchOn d x else d
    | none => d
  execDesc d e .mode (workMode rs)

/-- MODE (R91). -/
def execMode (e : Nat) (s : State) : Host.Outcome State Fault Refusal := run (fun d => modeRow s.repIn d e) s

/-- The master can arm its system (R255): every peer within COUNT is UP and the shares add up to 1000 at most. -/
def sharesOk (d : Dev) : Bool :=
  (systemPeers d).all (fun j => (peerU d j).st == 2)
  && decide (rsF d 0x38C0 0 10 + ((systemPeers d).map (fun j => (peerU d j).block.share)).sum ≤ 1000)

/-- ARMED to CONFIG begins (R55): running PROFILEs stop, later PROFILEs and SETPOINTs are refused. -/
def stopProfiles (d : Dev) : Dev :=
  (entries d).foldl (fun d x =>
    if x.st != .scheduled then d
    else match classOf x.image with
      | .profile =>
        if running d (prString x.image) x.idx then supersede d (prString x.image) else finish d x.idx .modeRefused (prStart x.image) 0
      | .setpoint => finish d x.idx .modeRefused (spFret x.image) 0
      | _ => d) d

/-- A host transition takes effect at its boundary (R41, R243, R255, R372). -/
def takeMode (rs : List RepRec) (d : Dev) (x : Entry) (m : Mode) : Dev :=
  let frm := d.mm.mode
  let c := requestCause x
  if !judge rs d m then finishNow d x.idx .modeRefused 0
  else if frm == .config && m == .armed then
    (if sysMaster d && !sharesOk d then finishNow (seqRecord d 0x3021 0 0) x.idx .modeRefused 0
     else newRun { d with mm := { d.mm with target := .armed } } .arm 2 0 15 (some x.idx))
  else if frm == .armed && m == .config then newRun (stopProfiles { d with mm := { d.mm with target := .config } }) .disarm 3 0 15 (some x.idx)
  else
    let d := enterMode d m c.1 c.2
    let d := if frm == .ride then { d with fb := { d.fb with pinCur := 0 } } else d
    let d := if m == .replay then startReplay d rs else if m == .config then restoreEntries d else d
    finishNow d x.idx .ok (modeDetail frm m)

/-- MODE_TAKES_EFFECT at tick 0 (R41); the HOLD of a watchdog expiry follows at the same boundary (R58). -/
def modeEffect (rs : List RepRec) (d : Dev) : Dev :=
  match d.mm.pend with
  | none => d
  | some p =>
    if decide (d.clk.fret < p.atFret) || d.clk.tickInFret != 0 || d.pwr.ctlLost then d
    else
      let d := { d with mm := { d.mm with pend := none } }
      match entryOf d p.entry with
      | none => d
      | some x => holdDue (takeMode rs d x p.target)

/-- MODE_TAKES_EFFECT (R41): REPLAY loads the snapshot that the input ring holds (R373). -/
def execModeTakesEffect (s : State) : Host.Outcome State Fault Refusal :=
  let d := modeEffect s.repIn s.dev
  let t := withDev s (settle d)
  .next (if s.dev.mm.mode != .replay && d.mm.mode == .replay then { t with rep := replayDev s.repIn, repIn := s.repIn.drop 1 } else t)

/-! ### SEQUENCE, CONFIG_COMMIT (R92, R93, R245) -/

/-- SEQUENCE runs its steps (R245). -/
def workSequence (d : Dev) (x : Entry) : Dev :=
  newRun d (if sqDown x.image then .seqDown else .seqUp) (if sqDown x.image then 3 else 2) (sqFirst x.image) (sqLast x.image) (some x.idx)

/-- SEQUENCE (R245). -/
def execSequence (e : Nat) (s : State) : Host.Outcome State Fault Refusal := run (fun d => execDesc d e .sequence workSequence) s

/-- CONFIG_COMMIT: the next boundary, or its fret as timed work (R93, R110). -/
def workCommit (d : Dev) (x : Entry) : Dev :=
  let f := coFret x.image
  if f = 0 then { d with cfg := { d.cfg with commits := d.cfg.commits ++ [{ fret := boundary d, entry := some x.idx }] } }
  else schedule { d with cfg := { d.cfg with commits := d.cfg.commits ++ [{ fret := f, entry := some x.idx }] } } x (f + 1)

/-- CONFIG_COMMIT (R93). -/
def execConfigCommit (e : Nat) (s : State) : Host.Outcome State Fault Refusal := run (fun d => execDesc d e .commit workCommit) s

/-! ### CHARGER (R94, R134, R267–R269, R280) -/

/-- STOP (R270, R280). -/
def workStop (d : Dev) (x : Entry) : Dev :=
  let stays := d.chg.st == .timeout || d.chg.st == .absent || d.chg.st == .search
  done (if stays then d else setCharger d .stopped) x 0

/-- CHARGER_STOP (R280). -/
def execChargerStop (e : Nat) (s : State) : Host.Outcome State Fault Refusal := run (fun d => execDesc d e .chgStop workStop) s

/-- CHARGE (R280). -/
def workCharge (d : Dev) (x : Entry) : Dev :=
  let d := { d with chg := { d.chg with limit := chValue x.image } }
  let rest := d.chg.st == .stopped || d.chg.st == .done
  let none' := d.chg.st == .timeout || d.chg.st == .absent || d.chg.st == .disabled || (rest && d.chg.timedOut)
  finishNow (if rest then enterQualify d else d) x.idx (if none' then .partialDone else .ok) 0

/-- CHARGER_CHARGE (R280). -/
def execChargerCharge (e : Nat) (s : State) : Host.Outcome State Fault Refusal := run (fun d => execDesc d e .chgCharge workCharge) s

/-- SEARCH: with no shunt it does not run; a running one is joined (R267–R269). -/
def workSearch (d : Dev) (x : Entry) : Dev :=
  if rsF d 0x4028 0 16 = 0 then finishNow (recomputePin d) x.idx .partialDone (d.chg.iFound % 65536 + ((recomputePin d).fb.pin <<< 16))
  else match d.chg.search with
    | some q => commitEntry { d with chg := { d.chg with search := some { q with entries := q.entries ++ [x.idx] } } } x.idx
    | none => commitEntry (setCharger { d with chg := { d.chg with search := some { start := d.clk.tick, entries := [x.idx], back := d.chg.st } } } .search) x.idx

/-- CHARGER_SEARCH (R267). -/
def execChargerSearch (e : Nat) (s : State) : Host.Outcome State Fault Refusal := run (fun d => execDesc d e .chgSearch workSearch) s

/-- RIDE_LEVEL (R280). -/
def workRideLevel (d : Dev) (x : Entry) : Dev := done { d with chg := { d.chg with rideNext := some (chValue x.image) } } x 0

/-- CHARGER_RIDE_LEVEL (R280). -/
def execChargerRideLevel (e : Nat) (s : State) : Host.Outcome State Fault Refusal := run (fun d => execDesc d e .chgRide workRideLevel) s

/-- CLEAR_TIMEOUT (R280). -/
def workClearTimeout (d : Dev) (x : Entry) : Dev :=
  let d := { d with chg := { d.chg with timedOut := false } }
  done (if d.chg.st == .timeout then setCharger d .stopped else d) x 0

/-- CHARGER_CLEAR_TIMEOUT (R280). -/
def execChargerClearTimeout (e : Nat) (s : State) : Host.Outcome State Fault Refusal := run (fun d => execDesc d e .chgClear workClearTimeout) s

/-- INPUT_LIMIT (R134, R94): 0 restores the search result, a greater one is clamped to it. -/
def workInputLimit (d : Dev) (x : Entry) : Dev :=
  let v := chValue x.image
  let top := min 65535 (searchBased d)
  let d := recomputePin { d with fb := { d.fb with hostLimit := if v = 0 then none else some (min v top) } }
  finishNow d x.idx (if top < v then .partialDone else .ok) d.fb.pin

/-- CHARGER_INPUT_LIMIT (R134). -/
def execChargerInputLimit (e : Nat) (s : State) : Host.Outcome State Fault Refusal := run (fun d => execDesc d e .chgLimit workInputLimit) s

/-! ### FENCE (R95) -/

/-- Rings that a FENCE waits on (R95). -/
def fenceRings (x : Entry) (n : Nat) : Bool := if lengthOf x.image = 0 then n == x.ring else decide (n < 32) && Nat.testBit (feMask x.image) n

/-- Every descriptor that a FENCE waits on has its FINAL entry in the journal (R95). -/
def fenceOpen (d : Dev) (x : Entry) : Bool := (before d x.idx).all (fun y => !fenceRings x y.ring || y.st == .done)

/-- FENCE: it waits in INTENT (R95). -/
def workFence (d : Dev) (x : Entry) : Dev := if fenceOpen d x then done d x 0 else d

/-- FENCE (R95). -/
def execFence (e : Nat) (s : State) : Host.Outcome State Fault Refusal := run (fun d => execDesc d e .fence workFence) s

/-- FENCE_WAIT_END (R95). -/
def fenceEnd (d : Dev) (e : Nat) : Dev :=
  match entryOf d e with
  | some x => if x.st == .intent && classOf x.image == .fence && fenceOpen d x && !d.pwr.ctlLost then done d x 0 else d
  | none => d

/-- FENCE_WAIT_END (R95). -/
def execFenceWaitEnd (e : Nat) (s : State) : Host.Outcome State Fault Refusal := run (fun d => fenceEnd d e) s

/-! ### QUERY (R96) -/

/-- Item 0x00 (R96). -/
def workQFree (d : Dev) (x : Entry) : Dev := done d x (journalFree d)
/-- QUERY_FREE_ENTRIES (R96). -/
def execQueryFreeEntries (e : Nat) (s : State) : Host.Outcome State Fault Refusal := run (fun d => execDesc d e .qFree workQFree) s

/-- Item 0x01 (R96). -/
def workQFret (d : Dev) (x : Entry) : Dev := done d x (d.clk.fret / 2 ^ 32 % 65536 + (d.clk.tickInFret <<< 16))
/-- QUERY_FRET (R96). -/
def execQueryFret (e : Nat) (s : State) : Host.Outcome State Fault Refusal := run (fun d => execDesc d e .qFret workQFret) s

/-- Item 0x02 (R96). -/
def workQString (d : Dev) (x : Entry) : Dev :=
  let k := quArg x.image
  done d x ((strU d k).st.code + ((inService d k).length <<< 8))
/-- QUERY_STRING (R96). -/
def execQueryString (e : Nat) (s : State) : Host.Outcome State Fault Refusal := run (fun d => execDesc d e .qString workQString) s

/-- Headroom of the live bank at a fret (R96, R144). -/
def headroomAt (d : Dev) (f : Nat) : Int :=
  match (predict d (modelOf d) (liveBank d)).find? (fun r => r.f == f) with
  | some r => headroom (modelOf d) r
  | none => 0

/-- Item 0x03 (R96). -/
def workQUnreserved (d : Dev) (x : Entry) : Dev := done d x (lowBits 32 (headroomAt d (d.clk.fret + quArg x.image)))
/-- QUERY_UNRESERVED (R96). -/
def execQueryUnreserved (e : Nat) (s : State) : Host.Outcome State Fault Refusal := run (fun d => execDesc d e .qUnreserved workQUnreserved) s

/-- Item 0x04 (R96). -/
def workQBank (d : Dev) (x : Entry) : Dev := done d x (bankWord (liveBank d) 65 (d.clk.fret + quArg x.image)).toNat
/-- QUERY_BANK_ENERGY (R96). -/
def execQueryBankEnergy (e : Nat) (s : State) : Host.Outcome State Fault Refusal := run (fun d => execDesc d e .qBank workQBank) s

/-- Item 0x05 (R96). -/
def workQTag (d : Dev) (x : Entry) : Dev := done d x (d.fb.resv.filter (fun r => r.inLive && r.tag == quArg x.image)).length
/-- QUERY_TAG (R96). -/
def execQueryTag (e : Nat) (s : State) : Host.Outcome State Fault Refusal := run (fun d => execDesc d e .qTag workQTag) s

/-! ### RECORD_MARK, CAPTURE (R97, R98, R104, R369, R370) -/

/-- RECORD_MARK: the host's record, its SEQUENCE, and whether the full log discarded it (R97, R104, R362). -/
def workMark (d : Dev) (x : Entry) : Dev :=
  let i := x.image
  let seq := d.rcd.seq
  let lost := d.rcd.discarded
  let full := d.rcd.full
  let d := record d (mkCode i) (x.ring % 32) (flagMark x) (leAt i 12 4) (leAt i 16 4) (leAt i 20 4) (leAt i 24 4)
  done d x (seq + 65536 * b2n (full || decide (lost < d.rcd.discarded)))

/-- RECORD_MARK (R97). -/
def execRecordMark (e : Nat) (s : State) : Host.Outcome State Fault Refusal := run (fun d => execDesc d e .mark workMark) s

/-- STOP: now, or as timed work before its fret (R110, R369). -/
def workCapStop (d : Dev) (x : Entry) : Dev :=
  if caFret x.image = 0 then
    let d := endCapture d 0
    done d x (sat (2 ^ 32 - 1) d.cap.written)
  else schedule d x (caFret x.image + 1)

/-- CAPTURE_STOP (R369). -/
def execCaptureStop (e : Nat) (s : State) : Host.Outcome State Fault Refusal := run (fun d => execDesc d e .capStop workCapStop) s

/-- START, normal or in wrap mode: the snapshot is written at the start fret (R369, R370). -/
def workCapStart (wrap : Bool) (d : Dev) (x : Entry) : Dev :=
  let f := caFret x.image
  if captureActive d then done d x 0
  else if rwF d 0x7108 0 6 = 0 then finishNow d x.idx .badField (badDetail 0xFF 0xFF 0)
  else
    let d := statusLine { d with cap := { d.cap with st := .awaiting, wrap := wrap, startFret := if f = 0 then boundary d else f, startEntry := some x.idx } }
    if f = 0 then d else schedule d x (f + 1)

/-- CAPTURE_START (R369). -/
def execCaptureStart (e : Nat) (s : State) : Host.Outcome State Fault Refusal := run (fun d => execDesc d e .capStart (workCapStart false)) s
/-- CAPTURE_START_FREEZE (R370). -/
def execCaptureStartFreeze (e : Nat) (s : State) : Host.Outcome State Fault Refusal := run (fun d => execDesc d e .capFreeze (workCapStart true)) s

/-! ### Undefined opcodes (R83) -/

/-- A descriptor with an undefined opcode, ITEM or OP ends at its checks (R83). -/
def workBad (d : Dev) (x : Entry) : Dev := finishNow d x.idx .badField (badDetail 8 0xFF 0)

/-- BAD_OPCODE (R83). -/
def execBadOpcode (e : Nat) (s : State) : Host.Outcome State Fault Refusal := run (fun d => execDesc d e .bad workBad) s

/-! ### Releases (R52, R82, R420) -/

/-- The work of an entry, by its class. -/
def workOf (rs : List RepRec) (x : Entry) : Dev → Entry → Dev :=
  match classOf x.image with
  | .nop => workNop | .reserve => workReserve | .replan => workReplan | .profile => workProfile | .setpoint => workSetpoint
  | .mode => workMode rs | .sequence => workSequence | .commit => workCommit | .chgStop => workStop | .chgCharge => workCharge
  | .chgSearch => workSearch | .chgRide => workRideLevel | .chgClear => workClearTimeout | .chgLimit => workInputLimit
  | .fence => workFence | .qFree => workQFree | .qFret => workQFret | .qString => workQString | .qUnreserved => workQUnreserved
  | .qBank => workQBank | .qTag => workQTag | .mark => workMark | .capStop => workCapStop | .capStart => workCapStart false
  | .capFreeze => workCapStart true | .bad => workBad

/-- FENCE_BEFORE_RELEASE: a held descriptor executes once its fence opens (R82). -/
def fenceRelease (rs : List RepRec) (d : Dev) (e : Nat) : Dev :=
  match entryOf d e with
  | none => d
  | some x => if !flagFence x then d else if classOf x.image == .mode then modeRow rs d e else execDesc d e (classOf x.image) (workOf rs x)

/-- FENCE_BEFORE_RELEASE (R82). -/
def execFenceBeforeRelease (e : Nat) (s : State) : Host.Outcome State Fault Refusal := run (fun d => fenceRelease s.repIn d e) s

/-- DEFERRED_MODE_EXECUTE: the run has ended and the mode has settled (R420). -/
def deferredExecute (rs : List RepRec) (d : Dev) (e : Nat) : Dev :=
  match entryOf d e with
  | none => d
  | some x =>
    if !x.deferred || x.latched || !ready d x || waitsRun d x then d
    else beginDesc d x (workOf rs x)

/-- DEFERRED_MODE_EXECUTE (R420). -/
def execDeferredModeExecute (e : Nat) (s : State) : Host.Outcome State Fault Refusal := run (fun d => deferredExecute s.repIn d e) s

/-- LATCHED_ON_EXECUTE: after SHUTDOWN BOOT starts once the minimum off time has ended; after any other power-down the
request executes in the mode reached (R52). -/
def latchedOn (rs : List RepRec) (d : Dev) : Dev :=
  match d.mm.latched with
  | none => d
  | some q =>
    if d.mm.mode == .cold then
      (if (match d.mm.offUntil with | some t => decide (d.clk.tick < t) | none => false) then d else startBoot d .latchedOn)
    else if d.mm.mode == .shutdown || d.mm.mode == .boot || d.mm.mode == .off || powerDown d then d
    else match q with
      | .entry e =>
        let d := updEntry { d with mm := { d.mm with latched := none, onLatched := false } } e (fun x => { x with latched := false, deferred := true })
        deferredExecute rs d e
      | _ => { d with mm := { d.mm with latched := none, onLatched := false } }

/-- LATCHED_ON_EXECUTE (R52). -/
def execLatchedOnExecute (s : State) : Host.Outcome State Fault Refusal := run (fun d => latchedOn s.repIn d) s

/-! ### The end of timed work (R104, R111) -/

/-- A reservation whose end fret has come (R104, R153, R163): PARTIAL with clamped frets, or after a clamp in RIDE. -/
def endAtFret (d : Dev) (r : Resv) : Dev := endResv d r (if r.clamped = 0 ∧ r.cutFret = none then .ok else .partialDone) d.clk.fret false

/-- TIMED_WORK_END: the reservations of an entry whose end fret has passed end (R111). -/
def timedEnd (d : Dev) (e : Nat) : Dev :=
  if d.pwr.ctlLost then d
  else (d.fb.resv.filter (fun r => r.entry == e && r.inLive && decide (r.stop ≤ d.clk.fret))).foldl endAtFret d

/-- TIMED_WORK_END (R111). -/
def execTimedWorkEnd (e : Nat) (s : State) : Host.Outcome State Fault Refusal := run (fun d => timedEnd d e) s

end Sys2Proof.Machine
end

