-- ==== Sys2Proof/Machine/Fingerboard.lean ====
section
/-!
DEFINITION. Re-plans after their start, overdraw clamps and the ride fret (R151, R152, R156–R164).
-/
set_option Elab.async false
namespace Sys2Proof.Machine

/-! ### The build (R156, R157, R159) -/

/-- Frets of a reservation with power in a range of frets (R153). -/
def heavyFrets (cs : List (Nat × Int)) (p : Nat → Bool) : Nat := (cs.filter (fun c => p c.1 && c.2 != 0)).length

/-- The outcome of building add records. -/
inductive Built where
  | ok (d : Dev)
  | fail (index f : Nat) (t : Test)

/-- One more addition of the REPLAN in flight, with its plan (R88, R148, R156). -/
def keepAdd (d : Dev) (x : Entry) (r : ResvBody) (index target : Nat) (plan : List (Nat × Nat)) : Dev :=
  let cs := expand r.start r.pStart r.segs
  let q : Resv := { entry := x.idx, add := some index, ring := x.ring, string := r.string, tag := r.tag, start := r.start, stop := r.stop, pStart := r.pStart, segs := r.segs, rideSafe := r.rideSafe, fromFret := target, inLive := false, clamped := heavyFrets cs (fun f => decide (f < target)) }
  { d with fb := { d.fb with resv := d.fb.resv ++ [q], planShadow := addPlanCells d.fb.planShadow target plan, replan := d.fb.replan.map (fun p => { p with nAdded := p.nAdded + 1, precharge := p.precharge + b2n (!plan.isEmpty) }) } }

/-- Add records are admitted in index order against the shadow, from the switch fret on (R156). -/
def buildAdds (x : Entry) (target : Nat) : Dev → Nat → List Image → Built
  | d, _, [] => .ok d
  | d, n, i :: is =>
    let r := addOf i
    match tryAdmit d (modelOf d) r.string r.tag r.start r.stop (max (planFrom d x) target) (expand r.start r.pStart r.segs) [{ shadow := true, bank := shadowBank d, lo := target }] with
    | .fail f t => .fail n f t
    | .ok _ plan ts => buildAdds x target (keepAdd (writeTested d ts) x r n target plan) (n + 1) is

/-- The shadow as a copy of the live bank without the removed reservations from the switch fret on (R156). -/
def copyShadow (d : Dev) (p : Replan) (x : Entry) : Dev :=
  let out := fun (r : Resv) => r.inLive && rpRemoves x.image r.tag && decide (p.switch < r.stop) && r.entry != x.idx
  let gone := d.fb.resv.filter out
  let rs := d.fb.resv.map (fun r => if out r then { r with inShadow := false } else r)
  let st := fun (r : Resv) => storeValid d && decide (r.string = storeString d)
  let b := gone.foldl (fun b r => subtract b rs d.fb.planLive (st r) true r p.switch) (liveBank d)
  let d := setShadow d b
  { d with fb := { d.fb with resv := rs, planShadow := d.fb.planLive, replan := some { p with removed := gone.map (fun r => (r.entry, r.add)) } } }

/-- REPLAN_BUILD_DONE: READY, with the swap scheduled (R110), or the REPLAN ends with the failing record (R157, R104). -/
def buildDone (d : Dev) : Dev :=
  match d.fb.replan with
  | none => d
  | some p =>
    if p.ready || d.pwr.ctlLost then d
    else match entryOf d p.entry with
      | none => d
      | some x =>
        match buildAdds x p.switch (copyShadow d p x) 0 x.adds with
        | .fail n f t => finishNow (discardShadow { d with fb := { d.fb with rejected := sat (2 ^ 32 - 1) (d.fb.rejected + 1) } }) p.entry t.status (n + ((f % 2 ^ 24) <<< 8))
        | .ok e =>
          let e := setShadow e (writePred (shadowBank e) (predict e (modelOf e) (shadowBank e)))
          schedule { e with fb := { e.fb with replan := e.fb.replan.map (fun q => { q with ready := true, st := if q.retrying then 4 else 2 }) } } x (endOf x)

/-- REPLAN_BUILD_DONE (R157). -/
def execReplanBuildDone (s : State) : Host.Outcome State Fault Refusal := run buildDone s

/-! ### Decision point and swap (R158, R159, R161) -/

/-- DECISION_POINT at tick 0 of the switch fret minus 2 (R158, R159). -/
def decisionPoint (d : Dev) : Dev :=
  match d.fb.replan with
  | none => d
  | some p =>
    if d.clk.tickInFret != 0 || d.pwr.ctlLost || p.st == 3 || decide (d.clk.fret + 2 < p.switch) then d
    else if p.ready && decide (d.clk.fret + 2 = p.switch) then { d with fb := { d.fb with replan := some { p with st := 3 } } }
    else missReplan d p

/-- DECISION_POINT (R158). -/
def execDecisionPoint (s : State) : Host.Outcome State Fault Refusal := run decisionPoint s

/-- The REPLAN's own entries at the swap (R104, R110, R159, R161). -/
def reportSwap (d : Dev) (p : Replan) (removed : Nat) : Dev :=
  let st := if p.retrying then Status.lateReplan else .ok
  let detail := min 65535 removed + (min 255 p.nAdded <<< 16) + (b2n p.retrying <<< 31)
  let f := d.clk.fret
  let d := updEntry d p.entry (fun x => { x with retrySwap := p.retrying, endFret := (x.adds.map (fun a => (addOf a).stop)).foldl max (f + 1) })
  if p.nAdded = 0 then finishWith d p.entry st f detail (fun c => { c with retrySwap := p.retrying })
  else
    let d := { d with fb := { d.fb with admitted := sat (2 ^ 32 - 1) (d.fb.admitted + p.nAdded), precharge := sat (2 ^ 32 - 1) (d.fb.precharge + p.precharge) } }
    let d := admission d p.entry st f detail (p.precharge != 0) p.retrying
    if d.fb.resv.any (fun r => r.entry == p.entry) then d
    else match entryOf d p.entry with
      | none => d
      | some x => let q := replanResult x.addResults; finishWith d p.entry q.1 f (if q.1 = .ok then 0 else q.2) (fun c => { c with retrySwap := p.retrying })

/-- The banks swap (R132, R158, R161). -/
def swapBanks (d : Dev) (p : Replan) : Dev :=
  let gone := d.fb.resv.filter (fun r => p.removed.contains (r.entry, r.add))
  let rs := d.fb.resv.map (fun r => { r with inLive := r.inLive || r.entry == p.entry, inShadow := true, shadowFrom := 0 })
  let d := { d with fb := { d.fb with liveB := !d.fb.liveB, swaps := d.fb.swaps + 1, planLive := d.fb.planShadow, replan := none, resv := rs } }
  let d := mirror d
  let d := gone.foldl (fun d r => endResv d r .ok d.clk.fret true) d
  reportSwap d p gone.length

/-- BANK_SWAP at the boundary of the switch fret (R158, R161). -/
def bankSwap (d : Dev) : Dev :=
  match d.fb.replan with
  | none => d
  | some p => if p.st != 3 || d.clk.tickInFret != 0 || d.pwr.ctlLost || decide (d.clk.fret < p.switch) then d else swapBanks d p

/-- BANK_SWAP (R161). -/
def execBankSwap (s : State) : Host.Outcome State Fault Refusal := run bankSwap s

/-! ### OVERDRAW_CLAMP (R151, R152, R419) -/

/-- OVERDRAW: its bit, its event, and a record at most once per string per management tick (R152). -/
def noteOverdraw (d : Dev) (k : Nat) : Dev :=
  let u := strU d k
  let d := setFbEvent { d with fb := { d.fb with overdrawn := d.fb.overdrawn ||| (1#64 <<< k) } } 0
  if u.lastOver = some d.clk.mgmt then d
  else record (updStr d k (fun u => { u with lastOver := some d.clk.mgmt })) 0x0041 0x03 false k (lowBits 32 u.overAvg) u.overCeil ((u.overFret + 1) % 2 ^ 32)

/-- OVERDRAW_CLAMP: the fourth fret over the ceiling has ended (R151). -/
def overdraw (d : Dev) (k : Nat) : Dev :=
  let u := strU d k
  if u.overRun < 4 ∨ u.overClamp = true ∨ 64 ≤ k then d
  else
    let stop := latestEnd d k u.overFret
    let on := if u.overIdle then powerIn d k d.clk.fret == 0 else decide (d.clk.fret < stop)
    let d := updStr d k (fun u => { u with overRun := 0, overClamp := on, overUntil := if u.overIdle then none else some stop, allot := if on then { u.allot with iLimit := min u.allot.iLimit u.allot.iDraw, clamped := true } else u.allot })
    noteOverdraw d k

/-- OVERDRAW_CLAMP (R151). -/
def execOverdrawClamp (k : Nat) (s : State) : Host.Outcome State Fault Refusal := run (fun d => overdraw d k) s

/-! ### RIDE_FRET (R163) -/

/-- A reservation loses its cells from a fret on and stays; each of them with power is a clamped fret (R153, R163). -/
def cutTail (d : Dev) (r : Resv) (g : Nat) : Dev :=
  let n := heavyFrets (resvCells r) (fun f => decide (g ≤ f))
  let q := { r with cutFret := some g, clamped := r.clamped + n }
  let rs := d.fb.resv.map (fun x => if sameKey x r then q else x)
  let st := storeValid d && decide (r.string = storeString d)
  let d := if r.inLive then setLive d (subtract (liveBank d) rs d.fb.planLive st false r g) else d
  let d := if r.inShadow then setShadow d (subtract (shadowBank d) rs d.fb.planShadow st true r g) else d
  { d with fb := { d.fb with resv := rs } }

/-- The most recently admitted RIDE_SAFE reservation that covers a fret in a bank. -/
def lastSafe (d : Dev) (shadow : Bool) (f : Nat) : Option Resv :=
  (d.fb.resv.filter (fun r => r.rideSafe && (if shadow then r.inShadow else r.inLive) && (bankCells r shadow).any (fun c => c.1 == f))).getLast?

/-- Frets of a bank from a fret on that fail tests 3 or 4, each with the reservation to clamp (R143, R163). -/
def rideFailures (d : Dev) (shadow : Bool) (g : Nat) : List (Nat × Resv) :=
  let m := modelOf d
  let b := if shadow then shadowBank d else liveBank d
  (predict d m b).filterMap (fun r => if r.f < g then none else match failAfter m r with | some _ => (lastSafe d shadow r.f).map (fun q => (r.f, q)) | none => none)

/-- RIDE_SAFE reservations are clamped until every fret passes (R163). -/
def clampSafe (g : Nat) : Nat → Dev → Dev
  | 0, d => d
  | n + 1, d =>
    let live := rideFailures d false g
    let all := live ++ (match shadowReady d with | some q => rideFailures d true (max g q) | none => [])
    match all.foldl (fun a q => match a with | none => some q | some b => if q.1 < b.1 then some q else some b) none with
    | none => d
    | some (f, r) => clampSafe g n (cutTail d r f)

/-- The engine's work for the ride fret `g` (R163): reservations without RIDE_SAFE and plans lose their cells from it on, the banks
are predicted again, and the RIDE_SAFE ones are tested again. -/
def rideCut (d : Dev) (g : Nat) : Dev :=
  let gone := d.fb.resv.filter (fun r => !r.rideSafe && decide (g < r.stop) && r.cutFret.isNone)
  let safe := d.fb.resv.filter (fun r => r.rideSafe)
  let d := clearPlans (gone.foldl (fun d r => cutTail d r g) d) g
  let d := clampSafe g safe.length (repredict d)
  let hit := !gone.isEmpty || d.fb.resv.any (fun r => r.rideSafe && r.cutFret.isSome && !(safe.any (fun q => sameKey q r && q.cutFret.isSome)))
  if hit then setFbEvent (repredict d) 4 else repredict d

/-- The removed reservations end PARTIAL at the ride fret (R163). -/
def rideEnd (d : Dev) (g : Nat) : Dev :=
  let gone := d.fb.resv.filter (fun r => !r.rideSafe && r.cutFret == some g)
  let d := gone.foldl (fun d r => endResv d r .partialDone g false) d
  { d with mm := { d.mm with rideFret := none } }

/-- RIDE_FRET: the cells go as soon as the engine acts, in time for the ride fret's allotments; the reservations end at the ride
fret itself (R163). -/
def rideFretEvent (d : Dev) : Dev :=
  match d.mm.rideFret with
  | none => d
  | some g =>
    if d.pwr.ctlLost then d
    else
      let d := rideCut d g
      if g ≤ d.clk.fret then rideEnd d g else d

/-- RIDE_FRET (R163). -/
def execRideFret (s : State) : Host.Outcome State Fault Refusal := run rideFretEvent s

end Sys2Proof.Machine
end

