-- ==== Sys2Proof/Machine/Sequencer.lean ====
section
/-!
DEFINITION. The sequencer's events: supervision of items, steps and their timeouts, unwinding, button, nMR, HRST_N, and the other packages of a system (R233–R259, R411, R27).
-/
set_option Elab.async false
namespace Sys2Proof.Machine

/-! ### Supervision (R237–R239, R257) -/

/-- NET of a rail group (R234, R235). -/
def railNet (d : Dev) (r : Nat) : Nat := fld (railConfigImage d r) 13 3

/-- Measured output of an item, mV. -/
def itemMv (d : Dev) : Item → Nat
  | .rail r => 5 * (railU d r).vMeas
  | .string k => ratNat ((strU d k).vMeas * 10)

/-- The step under way that names an item, as a fault parameter (R257). -/
def itemStep (d : Dev) (i : Item) : Nat :=
  match d.seq.run with
  | some r => if r.items.contains i then r.step else 0xFFFFFFFF
  | none => 0xFFFFFFFF

/-- A fault input of the sequencer (R257). -/
def seqFault (d : Dev) (code : Nat) (i : Item) (step : Nat) : Dev := detect d code i.num step (itemMv d i)

/-- The item is named in an unwind under way, its step begun or not (R239). -/
def unwinding (d : Dev) (i : Item) : Bool :=
  match d.seq.run with
  | some r => r.phase == .unwind && (r.items.contains i || r.enabled.any (fun is => is.contains i))
  | none => false

/-- The item is supervised now (R236, R239): an enabled rail group, or an AXIS or AUX string that its loop drives. -/
def supervised (d : Dev) : Item → Bool
  | .rail r => (railU d r).enabled && decide (railSize d r ≠ 0)
  | .string k => (kindOf d k == .axis || kindOf d k == .aux) && (strU d k).st.switching

/-- What power-good asks of the item besides its output (R238). -/
def canBeGood (d : Dev) : Item → Bool
  | .rail r => (railU d r).enabled && decide (railSize d r ≠ 0)
  | .string k =>
    let u := strU d k
    match kindOf d k with
    | .axis => u.st.switching && u.vRamp == 1000 * u.vCmd
    | .aux => u.st.switching && u.vRamp == 1000 * u.vCmd
    | .store => u.st.switching && !(driven d k).isEmpty && (linksOf d k).all (fun j => (lkU d j).st == .up)
    | _ => false

/-- An item is power-good and within its warning window: no level is tripped any more (R238). -/
def setGood (d : Dev) : Item → Dev
  | .rail r => updRail d r (fun u => { u with pgood := true, uvArmed := true, levels := 0 })
  | .string k => updStr d k (fun u => { u with pgood := true, uvArmed := true })

/-- The items of the step under way are all up (R241). -/
def stepUp (d : Dev) : Dev :=
  match d.seq.run with
  | some r => if r.phase == .upWait && r.items.all (itemGood d) then stepDone d r else d
  | none => d

/-- ITEM_POWER_GOOD (R238). -/
def itemBecomesGood (d : Dev) (i : Item) : Dev :=
  if !canBeGood d i then d
  else
    let d := match i with
      | .rail r => if railNet d r = 5 ∧ d.mm.mode == .boot ∧ d.seq.vpllGood.isNone then { d with seq := { d.seq with vpllGood := some d.clk.tick } } else d
      | _ => d
    stepUp (setGood d i)

/-- ITEM_POWER_GOOD (R238). -/
def execItemPowerGood (i : Item) (s : State) : Host.Outcome State Fault Refusal := run (fun d => itemBecomesGood d i) s

/-- OV levels are armed from the enable, UV levels from the first power-good (R239). -/
def levelArmed (d : Dev) (i : Item) (ovr : Bool) : Bool :=
  supervised d i && !unwinding d i && (ovr || (match i with | .rail r => (railU d r).uvArmed | .string k => (strU d k).uvArmed))

/-- LEVEL_WARNING_TRIP: an event, no fault (R237, R259). -/
def warningTrip (d : Dev) (i : Item) (ovr : Bool) : Dev :=
  if !levelArmed d i ovr then d
  else match i with
    | .rail r => setSeqEvent (updRail d r (fun u => { u with levels := u.levels ||| (1#4 <<< b2n ovr) })) r
    | .string k => setSeqEvent { d with seq := { d.seq with warned := d.seq.warned ||| (1#64 <<< k) } } 8

/-- LEVEL_WARNING_TRIP (R237). -/
def execLevelWarningTrip (i : Item) (ovr : Bool) (s : State) : Host.Outcome State Fault Refusal := run (fun d => warningTrip d i ovr) s

/-- LEVEL_FAULT_TRIP: the fault source; a UV trip clears power-good (R237, R239, R257). `mv` is the measured value. -/
def faultTrip (d : Dev) (i : Item) (ovr : Bool) (mv : Nat) : Dev :=
  if !levelArmed d i ovr then d
  else
    let step := itemStep d i
    match i with
    | .rail r => detect (updRail d r (fun u => { u with levels := u.levels ||| (1#4 <<< (2 + b2n ovr)), pgood := u.pgood && ovr })) (if ovr then 0x1301 else 0x1300) r step mv
    | .string k => detect (updStr d k (fun u => { u with pgood := u.pgood && ovr })) (if ovr then 0x1303 else 0x1302) k step mv

/-- LEVEL_FAULT_TRIP (R237). -/
def execLevelFaultTrip (i : Item) (ovr : Bool) (mv : Nat) (s : State) : Host.Outcome State Fault Refusal := run (fun d => faultTrip d i ovr mv) s

/-! ### Steps (R241–R246) -/

/-- The time of the run's phase is over. -/
def phaseOver (d : Dev) (r : Run) : Bool := decide (r.deadline ≤ d.clk.tick)

/-- STEP_DELAY_END: DELAY has passed; the next step follows, or a master waits for its followers (R241, R253); a power-down
opens its next domain (R243). -/
def delayEnd (d : Dev) : Dev :=
  match d.seq.run with
  | none => d
  | some r =>
    if !phaseOver d r then d
    else match r.phase with
      | .delay => if r.waitPeers && !peersDone d then setRun d { r with phase := .peers } else afterStep d r
      | .domainDown i => if i < 7 then openStage d r i else startFrom d { r with table := 1 } 7 16 7
      | _ => d

/-- STEP_DELAY_END (R241). -/
def execStepDelayEnd (s : State) : Host.Outcome State Fault Refusal := run delayEnd s

/-- STEP_TIMEOUT: an up step of any power-up, or a domain of BOOT, is not good in time (R241, R246). A follower reports FAIL. -/
def stepLate (d : Dev) : Dev :=
  match d.seq.run with
  | none => d
  | some r =>
    if !phaseOver d r then d
    else match r.phase with
      | .domainUp _ => failBoot d
      | .upWait =>
        let i := (r.items.find? (fun i => !itemGood d i)).getD (.rail 0)
        let note := fun (d : Dev) => let d := setSeqEvent d 12; if r.kind == .boot then seqRecord d 0x3002 r.table r.step else seqFault d 0x1304 i r.step
        if follows d r then setRun (report (note d) true false) { r with phase := .peers }
        else if r.kind == .boot then failBoot d else startUnwind (note d) r .timeout
      | _ => d

/-- STEP_TIMEOUT (R246). -/
def execStepTimeout (s : State) : Host.Outcome State Fault Refusal := run stepLate s

/-- DOWN_ITEMS_DISCHARGED: every item is below 10 %; the wait, or a STRICT hold, ends (R242). -/
def itemsLow (d : Dev) : Dev :=
  match d.seq.run with
  | none => d
  | some r =>
    if !r.items.all (itemLow d) then d
    else match r.phase with
      | .downWait => stepDone d r
      | .hold => stepDone d r
      | .closing => endClosing d r
      | _ => d

/-- DOWN_ITEMS_DISCHARGED (R242). -/
def execDownItemsDischarged (s : State) : Host.Outcome State Fault Refusal := run itemsLow s

/-- DISCHARGE_TIMEOUT: a STRICT step holds; a normal one, and the closing step, record it and go on (R242, R243). -/
def downLate (d : Dev) : Dev :=
  match d.seq.run with
  | none => d
  | some r =>
    if !phaseOver d r || r.items.all (itemLow d) then d
    else match r.phase with
      | .downWait =>
        if stepStrict d r.table r.step then
          let i := (r.items.find? (fun i => !itemLow d i)).getD (.rail 0)
          seqFault (setSeqEvent (setRun d { r with phase := .hold }) 11) 0x1305 i r.step
        else stepDone (dischargeRecord d r.table r.step) { r with timeouts := r.timeouts + 1 }
      | .closing => endClosing (dischargeRecord d 0 0) { r with timeouts := r.timeouts + 1 }
      | _ => d

/-- DISCHARGE_TIMEOUT (R242). -/
def execDischargeTimeout (s : State) : Host.Outcome State Fault Refusal := run downLate s

/-- DOMAIN_POWER_GOOD: the stage is good; verification, the next domain, or the end of BOOT follows (R243). -/
def domainPower (d : Dev) : Dev :=
  match d.seq.run with
  | none => d
  | some r =>
    match r.phase with
    | .domainUp i =>
      let d := (bootStage i).foldl domainGood d
      if i = 0 then setRun d { r with phase := .verify }
      else if i = 5 then endBoot d
      else closeStage d r (i + 1)
    | _ => d

/-- DOMAIN_POWER_GOOD (R243). -/
def execDomainPowerGood (s : State) : Host.Outcome State Fault Refusal := run domainPower s

/-- UNWIND_STEP_END: every item is below 10 % or has passed its own timeout (R51). -/
def unwindEnd (d : Dev) : Dev :=
  match d.seq.run with
  | some r => if r.phase == .unwind && r.items.all (fun i => itemUnwound d i || r.timedOut.contains i) then unwindNext d r else d
  | none => d

/-- UNWIND_STEP_END (R51). -/
def execUnwindStepEnd (s : State) : Host.Outcome State Fault Refusal := run unwindEnd s

/-- UNWIND_ITEM_TIMEOUT: one item passes its own timeout; the unwind continues (R51). No step of a table applies to its record (R258, log 62). -/
def unwindLate (d : Dev) (i : Item) : Dev :=
  match d.seq.run with
  | none => d
  | some r =>
    if r.phase != .unwind || !r.items.contains i || r.timedOut.contains i || itemUnwound d i || decide (d.clk.tick < r.deadline + 1000 * unwindMs d i) then d
    else
      setRun (dischargeRecord d 0 0) { r with timedOut := r.timedOut ++ [i], timeouts := r.timeouts + 1 }

/-- UNWIND_ITEM_TIMEOUT (R51). -/
def execUnwindItemTimeout (i : Item) (s : State) : Host.Outcome State Fault Refusal := run (fun d => unwindLate d i) s

/-- REFERENCE_START_TIMEOUT: no reference 5 ms after VPLL's power-good; the boot ends as a failed step (R411, R246). -/
def referenceLate (d : Dev) : Dev :=
  match d.seq.run, d.seq.vpllGood with
  | some r, some t =>
    if d.mm.mode == .boot && r.kind == .boot && r.phase != .unwind && decide (t + 5000 ≤ d.clk.tick) then
      failBoot d
    else d
  | _, _ => d

/-- REFERENCE_START_TIMEOUT (R411). -/
def execReferenceStartTimeout (s : State) : Host.Outcome State Fault Refusal := run referenceLate s

/-- A STRICT hold is released by a write or by a long press: STRICT_RELEASED, and the run continues (R242). -/
def releaseHold (d : Dev) : Dev :=
  match d.seq.run with
  | some r => if r.phase == .hold then stepDone (seqRecord d 0x3003 r.table r.step) r else d
  | none => d

/-- RELEASE: ignored with no hold in force (R242, R256). -/
def execRelease (s : State) : Host.Outcome State Fault Refusal := run (fun d => if powered d .mgmt then releaseHold d else d) s

/-! ### The push-button (R45, R47, R52, R247) -/

/-- A trigger to leave COLD: within the minimum off time it is held (R45, R47). -/
def coldTrigger (d : Dev) (t : Trigger) (c : Cause) : Dev :=
  if d.mm.offUntil.isSome then { d with mm := { d.mm with held := some (d.mm.held.getD t) } } else startBoot d c

/-- BUTTON_PRESS_START (R247). -/
def pressStart (d : Dev) : Dev :=
  if d.mm.mode == .off || d.pins.pressed then d
  else { d with pins := { d.pins with pressed := true, pressStart := d.clk.tick, longDone := false } }

/-- BUTTON_PRESS_START (R247). -/
def execButtonPressStart (s : State) : Host.Outcome State Fault Refusal := run pressStart s

/-- What a long press does at its instant (R242, R247, R256): a hold ends, and at a follower, which only forwards the request, its run continues. -/
def actLong (d : Dev) : Dev :=
  let d := capture d (.modeInput 4)
  let hold : Bool := match d.seq.run with | some r => r.phase == .hold | none => false
  match d.mm.mode with
  | .off => d
  | .cold => d
  | .shutdown => releaseHold d
  | _ =>
    let d := match d.seq.run with | some r => if !hold then d else if follower d then releaseHold d else seqRecord d 0x3003 r.table r.step | none => d
    requestDown (seqRecord d 0x3010 0 0) false .longPress 0 none

/-- The press has been held for LONG_TIME at a tick and has not acted yet (R247). -/
def longDue (d : Dev) (t : Nat) : Bool := d.pins.pressed && !d.pins.longDone && decide (d.pins.pressStart + 1000000 * rsF d 0x38B0 0 5 ≤ t)

/-- What a short press does at its release (R45, R47, R52, R247). -/
def actShort (d : Dev) : Dev :=
  let d := capture d (.modeInput 3)
  match d.mm.mode with
  | .off => d
  | .cold => if follower d || decide (coldBoot d < 2) || d.mm.offUntil.isSome then d else coldTrigger d .button .buttonShort
  | .shutdown => if d.mm.latched.isSome then d else { d with mm := { d.mm with latched := some .press, onLatched := true } }
  | _ => setModeEvent d 5

/-- MIN_OFF_TIME_END: a latched ON request or a held trigger acts (R47, R52). -/
def offTimeEnd (d : Dev) : Dev :=
  match d.mm.offUntil with
  | none => d
  | some t =>
    if d.mm.mode != .cold || decide (d.clk.tick < t) then d
    else
      let d := { d with mm := { d.mm with offUntil := none } }
      if d.mm.latched.isSome then startBoot d .latchedOn
      else match d.mm.held with
        | some .input => startBoot d .inputArrival
        | some .button => startBoot d .buttonShort
        | some .master => startBoot d .master
        | none => d

/-- MIN_OFF_TIME_END (R47). -/
def execMinOffTimeEnd (s : State) : Host.Outcome State Fault Refusal := run offTimeEnd s

/-! ### nMR and HRST_N (R248, R249) -/

/-- NMR_ASSERT: HRST_N, an event and a record; no mode changes (R248). -/
def nmrLow (d : Dev) : Dev :=
  if d.mm.mode == .off || d.pins.nmr then d
  else seqRecord (setSeqEvent (setHrst (capture d (.modeInput 7)) (fun p => { p with nmr := true })) 9) 0x3011 0 0

/-- NMR_RELEASE: HRST_N stays asserted for 10 ms more (R248). -/
def nmrHigh (d : Dev) : Dev :=
  if !d.pins.nmr then d else setHrst (assertHrst d 10000) (fun p => { p with nmr := false })

/-- NMR_RELEASE (R248). -/
def execNmrRelease (s : State) : Host.Outcome State Fault Refusal := run nmrHigh s

/-- HRST_RELEASE: the latest timed assertion ends (R249). -/
def hrstEnd (d : Dev) : Dev :=
  if d.pins.hrstTimed && decide (d.pins.hrstUntil ≤ d.clk.tick) then setHrst d (fun p => { p with hrstTimed := false }) else d

/-- HRST_RELEASE (R249). -/
def execHrstRelease (s : State) : Host.Outcome State Fault Refusal := run hrstEnd s

/-! ### Other packages (R27, R28, R250–R255) -/

/-- The fields of a good sympathetic block (R250). -/
def peerFields (b : Block) : PeerBlock :=
  let f := fun (n lo w : Nat) => fld b (8 * (n + 1) + lo) w
  { safe := f 0 0 1 == 1, drone := f 0 1 1 == 1, master := f 0 2 1 == 1, fwdDown := f 0 3 1 == 1, fwdOff := f 0 4 1 == 1, index := f 1 0 2, count := f 1 2 2, mode := f 1 4 4, cmdStep := f 2 0 4, cmdTable := f 2 4 2, cmdUnwind := f 2 6 1 == 1, cmdValid := f 2 7 1 == 1, cmdNumber := f 3 0 8, resStep := f 4 0 4, resTable := f 4 4 2, fail := f 4 6 1 == 1, done := f 4 7 1 == 1, resNumber := f 5 0 8, share := f 6 0 16, fret := f 8 0 48 }

/-- The block is good: its CRC matches, with SLOT 0 and TYPE 0 (R250). -/
def peerGood (b : Block) : Bool := crcGood b && hdrSlot b == 0 && hdrType b == 0

/-- Change one peer. -/
def updPeer (d : Dev) (j : Nat) (f : Peer → Peer) : Dev := { d with seq := { d.seq with peers := upd d.seq.peers j f } }

/-- The link's state with a good block (R252): UP after 8 in a row. -/
def trainPeer (d : Dev) (j : Nat) (b : PeerBlock) : Dev :=
  let p := peerU d j
  let n := p.goodRun + 1
  let up := decide (8 ≤ n)
  let d := if up && p.st != 2 then nextFree (updPeer d j (fun q => { q with delay := Config.peerDelay d.clk.free % 256 })) else d
  updPeer d j (fun q => { q with st := if up then 2 else if q.st == 2 then 2 else 1, goodRun := n, lastGood := d.clk.tick, seen := d.clk.tick + 1, block := b })

/-- The command under way is the follower's own now (R250). -/
def takeCommand (d : Dev) (b : PeerBlock) : Dev :=
  { d with seq := { d.seq with resNumber := b.cmdNumber, resStep := b.cmdStep, resTable := b.cmdTable, resFail := false, resDone := false } }

/-- The follower starts its step (R253); a command that finds it in its own domain steps waits for their end. -/
def followStep (d : Dev) (b : PeerBlock) : Dev :=
  match d.seq.run with
  | some r =>
    let own := match r.phase with | .unwind => true | .closing => true | .domainUp _ => true | .domainDown _ => true | .verify => true | _ => false
    if r.kind.system && !own then startStep (takeCommand d b) { r with table := b.cmdTable } b.cmdStep else d
  | none => d

/-- A follower's run begins on the master's first command for it (R253). -/
def followRun (d : Dev) (k : RunKind) (table : Nat) (target : Mode) : Dev :=
  setRun { d with mm := { d.mm with target := target }, seq := { d.seq with dischTimeouts := 0 } } { kind := k, table := table, step := 0, phase := .peers, fret := d.clk.fret }

/-- A master's power-up command is latched while a power-down lasts (R52). -/
def latchMaster (d : Dev) : Dev :=
  if d.mm.latched.isSome then d else { d with mm := { d.mm with latched := some .master, onLatched := true } }

/-- A new command of the master, in the mode the follower is in (R39, R46, R47, R49, R50, R52, R253). The master's MODE tells a shutdown from a
disarm; an unwind that follows this package's own forwarded request is that request's (log 22). -/
def followCommand (d : Dev) (b : PeerBlock) : Dev :=
  let down := b.mode == 10
  if !b.cmdValid || b.cmdNumber == d.seq.resNumber then d
  else if b.cmdUnwind then
    let d := takeCommand d b
    (match d.seq.run with
      | some r => if (r.kind == .boot || r.kind == .arm) && r.phase != .unwind then startUnwind d r (if d.seq.fwdDown then .preempt else .timeout) else d
      | none => d)
  else match d.mm.mode with
    | .off => d
    | .cold => if b.cmdTable != 1 || down then d else if d.mm.offUntil.isSome then coldTrigger d .master .master else followStep (startBoot d .master) b
    | .boot => if down then masterDown d else if b.cmdTable == 1 then followStep d b else d
    | .shutdown => if down then followStep d b else if b.cmdTable == 1 then latchMaster d else d
    | _ =>
      if down then followStep (masterDown d) b
      else match b.cmdTable, d.seq.run with
        | 2, some r => if r.kind == .arm then followStep d b else if poweringDown d then latchMaster d else d
        | 2, none => if d.mm.mode == .config then followStep (followRun d .arm 2 .armed) b else d
        | 3, some r => if r.kind == .disarm then followStep d b else d
        | 3, none => if d.mm.mode == .armed then followStep (followRun (stopProfiles d) .disarm 3 .config) b else d
        | _, _ => d

/-- What a good block of a peer does at once; SAFE is a mode input (R28, R252–R254). -/
def peerActs (d : Dev) (old b : PeerBlock) : Dev :=
  if follower d then (if b.master then followCommand d b else d)
  else if !d.pins.master then d
  else
    let d := if b.fwdDown && (!old.fwdDown || (b.fwdOff && !old.fwdOff)) then requestDown d b.fwdOff .master 0 none else d
    match d.seq.run with
    | some r => if r.phase == .peers && r.waitPeers && peersDone d then afterStep d r else d
    | none => d

/-- A peer in SAFE or DRONE takes this package to SAFE (R28, R252). -/
def peerSafe (d : Dev) (j : Nat) : Dev := deviceSafe (capture d (.modeInput 6)) .peerSafe j

/-- Blocks of a peer are heard: it is one of the system's other packages (R250). -/
def peerHears (d : Dev) (j : Nat) : Bool := d.mm.mode != .off && !d.pwr.ctlLost && (systemPeers d).contains j

/-- A bad block of a peer counts as lost (R250, R252). -/
def peerBad (d : Dev) (j : Nat) : Dev := updPeer d j (fun q => { q with st := if q.st == 0 then 1 else q.st, lost := sat 65535 (q.lost + 1), goodRun := 0, seen := d.clk.tick + 1 })

/-- FRET_TOKEN_ARRIVAL at a follower: its fret boundary falls here, and from the first token on its counter counts the master's tokens; it
takes the master's count once (R27, R128, R251). -/
def tokenArrives (d : Dev) : Dev :=
  if !follower d || !powered d .sched || d.pwr.ctlLost then d
  else
    let fret := match d.seq.peers.find? (fun p => p.block.master) with | some p => p.block.fret | none => d.clk.fret
    { d with clk := { d.clk with fret := if d.seq.tokenSeen then d.clk.fret else fret, tickInFret := 0, fretDue := true }, seq := { d.seq with noToken := 0, tokenLock := true, tokenSeen := true } }

/-- FRET_TOKEN_ARRIVAL (R251). -/
def execFretTokenArrival (s : State) : Host.Outcome State Fault Refusal := run tokenArrives s

/-- FRET_TOKEN_LOST: 4 frets without a token (R27). -/
def tokenLost (d : Dev) : Dev :=
  if !follower d || decide (d.seq.noToken < 4) then d
  else deviceSafe { d with seq := { d.seq with tokenLock := false, noToken := 0 } } .fretTokenLost 0

/-- FRET_TOKEN_LOST (R27). -/
def execFretTokenLost (s : State) : Host.Outcome State Fault Refusal := run tokenLost s

/-- PEER_LINK_LOST: 16 ticks without a good block on a link that was UP; the fault, and the link retrains (R252, R257). -/
def peerLost (d : Dev) (j : Nat) : Dev :=
  let p := peerU d j
  if !(systemPeers d).contains j || p.st != 2 || decide (d.clk.tick < p.lastGood + 16) then d
  else detect (updPeer d j (fun q => { q with st := 3, goodRun := 0, block := {} })) 0x1306 j 0xFFFFFFFF 0

/-- PEER_LINK_LOST (R252). -/
def execPeerLinkLost (j : Nat) (s : State) : Host.Outcome State Fault Refusal := run (fun d => peerLost d j) s

/-- PEER_STEP_FAIL: the master unwinds the power-up on every package (R253). -/
def peerFails (d : Dev) : Dev :=
  match d.seq.run with
  | none => d
  | some r =>
    let fail := (systemPeers d).any (fun j => let b := (peerU d j).block; b.fail && b.resNumber == d.seq.cmdNumber)
    let late := !peersDone d && decide (d.seq.cmdAt + 1000 * (stepTimeoutMs d r.table r.step + 1) ≤ d.clk.tick)
    if sysMaster d && r.waitPeers && (r.kind == .boot || r.kind == .arm) && r.phase != .unwind && (fail || late) then
      startUnwind (seqRecord d 0x3020 r.table r.step) r .timeout
    else d

/-- PEER_STEP_FAIL (R253). -/
def execPeerStepFail (s : State) : Host.Outcome State Fault Refusal := run peerFails s

end Sys2Proof.Machine
end

