-- ==== Sys2Proof/Machine/Recorder.lean ====
section
/-!
DEFINITION. The event recorder: buffer, flush, log, dropped records, clear, times (R356–R364).
-/
set_option Elab.async false
namespace Sys2Proof.Machine

/-- A recorder fault input (R377). -/
def recorderFault (d : Dev) (code slot count : Nat) : Dev := detect d code slot count 0

/-- A flush begins with the records that are buffered (R359); a trigger during a flush makes another follow it. -/
def startFlush (d : Dev) : Dev :=
  let r := d.rcd
  if d.pwr.pwrLost || r.clearing then d
  else if r.flushing then { d with rcd := { r with again := true, want := false } }
  else { d with rcd := { r with flushing := !r.buffer.isEmpty, toFlush := r.buffer.length, want := false } }

/-- RECORDER_FLUSH_TRIGGER: a flush condition holds (R359). -/
def flushTrigger (d : Dev) : Dev := if d.rcd.want then startFlush d else d

/-- RECORDER_FLUSH_TRIGGER (R359). -/
def execRecorderFlushTrigger (s : State) : Host.Outcome State Fault Refusal := run flushTrigger s

/-- One record into the log; with slots 0–8190 used it is discarded, and the first one discarded writes LOG_FULL (R362). -/
def logRecord (d : Dev) (q : Record) : Dev :=
  let r := d.rcd
  let n := logNext r
  if n < 8191 then { d with rcd := { r with log := r.log.set none n (some q), next := n + 1 } }
  else
    let d := { d with rcd := { r with discarded := sat 65535 (r.discarded + 1) } }
    if r.fullWritten then d else writeLogFull d q.seq

/-- The oldest `n` buffered records leave the buffer for the log. -/
def logOut (d : Dev) (n : Nat) : Dev :=
  let qs := d.rcd.buffer.take n
  qs.foldl logRecord { d with rcd := { d.rcd with buffer := d.rcd.buffer.drop n } }

/-- After a block: the flush goes on, ends, or a further one follows (R359). -/
def flushNext (d : Dev) (n : Nat) : Dev :=
  let left := d.rcd.toFlush - n
  if left ≠ 0 then { d with rcd := { d.rcd with toFlush := left } }
  else
    let again := d.rcd.again && !d.rcd.buffer.isEmpty
    { d with rcd := { d.rcd with toFlush := if again then d.rcd.buffer.length else 0, flushing := again, again := false } }

/-- The slots that a block of `n` records takes. -/
def blockSlots (r : Recorder) (n : Nat) : List Nat :=
  let a := logNext r
  if n < 2 then [a] else [a, logNext { r with next := a + 1 }]

/-- RECORDER_BLOCK_WRITTEN: the read-back passes at the first or the second write, or the slots are marked bad and the
records go to the next slots (R360). -/
def blockWritten (d : Dev) (first second : Bool) : Dev :=
  if !d.rcd.flushing then d
  else
    let n := min 2 (min d.rcd.toFlush d.rcd.buffer.length)
    if n = 0 then flushNext d d.rcd.toFlush
    else if first || second || decide (8191 ≤ logNext d.rcd) then flushNext (logOut d n) n
    else
      let slots := (blockSlots d.rcd n).filter (· < 8191)
      recorderFault { d with rcd := { d.rcd with bad := d.rcd.bad ++ slots } } 0x1800 (slots.headD 0) n

/-- RECORDER_BLOCK_WRITTEN (R360). -/
def execRecorderBlockWritten (first second : Bool) (s : State) : Host.Outcome State Fault Refusal := run (fun d => blockWritten d first second) s

/-- RECORDS_DROPPED: the buffer has room again after drops (R361). -/
def dropsRecord (d : Dev) : Dev :=
  let r := d.rcd
  if r.drops = 0 ∨ 64 ≤ r.buffer.length then d
  else
    let d := record { d with rcd := { r with drops := 0 } } 0xF003 srcRecorder false r.drops r.firstDrop 0 0
    recorderFault d 0x1801 r.next r.drops

/-- RECORDS_DROPPED (R361). -/
def execRecordsDropped (s : State) : Host.Outcome State Fault Refusal := run dropsRecord s

/-- OPERATING_SECOND: the operating time advances, and is kept at each hour (R357). -/
def operatingSecond (d : Dev) : Dev :=
  if d.mm.mode == .off || d.mm.mode == .cold then d
  else
    let n := d.rcd.seconds + 1
    { d with rcd := { d.rcd with seconds := n, nvSeconds := if n % 3600 = 0 then n else d.rcd.nvSeconds } }

/-- OPERATING_SECOND (R357). -/
def execOperatingSecond (s : State) : Host.Outcome State Fault Refusal := run operatingSecond s

/-- LOG_CLEAR_DONE: every slot is erased, and LOG_CLEARED stands in slot 0 (R364). -/
def clearDone (d : Dev) : Dev :=
  let r := d.rcd
  if !r.clearing then d
  else
    let n := (r.log.filter (fun e => e.2.isSome)).length
    let q : Record := { code := 0xF002, source := srcRecorder, flags := 2 * b2n (d.mm.mode == .replay), cycle := r.cycle, second := r.seconds % 3600, hours := r.seconds / 3600 % 2 ^ 20, p0 := n, p1 := 0, p2 := 0, p3 := 0, seq := r.seq }
    { d with rcd := { r with log := [(0, some q)], bad := [], next := 1, full := false, fullWritten := false, clearing := false, discarded := 0, dropped := 0, seq := (r.seq + 1) % 65536, want := !r.buffer.isEmpty } }

/-- LOG_CLEAR_DONE (R364). -/
def execLogClearDone (s : State) : Host.Outcome State Fault Refusal := run clearDone s

/-- FLUSH: a write of REC_CONTROL.FLUSH (R359). -/
def execFlush (s : State) : Host.Outcome State Fault Refusal := run (fun d => if powered d .mgmt then startFlush d else d) s

/-- A write of REC_CONTROL.CLEAR (R364). -/
def startClear (d : Dev) (confirm : Nat) : Dev :=
  if !powered d .mgmt || d.rcd.clearing then d
  else if d.mm.mode == .config && d.otp.enable && confirm = 0xC1EA then
    { d with rcd := { d.rcd with clearing := true, flushing := false, toFlush := 0, again := false } }
  else { d with rcd := { d.rcd with refused := true } }

/-- CLEAR (R364). -/
def execClear (confirm : Nat) (s : State) : Host.Outcome State Fault Refusal := run (fun d => startClear d confirm) s

end Sys2Proof.Machine
end

