-- ==== Sys2Proof/Machine/Power.lean ====
section
/-!
DEFINITION. Supply, input, the ride and the charger's events, the power-fail flush and the AON power-up (R44, R57, R116–R118, R262–R283, R405, R418).
-/
set_option Elab.async false
namespace Sys2Proof.Machine

/-! ### Input loss, RIDE, input return (R44, R57, R264) -/

/-- INPUT_LOSS: a search ends; ARMED, RUN and HOLD go to RIDE, or to SAFE when RIDE is not available (R44, R264, R283). -/
def inputLost (d : Dev) : Dev :=
  if d.mm.mode == .off || !d.mm.inputPresent then d
  else
    let d := capture (setModeEvent { d with mm := { d.mm with inputPresent := false } } 1) (.modeInput 1)
    let d := stopSearch d .partialDone
    if d.mm.mode == .armed || d.mm.mode == .run || d.mm.mode == .hold then
      (if !d.mm.rideAvailable then deviceSafe d .noRide 0
       else
         let d := { d with mm := { d.mm with rideDue := some (d.clk.fret + 2) } }
         if d.chg.st == .absent then d else setCharger d .disabled)
    else d

/-- RIDE_ENTRY within 2 frets of the loss (R44); a run from ARMED to CONFIG stops where it stands, a SEQUENCE goes on (log 24). -/
def enterRide (d : Dev) : Dev :=
  if d.mm.rideDue.isNone then d
  else if !(d.mm.mode == .armed || d.mm.mode == .run || d.mm.mode == .hold) then { d with mm := { d.mm with rideDue := none } }
  else if !d.mm.rideAvailable then deviceSafe { d with mm := { d.mm with rideDue := none } } .noRide 0
  else
    let d := match d.seq.run with
      | some r => if r.kind == .disarm then stopRun d .preempted .ride else d
      | none => d
    enterMode d .ride .inputLoss 0

/-- RIDE_ENTRY (R44). -/
def execRideEntry (s : State) : Host.Outcome State Fault Refusal := run enterRide s

/-- The cold-boot policy takes an input arrival (R45, R46). -/
def arrivalBoots (d : Dev) : Bool := coldBoot d == 1 && !follower d

/-- INPUT_RETURN (R44, R45, R57, R264). `vin` is VIN in 10 mV. -/
def inputReturned (d : Dev) (vin : Nat) : Dev :=
  if d.mm.mode == .off || d.mm.inputPresent then d
  else
    let d := capture { d with mm := { d.mm with inputPresent := true }, pins := { d.pins with psuOk := d.pins.psuOk || decide (rsF d 0x4000 1 1 = 1) } } (.modeInput 2)
    match d.mm.mode with
    | .ride => setModeEvent d 2
    | .shutdown =>
      let at' := match d.seq.run with | some r => stepParam (runPlace r).1 (runPlace r).2 | none => 0
      let d := setModeEvent { d with mm := { d.mm with retInfo := some { vin := vin, step := at', fret := d.clk.fret } } } 3
      if arrivalBoots d then { d with mm := { d.mm with held := some .input } } else d
    | .cold => if arrivalBoots d then coldTrigger d .input .inputArrival else d
    | .boot => if arrivalBoots d then { d with mm := { d.mm with held := some .input } } else d
    | _ => d

/-! ### The search (R267–R269) -/

/-- PSU_LIMIT_ASSERTED outside a search (R269). -/
def psuLimited (d : Dev) : Dev :=
  if !powered d .aux then d
  else
    let d := { d with pins := { d.pins with psuLimit := true } }
    if d.chg.search.isSome then d else chargerFault (setChgEvent d 3) 0x1504

/-- PSU_LIMIT_ASSERTED (R269). -/
def execPsuLimitAsserted (s : State) : Host.Outcome State Fault Refusal := run psuLimited s

/-- SEARCH_STEP_START: step k begins 50 ms × k after the search (R267). -/
def searchStep (d : Dev) (vRef : Nat) : Dev :=
  match d.chg.search with
  | none => d
  | some s =>
    if s.dwell || decide (d.clk.tick < s.start + 50000 * s.step) then d
    else { d with chg := { d.chg with search := some { s with dwell := true, vRef := vRef }, dwellAt := some d.clk.tick } }

/-- SEARCH_STEP_START (R267). -/
def execSearchStepStart (vRef : Nat) (s : State) : Host.Outcome State Fault Refusal := run (fun d => searchStep d vRef) s

/-- SEARCH_DWELL_END: the outcomes of R268 in their order. `limit`: PSU_LIMIT asserted in the dwell; `held`: the load held the test current. -/
def searchDwell (d : Dev) (vEnd : Nat) (limit held : Bool) : Dev :=
  match d.chg.search with
  | none => d
  | some s =>
    if !s.dwell || decide (d.clk.tick < s.start + 50000 * s.step + 1000 * rsF d 0x4020 10 6) then d
    else
      let i := testCurrent s.step
      if limit && decide (rsF d 0x4000 2 1 = 1) then endSearch d .limit (i - 50) .ok
      else if vEnd + rsF d 0x4020 16 8 < s.vRef then endSearch d .droop (i - 50) .ok
      else if !held then endSearch d .loadLimited (i - 50) .partialDone
      else if 50 * rsF d 0x4020 0 10 ≤ i then endSearch d .maximum (50 * rsF d 0x4020 0 10) .ok
      else { d with chg := { d.chg with search := some { s with dwell := false, step := s.step + 1 }, dwellEnd := d.clk.tick } }

/-- SEARCH_DWELL_END (R268). -/
def execSearchDwellEnd (vEnd : Nat) (limit held : Bool) (s : State) : Host.Outcome State Fault Refusal := run (fun d => searchDwell d vEnd limit held) s

/-! ### The charge cycle (R270–R276, R281–R283) -/

/-- The estimate that QUALIFY sets after AON reset (R275). -/
def restEnergy (d : Dev) : Nat :=
  if vCv d ≤ vCutoff d then 0 else eFull d * (cellMv d - vCutoff d) / (2 * (vCv d - vCutoff d))

/-- QUALIFY_REST_END: 100 ms at rest (R270, R275, R282). -/
def qualifyEnd (d : Dev) : Dev :=
  if d.chg.st != .qualify || decide (d.clk.tick < d.chg.restUntil) then d
  else
    let d := if d.chg.epStale then { d with chg := { d.chg with ep := min (eFull d) (restEnergy d), epStale := false, calibrated := false } } else d
    let st : CState := if cellMv d < vPre d then .precharge else if vRecharge d ≤ cellMv d then .done else .fast
    chargerRecord (setCharger d st) 0x2002 st.code (cellMv d) d.chg.limit

/-- QUALIFY_REST_END (R270). -/
def execQualifyRestEnd (s : State) : Host.Outcome State Fault Refusal := run qualifyEnd s

/-- The 60 s below the threshold in CV are over (R273). -/
def termDue (d : Dev) : Bool := d.chg.st == .cv && decide (60000000 ≤ d.chg.cvCount)

/-- CHARGE_TERMINATED: 60 s below the threshold in CV (R273, R275). -/
def terminated (d : Dev) : Dev :=
  if !termDue d then d
  else
    let d := { d with chg := { d.chg with ep := eFull d, calibrated := true, epStale := false } }
    chargerRecord (setCharger (setChgEvent d 0) .done) 0x2003 (d.chg.delivered / 40000000) (cellMv d) (d.chg.ep / 1000)

/-- CHARGE_TERMINATED (R273). -/
def execChargeTerminated (s : State) : Host.Outcome State Fault Refusal := run terminated s

/-- RECHARGE: in DONE below V_RECHARGE (R273). -/
def rechargeStart (d : Dev) : Dev :=
  if d.chg.st != .done || decide (vRecharge d ≤ cellMv d) then d
  else enterQualify (chargerRecord (setChgEvent d 1) 0x2004 (cellMv d) 0 0)

/-- RECHARGE (R273). -/
def execRecharge (s : State) : Host.Outcome State Fault Refusal := run rechargeStart s

/-- The safety timer runs: a cycle is between QUALIFY and its end (R274). -/
def timerRuns (c : CState) : Bool := c == .qualify || c == .precharge || c == .fast || c == .cv || c == .tempPause

/-- A limit of the safety timer is reached: 1.5 × CAPACITY, or TIMER_HOURS (R274). -/
def timerOver (d : Dev) : Bool :=
  timerRuns d.chg.st && (decide (540 * capacity d * 40000000 ≤ d.chg.delivered) || decide (d.chg.timerStart + 3600000000 * timerHours d ≤ d.clk.tick))

/-- TIMED_OUT is set and the fault raised (R274). -/
def timeOut (d : Dev) : Dev := chargerFault (setChgEvent { d with chg := { d.chg with timedOut := true } } 8) 0x1500

/-- CHARGE_TIMEOUT (R274); a termination of the same tick stands (R283). -/
def execChargeTimeout (s : State) : Host.Outcome State Fault Refusal := run (fun d => if timerOver d && !termDue d then timeOut (setCharger d .timeout) else d) s

/-- PACK_ABSENT: removal is detected; with the safety timer over in the same tick TIMED_OUT is set as well (R276, R283). RIDE_AVAILABLE follows
from the next tick (R265). -/
def packRemoved (d : Dev) : Dev :=
  if !powered d .aux || d.chg.st == .absent then d
  else
    let ovr := timerOver d
    let d := packGone d
    if ovr then timeOut d else d

/-- PACK_ABSENT (R276). -/
def execPackAbsent (s : State) : Host.Outcome State Fault Refusal := run packRemoved s

/-- PACK_INSERTED: the presence test passes; no record the first time after an AUX power-up without an ABSENT (R276). -/
def packPresent (d : Dev) : Dev :=
  if !powered d .aux || d.chg.present || d.chg.temp < -450 || decide (cellMv d < 2000) || decide (vOv d < cellMv d) then d
  else
    let d := { d with chg := { d.chg with present := true } }
    if d.chg.wasAbsent then chargerRecord (setChgEvent d 6) 0x2020 (cellMv d) (lowBits 32 d.chg.temp) 0 else d

/-- PACK_INSERTED (R276). -/
def execPackInserted (s : State) : Host.Outcome State Fault Refusal := run packPresent s

/-- PACK_DEPLETED: the pack path opens; with VIN absent the supply is lost (R263). -/
def packDepleted (d : Dev) : Dev :=
  if !powered d .aux || d.mm.inputPresent || !d.pwr.packPath || decide (vCutoff d ≤ cellMv d + 200) then d
  else
    let d := chargerRecord d 0x2013 (cellMv d) 0 0
    { d with pwr := { d.pwr with packPath := false } }

/-- PACK_DEPLETED (R263). -/
def execPackDepleted (s : State) : Host.Outcome State Fault Refusal := run packDepleted s

/-- PACK_OV: above V_OV per cell for 1 ms (R281). -/
def execPackOv (s : State) : Host.Outcome State Fault Refusal :=
  run (fun d => if powered d .aux && decide (vOv d < cellMv d) then chargerFault d 0x1503 else d) s

/-- PACK_EXHAUSTED: the ride ends in SAFE (R278, R282). `cutoff`: below V_CUTOFF under load for 1 ms. -/
def exhausted (d : Dev) (cutoff : Bool) : Dev :=
  let cut := cutoff && decide (cellMv d < vCutoff d)
  if d.mm.mode != .ride || (!cut && rideConditions d) then d
  else
    let d := chargerRecord d 0x2012 (exhaustReason d cut) (cellMv d) ((d.clk.tick - d.mm.rideStart) / 1000)
    deviceSafe d .noRide 0

/-- PACK_EXHAUSTED (R278). -/
def execPackExhausted (cutoff : Bool) (s : State) : Host.Outcome State Fault Refusal := run (fun d => exhausted d cutoff) s

/-! ### Loss of supply and power-up (R43, R116, R117, R342, R357, R358, R405, R418) -/

/-- SOURCE of VSYS and of POWER_UP: 1 VIN, 2 pack, 3 both (R358, R416). -/
def supplyCode (vin pack : Bool) : Nat := b2n vin + 2 * b2n pack

/-- What the control die loses with its rails at the freeze, before any completion or record is made of it (R116). -/
def dropControlDie (d : Dev) : Dev :=
  let d := { d with cap := {}, capQueue := {}, ring := {}, chg := { d.chg with search := none } }
  mapJournal { d with mm := { d.mm with pend := none, after := none, downEntries := [], safeAfterBoot := none, wdHold := false, rideDue := none, rideFret := none, offPath := false, retInfo := none } } (fun l => l.filter (fun x => x.st != .writing))

/-- SUPPLY_FREEZE: AON on VHOLD, the journal frozen, COLD with cause SUPPLY, and the flush begins (R116). -/
def freeze (d : Dev) : Dev :=
  if d.mm.mode == .off || d.pwr.onVhold then d
  else
    let d := { d with pwr := { d.pwr with onVhold := true, source := 0 }, jr := { d.jr with frozen := true, nv := .unsealed, image := none } }
    let f := d.clk.fret
    let d := dropControlDie d
    let d := if d.mm.mode == .cold then d else enterCold d .supply 0
    { d with pwr := { d.pwr with flushing := true }, clk := { d.clk with fret := f }, seq := { d.seq with rails := d.seq.rails.map (fun (r : Rail) => { r with enabled := false, pgood := false, uvArmed := false, levels := 0 }) } }

/-- SUPPLY_FREEZE (R116). -/
def execSupplyFreeze (s : State) : Host.Outcome State Fault Refusal := run freeze s

/-- The entries of a restored image wait for the next entry to CONFIG (R118). -/
def restoredFrom (l : List Entry) : List Entry := l.map (fun (x : Entry) => { x with restored := true })

/-- The seal is used at once because AON was not lost (R117). -/
def useSeal (d : Dev) : Dev :=
  let d := setRestored { d with jr := { d.jr with primary := restoredFrom d.jr.primary, nv := .unsealed, image := none, needRestore := true, frozen := false } }
  recordN d 0x4001 srcJournalP [journalUsed d.jr.primary]

/-- FLUSH_SEALED: the journal image is sealed and the buffered records stand in the log (R116, R357, R376, R418). -/
def sealed (d : Dev) : Dev :=
  if !d.pwr.flushing then d
  else
    let d := logOut d d.rcd.buffer.length
    let d := { d with rcd := { d.rcd with nvSeconds := d.rcd.seconds, flushing := false, toFlush := 0, again := false, want := false }, pwr := { d.pwr with flushing := false } }
    let d := { d with jr := { d.jr with nv := .sealed, image := some { entries := d.jr.primary, tails := d.jr.tails, fret := d.clk.fret } } }
    if d.pwr.onVhold then d else useSeal d

/-- FLUSH_SEALED (R116). -/
def execFlushSealed (s : State) : Host.Outcome State Fault Refusal := run sealed s

/-- VHOLD_EXHAUSTED: the device is OFF; no record marks it (R116). -/
def execVholdExhausted (s : State) : Host.Outcome State Fault Refusal := run (fun d => if d.pwr.onVhold then goOff d else d) s

/-- SUPPLY_RETURN_ON_VHOLD: AON moves back; the flush runs to its seal (R117, R418). -/
def supplyBack (d : Dev) (vin pack : Bool) : Dev :=
  let src := supplyCode vin (pack && d.pwr.packPath)
  if !d.pwr.onVhold || src = 0 then d
  else
    let d := { d with pwr := { d.pwr with onVhold := false, source := src } }
    if d.pwr.flushing then d else useSeal d

/-- SUPPLY_RETURN_ON_VHOLD (R117). -/
def execSupplyReturnOnVhold (vin pack : Bool) (s : State) : Host.Outcome State Fault Refusal := run (fun d => supplyBack d vin pack) s

/-- The journal as AON finds it (R117); restored completions wait in journal order (R118). -/
def loadJournal (d : Dev) : Dev :=
  match d.jr.nv, d.jr.image with
  | .sealed, some im =>
    let es := (restoredFrom im.entries).map (fun (x : Entry) => { x with deferred := false, latched := false, refuse := false })
    setRestored { d with jr := { d.jr with primary := es, tails := im.tails, due := es.flatMap (fun (x : Entry) => x.cpls.map (fun _ => x.idx)), nv := .unsealed, image := none, needRestore := true } }
  | .unsealed, _ => setLost d
  | _, _ => d

/-- The OTP faults that sensing raises, with the first word, its state code and the count (R354). -/
def otpFaults (d : Dev) : Dev :=
  let marg := (d.otp.shadow.filter (fun e => e.2.st == .marginal)).map (fun e => e.1)
  let raise' := fun (d : Dev) (code : Nat) (ws : List Nat) => match ws with
    | [] => d
    | w :: _ => detect d code w (otpState d w).code ws.length
  let d := raise' d 0x1700 marg
  let d := raise' d 0x1701 (badWords d)
  let d := raise' d 0x1702 ((List.range 0x80).filter (fun w => !otpUsable d w))
  if secretValid d then d else raise' d 0x1704 ((List.range 8).map (· + 0xE4) |>.filter (fun w => !otpUsable d w))

/-- AON_POWER_UP: the OTP is sensed, the power cycle counted, the journal image checked, and COLD entered (R117, R342, R357, R358, R405). -/
def aonUp (d : Dev) (vin pack : Bool) : Dev :=
  let src := supplyCode vin (pack && d.pwr.packPath)
  if d.mm.mode != .off || src = 0 then d
  else
    let nv := d.jr.nv
    let img : Nat := match nv, d.jr.image with | .sealed, some _ => 1 | .never, _ => 0 | _, _ => 2
    let d := { d with pwr := { d.pwr with on := 1#8, pgood := 1#8, source := src } }
    let d := senseAll d
    let d := { d with seq := { d.seq with bootDefaulted := !railsFromOtp d }, rcd := { d.rcd with cycle := (d.rcd.nvCycle + 1) % 2 ^ 32, nvCycle := (d.rcd.nvCycle + 1) % 2 ^ 32, seconds := d.rcd.nvSeconds, seq := 0 } }
    let d := record d 0xF001 srcRecorder false d.rcd.cycle src img 0
    let d := enterMode d .cold .supply 0
    let d := recordN d 0x5001 srcOtp [otpCount d .marginal, otpCount d .bad, otpCount d .corrected]
    let d := loadJournal d
    let d := if img = 1 then recordN d 0x4001 srcJournalP [journalUsed d.jr.primary] else if img = 2 then recordN d 0x4002 srcJournalP [] else d
    otpFaults d

/-- AON_POWER_UP (R405). -/
def execAonPowerUp (vin pack : Bool) (s : State) : Host.Outcome State Fault Refusal := run (fun d => aonUp d vin pack) s

end Sys2Proof.Machine
end

