-- ==== Sys2Proof/Machine/Faults.lean ====
section
/-!
DEFINITION. The fault collector's commands: raising, nALIVE, clearing, injection, region reinstate, loss of the timebase (R285–R312).
-/
set_option Elab.async false
namespace Sys2Proof.Machine

/-! ### FAULT_RAISE (R291, R306–R309) -/

/-- The armed injection exercises this code on this part (R307). -/
def injects (d : Dev) (f : FaultIn) : Bool :=
  let c := d.flt
  c.pending && checkerOf f.code == some c.checker
  && (match f.code with
    | 0x1008 => c.bits == 1
    | 0x1009 => c.bits == 2 && c.inst == 4
    | 0x1010 => c.bits == 2 && f.p0 == c.inst
    | 0x1106 => unitPhase f == some c.inst
    | _ => f.p0 == c.inst)

/-- A unit's parity fault is its course's lead's: the lead is retired (R170, R307). -/
def ofLead (d : Dev) (f : FaultIn) : FaultIn :=
  if f.code ≠ 0x1106 then f
  else match (unitPhase f).bind (stringOf d) with
    | some k => { f with p0 := k, p1 := (lead d k).getD f.p1 }
    | none => f

/-- A checker's input as the collector takes it: it carries the injection's flags only if it is the armed operation (R306, R308). -/
def takeInput (d : Dev) (f : FaultIn) : Dev × List FaultIn :=
  if f.injected then
    (if injects d f then (takeInjection d, [{ ofLead d f with due := d.clk.tick, observe := d.flt.observe }]) else (d, []))
  else (d, [{ ofLead d f with due := d.clk.tick, observe := false }])

/-- The operand's inputs, in order. -/
def takeInputs (d : Dev) (fs : List FaultIn) : Dev × List FaultIn :=
  fs.foldl (fun (q : Dev × List FaultIn) f => let r := takeInput q.1 f; (r.1, q.2 ++ r.2)) (d, [])

/-- FAULT_RAISE: the fault inputs that are due act in one tick (R17, R291, R292); the first that freezes a capture triggers it (R370). -/
def faultRaise (d : Dev) (inputs : List FaultIn) : Dev :=
  let q := takeInputs d inputs
  let d := q.1
  let fs := d.flt.inbox.filter (fun (f : FaultIn) => f.due == d.clk.tick) ++ q.2
  let d := { d with flt := { d.flt with inbox := d.flt.inbox.filter (fun (f : FaultIn) => decide (d.clk.tick < f.due)) } }
  faultsAct d fs

/-! ### nALIVE (R298–R300) -/

/-- NALIVE_HALF_PERIOD: the output toggles unless it is frozen, and the accumulator gives the next half-period (R298, R299). -/
def nalivePeriod (d : Dev) : Dev :=
  if !naliveMode d.mm.mode then d
  else
    let t := d.flt.naliveAcc + 16384
    let d := { d with flt := { d.flt with naliveAcc := t % 1000, naliveHalf := t / 1000 } }
    if d.flt.naliveFrozen then d else emit { d with flt := { d.flt with naliveLevel := !d.flt.naliveLevel } } (.nalive (!d.flt.naliveLevel))

/-- NALIVE_HALF_PERIOD (R298). -/
def execNaliveHalfPeriod (s : State) : Host.Outcome State Fault Refusal := run nalivePeriod s

/-- A write of FLT_CONTROL.NALIVE_TEST: in CONFIG and SAFE only (R300). -/
def writeNaliveTest (d : Dev) (on : Bool) : Dev :=
  if d.mm.mode == .config || d.mm.mode == .safe then followNalive { d with flt := { d.flt with naliveTest := on } } else d

/-- NALIVE_TEST (R300). -/
def execNaliveTest (on : Bool) (s : State) : Host.Outcome State Fault Refusal := run (fun d => writeNaliveTest d on) s

/-! ### Clearing and reinstating (R295, R304, R305) -/

/-- A write of FLT_STATUS (R304, R312). `held` are the sources whose physical condition holds (log 2). -/
def clearBlock (d : Dev) (block : Nat) (mask : Word) (held : List Nat) : Dev :=
  (List.range 32).foldl (fun d n => if bit mask n then clearStatus d held (srcCode (32 * block + n)) else d) d

/-- FLT_STATUS_CLEAR (R304). -/
def execFltStatusClear (block : Nat) (mask : Word) (held : List Nat) (s : State) : Host.Outcome State Fault Refusal :=
  run (fun d => if powered d .mgmt then clearBlock d block mask held else d) s

/-- REGION_REINSTATE (R295). -/
def execRegionReinstate (mask : BitVec 4) (s : State) : Host.Outcome State Fault Refusal :=
  run (fun d => foldN 4 (fun d r => if bit mask r then reinstateRegion d r else d) d) s

/-! ### Injection (R306–R309) -/

/-- INSTANCE names a part in service (R307). -/
def instanceOk (d : Dev) (c i : Nat) : Bool :=
  let copy := fun (n : Nat) => d.jr.retired != some n && d.jr.rebuilding != some n
  match c with
  | 0 => decide (i < 2) && copy i
  | 1 => decide (i = 0) && copy 0 && copy 1
  | 2 => decide (i = 4) || (decide (i < 4) && !bit d.flt.regRetired i)
  | 3 => decide (i < 64) && (stringOf d i).isSome && !(phU d i).retired
  | 4 => decide (i < 4) && !bit d.flt.regRetired i
  | 5 => decide (i < 4) && !bit d.flt.regRetired i
  | 6 => decide (i < 16) && linkUsed d i && (lkU d i).st != .retired && (lkU d i).st != .unused
  | 7 => decide (i < 2)
  | _ => false

/-- The mode admits an injection (R309). -/
def injectMode (d : Dev) (observe : Bool) : Bool :=
  d.mm.mode == .config || d.mm.mode == .armed || (observe && (d.mm.mode == .run || d.mm.mode == .hold))

/-- A write of FLT_INJECT (R306–R309, R312): W1C flags, the fields, and ARM, which takes the fields as they then stand. -/
def writeInject (d : Dev) (v : Word) : Dev :=
  if !powered d .mgmt then d
  else
    let c := d.flt
    let c := { c with refused := c.refused && !bit v 17, cancelled := c.cancelled && !bit v 18, selChecker := fld v 0 4, selInst := fld v 4 8, selBits := fld v 12 2, selObserve := bit v 14 }
    if !bit v 15 then { d with flt := c }
    else if !c.pending && injectMode d c.selObserve && instanceOk d c.selChecker c.selInst && ((c.selChecker != 0 && c.selChecker != 2) || c.selBits == 1 || c.selBits == 2) then
      { d with flt := { c with pending := true, checker := c.selChecker, inst := c.selInst, bits := c.selBits, observe := c.selObserve, resCode := 0, resReaction := 0, resObserved := false, resReal := false } }
    else { d with flt := { c with refused := true } }

/-- INJECT_ARM (R309). -/
def execInjectArm (v : Word) (s : State) : Host.Outcome State Fault Refusal := run (fun d => writeInject d (v ||| w32 0x8000)) s

/-! ### TIMEBASE_LOST (R296) -/

/-- TIMEBASE_LOST at an island (R296, R411, R418). -/
def execTimebaseLost (island : Nat) (s : State) : Host.Outcome State Fault Refusal :=
  run (fun d => if powered d .mgmt then detect d 0x1004 island 0 0 else d) s

end Sys2Proof.Machine
end

