-- ==== Sys2Proof/Machine/HostBytes.lean ====
section
/-!
DEFINITION. The bytes of what the device writes into host memory, in ascending addresses, every multi-byte value little-endian (R1, R69, R71, R100, R365, R366, R373).
-/
set_option Elab.async false
namespace Sys2Proof.Machine

/-- Words of 32 bits in memory (R1). -/
def wordBytes (ws : List Nat) : List Nat := ws.flatMap (leBytes 4)

/-- A completion entry in its slot: the sixteen bytes with the ring's PHASE in bit 0 of byte 5 (R100, R101). -/
def entryBytes (phase : Bool) (c : Cpl) : List Nat :=
  let bs := cplBytes c
  bs.set 5 (bs.getD 5 0 + b2n phase)

/-- The status line (R365). -/
def statusBytes (fs : List Nat) : List Nat :=
  ((fs.zip [8, 8, 8, 8, 8, 4, 4, 6]).flatMap (fun (q : Nat × Nat) => leBytes q.2 q.1) ++ List.replicate 10 0).take 64

/-- The 24 converter channels of a MONITOR record, 16 bits each (R366, log 17). -/
def monitorBytes (m : Monitor) : List Nat :=
  ((List.range 8).map (fun i => lowBits 16 (m.therm.getD i 0)) ++ [m.vin, m.vbus, m.vpack, m.vsys, m.vhold, m.isns]
    ++ (List.range 8).map (fun i => m.rails.getD i 0) ++ [lowBits 16 m.tControl, lowBits 16 m.tPower]).flatMap (leBytes 2)

/-- A record of the capture ring (R366); a SNAPSHOT's content is open (log 11). -/
def captureBytes (stamp : Nat) : CapRec → Option (List Nat)
  | .fret f digest n => some (withHeader stamp 0x01 0 (leBytes 8 (f % 2 ^ 48) ++ leBytes 4 digest ++ leBytes 4 n))
  | .snapshot _ => none
  | .descriptor kind ring e seq fx i => some (withHeader stamp 0x03 (ring % 32 + (kind <<< 5) + (e <<< 8)) (leBytes 4 seq ++ [fx, 0, 0, 0] ++ bytesOf i 64))
  | .uplink k slot lt h ps => some (withHeader stamp 0x04 (k + (slot <<< 4) + (b2n lt <<< 5) + (h <<< 8)) (ps.take 32))
  | .lost k slot => some (withHeader stamp 0x05 (k + (slot <<< 4)) [])
  | .monitor m => some (withHeader stamp 0x06 0 (monitorBytes m))
  | .sync i falling clk => some (withHeader stamp 0x07 (i + (b2n falling <<< 2) + (clk <<< 8)) [])
  | .modeInput c => some (withHeader stamp 0x08 c [])
  | .faultInput f => some (withHeader stamp 0x09 (f.code + (b2n f.injected <<< 16) + (b2n f.observe <<< 17)) (leBytes 4 f.p0 ++ leBytes 4 f.p1))
  | .mgmt kind items => some (withHeader stamp 0x0A kind (items.flatMap (fun q => leBytes 4 (q.1 % 65536) ++ leBytes 4 q.2)))
  | .freeze c f => some (withHeader stamp 0x0B c (leBytes 8 f))
  | .ended r n => some (withHeader stamp 0x0C r (leBytes 8 n))

/-- What an output puts into host memory; none where it goes elsewhere, or where its bytes are open. -/
def hostBytes : Out → Option (List Nat)
  | .acceptBlock _ ws => some (wordBytes ws)
  | .stateBlock _ ws => some (wordBytes ws)
  | .completion _ _ phase c => some (entryBytes phase c)
  | .statusLine fs => some (statusBytes fs)
  | .capture _ stamp r => captureBytes stamp r
  | .replayOut stamp type info ps => some (withHeader stamp type info ps)
  | _ => none

end Sys2Proof.Machine
end

