-- ==== Sys2Proof/Machine/JournalRows.lean ====
section
/-!
DEFINITION. The journal's two copies: mismatch, rebuild, retirement (R113–R115, R306–R309).
-/
set_option Elab.async false
namespace Sys2Proof.Machine

/-- A copy is retired; no acceptance until AON is reset (R114, R115). -/
def retireCopy (d : Dev) (c : Nat) : Dev :=
  detect { d with jr := { d.jr with retired := some c, rebuilding := none } } 0x1401 c 0 0

/-- A losing copy is rebuilt, or retired at a second mismatch within 1 s (R113, R114). -/
def loseCopy (d : Dev) (c : Nat) : Dev :=
  let prev := (d.jr.lastMiss.getD c none)
  let d := { d with jr := { d.jr with lastMiss := d.jr.lastMiss.set c (some d.clk.tick) } }
  match prev with
  | some t => if d.clk.tick < t + 1000000 then retireCopy d c else { d with jr := { d.jr with rebuilding := some c } }
  | none => { d with jr := { d.jr with rebuilding := some c } }

/-- The copy that loses (R113). -/
def loserOf : JournalError → Nat
  | .corrected c => c
  | .uncorrectable c => c
  | .bothPass => 1

/-- The armed injection is this error (R307). -/
def injectedError (d : Dev) : JournalError → Bool
  | .corrected c => injectionOn d 0 c && d.flt.bits == 1
  | .uncorrectable c => injectionOn d 0 c && d.flt.bits == 2
  | .bothPass => injectionOn d 1 0

/-- The error can be met: the power die reads the primary copy alone as well, the control die the secondary; a disagreement takes both (R105,
R107, R113, R116). -/
def readable (d : Dev) : JournalError → Bool
  | .corrected 0 => d.mm.mode != .off
  | _ => powered d .sched && !d.pwr.ctlLost && !d.jr.frozen

/-- JOURNAL_MISMATCH: the source, and what follows for the losing copy; an observed injection has no effect (R113, R308). -/
def mismatch (d : Dev) (err : JournalError) : Dev :=
  if !readable d err then d
  else
    let inj := injectedError d err
    let obs := inj && d.flt.observe
    let d := if inj then takeInjection d else d
    let c := loserOf err
    match err with
    | .corrected _ => detectInj d 0x1402 c 0 0 inj obs
    | _ =>
      let d := detectInj d 0x1400 c 0 0 inj obs
      if obs || d.jr.retired.isSome || (match d.jr.rebuilding with | some r => r != c | none => false) then d else loseCopy d c

/-- JOURNAL_MISMATCH (R113). -/
def execJournalMismatch (err : JournalError) (s : State) : Host.Outcome State Fault Refusal := run (fun d => mismatch d err) s

/-- JOURNAL_REBUILD_DONE: the copy holds what the other holds, or is retired (R114). -/
def rebuilt (d : Dev) (ok : Bool) : Dev :=
  match d.jr.rebuilding with
  | none => d
  | some c =>
    if !ok then retireCopy d c
    else if c = 0 then { d with jr := { d.jr with primary := d.jr.secondary, rebuilding := none } }
    else { d with jr := { d.jr with secondary := d.jr.primary, rebuilding := none } }

/-- JOURNAL_REBUILD_DONE (R114). -/
def execJournalRebuildDone (ok : Bool) (s : State) : Host.Outcome State Fault Refusal := run (fun d => rebuilt d ok) s

end Sys2Proof.Machine
end

