-- ==== Sys2Proof/Machine/Registers.lean ====
section
/-!
DEFINITION. Registers of BAR0 as a reader sees them and as a write acts on them (R2, R3 and the register table of every chapter), FB_FRET_LOW_READ and REGISTER_WRITE.
-/
set_option Elab.async false
namespace Sys2Proof.Machine

/-! ### Reading -/

/-- Bits of a list of conditions, the first at bit 0. -/
def bitsOf (bs : List Bool) : Nat := bs.zipIdx.foldl (fun a q => a + (b2n q.1 <<< q.2)) 0

/-- A signed value as a 16-bit field. -/
def low16 (v : Int) : Nat := lowBits 16 v

/-- A measured mean in the unit of its register, not below 0, 16 bits (log 6). -/
def shown16 (x : Rat) : Nat := sat 65535 (Config.showRound x).toNat

/-- ID_STEPPING (R32). -/
def idStepping : Nat := 0x10 + ((Config.powerDieStepping % 256) <<< 8)

/-- Each die has lost the other (R310). -/
def bothLost (d : Dev) : Bool := d.pwr.ctlLost && d.pwr.pwrLost

/-- ID_MODE (R59); a control die that has lost the power die, and is lost to it, reads SAFE (R310). -/
def idMode (d : Dev) : Nat :=
  (if bothLost d then Mode.safe.code + (Mode.safe.code <<< 4) else d.mm.mode.code + (d.mm.target.code <<< 4) + (b2n (inTransition d) <<< 8)) + (b2n d.mm.fwValid <<< 9)
  + (b2n d.mm.rideAvailable <<< 10) + (b2n d.mm.inputPresent <<< 11) + (b2n d.mm.onLatched <<< 12)

/-- ID_MODE_CAUSE (R59); SAFE by POWER_DIE_LOST where each die has lost the other (R310). -/
def idModeCause (d : Dev) : Nat :=
  if bothLost d then d.mm.causeFrom.code + (Mode.safe.code <<< 4) + (Cause.powerDieLost.code <<< 8) else
  d.mm.causeFrom.code + (d.mm.causeTo.code <<< 4) + (d.mm.cause.code <<< 8) + ((d.mm.causeDetail % 65536) <<< 16)

/-- ID_DOMAIN (R59). -/
def idDomain (d : Dev) : Nat := d.pwr.on.toNat + (d.pwr.pgood.toNat <<< 8)

/-- ID_BOOT (R59): DEFAULTED when the policy word is absent or MARGINAL. -/
def idBoot (d : Dev) : Nat := coldBoot d + 4 * b2n (!otpUsable d 0x080) + 8 * b2n (follower d)

/-- ID_JOURNAL (R127). -/
def idJournal (d : Dev) : Nat :=
  journalUsed d.jr.primary % 8192 + (b2n d.jr.restored <<< 16) + (b2n d.jr.lost <<< 17) + (b2n d.jr.rebuilt <<< 18)
  + (b2n d.jr.rebuilding.isSome <<< 19) + (b2n d.jr.retired.isSome <<< 20) + (d.jr.retired.getD 0 <<< 21)

/-- ID_COMMIT_STATUS (R199): a commit that waits for its fret is pending. -/
def idCommitStatus (d : Dev) : Nat :=
  (if d.cfg.commits.isEmpty then d.cfg.result else 3) + 4 * b2n d.cfg.refused + 8 * b2n (!(changedWords d).isEmpty) + ((d.cfg.failOffset % 65536) <<< 16)

/-- The tail record that ID_TAIL_SELECT names (R127). -/
def tailShown (d : Dev) : Tail := tailOf d (rwF d 0x002C 0 5)

/-- The identity block (R32, R59, R127, R199, R416). -/
def readId (d : Dev) (off : Nat) : Nat :=
  match off with
  | 0x00 => 0x64401EA7
  | 0x04 => idStepping
  | 0x08 => d.pins.index.toNat + 4 * b2n d.pins.master + (sysCount d <<< 3)
      + (b2n (if d.pins.master then powered d .fasta else d.seq.tokenLock) <<< 5)
  | 0x0C => d.pwr.lateCount + ((d.pwr.lastPath % 16) <<< 24)
  | 0x10 => idMode d
  | 0x14 => idModeCause d
  | 0x18 => idDomain d
  | 0x1C => d.mm.event.toNat
  | 0x20 => idBoot d
  | 0x24 => idJournal d
  | 0x28 => d.jr.missed + (d.jr.reexec <<< 13)
  | 0x2C => (rwOf d 0x2C).toNat
  | 0x30 => (tailShown d).seq
  | 0x34 => (tailShown d).slot % 65536 + (((tailShown d).bind % 32) <<< 16)
  | 0x38 => sat 8191 (tailShown d).outstanding
  | 0x44 => idCommitStatus d
  | 0x48 => d.pwr.vhold % 65536 + (b2n d.pwr.vholdReady <<< 16) + ((d.pwr.source % 4) <<< 17)
  | 0x4C => low16 d.pwr.tempControl + (low16 d.pwr.tempPower <<< 16)
  | _ => 0

/-- The ring block (R72). -/
def readRing (d : Dev) (off : Nat) : Nat :=
  if off = 0x0404 then b2n (engineOn d) + 2 * b2n d.ring.writeIgnored + 4 * b2n d.ring.fetchError + (journalFree d <<< 16)
  else if 0x0500 ≤ off ∧ off < 0x0900 then
    let n := (off - 0x0500) / 32
    match off % 32 with
    | 0x14 => (subU d n).next
    | 0x18 => stateWord d n
    | 0x1C => 0
    | _ => (rwOf d off).toNat
  else if 0x0900 ≤ off ∧ off < 0x0B00 ∧ off % 16 = 12 then
    let m := (off - 0x0900) / 16
    (cplU d m).prod % 65536 + (b2n (cplU d m).phase <<< 16) + (b2n (decide (cplSize d m ≠ 0) && cplFull d m) <<< 17) + (sat 8191 (queued d m) <<< 18)
  else (rwOf d off).toNat

/-- RESERVE and REPLAN descriptors that are due but not started (R165). -/
def boardWaiting (d : Dev) : Nat := ((entries d).filter (fun x => onEngine x && x.st == .accepted && decide (x.accTick + 4 ≤ d.clk.tick))).length

/-- FB_WINDOW_DATA (R165). -/
def boardWindow (d : Dev) : Nat :=
  let col := rwF d 0x1070 0 12
  let row := rwF d 0x1070 12 7
  if row < 67 then (bankWord (if rwF d 0x1070 20 1 = 1 then shadowBank d else liveBank d) row col).toNat
  else if row = 67 then (d.fb.epoch.get 0 col).toNat
  else 0

/-- The switch fret in force of a REPLAN in flight (R165). -/
def switchShown (d : Dev) : Nat := match d.fb.replan with | some p => p.switch | none => 0

/-- The fingerboard block (R165); BUSY while a build is under way. -/
def readBoard (d : Dev) (off : Nat) : Nat :=
  match off with
  | 0x1004 => b2n d.fb.liveB + ((match d.fb.replan with | some p => p.st % 8 | none => 0) <<< 1)
      + (b2n (match d.fb.replan with | some p => !p.ready | none => false) <<< 4)
      + ((d.fb.epoch.get 0 (d.clk.fret % 4096)).toNat <<< 8) + ((boardWaiting d % 8192) <<< 16)
  | 0x1008 => fretLow d
  | 0x100C => d.cfg.fretHigh
  | 0x1018 => sat 65535 d.fb.pin + (sat 65535 d.fb.pinBase <<< 16)
  | 0x1038 => d.fb.eShown
  | 0x103C => d.fb.epShown
  | 0x1040 => switchShown d % 2 ^ 32
  | 0x1044 => switchShown d / 2 ^ 32
  | 0x1048 => d.fb.admitted
  | 0x104C => d.fb.rejected
  | 0x1050 => d.fb.precharge
  | 0x1054 => d.fb.event.toNat
  | 0x1058 => d.fb.overdrawn.toNat % 2 ^ 32
  | 0x105C => d.fb.overdrawn.toNat / 2 ^ 32
  | 0x1060 => d.fb.deficitFret
  | 0x1070 => (rwOf d 0x1070).toNat
  | 0x1074 => boardWindow d
  | _ => (stagedOf d off).toNat

/-- The block of a string (R200). -/
def readString (d : Dev) (off : Nat) : Nat :=
  let k := (off - 0x2000) / 64
  let u := strU d k
  match off % 64 with
  | 0x04 => (stagedOf d off).toNat % 65536 + (sat 65535 u.capo <<< 16)
  | 0x30 => u.st.code + (min 31 (inService d k).length <<< 4) + (min 15 (hiccupsIn d k) <<< 9) + (b2n (u.overClamp || u.capoClamp) <<< 13) + ((u.slew % 1024) <<< 16)
  | 0x34 => shown16 u.vMeas + (low16 (Config.showRound (u.iOut * 40)) <<< 16)
  | 0x38 => shown16 ((u.vRamp : Rat) / 1000) + (sat 65535 u.vCmd <<< 16)
  | 0x3C => u.event.toNat % 64 + (sat 65535 u.idle <<< 16)
  | _ => (stagedOf d off).toNat

/-- The block of a phase (R201). -/
def readPhase (d : Dev) (off : Nat) : Nat :=
  let p := (off - 0x8000) / 128
  let u := phU d p
  match off % 128 with
  | 0x10 => phaseState d p
      + (match stringOf d p with
        | some k => (b2n (lead d k == some p) <<< 3) + (k <<< 4) + ((if (inService d k).contains p then rankOf d k p % 16 else 0) <<< 10)
        | none => 0)
      + ((ratNat u.derate % 256) <<< 16)
  | 0x14 => low16 u.current + (low16 u.temp <<< 16)
  | 0x18 => u.duty % 65536 + ((u.period % 65536) <<< 16)
  | 0x1C => u.cause % 8 + ((u.fault % 65536) <<< 16)
  | 0x20 => u.limited
  | _ => (stagedOf d off).toNat

/-- The stage link block (R232). -/
def readLinks (d : Dev) (off : Nat) : Nat :=
  if off = 0x3008 then bitsOf ((List.range 16).map (fun k => (lkU d k).st == .up)) + (bitsOf ((List.range 16).map (fun k => (lkU d k).st == .retired)) <<< 16)
  else if off < 0x3100 then (stagedOf d off).toNat
  else
    let l := lkU d ((off - 0x3100) / 32)
    match off % 32 with
    | 0x00 => l.st.code + 8 * b2n l.resendOk + 16 * b2n l.stageSafe + ((l.delay % 256) <<< 8)
    | 0x04 => sat 65535 l.down + (sat 65535 l.up <<< 16)
    | 0x08 => sat 1023 l.last + (sat 1023 l.peak <<< 16)
    | 0x0C => sat 65535 l.sameTick + (sat 65535 l.late <<< 16)
    | 0x10 => l.stageId % 65536 + ((l.caps % 256) <<< 16)
    | 0x14 => l.status % 65536 + ((l.stageLost % 65536) <<< 16)
    | 0x18 => l.event.toNat
    | _ => (stagedOf d off).toNat

/-- SEQ_STATUS (R259). -/
def seqStatus (d : Dev) : Nat :=
  (match d.seq.run with
    | some r => (runPlace r).2 % 16 + (((runPlace r).1 % 4) <<< 4) + (b2n (r.phase == .unwind) <<< 6) + (b2n (r.phase == .hold) <<< 7) + (b2n r.waitPeers <<< 8)
    | none => 0)
  + (b2n d.seq.bootDefaulted <<< 9) + (sat 255 d.seq.dischTimeouts <<< 16)

/-- The sequencer block (R259). -/
def readSeq (d : Dev) (off : Nat) : Nat :=
  if off < 0x3880 then
    let r := railU d ((off - 0x3800) / 16)
    match off % 16 with
    | 0 => (stagedOf d off).toNat % (if off < 0x3860 then 2 ^ 18 else 2 ^ 16)
    | 12 => r.vMeas % 1024 + (b2n r.enabled <<< 10) + (b2n r.pgood <<< 11) + (r.levels.toNat <<< 12) + ((r.iMeas % 65536) <<< 16)
    | _ => (stagedOf d off &&& rsMask off).toNat
  else if off < 0x38A0 then (bootStep d ((off - 0x3880) / 4)).toNat % 2 ^ 26
  else if 0x38D0 ≤ off ∧ off < 0x38E0 then
    let p := peerU d ((off - 0x38D0) / 4)
    p.st % 4 + ((p.delay % 256) <<< 8) + (sat 65535 p.lost <<< 16)
  else
    match off with
    | 0x38A4 => seqStatus d
    | 0x38B0 => (stagedOf d off).toNat % 32 + (b2n d.pins.pressed <<< 8) + (b2n d.pins.nmr <<< 9) + (b2n (hrst d) <<< 10)
    | 0x38B4 => d.seq.event.toNat
    | 0x38B8 => d.seq.warned.toNat % 2 ^ 32
    | 0x38BC => d.seq.warned.toNat / 2 ^ 32
    | 0x38C0 => (stagedOf d off).toNat % 1024 + (bitsOf (d.seq.peers.map (fun p => p.st == 2)) <<< 16)
    | _ => (stagedOf d off &&& rsMask off).toNat

/-- CHG_STATUS (R284). -/
def chgStatus (d : Dev) : Nat :=
  d.chg.st.code + (b2n d.chg.timedOut <<< 4) + (b2n d.chg.present <<< 5) + ((d.chg.zone % 8) <<< 6) + (b2n d.chg.calibrated <<< 9)
  + (b2n d.pins.psuLimit <<< 10) + (b2n d.pins.psuOk <<< 11)

/-- The charger block (R284). -/
def readCharger (d : Dev) (off : Nat) : Nat :=
  match off with
  | 0x402C => d.chg.rideLevel % 65536
  | 0x4030 => chgStatus d
  | 0x4034 => sat 65535 d.chg.iFound + (sat 65535 d.chg.iIn <<< 16)
  | 0x4038 => sat 65535 d.chg.vPack + (low16 d.chg.iPack <<< 16)
  | 0x403C => low16 d.chg.temp + (sat 65535 d.chg.elapsed <<< 16)
  | 0x4040 => d.chg.delivered / 40000
  | 0x4044 => d.chg.ep
  | 0x4048 => d.chg.event.toNat
  | _ => (stagedOf d off &&& rsMask off).toNat

/-- FLT_OUTSTANDING (R312). -/
def fltOutstanding (d : Dev) : Nat :=
  bitsOf ((List.range 4).map (fun s => d.flt.srcs.any (fun e => e.2.status && (match srcInfo (srcCode e.1) with | some i => i.severity == s | none => false))))
  + (b2n (takenAtLeast d .regionSafe) <<< 4) + (b2n (droneTaken d) <<< 5) + (b2n d.flt.naliveFrozen <<< 6) + (b2n d.flt.naliveLevel <<< 7)

/-- FLT_LAST (R312). -/
def fltLast (d : Dev) : Nat := d.flt.lastCode + (d.flt.lastSeverity <<< 16) + (d.flt.lastReaction.code <<< 18)

/-- FLT_SOURCE_CONFIG of a source (R312). -/
def sourceConfig (d : Dev) (i : Nat) : Nat :=
  match srcInfo (srcCode i) with
  | none => 0
  | some s => fld (stagedOf d (fltKey i)) 0 4 + (s.dflt.code <<< 8) + ((srcFloor s).code <<< 11) + (s.severity <<< 14) + (s.scope <<< 16) + (s.cls <<< 19) + (1 <<< 21)

/-- The collector block (R312). `held` are the sources whose physical condition holds (log 2). -/
def readFaults (d : Dev) (held : List Nat) (off : Nat) : Nat :=
  let i := rwF d 0x480C 0 9
  let s := d.flt.srcs.get {} i
  if 0x4840 ≤ off ∧ off < 0x4880 then (statusWord d ((off - 0x4840) / 4)).toNat
  else match off with
  | 0x4800 => b2n d.flt.naliveTest
  | 0x4804 => fltOutstanding d
  | 0x4808 => d.flt.event.toNat
  | 0x480C => i
  | 0x4810 => sourceConfig d i
  | 0x4814 => s.count + (s.taken.code <<< 16) + (b2n (!causeGone d held (srcCode i)) <<< 19) + (b2n s.status <<< 20)
  | 0x4818 => s.first
  | 0x481C => s.fret
  | 0x4820 => d.flt.refusedCount + (d.flt.refusedCode <<< 16)
  | 0x4824 => d.flt.selChecker + (d.flt.selInst <<< 4) + (d.flt.selBits <<< 12) + (b2n d.flt.selObserve <<< 14) + (b2n d.flt.pending <<< 16) + (b2n d.flt.refused <<< 17) + (b2n d.flt.cancelled <<< 18)
  | 0x4828 => d.flt.resCode + (d.flt.resReaction <<< 16) + (b2n d.flt.resObserved <<< 19) + (b2n d.flt.resReal <<< 20)
  | 0x482C => d.flt.regRetired.toNat + (d.flt.regHeld.toNat <<< 4)
  | 0x4830 => fltLast d
  | _ => 0

/-- The target that holds an active source (R325). -/
def ownerOf (d : Dev) (n : Nat) : Nat := ((List.range 4).find? (fun t => (stackOf d t).any (fun e => e.1 == n))).getD 0

/-- The interrupt block (R325). -/
def readInt (d : Dev) (off : Nat) : Nat :=
  if 0x5010 ≤ off ∧ off < 0x5030 then bitsOf ((List.range 32).map (fun b => (List.range 4).any (fun t => pendingFor d t (8 * (off - 0x5010) + b))))
  else if 0x5030 ≤ off ∧ off < 0x5050 then bitsOf ((List.range 32).map (fun b => activeSrc d (8 * (off - 0x5030) + b)))
  else if 0x5100 ≤ off ∧ off < 0x5500 then
    let n := (off - 0x5100) / 4
    if reservedSource n then 0
    else (rwOf d off).toNat + (b2n (srcTargets d n 2) <<< 6) + (b2n (level d n) <<< 8) + (b2n (refired d n) <<< 9) + (b2n (activeSrc d n) <<< 10) + (ownerOf d n <<< 11)
  else if off = 0x5000 then (rwOf d off).toNat
  else 0

/-- The timer block (R331), TMR_CAPTURE apart. -/
def readTimers (d : Dev) (off : Nat) : Nat :=
  let t := (off - 0x5800) / 32
  match off % 32 with
  | 0x00 => (tmrU d t).ctl.toNat
  | 0x04 => (tmrU d t).count.toNat
  | 0x08 => (tmrU d t).compare.toNat
  | 0x10 => tmrStatus d t
  | _ => 0

/-- The watchdog block (R339). -/
def readWatch (d : Dev) (off : Nat) : Nat :=
  match off with
  | 0x6000 => d.wd.openAt
  | 0x6004 => d.wd.closeAt
  | 0x6008 => d.wd.setup.toNat
  | 0x600C => b2n d.wd.on + 2 * b2n d.wd.rejected
  | 0x6010 => d.wd.count
  | _ => 0

/-- A word of the SECRET area, which the window does not show (R355). -/
def secretWord (w : Nat) : Bool := decide (0xE4 ≤ w ∧ w < 0xEC)

/-- The OTP block (R355). -/
def readOtp (d : Dev) (off : Nat) : Nat :=
  let w := rwF d 0x6808 0 9
  if 0x6900 ≤ off ∧ off < 0x6A00 then (d.otp.buffer.getD ((off - 0x6900) / 4) 0).toNat
  else match off with
  | 0x6800 => sat 511 (otpCount d .marginal) + (sat 511 (otpCount d .bad) <<< 9) + (b2n d.otp.trimDefaulted <<< 18) + (b2n (secretValid d) <<< 19)
      + (bitsOf ((List.range 4).map (slotValid d)) <<< 20) + (bitsOf ((List.range 4).map (slotRevoked d)) <<< 24)
  | 0x6804 => rollbackValue d + (b2n (counterMarginal d 0x100 128) <<< 8) + (epochValue d <<< 16) + (b2n (counterMarginal d 0x180 64) <<< 23)
  | 0x6808 => w
  | 0x680C => if secretWord w then 0 else (shadowOf d w).val.toNat
  | 0x6810 => (otpState d w).code + 8 * b2n (d.otp.programmed.contains w) + ((if secretWord w then 0 else (shadowOf d w).chk % 128) <<< 4)
  | 0x6814 => b2n d.otp.enable <<< 16
  | 0x6818 => otpWord d
  | 0x681C => (otpData d).toNat
  | 0x6824 => b2n d.otp.cmd.isSome + (d.otp.result <<< 1) + (d.otp.reason <<< 4) + (b2n d.otp.ignored <<< 7) + (d.otp.word <<< 8)
  | 0x6830 => d.otp.bootImage + (d.otp.bootSlot <<< 1) + (b2n d.mm.fwValid <<< 3) + (d.otp.bootRollback <<< 4) + (d.otp.rejectA <<< 12) + (d.otp.rejectB <<< 16)
  | 0x6834 => d.otp.bootVersion.toNat
  | 0x6840 => (rwOf d off).toNat + (b2n d.otp.flashBusy <<< 20) + (b2n d.otp.flashDenied <<< 21)
  | 0x6844 => (rwOf d off).toNat
  | _ => 0

/-- Bytes 0–29 of a record (R356). -/
def recordBody (r : Record) : List Nat :=
  leBytes 2 r.code ++ leBytes 1 r.source ++ leBytes 1 r.flags ++ leBytes 4 r.cycle ++ leBytes 4 (r.second + (r.hours <<< 12))
  ++ leBytes 4 r.p0 ++ leBytes 4 r.p1 ++ leBytes 4 r.p2 ++ leBytes 4 r.p3 ++ leBytes 2 r.seq

/-- The 32 bytes of a record, its CRC last (R356). -/
def recordBytes (r : Record) : List Nat := recordBody r ++ leBytes 2 (crc16 (recordBody r))

/-- A slot of the log as R363 shows it: its state, and its bytes. -/
def logSlot (d : Dev) (n : Nat) : Nat × List Nat :=
  if d.rcd.bad.contains n then (2, List.replicate 32 0)
  else match d.rcd.log.get none n with
    | some r => (1, recordBytes r)
    | none => (0, List.replicate 32 0)

/-- Four bytes of a list as a word (R1). -/
def wordAt (bs : List Nat) (i : Nat) : Nat := (List.range 4).foldl (fun a j => a + (bs.getD (i + j) 0 <<< (8 * j))) 0

/-- REC_STATUS (R378). -/
def recStatus (d : Dev) : Nat :=
  min 8191 (logNext d.rcd) + (d.rcd.buffer.length <<< 14) + (b2n d.rcd.full <<< 21) + (b2n d.rcd.clearing <<< 22) + (b2n d.rcd.flushing <<< 23) + (b2n d.rcd.refused <<< 24)

/-- The recorder and replay block (R378). -/
def readRecorder (d : Dev) (off : Nat) : Nat :=
  let slot := logSlot d (rwF d 0x7014 0 13)
  if 0x7020 ≤ off ∧ off < 0x7040 then wordAt slot.2 (off - 0x7020)
  else match off with
  | 0x7004 => recStatus d
  | 0x7008 => d.rcd.discarded + (d.rcd.dropped <<< 16)
  | 0x700C => d.rcd.cycle
  | 0x7010 => d.rcd.seconds % 3600 + ((d.rcd.seconds / 3600 % 2 ^ 20) <<< 12)
  | 0x7018 => slot.1
  | 0x7040 => d.rcd.event.toNat
  | 0x7120 => captureState d
  | 0x7214 => replayStatus d
  | 0x7218 => d.cap.divFret
  | _ => (rwOf d off).toNat

/-- A request that the power-down keeps in the journal shows LATCHED (R391, R398). -/
def slotState (d : Dev) (s : MpSlot) : MpState :=
  match s.entry with
  | some e => if (match entryOf d e with | some x => x.latched | none => false) then .latched else s.st
  | none => s.st

/-- MP_RESULT_ORDINARY, MP_RESULT_URGENT (R398). -/
def resultWord (d : Dev) (s : MpSlot) : Nat :=
  (slotState d s).code + (s.status <<< 8) + (s.tag <<< 16) + (s.frm <<< 24) + (s.dest <<< 28)

/-- MP_STATUS (R398). -/
def mpStatus (d : Dev) : Nat :=
  d.mp.address % 128 + (b2n d.mp.busy <<< 7) + (b2n d.mp.blockZero <<< 8) + (b2n d.mp.badCommand <<< 9) + (b2n d.mp.pecMissing <<< 10)
  + (b2n d.mp.requestBusy <<< 11) + (b2n d.mp.windowRefused <<< 12) + (b2n d.mp.checkinIgnored <<< 13)

/-- MP_CLEAR_RESULT (R398). -/
def mpClearResult (d : Dev) : Nat := d.mp.clearCode + (d.mp.clearResult <<< 16)

/-- The management port's block (R398). -/
def readPort (d : Dev) (off : Nat) : Nat :=
  match off with
  | 0x7808 => mpStatus d
  | 0x780C => d.mp.event.toNat
  | 0x7810 => resultWord d d.mp.ordinary
  | 0x7814 => resultWord d d.mp.urgent
  | 0x7818 => mpClearResult d
  | 0x781C => d.mp.window
  | 0x7820 => d.mp.slot + (d.mp.count <<< 16)
  | 0x7824 => d.mp.transactions + (d.mp.nacks <<< 16)
  | _ => (rwOf d off).toNat

/-- BAR2 at an offset: the claim pages, that of target 2 reading 0, the MSI-X table and the pending bits (R62, R324). -/
def readPage (d : Dev) (x : Nat) : Nat :=
  if x < 0x400 then
    (if x / 256 = 2 then 0
     else match x % 256 with
      | 0x00 => claimOf d (x / 256)
      | 0x08 => stackWord d (x / 256)
      | 0x0C => at' 0 d.int.spurious (x / 256)
      | _ => 0)
  else if 0x800 ≤ x ∧ x < 0x880 then (at' 0 d.pci.table ((x - 0x800) / 4)).toNat
  else if x = 0xC00 then d.pci.pending.toNat
  else 0

/-- The configuration header at an offset, and the word of MSI-X control behind it (R62, log 13): 64-bit memory BARs of 64 KiB and 4 KiB, not
prefetchable. -/
def readHeader (d : Dev) (x : Nat) : Nat :=
  match x with
  | 0x00 => 0x64401EA7
  | 0x08 => (0x118000 <<< 8) + idStepping % 256
  | 0x10 => (at' 0 d.pci.bars 0).toNat + 4
  | 0x14 => (at' 0 d.pci.bars 1).toNat
  | 0x18 => (at' 0 d.pci.bars 2).toNat + 4
  | 0x1C => (at' 0 d.pci.bars 3).toNat
  | 0x2C => 0x64401EA7
  | 0x40 => (7 <<< 16) + (b2n d.pci.mask <<< 30) + (b2n d.pci.enable <<< 31)
  | _ => 0

/-- The value of a register, without the effects of a read; reserved offsets read 0 (R2). A staged field reads as its staged copy (R3). Offsets
from 0x10000 are those of BAR2, from 0x20000 those of the configuration header (log 13). -/
def regValue (d : Dev) (held : List Nat) (off : Nat) : Nat :=
  if off < 0x0400 then readId d off
  else if off < 0x1000 then readRing d off
  else if off < 0x2000 then readBoard d off
  else if off < 0x3000 then readString d off
  else if off < 0x3300 then readLinks d off
  else if off < 0x3800 then 0
  else if off < 0x4000 then readSeq d off
  else if off < 0x4800 then readCharger d off
  else if off < 0x5000 then readFaults d held off
  else if off < 0x5800 then readInt d off
  else if off < 0x5900 then readTimers d off
  else if off < 0x6000 then 0
  else if off < 0x6800 then readWatch d off
  else if off < 0x7000 then readOtp d off
  else if off < 0x7800 then readRecorder d off
  else if off < 0x8000 then readPort d off
  else if off < 0xA000 then readPhase d off
  else if 0x10000 ≤ off ∧ off < 0x11000 then readPage d (off - 0x10000)
  else if 0x20000 ≤ off then readHeader d (off - 0x20000)
  else 0

/-- The bus reaches a register: the management bus runs, and the register's domain is powered (R393). The function's own words are in HOST. -/
def reached (d : Dev) (off : Nat) : Bool :=
  powered d .mgmt && powered d (if 0x10000 ≤ off then .host else regDomain d off)

/-- A read of FB_FRET_LOW returns the low bits and latches the rest (R165). -/
def readFretLow (d : Dev) : Dev :=
  if powered d .sched then answer { d with cfg := { d.cfg with fretHigh := d.clk.fret / 2 ^ 32 % 65536 + (d.clk.tickInFret <<< 16) } } (fretLow d) else answer d 0

/-- FB_FRET_LOW_READ (R165). -/
def execFbFretLowRead (s : State) : Host.Outcome State Fault Refusal := run readFretLow s

/-- A read with its effects: FB_FRET_LOW latches, TMR_CAPTURE pops, INT_CLAIM claims (R3, R165, R317, R329). An unpowered register reads 0 (R393). -/
def busRead (d : Dev) (held : List Nat) (off : Nat) : Dev :=
  if !reached d off then answer d 0
  else if off = 0x1008 then readFretLow d
  else if 0x5800 ≤ off ∧ off < 0x5900 ∧ off % 32 = 12 then readTmrCapture d ((off - 0x5800) / 32)
  else if 0x10000 ≤ off ∧ off < 0x10400 ∧ off % 256 = 0 ∧ off ≠ 0x10200 then claimRead d ((off - 0x10000) / 256)
  else answer d (regValue d held off)

/-! ### Writing -/

/-- A write to staged fields (R3, R195); in the tick of a commit it lands after it (R196). -/
def writeStaged (d : Dev) (key : Nat) (v : Word) : Dev :=
  if commitDue d then { d with cfg := { d.cfg with after := d.cfg.after ++ [(key, v)] } }
  else setStaged d key (merge (stagedOf d key) v (rsMask key))

/-- A write to plain fields (R3). -/
def writePlain (d : Dev) (off : Nat) (v : Word) : Dev := setRw d off (merge (rwOf d off) v (rwMask off))

/-- W1C bits under a mask (R3). -/
def w1c (old v mask : Word) : Word := old &&& ~~~(v &&& mask)

/-- W1C of one flag (R3). -/
def w1cBit (old : Bool) (v : Word) (b : Nat) : Bool := old && !bit v b

/-- The identity block (R59, R127, R199). -/
def writeId (d : Dev) (off : Nat) (v : Word) : Dev :=
  match off with
  | 0x1C => { d with mm := { d.mm with event := w1c d.mm.event v 0x7F } }
  | 0x24 => { d with jr := { d.jr with restored := w1cBit d.jr.restored v 16, lost := w1cBit d.jr.lost v 17, rebuilt := w1cBit d.jr.rebuilt v 18 } }
  | 0x2C => writePlain d off v
  | 0x40 =>
    let d := if bit v 0 then requestCommit d else d
    if bit v 1 then discardStaged d else d
  | 0x44 => { d with cfg := { d.cfg with refused := w1cBit d.cfg.refused v 2 } }
  | _ => d

/-- A word of a submission ring (R72, R73). -/
def writeSubWord (d : Dev) (n off : Nat) (v : Word) : Dev :=
  match off % 32 with
  | 0x08 => writeSubControl d n v
  | 0x0C => if fld v 0 13 = 0 ∨ 4096 < fld v 0 13 then ignoreWrite d else writePlain d off v
  | 0x14 => if subSize d n ≠ 0 ∨ v = 0 then ignoreWrite d else updSub d n (fun r => { r with next := v.toNat })
  | 0x00 => if subSize d n ≠ 0 then ignoreWrite d else writePlain d off v
  | 0x04 => if subSize d n ≠ 0 then ignoreWrite d else writePlain d off v
  | 0x10 => if subSize d n ≠ 0 then ignoreWrite d else writePlain d off v
  | _ => d

/-- A word of a completion ring (R72, R73). -/
def writeCplWord (d : Dev) (m off : Nat) (v : Word) : Dev :=
  match off % 16 with
  | 0x08 => writeCplControl d m v
  | 0x00 => if cplSize d m ≠ 0 then ignoreWrite d else writePlain d off v
  | 0x04 => if cplSize d m ≠ 0 then ignoreWrite d else writePlain d off v
  | _ => d

/-- The ring block (R72, R73). -/
def writeRing (d : Dev) (off : Nat) (v : Word) : Dev :=
  if off = 0x0400 then writeRingControl d v
  else if off = 0x0404 then { d with ring := { d.ring with writeIgnored := w1cBit d.ring.writeIgnored v 1, fetchError := w1cBit d.ring.fetchError v 2 } }
  else if 0x0408 ≤ off ∧ off < 0x0430 then (if rwF d 0x0400 0 1 = 1 then ignoreWrite d else writePlain d off v)
  else if 0x0500 ≤ off ∧ off < 0x0900 then writeSubWord d ((off - 0x0500) / 32) off v
  else if 0x0900 ≤ off ∧ off < 0x0B00 then writeCplWord d ((off - 0x0900) / 16) off v
  else d

/-- The fingerboard block (R165): clearing DEFICIT clears FB_DEFICIT_FRET. -/
def writeBoard (d : Dev) (off : Nat) (v : Word) : Dev :=
  match off with
  | 0x1054 => { d with fb := { d.fb with event := w1c d.fb.event v 0x1F, deficitFret := if bit v 1 then 0 else d.fb.deficitFret } }
  | 0x1058 => { d with fb := { d.fb with overdrawn := d.fb.overdrawn &&& ~~~(BitVec.ofNat 64 v.toNat) } }
  | 0x105C => { d with fb := { d.fb with overdrawn := d.fb.overdrawn &&& ~~~(BitVec.ofNat 64 (v.toNat <<< 32)) } }
  | 0x1070 => writePlain d off v
  | _ => if rsMask off = 0 then d else writeStaged d off v

/-- The block of a string (R192, R200). -/
def writeString (d : Dev) (off : Nat) (v : Word) : Dev :=
  let k := (off - 0x2000) / 64
  match off % 64 with
  | 0x30 => if bit v 31 then reinstateString d k else d
  | 0x3C => updStr d k (fun u => { u with event := w1c u.event v 0x3F })
  | _ => if rsMask off = 0 then d else writeStaged d off v

/-- The stage link block (R226, R232). -/
def writeLinks (d : Dev) (off : Nat) (v : Word) : Dev :=
  let k := (off - 0x3100) / 32
  if 0x3100 ≤ off ∧ off % 32 = 0x18 then updLk d k (fun l => { l with event := w1c l.event v 0x3F })
  else
    let d := if rsMask off = 0 then d else writeStaged d off v
    if 0x3100 ≤ off ∧ off % 32 = 0x1C ∧ bit v 31 = true then reinstateLink d k else d

/-- The sequencer block (R242, R259). -/
def writeSeq (d : Dev) (off : Nat) (v : Word) : Dev :=
  match off with
  | 0x38A0 => if bit v 0 then releaseHold d else d
  | 0x38B4 => { d with seq := { d.seq with event := w1c d.seq.event v 0x1FFF } }
  | 0x38B8 => { d with seq := { d.seq with warned := d.seq.warned &&& ~~~(BitVec.ofNat 64 v.toNat) } }
  | 0x38BC => { d with seq := { d.seq with warned := d.seq.warned &&& ~~~(BitVec.ofNat 64 (v.toNat <<< 32)) } }
  | _ => if rsMask off = 0 then d else writeStaged d off v

/-- The charger block (R284). -/
def writeCharger (d : Dev) (off : Nat) (v : Word) : Dev :=
  if off = 0x4048 then { d with chg := { d.chg with event := w1c d.chg.event v 0x1FF } }
  else if rsMask off = 0 then d else writeStaged d off v

/-- The collector block (R295, R300, R304, R309, R312). -/
def writeFaults (d : Dev) (held : List Nat) (off : Nat) (v : Word) : Dev :=
  if 0x4840 ≤ off ∧ off < 0x4880 then clearBlock d ((off - 0x4840) / 4) v held
  else match off with
  | 0x4800 => writeNaliveTest d (bit v 0)
  | 0x4808 => { d with flt := { d.flt with event := w1c d.flt.event v 0x3F } }
  | 0x480C => writePlain d off v
  | 0x4810 => let i := rwF d 0x480C 0 9; if (srcInfo (srcCode i)).isSome then writeStaged d (fltKey i) v else d
  | 0x4824 => writeInject d v
  | 0x482C => foldN 4 (fun d r => if bit v (8 + r) then reinstateRegion d r else d) d
  | _ => d

/-- The timer block (R326, R328, R331). -/
def writeTimers (d : Dev) (off : Nat) (v : Word) : Dev :=
  let t := (off - 0x5800) / 32
  match off % 32 with
  | 0x00 => writeTmrControl d t v
  | 0x04 => writeTmrCount d t v
  | 0x08 => writeTmrCompare d t v
  | 0x10 => updTmr d t (fun u => { u with matched := w1cBit u.matched v 0, overflow := w1cBit u.overflow v 2 })
  | _ => d

/-- The watchdog block; its three set-up words are ignored once it is locked (R333, R339). -/
def writeWatch (d : Dev) (off : Nat) (v : Word) : Dev :=
  match off with
  | 0x6000 => if d.wd.on then d else { d with wd := { d.wd with openAt := v.toNat } }
  | 0x6004 => if d.wd.on then d else { d with wd := { d.wd with closeAt := v.toNat } }
  | 0x6008 => writeWdSetup d v
  | 0x600C => { d with wd := { d.wd with rejected := w1cBit d.wd.rejected v 1 } }
  | _ => d

/-- The OTP block (R347, R348, R352, R355). -/
def writeOtp (d : Dev) (off : Nat) (v : Word) : Dev :=
  if 0x6900 ≤ off ∧ off < 0x6A00 then { d with otp := { d.otp with buffer := d.otp.buffer.set ((off - 0x6900) / 4) v } }
  else match off with
  | 0x6814 => writeService d (fld v 0 16)
  | 0x6820 => otpCommand d (fld v 0 3) (fld v 16 9)
  | 0x6824 => { d with otp := { d.otp with ignored := w1cBit d.otp.ignored v 7 } }
  | 0x6840 => writeFlash { d with otp := { d.otp with flashDenied := w1cBit d.otp.flashDenied v 21 } } v
  | _ => if rwMask off = 0 then d else writePlain d off v

/-- A SIZE of a capture or replay ring (R378). -/
def byteRingOk (s : Nat) : Bool := s == 0 || decide (23 ≤ s ∧ s ≤ 34)

/-- One SIZE field: in use or not a legal size, the write leaves it (R378). -/
def newSize (old new : Nat) (busy : Bool) : Nat := if busy || !byteRingOk new then old else new

/-- REC_CAPTURE_CONTROL (R378); enabling the ring resets its counts (R365). -/
def writeCaptureControl (d : Dev) (v : Word) : Dev :=
  let old := rwF d 0x7108 0 6
  let s := newSize old (fld v 0 6) (captureActive d)
  let d := writePlain d 0x7108 (merge v (w32 s) (w32 0x3F))
  if old = 0 ∧ s ≠ 0 then { d with cap := { d.cap with producer := 0, consumer := 0, oldest := 0, snapshot := 0, prevSnapshot := 0, fretPos := 0, starts := [] } } else d

/-- REC_REPLAY_CONTROL (R378); enabling a ring resets its counts (R365). -/
def writeReplayControl (d : Dev) (v : Word) : Dev :=
  let oi := rwF d 0x7210 0 6
  let oo := rwF d 0x7210 8 6
  let i := newSize oi (fld v 0 6) (replayActive d)
  let o := newSize oo (fld v 8 6) (replayActive d)
  let d := writePlain d 0x7210 (merge v (w32 (i + (o <<< 8))) (w32 0x3F3F))
  let d := if oi = 0 ∧ i ≠ 0 then { d with cap := { d.cap with inProducer := 0, inConsumer := 0 } } else d
  if oo = 0 ∧ o ≠ 0 then { d with cap := { d.cap with outProducer := 0, outConsumer := 0 } } else d

/-- The recorder and replay block (R359, R364, R378): bases and line addresses stand while they are in use. -/
def writeRecorder (d : Dev) (off : Nat) (v : Word) : Dev :=
  if off = 0x7000 then
    let d := if bit v 0 then startFlush d else d
    if bit v 1 then startClear d (fld v 16 16) else d
  else if off = 0x7004 then { d with rcd := { d.rcd with refused := w1cBit d.rcd.refused v 24 } }
  else if off = 0x7040 then { d with rcd := { d.rcd with event := w1c d.rcd.event v 0xF } }
  else if off = 0x7108 then writeCaptureControl d v
  else if off = 0x7210 then writeReplayControl d v
  else if off = 0x7100 ∨ off = 0x7104 then (if captureActive d then d else writePlain d off v)
  else if 0x7110 ≤ off ∧ off < 0x7120 then (if captureActive d || replayActive d then d else writePlain d off v)
  else if 0x7200 ≤ off ∧ off < 0x7210 then (if replayActive d then d else writePlain d off v)
  else if rwMask off = 0 then d else writePlain d off v

/-- The management port's block (R395, R398): a pad delay above 32 is ignored. -/
def writePort (d : Dev) (off : Nat) (v : Word) : Dev :=
  match off with
  | 0x7800 => writePlain d off v
  | 0x7804 =>
    let keep (lo : Nat) : Nat := if 32 < fld v lo 6 then rwF d 0x7804 lo 6 else fld v lo 6
    setRw d 0x7804 (w32 (keep 0 + (keep 8 <<< 8)))
  | 0x7808 => { d with mp := { d.mp with blockZero := w1cBit d.mp.blockZero v 8, badCommand := w1cBit d.mp.badCommand v 9, pecMissing := w1cBit d.mp.pecMissing v 10, requestBusy := w1cBit d.mp.requestBusy v 11, windowRefused := w1cBit d.mp.windowRefused v 12, checkinIgnored := w1cBit d.mp.checkinIgnored v 13 } }
  | 0x780C => { d with mp := { d.mp with event := w1c d.mp.event v 0xF } }
  | 0x781C => { d with mp := { d.mp with window := fld v 2 14 * 4 } }
  | 0x7820 => { d with mp := { d.mp with slot := fld v 0 14, count := fld v 16 3 } }
  | _ => d

/-- BAR2 (R62, R324): INT_COMPLETE of a page, that of target 2 ignored, and the MSI-X table. -/
def writePage (d : Dev) (x : Nat) (v : Word) : Dev :=
  if x < 0x400 then (if x % 256 = 4 ∧ x / 256 ≠ 2 then completeWrite d (x / 256) (fld v 0 8) else d)
  else if 0x800 ≤ x ∧ x < 0x880 then
    { d with pci := { d.pci with table := d.pci.table.set ((x - 0x800) / 4) (v &&& (match x / 4 % 4 with | 0 => w32 0xFFFFFFFC | 3 => w32 1 | _ => w32 0xFFFFFFFF)) } }
  else d

/-- The address bits of the four BAR words, and MSI-X control (R62, R316, log 13). -/
def writeHeader (d : Dev) (x : Nat) (v : Word) : Dev :=
  match x with
  | 0x10 => { d with pci := { d.pci with bars := d.pci.bars.set 0 (v &&& w32 0xFFFF0000) } }
  | 0x14 => { d with pci := { d.pci with bars := d.pci.bars.set 1 v } }
  | 0x18 => { d with pci := { d.pci with bars := d.pci.bars.set 2 (v &&& w32 0xFFFFF000) } }
  | 0x1C => { d with pci := { d.pci with bars := d.pci.bars.set 3 v } }
  | 0x40 => { d with pci := { d.pci with mask := bit v 30, enable := bit v 31 } }
  | _ => d

/-- A write to a register of BAR0, of BAR2 or of the header, by the access codes of its fields (R3); an unpowered register, a reserved offset and a read-only
field ignore it. -/
def busWrite (d : Dev) (held : List Nat) (off : Nat) (v : Word) : Dev :=
  if !reached d off then d
  else if off < 0x0400 then writeId d off v
  else if off < 0x1000 then writeRing d off v
  else if off < 0x2000 then writeBoard d off v
  else if off < 0x3000 then writeString d off v
  else if off < 0x3300 then writeLinks d off v
  else if off < 0x3800 then d
  else if off < 0x4000 then writeSeq d off v
  else if off < 0x4800 then writeCharger d off v
  else if off < 0x5000 then writeFaults d held off v
  else if off = 0x5000 then writeGlobal d (bit v 0)
  else if off < 0x5800 then (if rwMask off = 0 then d else writePlain d off v)
  else if off < 0x5900 then writeTimers d off v
  else if off < 0x6000 then d
  else if off < 0x6800 then writeWatch d off v
  else if off < 0x7000 then writeOtp d off v
  else if off < 0x7800 then writeRecorder d off v
  else if off < 0x8000 then writePort d off v
  else if off < 0xA000 then (if rsMask off = 0 then d else writeStaged d off v)
  else if 0x10000 ≤ off ∧ off < 0x11000 then writePage d (off - 0x10000) v
  else if 0x20000 ≤ off then writeHeader d (off - 0x20000) v
  else d

/-- REGISTER_WRITE (R3); `held` are the sources whose physical condition holds, for a write to FLT_STATUS (R304). -/
def execRegisterWrite (offset : Nat) (v : Word) (held : List Nat) (s : State) : Host.Outcome State Fault Refusal :=
  run (fun d => busWrite d held offset v) s

end Sys2Proof.Machine
end

