-- ==== Sys2Proof/Machine/Port.lean ====
section
/-!
DEFINITION. The two-wire management port (R379–R398). A write's bytes are those after the command code, its PEC byte last if it has one.
-/
set_option Elab.async false
namespace Sys2Proof.Machine

/-! ### Transactions (R380, R382, R383, R386, R387) -/

/-- A transaction addressed to the port begins (R383, R398). -/
def portBegin (d : Dev) : Dev := { d with mp := { d.mp with busy := true, transactions := sat 65535 (d.mp.transactions + 1) } }

/-- Its STOP. -/
def portEnd (d : Dev) : Dev := { d with mp := { d.mp with busy := false } }

/-- A transaction of a port that answers (R380). -/
def transact (d : Dev) (f : Dev → Dev) : Dev := if powered d .mgmt then portEnd (f (portBegin d)) else d

/-- A NACK of the port (R383). -/
def portNack (d : Dev) : Dev := emit { d with mp := { d.mp with nacks := sat 65535 (d.mp.nacks + 1) } } .portNack

/-- BAD_COMMAND (R382, R383). -/
def portBad (d : Dev) : Dev := { d with mp := { d.mp with badCommand := true } }

/-- BLOCK_ZERO (R387). -/
def portZero (d : Dev) : Dev := { d with mp := { d.mp with blockZero := true } }

/-- The PEC of a write: CRC-8 over the address byte, the command code and the data (R379). -/
def writePec (d : Dev) (code : Nat) (bs : List Byte) : Nat := crc8 (2 * (d.mp.address % 128) :: code :: bs.map (fun b => b.toNat))

/-- A write with `n` data bytes: its byte count, then its PEC; only then it executes (R382, R386). -/
def portWrite (d : Dev) (code n : Nat) (bs : List Byte) (act : Dev → List Byte → Dev) : Dev :=
  let body := bs.take n
  if bs.length < n then portBad d
  else if bs.length = n then
    (if rwF d 0x7800 0 1 = 1 then setMpEvent { d with mp := { d.mp with pecMissing := true } } 2 else act d body)
  else if (bs.getD n 0).toNat ≠ writePec d code body then setMpEvent (portNack d) 2
  else if n + 1 < bs.length then portBad d
  else act d body

/-- Little-endian value of some bytes (R1). -/
def leValue : List Byte → Nat
  | [] => 0
  | b :: bs => b.toNat + 256 * leValue bs

/-- A read of 32 bits (R382). -/
def portRead (d : Dev) (f : Dev → Nat) : Dev := transact d (fun d => answer d (f d))

/-- A block read (R382). -/
def portBlock (d : Dev) (f : Dev → List Nat) : Dev := transact d (fun d => { d with busBlock := f d })

/-! ### Reads (R388) -/

/-- IDENT (R388). -/
def execIdent (s : State) : Host.Outcome State Fault Refusal := run (fun d => portRead d (fun _ => 0x64401EA7)) s
/-- MP_MODE (R388). -/
def execMpMode (s : State) : Host.Outcome State Fault Refusal := run (fun d => portRead d idMode) s
/-- MODE_CAUSE (R388). -/
def execModeCause (s : State) : Host.Outcome State Fault Refusal := run (fun d => portRead d idModeCause) s
/-- OUTSTANDING (R388). -/
def execOutstanding (s : State) : Host.Outcome State Fault Refusal := run (fun d => portRead d fltOutstanding) s
/-- PORT_STATUS (R388). -/
def execPortStatus (s : State) : Host.Outcome State Fault Refusal := run (fun d => portRead d mpStatus) s
/-- RESULT_ORDINARY (R388). -/
def execResultOrdinary (s : State) : Host.Outcome State Fault Refusal := run (fun d => portRead d (fun d => resultWord d d.mp.ordinary)) s
/-- RESULT_URGENT (R388). -/
def execResultUrgent (s : State) : Host.Outcome State Fault Refusal := run (fun d => portRead d (fun d => resultWord d d.mp.urgent)) s
/-- CLEAR_RESULT (R388). -/
def execClearResult (s : State) : Host.Outcome State Fault Refusal := run (fun d => portRead d mpClearResult) s
/-- MP_FRET: 0 while SCHED is unpowered; no latch (R382, R388). -/
def execMpFret (s : State) : Host.Outcome State Fault Refusal := run (fun d => portRead d (fun d => if powered d .sched then fretLow d else 0)) s
/-- LAST_FAULT (R388). -/
def execLastFault (s : State) : Host.Outcome State Fault Refusal := run (fun d => portRead d fltLast) s
/-- MP_CHARGER: 0 while AUX is unpowered (R388). -/
def execMpCharger (s : State) : Host.Outcome State Fault Refusal := run (fun d => portRead d (fun d => if powered d .aux then chgStatus d else 0)) s
/-- RECORDER (R388). -/
def execRecorder (s : State) : Host.Outcome State Fault Refusal := run (fun d => portRead d recStatus) s

/-- MODE_BLOCK: seven registers of four bytes (R388). -/
def modeBlockBytes (d : Dev) : List Nat :=
  [idMode d, idModeCause d, idDomain d, d.mm.event.toNat, idBoot d, idJournal d, fltOutstanding d].flatMap (leBytes 4)
/-- MODE_BLOCK (R388). -/
def execModeBlock (s : State) : Host.Outcome State Fault Refusal := run (fun d => portBlock d modeBlockBytes) s

/-- FAULT_LIST: the sixteen FLT_STATUS words (R388). -/
def faultListBytes (d : Dev) : List Nat := (List.range 16).flatMap (fun b => leBytes 4 (statusWord d b).toNat)
/-- FAULT_LIST (R388). -/
def execFaultList (s : State) : Host.Outcome State Fault Refusal := run (fun d => portBlock d faultListBytes) s

/-- STACK (R388, R394). -/
def execStack (s : State) : Host.Outcome State Fault Refusal := run (fun d => portRead d (fun d => stackWord d 3)) s
/-- CLAIM: the claim read of target 3 (R394). -/
def execClaim (s : State) : Host.Outcome State Fault Refusal := run (fun d => transact d (fun d => claimRead d 3)) s

/-- RECORD_WINDOW: COUNT state bytes and COUNT records; slots above 8191 are EMPTY; a completed read moves SLOT on (R388). -/
def recordWindow (d : Dev) (complete : Bool) : Dev :=
  let qs := (List.range d.mp.count).map (fun i => if d.mp.slot + i < 8192 then logSlot d (d.mp.slot + i) else (0, List.replicate 32 0))
  let d := { d with busBlock := qs.map (fun q => q.1) ++ qs.flatMap (fun q => q.2) }
  if complete then { d with mp := { d.mp with slot := min 8192 (d.mp.slot + d.mp.count) } } else d
/-- RECORD_WINDOW (R388). -/
def execRecordWindow (complete : Bool) (s : State) : Host.Outcome State Fault Refusal := run (fun d => transact d (fun d => recordWindow d complete)) s

/-- ALERT_RESPONSE: the port's address in bits 7:1 while IRQ_N is low (R381). -/
def alertRead (d : Dev) : Dev :=
  if powered d .mgmt && decide (rwF d 0x7800 2 1 = 1) && irqLow d then answer d (2 * (d.mp.address % 128)) else d
/-- ALERT_RESPONSE (R381). -/
def execAlertResponse (s : State) : Host.Outcome State Fault Refusal := run alertRead s

/-! ### Writes -/

/-- RECORD_SELECT's four bytes (R387, R388). -/
def selectRecords (d : Dev) (bs : List Byte) : Dev :=
  let slot := leValue (bs.take 2)
  let count := (bs.getD 2 0).toNat
  let wrong := decide (8191 < slot ∨ 7 < count) || bs.getD 3 0 != 0
  let d := if count = 0 then portZero d else d
  let d := if wrong then portBad d else d
  if wrong || count == 0 then d else { d with mp := { d.mp with slot := slot, count := count } }

/-- A Block Write of four bytes (R382, R387). -/
def recordSelect (d : Dev) (bs : List Byte) : Dev :=
  match bs with
  | [] => portBad d
  | c :: _ => if c = 0 then portZero d else if c ≠ 4 then portBad d else portWrite d 0x42 5 bs (fun d b => selectRecords d (b.drop 1))

/-- RECORD_SELECT (R388). -/
def execRecordSelect (bytes : List Byte) (s : State) : Host.Outcome State Fault Refusal := run (fun d => transact d (fun d => recordSelect d bytes)) s

/-- CHECKIN advances the slot-7 counter of the watchdog, or is ignored (R332, R392). -/
def checkIn (d : Dev) : Dev :=
  if wdSlot7 d then { d with wd := { d.wd with slot7 := d.wd.slot7 + 1 } } else { d with mp := { d.mp with checkinIgnored := true } }

/-- CHECKIN (R392). -/
def execCheckin (bytes : List Byte) (s : State) : Host.Outcome State Fault Refusal :=
  run (fun d => transact d (fun d => portWrite d 0x81 0 bytes (fun d _ => checkIn d))) s

/-- FAULT_CLEAR: as a write of 1 to the status bit; its outcome in MP_CLEAR_RESULT (R392). -/
def clearFault (d : Dev) (held : List Nat) (code : Nat) : Dev :=
  if (srcInfo code).isNone then { d with mp := { d.mp with clearCode := code, clearResult := 3 } }
  else
    let d := clearStatus d held code
    { d with mp := { d.mp with clearCode := code, clearResult := if (srcOf d code).status then 2 else 1 } }

/-- FAULT_CLEAR (R392). -/
def execFaultClear (bytes : List Byte) (held : List Nat) (s : State) : Host.Outcome State Fault Refusal :=
  run (fun d => transact d (fun d => portWrite d 0x82 2 bytes (fun d b => clearFault d held (leValue b)))) s

/-- COMPLETE (R394). -/
def execComplete (bytes : List Byte) (s : State) : Host.Outcome State Fault Refusal :=
  run (fun d => transact d (fun d => portWrite d 0xC9 4 bytes (fun d b => completeWrite d 3 (leValue b % 256)))) s

/-! ### The register window (R393) -/

/-- WINDOW_ADDRESS (R388). -/
def execWindowAddress (bytes : Option (List Byte)) (s : State) : Host.Outcome State Fault Refusal :=
  run (fun d => transact d (fun d => match bytes with
    | none => answer d d.mp.window
    | some bs => portWrite d 0xC0 2 bs (fun d b => { d with mp := { d.mp with window := leValue b / 4 * 4 } }))) s

/-- A window write, or its refusal (R393). -/
def windowWrite (d : Dev) (held : List Nat) (v : Word) : Dev :=
  let off := d.mp.window
  if rwF d 0x7800 1 1 = 0 || off == 0x7800 || off == 0x7804 || !reached d off then { d with mp := { d.mp with windowRefused := true } }
  else busWrite d held off v

/-- The offset advances by 4 (R388, R393). -/
def windowOn (d : Dev) : Dev := { d with mp := { d.mp with window := (d.mp.window + 4) % 65536 } }

/-- WINDOW_DATA and WINDOW_NEXT: a read, or a write that executes (R382, R393). -/
def windowAccess (d : Dev) (code : Nat) (bytes : Option (List Byte)) (held : List Nat) (after : Dev → Dev) : Dev :=
  transact d (fun d => match bytes with
    | none => after (busRead d held d.mp.window)
    | some bs => portWrite d code 4 bs (fun d b => after (windowWrite d held (w32 (leValue b)))))

/-- WINDOW_DATA (R393). -/
def execWindowData (bytes : Option (List Byte)) (held : List Nat) (s : State) : Host.Outcome State Fault Refusal :=
  run (fun d => windowAccess d 0xC1 bytes held (fun d => d)) s

/-- WINDOW_NEXT (R393). -/
def execWindowNext (bytes : Option (List Byte)) (held : List Nat) (s : State) : Host.Outcome State Fault Refusal :=
  run (fun d => windowAccess d 0xC2 bytes held windowOn) s

/-! ### Mode requests (R389–R391) -/

/-- Targets of the urgent slot (R390). -/
def urgentTarget (t : Nat) : Bool := t == 10 || t == 9 || t == 0

/-- Change the slot of a target. -/
def updSlot (d : Dev) (t : Nat) (f : MpSlot → MpSlot) : Dev :=
  if urgentTarget t then { d with mp := { d.mp with urgent := f d.mp.urgent } } else { d with mp := { d.mp with ordinary := f d.mp.ordinary } }

/-- The request as the image of a MODE descriptor (R80, R91, R389). -/
def requestImage (s : MpSlot) : Image := BitVec.ofNat 512 (5 + (4 <<< 16) + (s.target <<< 64) + (s.reserved <<< 68))

/-- The request enters the journal, behind the ring descriptors accepted in the next tick (R389). -/
def enterRequest (d : Dev) (s : MpSlot) : Dev :=
  let x : Entry := { idx := freeIdx (d.jr.primary ++ writing d), ring := 32, slot := 0, seq := 0, bind := 0, image := requestImage s, accTick := d.clk.tick + 1, accFret := (d.clk.fret * 32 + d.clk.tickInFret + 1) / 32 }
  let d := mapJournal d (fun l => placeEntry (d.clk.tick + 1) l x)
  captureEntry (updSlot d s.target (fun s => { s with st := .accepted, entry := some x.idx })) x

/-- The slot is DONE at once, with its status and modes (R390, R391). -/
def doneNow (d : Dev) (s : MpSlot) (st : Status) (frm dest : Mode) : Dev :=
  setMpEvent (updSlot d s.target (fun s => { s with st := .done, status := st.code, frm := frm.code, dest := dest.code })) 3

/-- An urgent request in BOOT acts on the mode machine directly at its due tick (R391); a preempted power-up ends in COLD (R50). -/
def requestInBoot (d : Dev) (s : MpSlot) : Dev :=
  match Mode.ofCode s.target with
  | some .shutdown => doneNow (requestDown d false .hostPort 0x00FF none) s .ok .boot .cold
  | some .off => doneNow (requestDown d true .hostPort 0x00FF none) s .ok .boot .cold
  | _ => doneNow { d with mm := { d.mm with safeAfterBoot := some (d.mm.safeAfterBoot.getD (.hostPort, 0x00FF)) } } s .ok .boot .safe

/-- A request in BOOT that is not to wait for its due tick: one that R91 or R40 forbids, or an ordinary one (R389, R391). -/
def refuseInBoot (d : Dev) (s : MpSlot) : Dev :=
  match s.reserved, Mode.ofCode s.target with
  | 0, some m => if m == .cold || m == .boot || m == .ride then doneNow d s .badField .boot .boot else doneNow d s .modeRefused .boot .boot
  | _, _ => doneNow d s .badField .boot .boot

/-- The journal takes a request: it has room, and the power die can acknowledge (R107, R389, R390). -/
def requestRoom (d : Dev) : Bool := decide (journalFree d ≠ 0) && !ackWaits d && !d.jr.frozen

/-- The due tick of an urgent request that came in BOOT (R391). Where BOOT has ended meanwhile, the request enters the journal, or finds no
mode to act in. -/
def bootRequest (d : Dev) (s : MpSlot) : Dev :=
  if d.mp.urgent != s then d
  else if d.mm.mode == .boot then requestInBoot d s
  else if d.mm.mode == .cold || d.mm.mode == .off then doneNow d s .modeRefused d.mm.mode d.mm.mode
  else if requestRoom d then enterRequest d s else d

/-- MODE_REQUEST (R389–R391). -/
def modeRequest (d : Dev) (bs : List Byte) : Dev :=
  let low := (bs.getD 0 0).toNat
  let t := low % 16
  let old := if urgentTarget t then d.mp.urgent else d.mp.ordinary
  if old.st != .none && old.st != .done then { d with mp := { d.mp with requestBusy := true } }
  else
    let s : MpSlot := { st := .waiting, tag := (bs.getD 1 0).toNat, target := t, reserved := low / 16 }
    let d := updSlot d t (fun _ => s)
    if d.mm.mode == .boot then
      (if urgentTarget t && s.reserved == 0 then { d with waiting := d.waiting ++ [(d.clk.tick + 5, .request s)] } else refuseInBoot d s)
    else if requestRoom d then enterRequest d s
    else d

/-- MODE_REQUEST (R389). -/
def execModeRequest (bytes : List Byte) (s : State) : Host.Outcome State Fault Refusal :=
  run (fun d => transact d (fun d => portWrite d 0x80 2 bytes modeRequest)) s

/-- MP_REQUEST_ENQUEUE: a request that waits for room, or for the power die, enters the journal, the urgent one first (R42, R390). -/
def enqueueRequest (d : Dev) : Dev :=
  if !powered d .mgmt || d.mm.mode == .boot || !requestRoom d then d
  else if d.mp.urgent.st == .waiting then enterRequest d d.mp.urgent
  else if d.mp.ordinary.st == .waiting then enterRequest d d.mp.ordinary
  else d

/-- MP_REQUEST_ENQUEUE (R390). -/
def execMpRequestEnqueue (s : State) : Host.Outcome State Fault Refusal := run enqueueRequest s

/-! ### Errors (R383, R385, R397) -/

/-- The command codes (R388). -/
def portCodes : List Nat :=
  [0x00, 0x01, 0x02, 0x03, 0x04, 0x05, 0x06, 0x07, 0x08, 0x09, 0x0A, 0x0B, 0x40, 0x41, 0x42, 0x43, 0x80, 0x81, 0x82, 0xC0, 0xC1, 0xC2, 0xC8, 0xC9, 0xCA]

/-- BAD_COMMAND: a reserved code is NACKed (R383). -/
def execBadCommand (code : Nat) (s : State) : Host.Outcome State Fault Refusal :=
  run (fun d => if portCodes.contains code then d else transact d (fun d => portBad (portNack d))) s

/-- A bus line is held for longer than 25 ms: its event and its source; the transaction, which is still without a STOP, is discarded (R385, R397). -/
def busTimeout (d : Dev) (b src us code index : Nat) : Dev :=
  if !powered d .mgmt || decide (us ≤ 25000) then d
  else
    let d := if code = 0xFFFFFFFF then d else portBegin d
    detect (setMpEvent d b) src us code index

/-- MP_SCL_TIMEOUT (R385). -/
def execMpSclTimeout (us code index : Nat) (s : State) : Host.Outcome State Fault Refusal := run (fun d => busTimeout d 0 0x1900 us code index) s
/-- MP_SDA_STUCK (R385). -/
def execMpSdaStuck (us code index : Nat) (s : State) : Host.Outcome State Fault Refusal := run (fun d => busTimeout d 1 0x1901 us code index) s

end Sys2Proof.Machine
end

