-- ==== Sys2Proof/Machine/Inputs.lean ====
section
/-!
DEFINITION. Messages with a tick stamp act at their due tick (R15–R18): mode inputs and monitor samples; and the commands of the timebase, which
take those that waited (R14, R128, R129).
-/
set_option Elab.async false
namespace Sys2Proof.Machine

/-! ### Due ticks (R15–R18) -/

/-- Latency of a message, ticks (R17): a mode input of the power die 2, one of a sympathetic link crosses the dies; a monitor sample one
fret (log 56); a port request 4 from its acceptance in the tick after its STOP (R389). -/
def latency : Msg → Nat
  | .mode (.peerSafe _) => 4
  | .mode _ => 2
  | .monitor _ => 32
  | .request _ => 5

/-- A fault input is due in this tick and not yet taken: mode inputs of the tick come after it (R16). -/
def faultWaits (d : Dev) : Bool := d.flt.inbox.any (fun (f : FaultIn) => decide (f.due ≤ d.clk.tick))

/-- Messages can act now: no fault input of the tick is ahead of them, and its fret has begun (R16, R368). -/
def inputsOpen (d : Dev) : Bool := !faultWaits d && !d.clk.fretDue

/-- What a mode input does at its due tick (R28, R44, R45, R247, R248, R264). -/
def applyMode (d : Dev) : ModeIn → Dev
  | .inputLoss => inputLost d
  | .inputReturn vin => inputReturned d vin
  | .shortPress => actShort d
  | .longPress => actLong d
  | .nmr => nmrLow d
  | .peerSafe j => peerSafe d j

/-- What a message does at its due tick. -/
def applyMsg (d : Dev) : Msg → Dev
  | .mode m => applyMode d m
  | .monitor m => monitorSample d m
  | .request s => bootRequest d s

/-- A message is a mode input, which acts ahead of telemetry (R16). -/
def Msg.isMode : Msg → Bool
  | .mode _ => true
  | .monitor _ => false
  | .request _ => true

/-- The waiting messages whose tick has come act: mode inputs first (R16). -/
def takeDue (d : Dev) : Dev :=
  let now := d.waiting.filter (fun q => decide (q.1 ≤ d.clk.tick))
  if now.isEmpty then d
  else
    let d := { d with waiting := d.waiting.filter (fun q => decide (d.clk.tick < q.1)) }
    (now.filter (fun q => q.2.isMode) ++ now.filter (fun q => !q.2.isMode)).foldl (fun d q => applyMsg d q.2) d

/-- The same, once nothing of the tick is ahead of them. -/
def takeWaiting (d : Dev) : Dev := if inputsOpen d then takeDue d else d

/-- A late message is not applied (R18). A monitor sample of a fret that has closed was counted there. -/
def lateMsg (d : Dev) (due : Nat) : Msg → Dev
  | .mode _ => lateInput d 6 0
  | .request _ => d
  | .monitor _ =>
    if due + d.clk.tickInFret < d.clk.tick then d
    else lateInput { d with pwr := { d.pwr with monFret := d.clk.fret + 1 } } 3 0

/-- A message arrives with its stamp: it acts in its due tick, waits before it, and is late after it (R16–R18). -/
def arrive (d : Dev) (s : Stamp) (m : Msg) : Dev :=
  let due := stampTick d s + latency m
  if due < d.clk.tick then lateMsg d due m
  else if due = d.clk.tick ∧ inputsOpen d = true then applyMsg d m
  else { d with waiting := d.waiting ++ [(due, m)] }

/-! ### Mode inputs (R44, R247, R248, R264) -/

/-- INPUT_LOSS (R264). -/
def execInputLoss (s : State) (stamp : Stamp := 0) : Host.Outcome State Fault Refusal := run (fun d => arrive d stamp (.mode .inputLoss)) s

/-- INPUT_RETURN (R264). -/
def execInputReturn (vin : Nat) (s : State) (stamp : Stamp := 0) : Host.Outcome State Fault Refusal := run (fun d => arrive d stamp (.mode (.inputReturn vin))) s

/-- NMR_ASSERT (R248). -/
def execNmrAssert (s : State) (stamp : Stamp := 0) : Host.Outcome State Fault Refusal := run (fun d => arrive d stamp (.mode .nmr)) s

/-- A press acts as a long one at LONG_TIME, held or not after that (R247). -/
def pressLong (d : Dev) (stamp : Stamp) : Dev :=
  if longDue d (stampTick d stamp) then arrive { d with pins := { d.pins with longDone := true } } stamp (.mode .longPress) else d

/-- LONG_PRESS (R247). -/
def execLongPress (s : State) (stamp : Stamp := 0) : Host.Outcome State Fault Refusal := run (fun d => pressLong d stamp) s

/-- BUTTON_SHORT: the release of a press; one held for LONG_TIME has acted, or acts, as a long press (R247). -/
def pressEnd (d : Dev) (stamp : Stamp) : Dev :=
  if !d.pins.pressed then d
  else
    let d := pressLong d stamp
    let long := d.pins.longDone
    let d := { d with pins := { d.pins with pressed := false, longDone := false } }
    if long then d else arrive d stamp (.mode .shortPress)

/-- BUTTON_SHORT (R247). -/
def execButtonShort (s : State) (stamp : Stamp := 0) : Host.Outcome State Fault Refusal := run (fun d => pressEnd d stamp) s

/-- MONITOR_SAMPLE (R412). -/
def execMonitorSample (m : Monitor) (s : State) (stamp : Stamp := 0) : Host.Outcome State Fault Refusal := run (fun d => arrive d stamp (.monitor m)) s

/-- FAULT_RAISE (R291): mode inputs that waited for it act behind it (R16). -/
def execFaultRaise (inputs : List FaultIn) (s : State) : Host.Outcome State Fault Refusal := run (fun d => takeWaiting (faultRaise d inputs)) s

/-! ### Other packages (R250, R252) -/

/-- SYMPATHETIC_BLOCK from peer `j` (R250): its fields act at once, and the SAFE that it brings first is a mode input of this tick (R17, R28). -/
def peerBlock (d : Dev) (j : Nat) (b : Block) : Dev :=
  if !peerHears d j then d
  else if !peerGood b then peerBad d j
  else
    let f := peerFields b
    let old := (peerU d j).block
    let d := peerActs (trainPeer d j f) old f
    if f.safe && !old.safe then arrive d (BitVec.ofNat 16 d.clk.tick) (.mode (.peerSafe j)) else d

/-- SYMPATHETIC_BLOCK (R250). -/
def execSympatheticBlock (j : Nat) (b : Block) (s : State) : Host.Outcome State Fault Refusal := run (fun d => peerBlock d j b) s

/-! ### The timebase (R14, R128, R129) -/

/-- FRET_BOUNDARY: the boundary that the timebase, or the master's token, has brought (R14, R27, R128, R129). -/
def fretBoundary (d : Dev) : Dev :=
  if !d.clk.fretDue then d else fretEffects (takeWaiting (openFret (closeFret d)))

/-- FRET_BOUNDARY (R129). -/
def execFretBoundary (s : State) : Host.Outcome State Fault Refusal := run fretBoundary s

/-- TICK: a fret boundary and messages of the tick that ends which nothing took act now (log 2), the tick is worked off, and the next one
begins (R14, R16). -/
def doTick (d : Dev) (ups : List Upset) : Dev := takeWaiting (nextTick (endTick (takeDue (fretBoundary d)) ups))

/-- TICK (R14). -/
def execTick (s : State) (ups : List Upset := []) : Host.Outcome State Fault Refusal := run (fun d => doTick d ups) s

end Sys2Proof.Machine
end

