-- ==== Sys2Proof/Machine/Replay.lean ====
section
/-!
DEFINITION. One replay fret: captured inputs applied at their due ticks, the fast plane run on the snapshot's state, and the outputs written (R368, R373–R375).
-/
set_option Elab.async false
namespace Sys2Proof.Machine

/-! ### A captured input takes effect -/

/-- A block is rebuilt from a captured header and payload; its CRC is the one that R207 computes. -/
def blockOf (hdr : Nat) (ps : List Nat) : Block :=
  let bs := (hdr :: ps).take 33
  let n := bs.zipIdx.foldl (fun a q => a + ((q.1 % 256) <<< (8 * q.2))) 0
  BitVec.ofNat 280 (n + (crc16 bs <<< 264))

/-- Entries that a replayed descriptor takes with its lists (R79). -/
def replayCost (x : Entry) : Nat := 1 + ceilDiv x.segs.length 16 + x.adds.length

/-- The status fixed at acceptance, with its DETAIL (R76–R78, R88, R103). -/
def replayFixed (code seq : Nat) (i : Image) : Option (Status × Nat) :=
  if code = 0x13 then some (.badCheck, 0)
  else if code = 0x12 then some (.badField, if leAt i 4 4 ≠ seq then badDetail 4 0xFF 1 else badDetail (if opcodeOf i = 1 then 26 else 36) 0xFF 2)
  else none

/-- A DESCRIPTOR record begins an entry of the replay journal, or continues its lists; it was accepted 4 ticks before (R17, R366, R373). -/
def replayDescriptor (d : Dev) (kind ring e seq fx : Nat) (i : Image) : Dev :=
  if kind = 1 then
    updEntry d e (fun x =>
      let ws := (x.segs ++ (List.range 16).map (fun k => BitVec.ofNat 32 (leAt i (4 * k) 4))).take (leAt x.image 34 2)
      { x with segs := ws, cost := replayCost { x with segs := ws } })
  else if kind = 2 then
    updEntry d e (fun x =>
      let rs := x.adds ++ [i]
      let bad := match rs.findIdx? (fun a => !imageGood a) with | some k => k <<< 8 | none => 0
      { x with adds := rs, cost := replayCost { x with adds := rs }, fixed := (match x.fixed with | some (.badCheck, _) => some (.badCheck, bad) | f => f) })
  else
    let x : Entry := { idx := e, ring := if kind = 3 then 32 else ring, slot := 0, seq := seq, bind := 0, image := i, accTick := d.clk.tick - 4, accFret := if d.clk.tickInFret < 4 then d.clk.fret - 1 else d.clk.fret, fixed := replayFixed fx seq i }
    mapJournal d (fun l => l ++ [x])

/-- A MODE_INPUT acts in the replay (R368, R375). -/
def replayMode (d : Dev) (code : Nat) : Dev :=
  match code with
  | 1 => inputLost d
  | 2 => inputReturned d 0
  | 3 => actShort d
  | 4 => actLong d
  | 5 => if d.mm.mode == .armed || d.mm.mode == .run then enterModeWith d .hold .none 0 false else d
  | 6 => deviceSafe d .peerSafe 0
  | _ => d

/-- The values in force that a commit changed (R366, R368). -/
def replayCommit (old : Dev) (items : List (Nat × Nat)) : Dev :=
  let d := items.foldl (fun d q => if q.1 = 0x4810 then d else setStaged (setForce d q.1 (w32 q.2)) q.1 (w32 q.2)) old
  let d := foldN 64 (fun d k => newWorking d old none k) (settleKinds d)
  foldN 16 (fun d k => linkCommit old d k) d

/-- The capo that thermal derating gave a string (R366, R368). The stream holds no factor of a single phase, so the phases share one that gives
this capo, and a later retirement lowers it in proportion (R23, log 11). -/
def replayCapo (d : Dev) (k c : Nat) : Dev :=
  let ps := unretired d k
  let v : Rat := if strCapo d k = 0 ∨ ps.isEmpty then 256 else (256 * c * nPhases d k : Nat) / (strCapo d k * ps.length : Nat)
  setCapo (ps.foldl (fun d p => updPh d p (fun q => { q with derate := v, derateNext := none })) d) k c

/-- A value that the management plane handed over (R366, R368). -/
def replayMgmt (d : Dev) (kind : Nat) (items : List (Nat × Nat)) : Dev :=
  if kind = 3 then replayCommit d items
  else items.foldl (fun d q =>
    match kind with
    | 1 => replayCapo d q.1 q.2
    | 2 => retireLink d q.1 0
    | 4 => { d with fb := { d.fb with pin := q.2 } }
    | 5 => { d with chg := { d.chg with ep := q.2 } }
    | _ => d) d

/-- One captured input (R366, R368); fault inputs are taken together in `replayInputs`. -/
def replayInput (d : Dev) : CapRec → Dev
  | .descriptor kind ring e seq fx i => replayDescriptor d kind ring e seq fx i
  | .uplink k slot lt hdr ps =>
    let b := blockOf hdr ps
    if !listening d k then d
    else if lt then takeResend d k b
    else if slot = 0 then takeTelemetry d k b
    else takeStageStatus d k b
  | .lost k slot => if listening d k then loseUplink d k (slot == 1) 0 else d
  | .monitor m => monitorSample d m
  | .modeInput c => replayMode d c
  | .mgmt kind items => replayMgmt d kind items
  | _ => d

/-- Captured inputs in stream order; neighbouring fault inputs are those of one tick and are raised together (R292). -/
def replayInputs (d : Dev) (fs : List FaultIn) : List CapRec → Dev
  | [] => if fs.isEmpty then d else raiseFaults d fs
  | .faultInput f :: rs => replayInputs d (fs ++ [f]) rs
  | r :: rs => replayInputs (replayInput (if fs.isEmpty then d else raiseFaults d fs) r) [] rs

/-- How far before its STAMP a captured input reached the device: a block arrived a tick before its sample is due (R17). -/
def replayLead : CapRec → Nat
  | .uplink _ _ lt _ _ => if lt then 0 else 1
  | _ => 0

/-- A captured input's time has come: stamps are compared modulo 2 ^ 16, within half the range. -/
def replayDue (tick stamp : Nat) (r : CapRec) : Bool := decide ((tick + replayLead r + 65536 - stamp % 65536) % 65536 < 32768)

/-! ### What the fast plane does by itself -/

/-- One waiting entry of the replay journal: it executes, or its wait or its work ends (R82, R95, R111, R420). -/
def replayEntry (d : Dev) (e : Nat) : Dev :=
  let d := match entryOf d e with
    | none => d
    | some x =>
      if x.deferred then deferredExecute [] d e
      else if classOf x.image == .mode then modeRow [] d e
      else execDesc d e (classOf x.image) (workOf [] x)
  timedEnd (fenceEnd d e) e

/-- The effects of a fret boundary, in the order of log 3. -/
def replayTop (d : Dev) : Dev :=
  if d.clk.tickInFret != 0 then d
  else
    let d := bankSwap (modeEffect [] (commitApply d))
    let d := foldN 64 profilePoint d
    let d := (entries d).foldl (fun d x => setpointEffect d x.idx) d
    rideFretEvent (publish (decisionPoint d))

/-- What strings and phases do at a tick (R183–R191). -/
def replayUnits (d : Dev) : Dev :=
  let d := foldN 64 (fun d k => overdraw (dischargeLate (dischargeDone (retryEvent (hiccupEvent d k) k) k) k) k) d
  foldN 64 (fun d p => followerEvent (senseEvent (openEvent d p) p) p) d

/-- What the sequencer does at a tick (R241–R246, R51). -/
def replaySequencer (d : Dev) : Dev :=
  let items := match d.seq.run with | some r => r.items | none => []
  let d := items.foldl (fun d i => if itemGood d i then d else itemBecomesGood d i) d
  let d := downLate (itemsLow (stepLate (delayEnd d)))
  unwindEnd (items.foldl unwindLate d)

/-- What the charger does at a tick (R270–R274). -/
def replayCharger (d : Dev) : Dev :=
  let d := rechargeStart (terminated (qualifyEnd d))
  followCharger (if timerOver d then timeOut (setCharger d .timeout) else d)

/-- All that happens in a tick besides its inputs. The device's own checkers are not heard: the captured FAULT_INPUTs are (R375). -/
def replayActs (d : Dev) : Dev :=
  let d := reAnchor (replayTop d)
  let d := ((entries d).map (fun x => x.idx)).foldl replayEntry d
  let d := enterRide (replaySequencer (replayUnits (buildDone d)))
  let d := replayCharger (foldN 16 (fun d k => recoveryTimeout d k) d)
  { d with flt := { d.flt with inbox := [] } }

/-- The inputs due now, in stream order, and the rest. -/
def splitDue (tick : Nat) (qs : List (Nat × CapRec)) : List CapRec × List (Nat × CapRec) :=
  let p := qs.partition (fun q => replayDue tick q.1 q.2)
  (p.1.map (fun q => q.2), p.2)

/-- A record of the second uplink slot, which follows D1 of its tick (R205, R216). -/
def secondSlot : CapRec → Bool
  | .uplink _ slot _ _ _ => slot == 1
  | .lost _ slot => slot == 1
  | _ => false

/-- Ticks of a replay fret (R14, R373). -/
def replayTicks : Nat → Dev → List (Nat × CapRec) → Dev
  | 0, d, _ => d
  | n + 1, d, qs =>
    let s := splitDue d.clk.tick qs
    let d := replayActs (replayInputs d [] (s.1.filter (fun r => !secondSlot r)))
    let d := replayInputs (foldN 16 sendSecond d) [] (s.1.filter secondSlot)
    replayTicks n (nextTick (endTick d [])) s.2

/-- Completions count as written: the replay takes no slot (R373, R375). -/
def settleJournal (d : Dev) : Dev :=
  let d := mapJournal d (fun l => l.map (fun x => { x with cpls := [] }))
  retireTimed { d with jr := { d.jr with due := [] } }

/-! ### A replay fret -/

/-- Bytes of a record of the input ring. -/
def inSize : RepRec → Nat
  | .snapshot _ _ _ n _ => capSize (.snapshot n)
  | .input _ r => capSize r

/-- Records that the replay passes over: a later snapshot and FREEZE. -/
def passes : RepRec → Bool
  | .snapshot .. => true
  | .input _ (.snapshot _) => true
  | .input _ (.freeze _ _) => true
  | _ => false

/-- A record that closes a fret's records: the next FRET, or END (R373). -/
def closes : RepRec → Bool
  | .input _ (.fret _ _ _) => true
  | .input _ (.ended _ _) => true
  | _ => false

/-- The records of a fret behind its FRET record. -/
def fretInputs (rs : List RepRec) : List (Nat × CapRec) :=
  rs.filterMap (fun r => match r with | .input st c => if passes r then none else some (st, c) | _ => none)

/-- The inputs of the next fret that reached the device before it began: blocks due at its tick 0 (log 11). -/
def aheadOf (tick : Nat) (rs : List RepRec) : List (Nat × CapRec) :=
  (fretInputs ((rs.drop 1).takeWhile (fun q => !closes q))).filter (fun q => replayDue (tick + 31) q.1 q.2)

/-- Inputs without those taken ahead already. -/
def without (taken qs : List (Nat × CapRec)) : List (Nat × CapRec) := taken.foldl (fun l q => l.erase q) qs

/-- The replay changes its state; the status line shows it (R365, R378). -/
def setReplay (d : Dev) (s : RepState) : Dev :=
  if d.cap.rst == s then d else statusLine { d with cap := { d.cap with rst := s } }

/-- The output ring has 128 KiB free (R373). -/
def outRoom (d : Dev) : Bool := decide (d.cap.outProducer + 131072 ≤ d.cap.outConsumer + replayRing d)

/-- The FRET output record and the comparison of the digests (R373, R374); the first fret has no replayed digest of its own before it. -/
def replayHead (d r : Dev) (f digest : Nat) : Dev :=
  let mine := if d.cap.replayed = 0 then digest else r.cap.digest
  let d := replayPut d r.clk.tick 0x47 0 (leBytes 8 f ++ leBytes 4 mine ++ leBytes 4 digest)
  if mine = digest ∨ d.cap.diverged = true then d
  else statusLine { d with cap := { d.cap with diverged := true, divFret := (f - 1) % 2 ^ 32 } }

/-- The outputs of the fret, in output order (R373). -/
def replayOutputs (d r : Dev) : Dev := (sortedOut (fretOuts r)).foldl (fun d q => replayPut d q.1 q.2.type q.2.info q.2.payload) d

/-- The replay's own device over one fret, and the state it stands in at the fret's end, before the boundary. -/
def replayRun (r : Dev) (qs : List (Nat × CapRec)) : Dev := settleJournal (replayTicks 32 { r with out := [], rcd := { r.rcd with buffer := [] } } qs)

/-- One fret runs, or the replay pauses or ends (R373–R375). The answer is the device, the replay's own, and what is left of the input. -/
def replayFret (d r : Dev) (rs : List RepRec) : Dev × Dev × List RepRec :=
  if !replayActive d || !powered d .host || d.pwr.ctlLost then (d, r, rs)
  else
    let skipped := rs.takeWhile passes
    let d := { d with cap := { d.cap with inConsumer := d.cap.inConsumer + (skipped.map inSize).sum } }
    let rs := rs.dropWhile passes
    match rs with
    | .input _ (.ended a b) :: rest =>
      (replayEnd { d with cap := { d.cap with inConsumer := d.cap.inConsumer + capSize (.ended a b) } } (b2n d.cap.diverged), r, rest)
    | .input st (.fret f digest n) :: rest =>
      if !rest.any closes then (setReplay d .pausedIn, r, rs)
      else if !outRoom d then (setReplay d .pausedOut, r, rs)
      else if d.cap.repAt = some d.clk.fret then (d, r, rs)
      else
        let mine := .input st (.fret f digest n) :: rest.takeWhile (fun q => !closes q)
        let d := replayHead (setReplay d .running) r f digest
        let ahead := aheadOf r.clk.tick (rest.dropWhile (fun q => !closes q))
        let e := replayRun r (without r.capQueue.due (fretInputs (rest.takeWhile (fun q => !closes q))) ++ ahead)
        let d := replayOutputs d e
        ({ d with cap := { d.cap with replayed := d.cap.replayed + 1, repAt := some d.clk.fret, inConsumer := d.cap.inConsumer + (mine.map inSize).sum } },
          { fretEffects (openFret (closeFret e)) with out := [], capQueue := { due := ahead } }, rest.dropWhile (fun q => !closes q))
    | _ => (setReplay d .pausedIn, r, rs)

/-- REPLAY_FRET (R373). -/
def execReplayFret (s : State) : Host.Outcome State Fault Refusal :=
  match s.rep with
  | none => .next s
  | some r =>
    let q := replayFret s.dev r s.repIn
    .next (withDev { s with rep := some q.2.1, repIn := q.2.2 } (settle q.1))

end Sys2Proof.Machine
end

