-- ==== Sys2Proof/Machine/Dispatch.lean ====
section
/-!
DEFINITION. One arm for each command of the table.
-/
namespace Sys2Proof.Machine

def exec (i : Instr) (s : State) : Host.Outcome State Fault Refusal :=
  match i with
  | .tick ups => Sys2Proof.Machine.execTick s ups
  | .fretBoundary => Sys2Proof.Machine.execFretBoundary s
  | .allotmentPublish => Sys2Proof.Machine.execAllotmentPublish s
  | .reAnchor => Sys2Proof.Machine.execReAnchor s
  | .managementTick => Sys2Proof.Machine.execManagementTick s
  | .monitorSample m1 stamp1 => Sys2Proof.Machine.execMonitorSample m1 s stamp1
  | .dieBlockReceive power1 b1 carried1 => Sys2Proof.Machine.execDieBlockReceive power1 b1 s carried1
  | .controlDieLost => Sys2Proof.Machine.execControlDieLost s
  | .powerDieLost => Sys2Proof.Machine.execPowerDieLost s
  | .controlDieRebuild fret1 => Sys2Proof.Machine.execControlDieRebuild fret1 s
  | .poll a1 b1 checkin1 capture1 replay1 => Sys2Proof.Machine.execPoll a1 b1 checkin1 capture1 replay1 s
  | .descriptorFetchReturn ring1 data1 => Sys2Proof.Machine.execDescriptorFetchReturn ring1 data1 s
  | .listFetchReturn ring1 data1 => Sys2Proof.Machine.execListFetchReturn ring1 data1 s
  | .acceptance ring1 => Sys2Proof.Machine.execAcceptance ring1 s
  | .fenceBeforeRelease e1 => Sys2Proof.Machine.execFenceBeforeRelease e1 s
  | .completionWrite ring1 => Sys2Proof.Machine.execCompletionWrite ring1 s
  | .nop e1 => Sys2Proof.Machine.execNop e1 s
  | .reserve e1 => Sys2Proof.Machine.execReserve e1 s
  | .replan e1 => Sys2Proof.Machine.execReplan e1 s
  | .replanBuildDone => Sys2Proof.Machine.execReplanBuildDone s
  | .decisionPoint => Sys2Proof.Machine.execDecisionPoint s
  | .bankSwap => Sys2Proof.Machine.execBankSwap s
  | .profile e1 => Sys2Proof.Machine.execProfile e1 s
  | .profilePoint k1 => Sys2Proof.Machine.execProfilePoint k1 s
  | .setpoint e1 => Sys2Proof.Machine.execSetpoint e1 s
  | .setpointEffect e1 => Sys2Proof.Machine.execSetpointEffect e1 s
  | .mode e1 => Sys2Proof.Machine.execMode e1 s
  | .modeTakesEffect => Sys2Proof.Machine.execModeTakesEffect s
  | .deferredModeExecute e1 => Sys2Proof.Machine.execDeferredModeExecute e1 s
  | .latchedOnExecute => Sys2Proof.Machine.execLatchedOnExecute s
  | .sequence e1 => Sys2Proof.Machine.execSequence e1 s
  | .configCommit e1 => Sys2Proof.Machine.execConfigCommit e1 s
  | .commitApply => Sys2Proof.Machine.execCommitApply s
  | .chargerStop e1 => Sys2Proof.Machine.execChargerStop e1 s
  | .chargerCharge e1 => Sys2Proof.Machine.execChargerCharge e1 s
  | .chargerSearch e1 => Sys2Proof.Machine.execChargerSearch e1 s
  | .chargerRideLevel e1 => Sys2Proof.Machine.execChargerRideLevel e1 s
  | .chargerClearTimeout e1 => Sys2Proof.Machine.execChargerClearTimeout e1 s
  | .chargerInputLimit e1 => Sys2Proof.Machine.execChargerInputLimit e1 s
  | .fence e1 => Sys2Proof.Machine.execFence e1 s
  | .fenceWaitEnd e1 => Sys2Proof.Machine.execFenceWaitEnd e1 s
  | .queryFreeEntries e1 => Sys2Proof.Machine.execQueryFreeEntries e1 s
  | .queryFret e1 => Sys2Proof.Machine.execQueryFret e1 s
  | .queryString e1 => Sys2Proof.Machine.execQueryString e1 s
  | .queryUnreserved e1 => Sys2Proof.Machine.execQueryUnreserved e1 s
  | .queryBankEnergy e1 => Sys2Proof.Machine.execQueryBankEnergy e1 s
  | .queryTag e1 => Sys2Proof.Machine.execQueryTag e1 s
  | .recordMark e1 => Sys2Proof.Machine.execRecordMark e1 s
  | .captureStop e1 => Sys2Proof.Machine.execCaptureStop e1 s
  | .captureStart e1 => Sys2Proof.Machine.execCaptureStart e1 s
  | .captureStartFreeze e1 => Sys2Proof.Machine.execCaptureStartFreeze e1 s
  | .captureBegin => Sys2Proof.Machine.execCaptureBegin s
  | .keyframeSnapshot => Sys2Proof.Machine.execKeyframeSnapshot s
  | .capturePostEnd => Sys2Proof.Machine.execCapturePostEnd s
  | .replayFret => Sys2Proof.Machine.execReplayFret s
  | .timedWorkEnd e1 => Sys2Proof.Machine.execTimedWorkEnd e1 s
  | .overdrawClamp k1 => Sys2Proof.Machine.execOverdrawClamp k1 s
  | .rideFret => Sys2Proof.Machine.execRideFret s
  | .uplinkTelemetry k1 b1 => Sys2Proof.Machine.execUplinkTelemetry k1 b1 s
  | .uplinkStatus k1 b1 => Sys2Proof.Machine.execUplinkStatus k1 b1 s
  | .uplinkResend k1 b1 => Sys2Proof.Machine.execUplinkResend k1 b1 s
  | .lostUplinkSlot k1 second1 header1 => Sys2Proof.Machine.execLostUplinkSlot k1 second1 header1 s
  | .resendDecision k1 => Sys2Proof.Machine.execResendDecision k1 s
  | .linkTrained k1 delay1 => Sys2Proof.Machine.execLinkTrained k1 delay1 s
  | .linkTrainFail k1 => Sys2Proof.Machine.execLinkTrainFail k1 s
  | .linkRecoveryTimeout k1 => Sys2Proof.Machine.execLinkRecoveryTimeout k1 s
  | .stringHiccup k1 => Sys2Proof.Machine.execStringHiccup k1 s
  | .hiccupRetry k1 => Sys2Proof.Machine.execHiccupRetry k1 s
  | .phaseOpen p1 => Sys2Proof.Machine.execPhaseOpen p1 s
  | .phaseSenseFailed p1 => Sys2Proof.Machine.execPhaseSenseFailed p1 s
  | .followerRetire p1 => Sys2Proof.Machine.execFollowerRetire p1 s
  | .safeDischargeDone k1 => Sys2Proof.Machine.execSafeDischargeDone k1 s
  | .safeDischargeTimeout k1 => Sys2Proof.Machine.execSafeDischargeTimeout k1 s
  | .itemPowerGood i1 => Sys2Proof.Machine.execItemPowerGood i1 s
  | .levelWarningTrip i1 over1 => Sys2Proof.Machine.execLevelWarningTrip i1 over1 s
  | .levelFaultTrip i1 over1 mv1 => Sys2Proof.Machine.execLevelFaultTrip i1 over1 mv1 s
  | .stepDelayEnd => Sys2Proof.Machine.execStepDelayEnd s
  | .stepTimeout => Sys2Proof.Machine.execStepTimeout s
  | .downItemsDischarged => Sys2Proof.Machine.execDownItemsDischarged s
  | .dischargeTimeout => Sys2Proof.Machine.execDischargeTimeout s
  | .domainPowerGood => Sys2Proof.Machine.execDomainPowerGood s
  | .unwindStepEnd => Sys2Proof.Machine.execUnwindStepEnd s
  | .unwindItemTimeout i1 => Sys2Proof.Machine.execUnwindItemTimeout i1 s
  | .referenceStartTimeout => Sys2Proof.Machine.execReferenceStartTimeout s
  | .fwVerifyDone a1 b1 flashBytes1 => Sys2Proof.Machine.execFwVerifyDone a1 b1 flashBytes1 s
  | .buttonShort stamp1 => Sys2Proof.Machine.execButtonShort s stamp1
  | .longPress stamp1 => Sys2Proof.Machine.execLongPress s stamp1
  | .nmrAssert stamp1 => Sys2Proof.Machine.execNmrAssert s stamp1
  | .nmrRelease => Sys2Proof.Machine.execNmrRelease s
  | .hrstRelease => Sys2Proof.Machine.execHrstRelease s
  | .minOffTimeEnd => Sys2Proof.Machine.execMinOffTimeEnd s
  | .sympatheticBlock j1 b1 => Sys2Proof.Machine.execSympatheticBlock j1 b1 s
  | .fretTokenArrival => Sys2Proof.Machine.execFretTokenArrival s
  | .fretTokenLost => Sys2Proof.Machine.execFretTokenLost s
  | .peerLinkLost j1 => Sys2Proof.Machine.execPeerLinkLost j1 s
  | .peerStepFail => Sys2Proof.Machine.execPeerStepFail s
  | .inputLoss stamp1 => Sys2Proof.Machine.execInputLoss s stamp1
  | .rideEntry => Sys2Proof.Machine.execRideEntry s
  | .inputReturn vin1 stamp1 => Sys2Proof.Machine.execInputReturn vin1 s stamp1
  | .psuLimitAsserted => Sys2Proof.Machine.execPsuLimitAsserted s
  | .searchStepStart vRef1 => Sys2Proof.Machine.execSearchStepStart vRef1 s
  | .searchDwellEnd vEnd1 limit1 held1 => Sys2Proof.Machine.execSearchDwellEnd vEnd1 limit1 held1 s
  | .qualifyRestEnd => Sys2Proof.Machine.execQualifyRestEnd s
  | .chargeTerminated => Sys2Proof.Machine.execChargeTerminated s
  | .recharge => Sys2Proof.Machine.execRecharge s
  | .chargeTimeout => Sys2Proof.Machine.execChargeTimeout s
  | .packAbsent => Sys2Proof.Machine.execPackAbsent s
  | .packInserted => Sys2Proof.Machine.execPackInserted s
  | .packDepleted => Sys2Proof.Machine.execPackDepleted s
  | .packOv => Sys2Proof.Machine.execPackOv s
  | .packExhausted cutoff1 => Sys2Proof.Machine.execPackExhausted cutoff1 s
  | .faultRaise inputs1 => Sys2Proof.Machine.execFaultRaise inputs1 s
  | .naliveHalfPeriod => Sys2Proof.Machine.execNaliveHalfPeriod s
  | .journalMismatch err1 => Sys2Proof.Machine.execJournalMismatch err1 s
  | .journalRebuildDone ok1 => Sys2Proof.Machine.execJournalRebuildDone ok1 s
  | .supplyFreeze => Sys2Proof.Machine.execSupplyFreeze s
  | .flushSealed => Sys2Proof.Machine.execFlushSealed s
  | .vholdExhausted => Sys2Proof.Machine.execVholdExhausted s
  | .supplyReturnOnVhold vin1 pack1 => Sys2Proof.Machine.execSupplyReturnOnVhold vin1 pack1 s
  | .aonPowerUp vin1 pack1 => Sys2Proof.Machine.execAonPowerUp vin1 pack1 s
  | .recorderFlushTrigger => Sys2Proof.Machine.execRecorderFlushTrigger s
  | .recorderBlockWritten first1 second1 => Sys2Proof.Machine.execRecorderBlockWritten first1 second1 s
  | .recordsDropped => Sys2Proof.Machine.execRecordsDropped s
  | .operatingSecond => Sys2Proof.Machine.execOperatingSecond s
  | .logClearDone => Sys2Proof.Machine.execLogClearDone s
  | .otpProgramDone normal1 tight1 => Sys2Proof.Machine.execOtpProgramDone normal1 tight1 s
  | .flashCommandDone data1 => Sys2Proof.Machine.execFlashCommandDone data1 s
  | .coreHalt => Sys2Proof.Machine.execCoreHalt s
  | .timerAdvance t1 => Sys2Proof.Machine.execTimerAdvance t1 s
  | .captureEvent t1 e1 => Sys2Proof.Machine.execCaptureEvent t1 e1 s
  | .watchdogWindowTimeout => Sys2Proof.Machine.execWatchdogWindowTimeout s
  | .watchdogWaitLimit => Sys2Proof.Machine.execWatchdogWaitLimit s
  | .watchdogClockLoss => Sys2Proof.Machine.execWatchdogClockLoss s
  | .functionReset => Sys2Proof.Machine.execFunctionReset s
  | .ringControlWrite v1 => Sys2Proof.Machine.execRingControlWrite v1 s
  | .ringSubControlWrite n1 v1 => Sys2Proof.Machine.execRingSubControlWrite n1 v1 s
  | .ringCplControlWrite m1 v1 => Sys2Proof.Machine.execRingCplControlWrite m1 v1 s
  | .commit => Sys2Proof.Machine.execCommit s
  | .discard => Sys2Proof.Machine.execDiscard s
  | .stringReinstate k1 => Sys2Proof.Machine.execStringReinstate k1 s
  | .linkReinstate k1 => Sys2Proof.Machine.execLinkReinstate k1 s
  | .regionReinstate mask1 => Sys2Proof.Machine.execRegionReinstate mask1 s
  | .release => Sys2Proof.Machine.execRelease s
  | .fltStatusClear block1 mask1 held1 => Sys2Proof.Machine.execFltStatusClear block1 mask1 held1 s
  | .naliveTest on1 => Sys2Proof.Machine.execNaliveTest on1 s
  | .injectArm v1 => Sys2Proof.Machine.execInjectArm v1 s
  | .intClaim t1 => Sys2Proof.Machine.execIntClaim t1 s
  | .intComplete t1 n1 => Sys2Proof.Machine.execIntComplete t1 n1 s
  | .globalEnable on1 => Sys2Proof.Machine.execGlobalEnable on1 s
  | .tmrControlWrite t1 v1 => Sys2Proof.Machine.execTmrControlWrite t1 v1 s
  | .tmrCountWrite t1 v1 => Sys2Proof.Machine.execTmrCountWrite t1 v1 s
  | .tmrCompareWrite t1 v1 => Sys2Proof.Machine.execTmrCompareWrite t1 v1 s
  | .tmrCaptureRead t1 => Sys2Proof.Machine.execTmrCaptureRead t1 s
  | .wdSetupWrite v1 => Sys2Proof.Machine.execWdSetupWrite v1 s
  | .fbFretLowRead => Sys2Proof.Machine.execFbFretLowRead s
  | .otpServiceKey key1 => Sys2Proof.Machine.execOtpServiceKey key1 s
  | .program confirm1 => Sys2Proof.Machine.execProgram confirm1 s
  | .programSecret confirm1 => Sys2Proof.Machine.execProgramSecret confirm1 s
  | .advanceRollback confirm1 => Sys2Proof.Machine.execAdvanceRollback confirm1 s
  | .advanceEpoch confirm1 => Sys2Proof.Machine.execAdvanceEpoch confirm1 s
  | .revoke confirm1 => Sys2Proof.Machine.execRevoke confirm1 s
  | .flashGo v1 => Sys2Proof.Machine.execFlashGo v1 s
  | .flush => Sys2Proof.Machine.execFlush s
  | .clear confirm1 => Sys2Proof.Machine.execClear confirm1 s
  | .registerWrite offset1 v1 held1 => Sys2Proof.Machine.execRegisterWrite offset1 v1 held1 s
  | .ident => Sys2Proof.Machine.execIdent s
  | .mpMode => Sys2Proof.Machine.execMpMode s
  | .modeCause => Sys2Proof.Machine.execModeCause s
  | .outstanding => Sys2Proof.Machine.execOutstanding s
  | .portStatus => Sys2Proof.Machine.execPortStatus s
  | .resultOrdinary => Sys2Proof.Machine.execResultOrdinary s
  | .resultUrgent => Sys2Proof.Machine.execResultUrgent s
  | .clearResult => Sys2Proof.Machine.execClearResult s
  | .mpFret => Sys2Proof.Machine.execMpFret s
  | .lastFault => Sys2Proof.Machine.execLastFault s
  | .mpCharger => Sys2Proof.Machine.execMpCharger s
  | .recorder => Sys2Proof.Machine.execRecorder s
  | .modeBlock => Sys2Proof.Machine.execModeBlock s
  | .faultList => Sys2Proof.Machine.execFaultList s
  | .recordSelect bytes1 => Sys2Proof.Machine.execRecordSelect bytes1 s
  | .recordWindow complete1 => Sys2Proof.Machine.execRecordWindow complete1 s
  | .modeRequest bytes1 => Sys2Proof.Machine.execModeRequest bytes1 s
  | .mpRequestEnqueue => Sys2Proof.Machine.execMpRequestEnqueue s
  | .checkin bytes1 => Sys2Proof.Machine.execCheckin bytes1 s
  | .faultClear bytes1 held1 => Sys2Proof.Machine.execFaultClear bytes1 held1 s
  | .windowAddress bytes1 => Sys2Proof.Machine.execWindowAddress bytes1 s
  | .windowData bytes1 held1 => Sys2Proof.Machine.execWindowData bytes1 held1 s
  | .windowNext bytes1 held1 => Sys2Proof.Machine.execWindowNext bytes1 held1 s
  | .claim => Sys2Proof.Machine.execClaim s
  | .complete bytes1 => Sys2Proof.Machine.execComplete bytes1 s
  | .stack => Sys2Proof.Machine.execStack s
  | .alertResponse => Sys2Proof.Machine.execAlertResponse s
  | .mpSclTimeout us1 code1 index1 => Sys2Proof.Machine.execMpSclTimeout us1 code1 index1 s
  | .mpSdaStuck us1 code1 index1 => Sys2Proof.Machine.execMpSdaStuck us1 code1 index1 s
  | .timebaseLost island1 => Sys2Proof.Machine.execTimebaseLost island1 s
  | .badOpcode e1 => Sys2Proof.Machine.execBadOpcode e1 s
  | .badCommand code1 => Sys2Proof.Machine.execBadCommand code1 s
  | .buttonPressStart => Sys2Proof.Machine.execButtonPressStart s
  | .coreResume => Sys2Proof.Machine.execCoreResume s

end Sys2Proof.Machine
end

