-- ==== Sys2Proof/Machine/Step.lean ====
section
/-!
DEFINITION. One step: take the command at the front of the queue and run it.
-/
set_option Elab.async false
namespace Sys2Proof.Machine

/-- Take the command at the front and run it on the state with the queue's rest; on an empty queue the block idles (log 5). -/
def step (s : State) : Host.Outcome State Fault Refusal :=
  match s.pending with
  | [] => .next s
  | c :: rest => exec c { s with pending := rest }

/-- `s` with the command a word spells at the front of its queue; no word spells one. -/
def State.withFetchWord (s : State) (nbits w : Nat) : State :=
  match decodeTableWord nbits w with
  | some c => { s with pending := c :: s.pending }
  | none => s

end Sys2Proof.Machine
end

