-- ==== Sys2Proof/Safety.lean ====
section
/-!
DEFINITION. What a safe run is, and the terms in which statements say what a command leaves alone.
-/
set_option Elab.async false
namespace Sys2Proof.Safety
open Sys2Proof.Machine

/-- The step answers a next state. -/
def steps (s : State) : Prop := ∃ t, step s = .next t

/-- The parts of the device, one for each field of `Dev`. -/
inductive Part where
  | clk | pins | mm | pwr | cfg | pci | ring | jr | fb | str | ph | lk | seq | chg
  | flt | int | tmr | wd | otp | rcd | cap | capQueue | mp | waiting | out | fretOut | bus | busBlock
deriving DecidableEq, Repr

/-- A part reads the same in two devices. -/
def Part.same (p : Part) (a b : Dev) : Prop :=
  match p with
  | .clk => a.clk = b.clk
  | .pins => a.pins = b.pins
  | .mm => a.mm = b.mm
  | .pwr => a.pwr = b.pwr
  | .cfg => a.cfg = b.cfg
  | .pci => a.pci = b.pci
  | .ring => a.ring = b.ring
  | .jr => a.jr = b.jr
  | .fb => a.fb = b.fb
  | .str => a.str = b.str
  | .ph => a.ph = b.ph
  | .lk => a.lk = b.lk
  | .seq => a.seq = b.seq
  | .chg => a.chg = b.chg
  | .flt => a.flt = b.flt
  | .int => a.int = b.int
  | .tmr => a.tmr = b.tmr
  | .wd => a.wd = b.wd
  | .otp => a.otp = b.otp
  | .rcd => a.rcd = b.rcd
  | .cap => a.cap = b.cap
  | .capQueue => a.capQueue = b.capQueue
  | .mp => a.mp = b.mp
  | .waiting => a.waiting = b.waiting
  | .out => a.out = b.out
  | .fretOut => a.fretOut = b.fretOut
  | .bus => a.bus = b.bus
  | .busBlock => a.busBlock = b.busBlock

/-- Every part outside a list is unchanged: the frame of an effect that may write only the parts listed. -/
def keeps (ps : List Part) (a b : Dev) : Prop := ∀ p, p ∉ ps → p.same a b

/-- The next state a command answers when its effect leaves the device `d`: the derived parts settled, the queue kept. -/
abbrev next (s : State) (d : Dev) : Host.Outcome State Fault Refusal := .next (withDev s (settle d))

/-! ### Descriptors -/

/-- The device after a descriptor's intent record (R108). -/
def intent (d : Dev) (e : Nat) : Dev := updEntry d e (fun y => { y with st := .intent, intent := true, deferred := false })

/-- Entry `e` holds the descriptor `x` of class `c`, and nothing keeps it from executing now (R17, R82, R141, R420). -/
def executes (d : Dev) (e : Nat) (x : Entry) (c : Machine.Class) : Prop :=
  entryOf d e = some x ∧ ready d x = true ∧ classOf x.image = c ∧ x.latched = false ∧ x.deferred = false ∧
  (onEngine x && engineBusy d x) = false ∧ waitsRun d x = false

/-- It also passes every check of R83. -/
def runs (d : Dev) (e : Nat) (x : Entry) (c : Machine.Class) : Prop := executes d e x c ∧ checkDesc (intent d e) x = none

/-- The command that executes a descriptor of a class. -/
def rowOf (e : Nat) : Machine.Class → Instr
  | .nop => .nop e | .reserve => .reserve e | .replan => .replan e | .profile => .profile e | .setpoint => .setpoint e
  | .mode => .mode e | .sequence => .sequence e | .commit => .configCommit e | .chgStop => .chargerStop e
  | .chgCharge => .chargerCharge e | .chgSearch => .chargerSearch e | .chgRide => .chargerRideLevel e
  | .chgClear => .chargerClearTimeout e | .chgLimit => .chargerInputLimit e | .fence => .fence e
  | .qFree => .queryFreeEntries e | .qFret => .queryFret e | .qString => .queryString e | .qUnreserved => .queryUnreserved e
  | .qBank => .queryBankEnergy e | .qTag => .queryTag e | .mark => .recordMark e | .capStop => .captureStop e
  | .capStart => .captureStart e | .capFreeze => .captureStartFreeze e | .bad => .badOpcode e

/-! ### The invariant of the block -/

/-- What every step keeps: a replay's device stands in REPLAY alone (R375); the targets known to be claimable are those that are (R316); while the ring engine is enabled, every submission ring's state word in host memory is the
present one (R71); a charger without a usable PACK string rests, but for a search that loads the bank (R266, R270). -/
def Inv (s : State) : Prop :=
  (s.dev.mm.mode ≠ .replay → s.rep = none) ∧
  (∀ t < 4, s.dev.int.was.getD t false = decide (claimOf s.dev t ≠ 0)) ∧
  (engineOn s.dev = true → s.dev.ring.sub.length = 32 → ∀ n < 32, (subU s.dev n).shown = stateWord s.dev n) ∧
  (powered s.dev .aux = true → packUsable s.dev = false → s.dev.chg.st = .disabled ∨ s.dev.chg.st = .absent ∨ s.dev.chg.st = .search)

end Sys2Proof.Safety
end

