-- ==== Sys2Proof/Certificates/Slice0/Obligations.lean ====
section
/-!
DEFINITION. The statements for the provers. Each holds of every state that meets its hypotheses; `Safety.next s e` is the next state of a command whose effect leaves the device `e`,
and `Safety.keeps ps a b` says that no part outside `ps` differs.
-/
set_option Elab.async false
open Sys2Proof Sys2Proof.Machine

/-- O1. With a command at the front of the queue, the step is that command's effect on the state with the queue's rest; on an empty queue the block idles.
No word spells a command. -/
def Obligations.StepRunsTheFrontCommand : Prop :=
  ∀ s : State,
    (∀ (c : Instr) (rest : List Instr), s.pending = c :: rest → step s = exec c { s with pending := rest }) ∧
    (s.pending = [] → step s = .next s) ∧
    (∀ nbits w, s.withFetchWord nbits w = s)

/-- O2. Every command, in every state, answers a next state, and leaves the commands that wait as they are. -/
def Obligations.EveryCommandAnswers : Prop :=
  ∀ (c : Instr) (s : State), ∃ t, exec c s = .next t ∧ t.pending = s.pending

/-- O3. From any state that meets the invariant, a step that answers a next state answers one that meets it: a replay's device stands in REPLAY alone; the
targets recorded as claimable are those that are; while the ring engine is enabled every submission ring's state word in host memory is the present
one; a charger without a usable PACK string is DISABLED or ABSENT, but for a search. -/
def Obligations.StepKeepsBlockInvariant : Prop :=
  ∀ s t : State, Safety.Inv s → step s = .next t → Safety.Inv t

/-- O4. After reset no command waits, the mode is OFF, no domain is powered, the watchdog is off, the timers stand at their reset values, the named
registers hold the reset values of their tables, journal and reservations are empty, and the invariant of the block holds. That the block is OFF at
reset, and the tables' values standing in unpowered domains, are the model's choice (log 1). -/
def Obligations.ResetStateIsAsSpecified : Prop :=
  let d := State.reset.dev
  State.reset.pending = [] ∧ d.mm.mode = .off ∧ (∀ x, powered d x = false) ∧ d.wd.on = false ∧ d.mp.count = 1 ∧
  (∀ t < 8, (tmrU d t).compare = 0xFFFFFFFF ∧ (tmrU d t).ctl = 0 ∧ (tmrU d t).count = 0) ∧
  rwOf d 0x0400 = 0x300 ∧ rwOf d 0x5000 = 1 ∧ rwOf d 0x7800 = 6 ∧ rwOf d 0x7804 = 0x40A ∧
  stagedOf d 0x1000 = 0x1401 ∧ inForce d 0x1000 = 0x1401 ∧ stagedOf d 0x1028 = 0xF852F852 ∧ stagedOf d 0x102C = 1000 ∧ stagedOf d 0x3004 = 0x14400064 ∧
  d.jr.primary = [] ∧ d.jr.secondary = [] ∧ d.fb.resv = [] ∧ Safety.Inv State.reset

/-- O5. With GLOBAL_ENABLE = 1, a claim read of a target returns the claimable source of highest PRIORITY and the lowest number among equals, pushes it
with its priority, clears its REFIRED flag and makes it active, so that no target can claim it then. With nothing claimable it returns 0, counts, and
changes no stack and no REFIRED flag. Source 0 is reserved and is not claimable. -/
def Obligations.ClaimReturnsHighestPriority : Prop :=
  ∀ (s : State) (t : Nat), t < 4 → s.dev.int.claimStacks.length = 4 → s.dev.int.spurious.length = 4 → globalEnable s.dev = true → claimable s.dev t 0 = false →
    ∃ n e, n < 256 ∧ exec (.intClaim t) s = Safety.next s e ∧ e.bus = w32 n ∧ Safety.keeps [.int, .bus] s.dev e ∧
      (n ≠ 0 → claimable s.dev t n = true ∧
        (∀ m, 0 < m → m < 256 → claimable s.dev t m = true → srcPriority s.dev m < srcPriority s.dev n ∨ (srcPriority s.dev m = srcPriority s.dev n ∧ n ≤ m)) ∧
        activeSrc e n = true ∧ refired e n = false ∧ stackOf e t = (n, srcPriority s.dev n) :: stackOf s.dev t ∧ (∀ u, u ≠ t → stackOf e u = stackOf s.dev u) ∧
        (∀ m, m ≠ n → refired e m = refired s.dev m) ∧ (∀ u, claimable e u n = false) ∧ e.int.spurious = s.dev.int.spurious) ∧
      (n = 0 → (∀ m, 0 < m → m < 256 → claimable s.dev t m = false) ∧ e.int.claimStacks = s.dev.int.claimStacks ∧ e.int.refired = s.dev.int.refired ∧
        e.int.spurious.getD t 0 = min (s.dev.int.spurious.getD t 0 + 1) 65535 ∧ (∀ u, u ≠ t → e.int.spurious.getD u 0 = s.dev.int.spurious.getD u 0))

/-- O6. With the controller enabled a claim of a claimable source returns it, clears its REFIRED and pushes it with its priority, and one that finds
nothing counts as spurious; disabled, a claim returns 0 and counts nothing. A completion that names the top of the stack pops it; another non-zero
number on a non-empty stack clears the stack and INT_STACK is detected with the top. Targets 0 and 1 are told again when they are claimable after it.
GLOBAL_ENABLE takes the value written. -/
def Obligations.ClaimAndComplete : Prop :=
  ∀ (s : State) (t n : Nat), powered s.dev .mgmt = true →
    let told := if t < 2 then s.dev.int.was.set t false else s.dev.int.was
    (fld (rwOf s.dev 0x5000) 0 1 = 1 → claimOf s.dev t = n → n ≠ 0 → exec (.intClaim t) s = .next (withDev s (settle { s.dev with bus := w32 n, int := { s.dev.int with was := told, refired := s.dev.int.refired &&& ~~~(1#256 <<< n), claimStacks := upd s.dev.int.claimStacks t (fun l => (n, fld (rwOf s.dev (0x5100 + 4 * n)) 0 4) :: l) } }))) ∧
    (fld (rwOf s.dev 0x5000) 0 1 = 1 → claimOf s.dev t = 0 → exec (.intClaim t) s = .next (withDev s (settle { s.dev with bus := 0, int := { s.dev.int with was := told, spurious := upd s.dev.int.spurious t (fun c => min (c + 1) 65535) } }))) ∧
    (fld (rwOf s.dev 0x5000) 0 1 = 0 → exec (.intClaim t) s = .next (withDev s (settle { s.dev with bus := 0 }))) ∧
    (∀ (p : Nat) (rest : List (Nat × Nat)), n ≠ 0 → stackOf s.dev t = (n, p) :: rest →
      exec (.intComplete t n) s = .next (withDev s (settle { s.dev with int := { s.dev.int with was := told, claimStacks := s.dev.int.claimStacks.set t rest } }))) ∧
    (∀ (m p : Nat) (rest : List (Nat × Nat)), n ≠ 0 → n ≠ m → stackOf s.dev t = (m, p) :: rest →
      exec (.intComplete t n) s = .next (withDev s (settle { s.dev with int := { s.dev.int with was := told, claimStacks := s.dev.int.claimStacks.set t [] }, flt := { s.dev.flt with inbox := s.dev.flt.inbox ++ [{ due := s.dev.clk.tick + 1, code := 0x1600, p0 := t, p1 := n, p2 := m }] } }))) ∧
    (∀ on : Bool, exec (.globalEnable on) s = .next (withDev s (settle { s.dev with cfg := { s.dev.cfg with rw := s.dev.cfg.rw.set (regReset s.dev 0x5000) 0x5000 (if on then 1 else 0) } })))

/-- O7. An enabled timer that is not frozen, and whose prescaler comes round in this tick, advances by one, or to 0 after a match that reloads; equal to
COMPARE it matches; otherwise it holds. The prescaler runs from the write that sets ENABLE (log 56). Writes of TMR_CONTROL, of TMR_COUNT with ENABLE = 0 and of TMR_COMPARE take effect at once, a COMPARE equal to the count of an enabled timer matches, and
TMR_COUNT of an enabled timer is not written. A read of TMR_CAPTURE returns and removes the oldest entry, or returns 0. The selected event with the
selected edge, in its tick, appends the count to the queue; at depth 4 OVERFLOW is set instead. -/
def Obligations.TimersCountMatchAndCapture : Prop :=
  (∀ (s : State) (t : Nat), powered s.dev .mgmt = true →
    let u := tmrU s.dev t
    let c : Word := if u.reload = true ∧ bit u.ctl 1 = true then 0 else u.count + 1
    let go := bit u.ctl 0 = true ∧ ¬ (bit u.ctl 2 = true ∧ s.dev.pwr.coreHalted = true) ∧ u.next < 200 * s.dev.clk.tick + 200
    let on := max u.next (200 * s.dev.clk.tick) + 2 ^ fld u.ctl 4 4
    (go → c ≠ u.compare → exec (.timerAdvance t) s = .next (withDev s (settle (updTmr s.dev t fun u => { u with count := c, reload := false, next := on })))) ∧
    (go → c = u.compare → exec (.timerAdvance t) s = .next (withDev s (settle (occur
      (updTmr (updTmr s.dev t fun u => { u with count := c, reload := false, next := on }) t fun u => { u with matched := true, reload := true, matchAt := some s.dev.clk.tick })
      (224 + 3 * t))))) ∧
    (¬ go → exec (.timerAdvance t) s = .next (withDev s (settle s.dev)))) ∧
  (∀ (s : State) (t : Nat) (v : Word), powered s.dev .mgmt = true →
    let u := tmrU s.dev t
    (exec (.tmrControlWrite t v) s = .next (withDev s (settle (updTmr s.dev t fun u => { u with ctl := v &&& w32 0x3FF7, next := if bit v 0 = true ∧ bit u.ctl 0 = false then 200 * s.dev.clk.tick + 2 ^ fld v 4 4 else u.next })))) ∧
    (bit u.ctl 0 = false →
      exec (.tmrCountWrite t v) s = .next (withDev s (settle (updTmr s.dev t fun u => { u with count := v })))) ∧
    (bit u.ctl 0 = true → exec (.tmrCountWrite t v) s = .next (withDev s (settle s.dev))) ∧
    (t < s.dev.tmr.length → (bit u.ctl 0 = false ∨ u.count ≠ v) →
      exec (.tmrCompareWrite t v) s = .next (withDev s (settle (updTmr s.dev t fun u => { u with compare := v })))) ∧
    (t < s.dev.tmr.length → bit u.ctl 0 = true → u.count = v →
      exec (.tmrCompareWrite t v) s = .next (withDev s (settle (occur
        (updTmr (updTmr s.dev t fun u => { u with compare := v }) t fun u => { u with matched := true, reload := true, matchAt := some s.dev.clk.tick }) (224 + 3 * t))))) ∧
    (∀ (x : Word) (rest : List Word), u.queue = x :: rest →
      exec (.tmrCaptureRead t) s = .next (withDev s (settle { updTmr s.dev t (fun u => { u with queue := rest }) with bus := x }))) ∧
    (u.queue = [] → exec (.tmrCaptureRead t) s = .next (withDev s (settle { s.dev with bus := 0 })))) ∧
  (∀ (s : State) (t : Nat) (e : CapEvent), powered s.dev .mgmt = true → captureActive s.dev = false →
    let u := tmrU s.dev t
    (match e with
      | .sync i rising _ => i < 4 ∧ fld u.ctl 8 4 = i + 1 ∧ (fld u.ctl 12 2 = 2 ∨ (fld u.ctl 12 2 = 0 ∧ rising = true) ∨ (fld u.ctl 12 2 = 1 ∧ rising = false))
      | .fretToken => fld u.ctl 8 4 = 5 ∧ s.dev.clk.tickInFret = 0 ∧ s.dev.clk.fretDue = false
      | .managementTick => fld u.ctl 8 4 = 6 ∧ s.dev.clk.mgmtAt = some s.dev.clk.tick
      | .modeChange => fld u.ctl 8 4 = 7 ∧ s.dev.mm.changedAt = some s.dev.clk.tick
      | .timerMatch q => fld u.ctl 8 4 = 8 ∧ q = (t + 1) % 8 ∧ (tmrU s.dev q).matchAt = some s.dev.clk.tick) →
    ∃ c : Capture, c = { s.dev.cap with syncTick := c.syncTick, syncs := c.syncs } ∧ ((∀ i r at', e ≠ .sync i r at') → c = s.dev.cap) ∧
    (u.queue.length < 4 → exec (.captureEvent t e) s = .next (withDev s (settle (occur (updTmr { s.dev with cap := c } t fun u => { u with queue := u.queue ++ [u.count] }) (224 + 3 * t + 1))))) ∧
    (4 ≤ u.queue.length → exec (.captureEvent t e) s = .next (withDev s (settle (occur (updTmr { s.dev with cap := c } t fun u => { u with overflow := true }) (224 + 3 * t + 2))))))

/-- O8. A WD_SETUP write with a valid window and a slot enabled turns the watchdog on in waiting; one without sets REJECTED; once on, a write changes
nothing. A window that ends unsampled with an enabled slot unmarked, the wait limit, and loss of the clock are expiries: HRST_N is asserted for 10 ms,
HOLD is asked for in ARMED or RUN, the watchdog waits with its counter at 0. A halt of the core sets the halt and clears the key register; its
resumption ends the halt. -/
def Obligations.WatchdogTurnsOnAndExpires : Prop :=
  (∀ (s : State) (v : Word), powered s.dev .mgmt = true →
    let ok := s.dev.wd.openAt < s.dev.wd.closeAt ∧ s.dev.wd.closeAt ≤ 0x7FFFFFFF ∧ fld v 0 8 ≠ 0
    (s.dev.wd.on = false → ok → ∃ w : Watchdog, exec (.wdSetupWrite v) s = .next (withDev s (settle { s.dev with wd := w })) ∧
      w.on = true ∧ w.setup = v &&& w32 0xFFFFF ∧ w.waiting = true ∧ w.count = 0 ∧ w.marks = 0 ∧ w.waitTicks = 0 ∧
      w.openAt = s.dev.wd.openAt ∧ w.closeAt = s.dev.wd.closeAt ∧ w.rejected = s.dev.wd.rejected ∧ w.slot7 = s.dev.wd.slot7) ∧
    (s.dev.wd.on = false → ¬ ok → exec (.wdSetupWrite v) s = .next (withDev s (settle { s.dev with wd := { s.dev.wd with rejected := true } }))) ∧
    (s.dev.wd.on = true → exec (.wdSetupWrite v) s = .next (withDev s (settle s.dev)))) ∧
  (∀ s : State, s.dev.wd.on = true →
    let expires (e : Dev) := e.wd.waiting = true ∧ e.wd.count = 0 ∧ e.wd.waitTicks = 0 ∧ e.wd.on = true ∧ e.wd.setup = s.dev.wd.setup ∧
      e.pins.hrstTimed = true ∧ s.dev.clk.tick + 10000 ≤ e.pins.hrstUntil ∧
      e.mm = { s.dev.mm with wdHold := s.dev.mm.wdHold || decide (s.dev.mm.mode = .armed ∨ s.dev.mm.mode = .run) } ∧
      Safety.keeps [.wd, .pins, .mm, .out] s.dev e
    (s.dev.wd.waiting = false → 2 * s.dev.wd.closeAt ≤ s.dev.wd.count → (∃ k < 8, bit s.dev.wd.setup k = true ∧ bit s.dev.wd.marks k = false) →
      ∃ e, exec .watchdogWindowTimeout s = .next (withDev s (settle e)) ∧ expires e ∧ e.wd.kept = s.dev.wd.prev) ∧
    (s.dev.wd.waiting = true → fld s.dev.wd.setup 14 6 ≠ 0 → fld s.dev.wd.setup 14 6 ≤ s.dev.wd.waitTicks →
      ∃ e, exec .watchdogWaitLimit s = .next (withDev s (settle e)) ∧ expires e ∧ e.wd.kept = s.dev.wd.kept) ∧
    (∃ e, exec .watchdogClockLoss s = .next (withDev s (settle e)) ∧ expires e)) ∧
  (∀ s : State, powered s.dev .mgmt = true →
    exec .coreHalt s = .next (withDev s (settle { s.dev with pwr := { s.dev.pwr with coreHalted := true, keyReg := 0 } })) ∧
    exec .coreResume s = .next (withDev s (settle { s.dev with pwr := { s.dev.pwr with coreHalted := false } })))

/-- O9. With the ring engine enabled, a poll that is due, POLL_PERIOD + 1 ticks after the last, takes each producer index below its ring's size and stops a ring with one that is not; it takes each valid
consumer index and leaves the last valid one in use otherwise; CLASS and LIMIT take effect; the inputs of a replay are taken where its ring is
enabled. Nothing but the ring engine, what the check-in and capture lines drive, and fault inputs changes. -/
def Obligations.PollReadsDoorbells : Prop :=
  ∀ (s : State) (a b checkin cap : Line) (rs : List RepRec),
    engineOn s.dev = true → s.dev.pwr.ctlLost = false → s.dev.ring.sub.length = 32 → s.dev.ring.cpl.length = 32 →
    (∀ t, s.dev.ring.lastPoll = some t → t + s.dev.ring.period + 1 ≤ s.dev.clk.tick) →
    ∃ t e, exec (.poll a b checkin cap rs) s = .next t ∧ t.dev = settle e ∧ t.pending = s.pending ∧ t.rep = s.rep ∧
      t.repIn = (if rwF s.dev 0x7210 0 6 = 0 then s.repIn else s.repIn ++ rs) ∧
      (∀ n < 32, subSize s.dev n ≠ 0 →
        (subU e n).limit = rwF s.dev (subBase n + 0xC) 0 13 ∧ (subU e n).cls = rwF s.dev (subBase n + 8) 8 2 ∧
        (leAt a (2 * n) 2 < subSize s.dev n → (subU e n).prod = leAt a (2 * n) 2 ∧ (subU e n).prodBad = false) ∧
        (subSize s.dev n ≤ leAt a (2 * n) 2 → (subU e n).prod = (subU s.dev n).prod ∧ (subU e n).prodBad = true ∧ (subU e n).fetchDue = false)) ∧
      (∀ m < 32, cplSize s.dev m ≠ 0 →
        (leAt b (2 * m) 2 < cplSize s.dev m → (cplU e m).cons = leAt b (2 * m) 2 ∧ (cplU e m).consBad = false) ∧
        (cplSize s.dev m ≤ leAt b (2 * m) 2 → (cplU e m).cons = (cplU s.dev m).cons ∧ (cplU e m).consBad = true)) ∧
      e.ring.lastPoll = some s.dev.clk.tick ∧ e.ring.period = rwF s.dev 0x0400 8 6 ∧
      (rwOf s.dev 0x0418 = 0 → rwOf s.dev 0x041C = 0 → e.wd = s.dev.wd ∧ e.mm = s.dev.mm ∧ e.pins = s.dev.pins) ∧
      Safety.keeps [.ring, .flt, .wd, .mm, .pins, .cap, .capQueue, .out] s.dev e

/-- O10. A descriptor that returns with a good CRC and the expected SEQUENCE is ready, or waits for its list; one whose CRC fails is fetched again, and at
its third fetch is ready as BAD_CHECK. A list that returns makes its descriptor ready with the segments it names, or with its add records when each
passes its CRC. Other rings are left alone. -/
def Obligations.FetchesMakeDescriptorsReady : Prop :=
  (∀ (s : State) (n : Nat) (i : Image),
    engineOn s.dev = true → s.dev.pwr.ctlLost = false → n < s.dev.ring.sub.length → ringWork s.dev n = true →
    (subU s.dev n).fetchDue = true → (subU s.dev n).listWait = none → (subU s.dev n).ready = none →
    let good := crc32c (bytesOf i 60) = leAt i 60 4
    ∃ e, exec (.descriptorFetchReturn n (some i)) s = .next (withDev s (settle e)) ∧ (subU e n).fetchErr = false ∧
      (good → leAt i 4 4 = (subU s.dev n).next → s.dev.mm.mode ≠ .hold → needsList i = false →
        (subU e n).ready = some { slot := nextSlot s.dev n, image := i }) ∧
      (good → leAt i 4 4 = (subU s.dev n).next → s.dev.mm.mode ≠ .hold → needsList i = true →
        (subU e n).listWait = some i ∧ (subU e n).ready = none) ∧
      (¬ good → (subU s.dev n).tries < 2 → (subU e n).tries = (subU s.dev n).tries + 1 ∧ (subU e n).ready = none ∧ (subU e n).fetchDue = false) ∧
      (¬ good → 2 ≤ (subU s.dev n).tries → (subU e n).ready = some { slot := nextSlot s.dev n, image := i, fixed := some (.badCheck, 0) }) ∧
      (∀ m, m ≠ n → subU e m = subU s.dev m) ∧ Safety.keeps [.ring] s.dev e) ∧
  (∀ (s : State) (n : Nat) (i : Image) (bytes : List Nat) (adds : List Image),
    engineOn s.dev = true → s.dev.pwr.ctlLost = false → n < s.dev.ring.sub.length →
    (subU s.dev n).fetchDue = true → (subU s.dev n).listWait = some i →
    (byteAt i 0 = 1 → ∃ e, exec (.listFetchReturn n (.segs bytes)) s = .next (withDev s (settle e)) ∧
      (subU e n).ready = some { slot := nextSlot s.dev n, image := i, segs := (leWords bytes).take (leAt i 34 2) } ∧
      (subU e n).listWait = none ∧ (∀ m, m ≠ n → subU e m = subU s.dev m) ∧ Safety.keeps [.ring] s.dev e) ∧
    (byteAt i 0 = 2 → (∀ r ∈ adds.take (byteAt i 15), crc32c (bytesOf r 60) = leAt r 60 4) →
      ∃ e, exec (.listFetchReturn n (.adds adds)) s = .next (withDev s (settle e)) ∧
      (subU e n).ready = some { slot := nextSlot s.dev n, image := i, adds := adds.take (byteAt i 15) } ∧
      (subU e n).listWait = none ∧ (∀ m, m ≠ n → subU e m = subU s.dev m) ∧ Safety.keeps [.ring] s.dev e))

/-- O11. The acceptance of a ready descriptor whose turn has come writes its entry into both journal copies under the lowest free number, advances the
ring's slot and SEQUENCE (0xFFFFFFFF to 1), takes one credit and writes the ring's tail record; nothing but the rings, the journal and the outputs
changes. While the power die cannot acknowledge, the entry stands in WRITING in one copy and nothing is accepted. Which ring's turn it is rests on the
model's order (log 16). -/
def Obligations.AcceptanceTakesDescriptor : Prop :=
  ∀ (s : State) (n : Nat) (q : Ready),
    (subU s.dev n).ready = some q → acceptable s.dev n = true → itsTurn s.dev n = true → s.dev.mm.mode ≠ .hold →
    capturing s.dev = false → n < s.dev.ring.sub.length → n < s.dev.jr.tails.length →
    let r := subU s.dev n
    let waits := s.dev.pwr.pwrLost = true ∨ s.dev.pwr.resendC = true ∨ s.dev.pwr.resendP = true
    let others (l : List Entry) := l.filter (fun y => !(y.st == .writing && y.ring == n))
    let x : Entry := { idx := freeIdx (others s.dev.jr.primary ++ (others s.dev.jr.secondary).filter (fun y => y.st == .writing)), ring := n, slot := q.slot, seq := r.next, bind := subBinding s.dev n, image := q.image, segs := q.segs, adds := q.adds, cost := readyCost q, accTick := s.dev.clk.tick, accFret := s.dev.clk.fret, fixed := q.fixed }
    (¬ waits → ∃ e, exec (.acceptance n) s = .next (withDev s (settle e)) ∧
      e.jr.primary = placeEntry s.dev.clk.tick (others s.dev.jr.primary) x ∧ e.jr.secondary = placeEntry s.dev.clk.tick (others s.dev.jr.secondary) x ∧
      tailOf e n = { seq := r.next, slot := q.slot, bind := subBinding s.dev n, outstanding := (tailOf s.dev n).outstanding + 1 } ∧
      (subU e n).acc = q.slot ∧ (subU e n).next = (if r.next = 0xFFFFFFFF then 1 else r.next + 1) ∧
      (subU e n).accWord = q.slot + ((r.next % 65536) <<< 16) ∧ (subU e n).ready = none ∧
      Safety.keeps [.ring, .jr, .out] s.dev e) ∧
    (waits → ∃ e, exec (.acceptance n) s = .next (withDev s (settle e)) ∧ e.jr.primary = s.dev.jr.primary ∧
      (∃ y ∈ e.jr.secondary, y.st = .writing ∧ y.ring = n) ∧ (∀ y ∈ s.dev.jr.secondary, y ∈ e.jr.secondary) ∧ Safety.keeps [.jr] s.dev e)

/-- O12. A completion entry is written into the producer's slot with the ring's PHASE; the producer advances and PHASE flips as it wraps to 0; the ring's
other neighbours are unchanged; the journal entry leaves the list of those due; a FINAL entry returns the ring's credit, another is taken off the
entry alone; an occurrence of the ring's source follows. -/
def Obligations.CompletionWriteAdvancesRing : Prop :=
  ∀ (s : State) (m : Nat) (x : Entry) (c : Cpl) (cs : List Cpl),
    powered s.dev .host = true → s.dev.pwr.ctlLost = false → s.dev.jr.frozen = false → cplSize s.dev m ≠ 0 → m < s.dev.ring.cpl.length →
    ((cplU s.dev m).prod + 1) % cplSize s.dev m ≠ (cplU s.dev m).cons →
    ((s.dev.jr.due.filterMap (entryOf s.dev)).find? (fun y => y.bind == m)) = some x → x.cpls = c :: cs →
    let p := ((cplU s.dev m).prod + 1) % cplSize s.dev m
    ∃ e, exec (.completionWrite m) s = .next (withDev s (settle e)) ∧
      e.out = s.dev.out ++ [.completion m (cplU s.dev m).prod (cplU s.dev m).phase c] ∧
      (cplU e m).prod = p ∧ (cplU e m).phase = (if p = 0 then !(cplU s.dev m).phase else (cplU s.dev m).phase) ∧
      (∀ k, k ≠ m → cplU e k = cplU s.dev k) ∧ e.ring.sub = s.dev.ring.sub ∧
      e.jr.due = s.dev.jr.due.erase x.idx ∧
      (c.final = true → x.ring < s.dev.jr.tails.length → (tailOf e x.ring).outstanding = (tailOf s.dev x.ring).outstanding - 1) ∧
      (c.final = false → e.jr.tails = s.dev.jr.tails ∧ (entryOf s.dev x.idx = some x → (entryOf e x.idx).map (fun y => y.cpls) = some cs)) ∧
      e.int = (occur s.dev (1 + m)).int ∧ Safety.keeps [.ring, .jr, .int, .out] s.dev e

/-- O13. Enabling the engine writes both state blocks and both acceptance blocks; disabling it drops what was fetched. Enabling a submission ring makes
the slot before its start the last accepted one, shown with NEXT - 1; enabling a completion ring starts it at slot 0 with PHASE 1; an illegal SIZE is
ignored and reported. A function reset returns the ring engine, the ring registers and the PCI function to their reset values and leaves the rest of
the device; an entry whose journal write has not completed goes with either. -/
def Obligations.RingRegistersWork : Prop :=
  (∀ (s : State) (n : Nat) (v : Word), powered s.dev .host = true → n < 32 → s.dev.ring.sub.length = 32 → s.dev.ring.cpl.length = 32 →
    (∃ e, exec (.ringControlWrite v) s = .next (withDev s (settle e)) ∧
      e.cfg = (setRw s.dev 0x0400 (v &&& w32 0x3F01)).cfg ∧
      (engineOn s.dev = false → engineOn e = true → s.dev.ring.accWrote = [] → ∃ w0 w1 a0 a1, e.out = s.dev.out ++ [.stateBlock 0 w0, .stateBlock 1 w1, .acceptBlock 0 a0, .acceptBlock 1 a1]) ∧
      (engineOn s.dev = true → engineOn e = false → ∀ k < 32, (subU e k).ready = none ∧ (subU e k).fetchDue = false ∧ (subU e k).listWait = none) ∧
      e.jr = (if engineOn s.dev = true ∧ engineOn e = false then { s.dev.jr with primary := s.dev.jr.primary.filter (fun x => x.st != .writing), secondary := s.dev.jr.secondary.filter (fun x => x.st != .writing) } else s.dev.jr) ∧
      Safety.keeps [.cfg, .ring, .jr, .out] s.dev e) ∧
    (let off := subBase n + 8
     let z := 2 ^ fld v 0 5
     let start := rwF s.dev (subBase n + 0x10) 0 16
     (fld (rwOf s.dev off) 0 5 = 0 → 4 ≤ fld v 0 5 → fld v 0 5 ≤ 16 →
      ∃ e, exec (.ringSubControlWrite n v) s = .next (withDev s (settle e)) ∧
        e.cfg = (setRw s.dev off (v &&& rwMask off)).cfg ∧ (subU e n).acc = (start % z + z - 1) % z ∧
        (subU e n).accWord = (start % z + z - 1) % z + ((((subU s.dev n).next + 0xFFFF) % 65536) <<< 16) ∧
        (subU e n).next = (subU s.dev n).next ∧ (subU e n).ready = none ∧ (subU e n).fetchDue = false ∧
        Safety.keeps [.cfg, .ring, .out] s.dev e) ∧
     (fld v 0 5 ≠ 0 → (fld v 0 5 < 4 ∨ 16 < fld v 0 5) →
      exec (.ringSubControlWrite n v) s = .next (withDev s (settle { s.dev with ring := { s.dev.ring with writeIgnored := true } })))) ∧
    (rwF s.dev (cplBase n + 8) 0 5 = 0 → 4 ≤ fld v 0 5 → fld v 0 5 ≤ 16 →
      ∃ e, exec (.ringCplControlWrite n v) s = .next (withDev s (settle e)) ∧ cplU e n = { prod := 0, phase := true } ∧
        e.cfg = (setRw s.dev (cplBase n + 8) (w32 (fld v 0 5))).cfg ∧ (∀ k, k ≠ n → cplU e k = cplU s.dev k) ∧ Safety.keeps [.cfg, .ring] s.dev e) ∧
    (fld v 0 5 ≠ 0 → (fld v 0 5 < 4 ∨ 16 < fld v 0 5) →
      exec (.ringCplControlWrite n v) s = .next (withDev s (settle { s.dev with ring := { s.dev.ring with writeIgnored := true } })))) ∧
  (∀ s : State, powered s.dev .host = true → captureActive s.dev = false →
    ∃ e, exec .functionReset s = .next (withDev s (settle e)) ∧ e.ring = {} ∧
      (∀ off, 0x0400 ≤ off → off < 0x1000 → rwOf e off = regReset e off) ∧
      (∀ off, ¬ (0x0400 ≤ off ∧ off < 0x1000) → rwOf e off = rwOf s.dev off) ∧ e.pci = {} ∧
      e.jr = { s.dev.jr with primary := s.dev.jr.primary.filter (fun x => x.st != .writing), secondary := s.dev.jr.secondary.filter (fun x => x.st != .writing) } ∧
      Safety.keeps [.ring, .cfg, .pci, .jr] s.dev e ∧ e.cfg = { s.dev.cfg with rw := e.cfg.rw })

/-- O14. A tick with no fret boundary and no message due advances the tick count and the tick of the fret modulo 32; the fret and the management count
stand; the watchdog's microsecond counter counts while it is on, not waiting and on that clock, and is unchanged while it is off or waiting; of the mode
machine only RIDE_AVAILABLE may change; the registers stand where no write of the commit's tick waits. A boundary is due after every 32nd tick while
SCHED is powered, but for a follower that has had a token. Units that no tick drives are unchanged. -/
def Obligations.TickAdvancesTime : Prop :=
  ∀ (s : State) (ups : List Upset), s.dev.clk.fretDue = false → (∀ q ∈ s.dev.waiting, s.dev.clk.tick + 1 < q.1) →
    ∃ e, exec (.tick ups) s = .next (withDev s (settle e)) ∧
    e.clk.tick = s.dev.clk.tick + 1 ∧ e.clk.tickInFret = (s.dev.clk.tickInFret + 1) % 32 ∧
    e.clk.fret = s.dev.clk.fret ∧ e.clk.mgmt = s.dev.clk.mgmt ∧
    (follower s.dev = false → (e.clk.fretDue = true ↔ e.clk.tickInFret = 0 ∧ powered s.dev .sched = true ∧ s.dev.pwr.ctlLost = false)) ∧
    e.mm = { s.dev.mm with rideAvailable := e.mm.rideAvailable } ∧
    (s.dev.cfg.after = [] → e.cfg = s.dev.cfg) ∧
    (s.dev.wd.on = true → s.dev.wd.waiting = false → powered s.dev .mgmt = true → bit s.dev.wd.setup 8 = true →
      e.wd = { s.dev.wd with count := s.dev.wd.count + 1 }) ∧
    (s.dev.wd.on = false ∨ s.dev.wd.waiting = true → e.wd = s.dev.wd) ∧
    Safety.keeps [.clk, .mm, .pwr, .cfg, .jr, .fb, .str, .ph, .lk, .seq, .chg, .flt, .int, .wd, .rcd, .cap, .capQueue, .mp, .out, .fretOut] s.dev e

/-- O15. At a fret boundary that is due the 48-bit fret counter advances and the tick of the fret is 0; the column that has passed is cleared in both
banks and its plan cells go; the bank in use and a REPLAN stand. The watchdog asks for no HOLD and no message is due.
Where no boundary is due nothing happens. -/
def Obligations.FretBoundaryPassesColumn : Prop :=
  ∀ s : State,
    (s.dev.clk.fretDue = false → exec .fretBoundary s = .next (withDev s (settle s.dev))) ∧
    (s.dev.clk.fretDue = true → s.dev.mm.wdHold = false → (∀ q ∈ s.dev.waiting, s.dev.clk.tick < q.1) →
    ∃ e, exec .fretBoundary s = .next (withDev s (settle e)) ∧
      e.clk.fret = (s.dev.clk.fret + 1) % 2 ^ 48 ∧ e.clk.tickInFret = 0 ∧ e.clk.tick = s.dev.clk.tick ∧ e.clk.fretDue = false ∧
      e.fb.bankA = clearColumn s.dev.fb.bankA s.dev.clk.fret ∧ e.fb.bankB = clearColumn s.dev.fb.bankB s.dev.clk.fret ∧
      e.fb.planLive = s.dev.fb.planLive.erase s.dev.clk.fret ∧ e.fb.planShadow = s.dev.fb.planShadow.erase s.dev.clk.fret ∧
      e.fb.liveB = s.dev.fb.liveB ∧ e.fb.replan = s.dev.fb.replan ∧
      Safety.keeps [.clk, .pwr, .jr, .fb, .str, .ph, .chg, .flt, .int, .rcd, .cap, .capQueue, .mp, .out, .fretOut] s.dev e ∧
      e.pwr = { s.dev.pwr with lateCount := e.pwr.lateCount, lastPath := e.pwr.lastPath })

/-- O16. At tick 0 of a fret every configured AXIS and AUX string gets the allotment of the next fret: I_DRAW from the cell's power with the margin, not
below the idle current nor above the capo's current; V_TARGET is the target that the string has in that fret; the epoch is that of the fret's bank. At
tick 1 the energies are anchored to the bank voltage that is due then and to the pack's estimate. No cell and no reservation changes. -/
def Obligations.AllotmentAndReAnchor : Prop :=
  (∀ s : State, powered s.dev .sched = true → s.dev.pwr.ctlLost = false → s.dev.clk.tickInFret = 0 → s.dev.mm.mode ≠ .drone → s.dev.str.length = 64 →
    ∃ e, exec .allotmentPublish s = .next (withDev s (settle e)) ∧ e.fb.published = some (s.dev.clk.fret + 1) ∧
      (∀ k < 64, k ∈ configured s.dev → (kindOf s.dev k = .axis ∨ kindOf s.dev k = .aux) → ∃ a, (strU e k).next = some a ∧
        let p := powerAt (bankFor s.dev (s.dev.clk.fret + 1)).1 k (s.dev.clk.fret + 1)
        let v := stringVolts s.dev k
        let top := ampsAt (strU s.dev k).capo v
        a.iDraw = min (max (p.toNat * (200 + rsF s.dev 0x1000 8 7) * 20 / max 1 v) ((strU s.dev k).idle * 2 / 5)) top ∧
        a.vTarget = targetFor s.dev k (s.dev.clk.fret + 1) ∧ a.epoch = (bankFor s.dev (s.dev.clk.fret + 1)).2 ∧ (kindOf s.dev k = .aux → a.iReturn = 0)) ∧
      e.fb.bankA = s.dev.fb.bankA ∧ e.fb.bankB = s.dev.fb.bankB ∧ e.fb.resv = s.dev.fb.resv ∧
      Safety.keeps [.fb, .str, .int, .rcd, .out, .fretOut] s.dev e) ∧
  (∀ s : State, powered s.dev .sched = true → s.dev.pwr.ctlLost = false → s.dev.clk.tickInFret = 1 →
    ∃ e, exec .reAnchor s = .next (withDev s (settle e)) ∧
      e.fb.e = (if storeValid s.dev = true then rsF s.dev 0x101C 0 16 * bankNow s.dev * bankNow s.dev / 2000 else 0) ∧ e.fb.bankMv = bankNow s.dev ∧ e.fb.anchorAt = s.dev.clk.fret + 1 ∧
      e.fb.ep = (if packValid s.dev = true ∧ s.dev.chg.present = true ∧ s.dev.chg.st ≠ .absent then s.dev.chg.ep * 1000 else 0) ∧
      e.fb.eShown = e.fb.e / 1000 ∧ e.fb.epShown = e.fb.ep / 1000 ∧ e.fb.resv = s.dev.fb.resv ∧
      Safety.keeps [.fb, .int, .rcd] s.dev e)

/-- O17. A management tick counts, averages V_BUS over the samples since the last one, closes the links' error counts (none above its limit) and lengthens
the watchdog's wait while it waits. A converter sample gives the die temperatures, V_HOLD, the bank voltage, the pack's voltage and current and each
rail's output to their consumers, in the tick that is due one fret after its stamp; before that it waits, and after it it is late. -/
def Obligations.ManagementTickAndSamples : Prop :=
  (∀ s : State, powered s.dev .mgmt = true → s.dev.pwr.ctlLost = false → s.dev.lk.length = 16 →
    (∀ k < 16, (lkU s.dev k).lostJudged ≤ rsF s.dev 0x3004 0 10) →
    ∃ e, exec .managementTick s = .next (withDev s (settle e)) ∧ e.clk.mgmt = s.dev.clk.mgmt + 1 ∧
      e.clk.tick = s.dev.clk.tick ∧ e.clk.fret = s.dev.clk.fret ∧
      e.fb.vbusAvg = (if s.dev.fb.vbusN = 0 then s.dev.fb.vbusAvg else s.dev.fb.vbusSum / s.dev.fb.vbusN) ∧ e.fb.vbusSum = 0 ∧ e.fb.vbusN = 0 ∧
      e.wd = { s.dev.wd with waitTicks := if s.dev.wd.waiting then s.dev.wd.waitTicks + 1 else 0 } ∧
      (∀ k < 16, (lkU e k).lostNow = 0 ∧ (lkU e k).last = min (lkU s.dev k).lostNow 65535 ∧ (lkU e k).st = (lkU s.dev k).st) ∧
      e.chg = { s.dev.chg with iIn := s.dev.chg.iNow } ∧
      Safety.keeps [.clk, .fb, .str, .ph, .lk, .chg, .flt, .int, .wd, .rcd, .cap, .capQueue, .out] s.dev e) ∧
  (∀ (s : State) (stamp : Stamp) (m : Monitor),
    let due := stampTick s.dev stamp + 32
    (s.dev.clk.tick < due → exec (.monitorSample m stamp) s = .next (withDev s (settle { s.dev with waiting := s.dev.waiting ++ [(due, .monitor m)] }))) ∧
    (due < s.dev.clk.tick → s.dev.clk.tick ≤ due + s.dev.clk.tickInFret →
      ∃ e, exec (.monitorSample m stamp) s = .next (withDev s (settle e)) ∧ e.pwr.lateCount = min (s.dev.pwr.lateCount + 1) 0xFFFFFF ∧ e.pwr.lastPath = 3 ∧
        e.flt.inbox = s.dev.flt.inbox ++ [{ due := s.dev.clk.tick + 1, code := 0x1002, p0 := 0, p1 := 3 }] ∧ Safety.keeps [.pwr, .flt] s.dev e) ∧
    (due = s.dev.clk.tick → inputsOpen s.dev = true → s.dev.mm.mode ≠ .off → s.dev.pwr.monRetired = [] → capturing s.dev = false → s.dev.seq.rails.length = 8 → m.rails.length = 8 →
    ∃ e, exec (.monitorSample m stamp) s = .next (withDev s (settle e)) ∧
      e.pwr.tempControl = m.tControl ∧ e.pwr.tempPower = m.tPower ∧ e.pwr.vhold = m.vhold ∧ e.pwr.vholdReady = decide (1100 ≤ m.vhold) ∧
      (powered s.dev .aux = true → e.chg.vPack = m.vpack) ∧
      (∀ r < 8, (railU e r).vMeas = m.rails.getD r 0) ∧
      Safety.keeps [.clk, .pwr, .fb, .str, .ph, .seq, .chg, .flt, .int] s.dev e))

/-- O18. A die-to-die block that arrives whole renews its die's time and its sequence number, and ends the wait for a re-send where it is the block
awaited; the first that fails its CRC is re-sent with DIE_LINK_CRC detected, and after a second failure the message that it carried is noticed as late
at its due tick. Twenty ticks without a valid block at the power die in RUN take the device to DRONE with cause CONTROL_DIE_LOST where
that source's reaction is DRONE, and the secondary journal copy is lost; at the control die, to SAFE with cause POWER_DIE_LOST where the reaction is
DEVICE_SAFE. At the rebuild, within 2 frets of the fret that the outage came to, the fret takes the recovery fret, both journal copies hold the same
entries, and no reservation, cell or REPLAN is left. The places of the sequence number and the CRC in a block are the model's choice (log 54). -/
def Obligations.DieLinkLossAndRebuild : Prop :=
  (∀ (s : State) (power : Bool) (b : DieBlock) (carried : Option (Nat × BitVec 16)), powered s.dev .mgmt = true → s.dev.pwr.ctlLost = false → s.dev.flt.pending = false →
    let good := leAt b 30 2 = crc16 (bytesOf b 30)
    let waits := if power then s.dev.pwr.resendP else s.dev.pwr.resendC
    let last := if power then s.dev.pwr.seqP else s.dev.pwr.seqC
    (good → (waits = false ∨ leAt b 0 2 = (last + 1) % 65536) →
      exec (.dieBlockReceive power b carried) s = .next (withDev s (settle { s.dev with pwr := if power then { s.dev.pwr with lastBlockP := s.dev.clk.tick, resendP := false, seqP := leAt b 0 2 } else { s.dev.pwr with lastBlockC := s.dev.clk.tick, resendC := false, seqC := leAt b 0 2, pwrLost := false } }))) ∧
    (good → waits = true → leAt b 0 2 ≠ (last + 1) % 65536 →
      exec (.dieBlockReceive power b carried) s = .next (withDev s (settle { s.dev with pwr := if power then { s.dev.pwr with lastBlockP := s.dev.clk.tick } else { s.dev.pwr with lastBlockC := s.dev.clk.tick, pwrLost := false } }))) ∧
    (¬ good → waits = false →
      exec (.dieBlockReceive power b carried) s = .next (withDev s (settle { s.dev with
        pwr := if power then { s.dev.pwr with resendP := true } else { s.dev.pwr with resendC := true },
        flt := { s.dev.flt with inbox := s.dev.flt.inbox ++ [{ due := s.dev.clk.tick + 1, code := 0x1003, p0 := if power then 0 else 1, p1 := 7 }] } }))) ∧
    (¬ good → waits = true →
      exec (.dieBlockReceive power b carried) s = .next (withDev s (settle { s.dev with
        pwr := { s.dev.pwr with resendP := if power then false else s.dev.pwr.resendP, resendC := if power then s.dev.pwr.resendC else false, lostDue := s.dev.pwr.lostDue ++ (match carried with | some q => [(stampTick s.dev q.2 + pathLatency q.1, q.1)] | none => []) } })))) ∧
  (∀ s : State, powered s.dev .mgmt = true → s.dev.pwr.ctlLost = false → s.dev.pwr.onVhold = false → s.dev.mm.mode = .run →
    s.dev.seq.run = none → s.dev.mm.after = none → captureActive s.dev = false →
    (s.dev.pwr.lastBlockP + 20 ≤ s.dev.clk.tick → reactionOf s.dev 0x1000 = .drone →
      ∃ e, exec .controlDieLost s = .next (withDev s (settle e)) ∧ e.mm.mode = .drone ∧ e.mm.cause = .controlDieLost ∧ e.mm.causeFrom = .run ∧
        e.pwr.ctlLost = true ∧ e.pwr.lostFret = s.dev.clk.fret ∧ (srcOf e 0x1000).status = true ∧ e.jr.secondary = [] ∧
        Safety.keeps [.clk, .mm, .pwr, .cfg, .pci, .ring, .jr, .fb, .str, .ph, .lk, .seq, .chg, .flt, .int, .rcd, .cap, .capQueue, .mp, .out, .fretOut] s.dev e) ∧
    (s.dev.pwr.pwrLost = false → s.dev.pwr.lastBlockC + 20 ≤ s.dev.clk.tick → reactionOf s.dev 0x1001 = .deviceSafe →
      ∃ e, exec .powerDieLost s = .next (withDev s (settle e)) ∧ e.mm.mode = .safe ∧ e.mm.cause = .powerDieLost ∧ e.mm.causeFrom = .run ∧
        e.pwr.pwrLost = true ∧ (srcOf e 0x1001).status = true ∧
        Safety.keeps [.clk, .mm, .pwr, .cfg, .jr, .fb, .str, .ph, .lk, .seq, .chg, .flt, .int, .rcd, .cap, .capQueue, .mp, .out, .fretOut] s.dev e)) ∧
  (∀ (s : State) (fret : Nat), s.dev.pwr.ctlLost = true →
    let near := s.dev.pwr.lostFret + (s.dev.clk.tick - s.dev.pwr.lostTick) / 32
    near ≤ fret + 2 → fret ≤ near + 2 →
    ∃ e, exec (.controlDieRebuild fret) s = .next (withDev s (settle e)) ∧
      e.pwr.ctlLost = false ∧ e.clk.fret = fret % 2 ^ 48 ∧ e.clk.tickInFret = 0 ∧ e.clk.tick = s.dev.clk.tick ∧
      e.jr.primary = e.jr.secondary ∧ e.jr.rebuilt = true ∧ e.fb.resv = [] ∧ e.fb.bankA = [] ∧ e.fb.bankB = [] ∧ e.fb.replan = none ∧ e.mm = { s.dev.mm with downEntries := [] } ∧
      Safety.keeps [.clk, .mm, .pwr, .cfg, .pci, .ring, .jr, .fb, .str, .ph, .lk, .seq, .flt, .int, .tmr, .wd, .otp, .rcd, .cap, .capQueue, .mp, .out, .fretOut] s.dev e)

/-- O19. A NOP of a ring that executes and passes its checks completes OK: its entry is DONE with one FINAL completion entry of status OK and DETAIL 0
queued, no other entry changes, and nothing of the device changes but that entry, the list of completions due, and the outputs. -/
def Obligations.NopHasNoEffect : Prop :=
  ∀ (s : State) (e : Nat) (x : Entry), Safety.runs s.dev e x .nop → x.ring ≠ 32 →
    ∃ d, exec (.nop e) s = .next (withDev s (settle d)) ∧
      (∃ y, entryOf d e = some y ∧ y.st = .done ∧ y.firstCpl = true ∧ y.ring = x.ring ∧ y.image = x.image ∧
        y.cpls = x.cpls ++ [{ seq := x.seq, status := .ok, ring := x.ring, effect := s.dev.clk.fret % 2 ^ 32, detail := 0, mark := flagMark x }]) ∧
      (∀ k, k ≠ e → entryOf d k = entryOf s.dev k) ∧ d.jr.due = s.dev.jr.due ++ [e] ∧ d.jr.tails = s.dev.jr.tails ∧
      Safety.keeps [.jr, .out, .fretOut] s.dev d

/-- O20. A descriptor of any class that fails a check, and is not an ON request, completes with that check's status and DETAIL after its intent record,
and does nothing else; an opcode that is not defined completes BAD_OPCODE. -/
def Obligations.FailedCheckCompletes : Prop :=
  (∀ (s : State) (e : Nat) (x : Entry) (c : Sys2Proof.Machine.Class) (st : Status) (detail : Nat),
    Safety.executes s.dev e x c → isOn s.dev x = false → checkDesc (Safety.intent s.dev e) x = some (st, detail) →
    exec (Safety.rowOf e c) s = .next (withDev s (settle (finishNow (Safety.intent s.dev e) e st detail)))) ∧
  (∀ (s : State) (e : Nat) (x : Entry), Safety.executes s.dev e x .bad → x.fixed = none → 0x0C < opcodeOf x.image →
    exec (.badOpcode e) s = .next (withDev s (settle (finishNow (Safety.intent s.dev e) e .badOpcode (badDetail 0 0xFF 0)))))

/-- O21. Each QUERY completes OK with its item in DETAIL: the free journal entries, the fret's high half with the tick, a string's state with its phases
in service, the headroom of a fret, the live bank's energy word of a fret, and the reservations of a tag. It changes nothing else. -/
def Obligations.QueriesAnswer : Prop :=
  ∀ (s : State) (e : Nat) (x : Entry),
    let k := quArg x.image
    let d := Safety.intent s.dev e
    let ok (n : Nat) := Safety.next s (finishNow d e .ok n)
    (Safety.runs s.dev e x .qFree → exec (.queryFreeEntries e) s = ok (journalFree d)) ∧
    (Safety.runs s.dev e x .qFret → exec (.queryFret e) s = ok (d.clk.fret / 2 ^ 32 % 65536 + (d.clk.tickInFret <<< 16))) ∧
    (Safety.runs s.dev e x .qString → exec (.queryString e) s = ok ((strU d k).st.code + ((inService d k).length <<< 8))) ∧
    (Safety.runs s.dev e x .qUnreserved → exec (.queryUnreserved e) s = ok (lowBits 32 (headroomAt d (d.clk.fret + k)))) ∧
    (Safety.runs s.dev e x .qBank → exec (.queryBankEnergy e) s = ok (bankWord (liveBank d) 65 (d.clk.fret + k)).toNat) ∧
    (Safety.runs s.dev e x .qTag → exec (.queryTag e) s = ok ((d.fb.resv.filter (fun r => r.inLive && r.tag == k)).length))

/-- O22. STOP stops a charger that runs; CHARGE sets the limit, starts one at rest, and is PARTIAL where no charging follows; SEARCH begins a search or
joins the one under way, and with no shunt set only recomputes the input power; RIDE_LEVEL sets the level to come; CLEAR_TIMEOUT clears the time-out; INPUT_LIMIT clamps
to the search result and recomputes the input power. -/
def Obligations.ChargerDescriptorsWork : Prop :=
  ∀ (s : State) (e : Nat) (x : Entry),
    let d := Safety.intent s.dev e
    let v := chValue x.image
    let is (t : CState) := d.chg.st = t
    (Safety.runs s.dev e x .chgStop →
      (is .timeout ∨ is .absent ∨ is .search → exec (.chargerStop e) s = Safety.next s (finishNow d e .ok 0)) ∧
      (¬ (is .timeout ∨ is .absent ∨ is .search) → exec (.chargerStop e) s = Safety.next s (finishNow (setCharger d .stopped) e .ok 0))) ∧
    (Safety.runs s.dev e x .chgCharge →
      let d' : Dev := { d with chg := { d.chg with limit := v } }
      (¬ (is .stopped ∨ is .done) → exec (.chargerCharge e) s = Safety.next s (finishNow d' e (if is .timeout ∨ is .absent ∨ is .disabled then .partialDone else .ok) 0)) ∧
      (is .stopped ∨ is .done → exec (.chargerCharge e) s = Safety.next s (finishNow (enterQualify d') e (if d.chg.timedOut = true then .partialDone else .ok) 0))) ∧
    (Safety.runs s.dev e x .chgSearch →
      let d0 := recomputePin d
      (rsF d 0x4028 0 16 = 0 → exec (.chargerSearch e) s = Safety.next s (finishNow d0 e .partialDone (d.chg.iFound % 65536 + (d0.fb.pin <<< 16)))) ∧
      (rsF d 0x4028 0 16 ≠ 0 → (∀ q, d.chg.search = some q → exec (.chargerSearch e) s = Safety.next s (commitEntry { d with chg := { d.chg with search := some { q with entries := q.entries ++ [e] } } } e))) ∧
      (rsF d 0x4028 0 16 ≠ 0 → d.chg.search = none →
        exec (.chargerSearch e) s = Safety.next s (commitEntry (setCharger { d with chg := { d.chg with search := some { start := d.clk.tick, entries := [e], back := d.chg.st } } } .search) e))) ∧
    (Safety.runs s.dev e x .chgRide → exec (.chargerRideLevel e) s = Safety.next s (finishNow { d with chg := { d.chg with rideNext := some v } } e .ok 0)) ∧
    (Safety.runs s.dev e x .chgClear →
      let d' : Dev := { d with chg := { d.chg with timedOut := false } }
      (is .timeout → exec (.chargerClearTimeout e) s = Safety.next s (finishNow (setCharger d' .stopped) e .ok 0)) ∧
      (¬ is .timeout → exec (.chargerClearTimeout e) s = Safety.next s (finishNow d' e .ok 0))) ∧
    (Safety.runs s.dev e x .chgLimit →
      let top := min 65535 (searchBased d)
      let d' := recomputePin { d with fb := { d.fb with hostLimit := if v = 0 then none else some (min v top) } }
      exec (.chargerInputLimit e) s = Safety.next s (finishNow d' e (if top < v then .partialDone else .ok) d'.fb.pin))

/-- O23. PROFILE and SETPOINT are scheduled until their last fret has passed, or refused in a run from ARMED to CONFIG; CONFIG_COMMIT queues a commit at the next boundary or is scheduled with its
fret; CAPTURE START awaits its start fret where the ring is set up and no capture is active; CAPTURE STOP ends the capture now or is scheduled;
RECORD_MARK writes its record and answers its SEQUENCE. -/
def Obligations.TimedDescriptorsSchedule : Prop :=
  ∀ (s : State) (e : Nat) (x : Entry),
    let d := Safety.intent s.dev e
    let f := caFret x.image
    (Safety.runs s.dev e x .profile → disarming d = false → exec (.profile e) s = Safety.next s (schedule d x (prLast x.image + 1))) ∧
    (Safety.runs s.dev e x .setpoint → disarming d = false → exec (.setpoint e) s = Safety.next s (schedule d x (spFret x.image + 1))) ∧
    (Safety.runs s.dev e x .profile → disarming d = true → exec (.profile e) s = Safety.next s (finish d e .modeRefused (prStart x.image) 0)) ∧
    (Safety.runs s.dev e x .setpoint → disarming d = true → exec (.setpoint e) s = Safety.next s (finish d e .modeRefused (spFret x.image) 0)) ∧
    (Safety.runs s.dev e x .commit →
      (coFret x.image = 0 → exec (.configCommit e) s = Safety.next s { d with cfg := { d.cfg with commits := d.cfg.commits ++ [{ fret := boundary d, entry := some e }] } }) ∧
      (coFret x.image ≠ 0 → exec (.configCommit e) s =
        Safety.next s (schedule { d with cfg := { d.cfg with commits := d.cfg.commits ++ [{ fret := coFret x.image, entry := some e }] } } x (coFret x.image + 1)))) ∧
    (∀ wrap : Bool, Safety.runs s.dev e x (if wrap then .capFreeze else .capStart) →
      let i : Instr := if wrap then .captureStartFreeze e else .captureStart e
      let d' := statusLine { d with cap := { d.cap with st := .awaiting, wrap := wrap, startFret := if f = 0 then boundary d else f, startEntry := some e } }
      (captureActive d = true → exec i s = Safety.next s (finishNow d e .ok 0)) ∧
      (captureActive d = false → rwF d 0x7108 0 6 ≠ 0 → f = 0 → exec i s = Safety.next s d') ∧
      (captureActive d = false → rwF d 0x7108 0 6 ≠ 0 → f ≠ 0 → exec i s = Safety.next s (schedule d' x (f + 1)))) ∧
    (Safety.runs s.dev e x .capStop →
      (f = 0 → exec (.captureStop e) s = Safety.next s (finishNow (endCapture d 0) e .ok (sat (2 ^ 32 - 1) (endCapture d 0).cap.written))) ∧
      (f ≠ 0 → exec (.captureStop e) s = Safety.next s (schedule d x (f + 1)))) ∧
    (Safety.runs s.dev e x .mark →
      let i := x.image
      let d' := record d (mkCode i) (x.ring % 32) (flagMark x) (leAt i 12 4) (leAt i 16 4) (leAt i 20 4) (leAt i 24 4)
      exec (.recordMark e) s = Safety.next s (finishNow d' e .ok (d.rcd.seq + 65536 * b2n (d.rcd.full || decide (d.rcd.discarded < d'.rcd.discarded)))))

/-- O24. A RESERVE that passes the admission tests joins the list of reservations, counts and is scheduled to its end; one that fails changes no cell,
plan cell or reservation, counts as rejected, and completes with the test's status and the first fret that fails. -/
def Obligations.ReserveIsAllOrNothing : Prop :=
  ∀ (s : State) (e : Nat) (x : Entry), Safety.runs s.dev e x .reserve →
    let d := Safety.intent s.dev e
    let r := reserveOf x
    (∀ f t, tryAdmit d (modelOf d) r.string r.tag r.start r.stop (planFrom d x) (expand r.start r.pStart r.segs) (scratches d) = .fail f t →
      ∃ d', exec (.reserve e) s = .next (withDev s (settle d')) ∧
        d' = finishNow { d with fb := { d.fb with rejected := sat (2 ^ 32 - 1) (d.fb.rejected + 1) } } e t.status f ∧
        d'.fb.bankA = s.dev.fb.bankA ∧ d'.fb.bankB = s.dev.fb.bankB ∧ d'.fb.resv = s.dev.fb.resv ∧ d'.fb.planLive = s.dev.fb.planLive ∧
        d'.fb.admitted = s.dev.fb.admitted ∧ Safety.keeps [.jr, .fb, .int, .mp, .out, .fretOut] s.dev d') ∧
    (∀ room plan ts, tryAdmit d (modelOf d) r.string r.tag r.start r.stop (planFrom d x) (expand r.start r.pStart r.segs) (scratches d) = .ok room plan ts →
      ∃ d', exec (.reserve e) s = .next (withDev s (settle d')) ∧
        d'.fb.resv = s.dev.fb.resv ++ [{ entry := e, ring := x.ring, string := r.string, tag := r.tag, start := r.start, stop := r.stop, pStart := r.pStart, segs := r.segs, rideSafe := r.rideSafe, shadowFrom := (shadowReady s.dev).getD 0 }] ∧
        d'.fb.admitted = sat (2 ^ 32 - 1) (s.dev.fb.admitted + 1) ∧ d'.fb.rejected = s.dev.fb.rejected ∧
        (∃ y, entryOf d' e = some y ∧ y.st = .scheduled ∧ y.endFret = r.stop ∧ y.admIssued = true) ∧
        Safety.keeps [.jr, .fb, .out, .fretOut] s.dev d')

/-- O25. A REPLAN that executes before its decision point becomes the one in flight; one whose decision point has passed is missed at once. A SEQUENCE
begins a run in the table its direction names, from its first step to its last. -/
def Obligations.LongWorkBegins : Prop :=
  (∀ (s : State) (e : Nat) (x : Entry), Safety.runs s.dev e x .replan →
    let d := Safety.intent s.dev e
    let p : Replan := { entry := e, switch := rpSwitch x.image, retry := rpRetry x.image }
    let d' : Dev := { d with fb := { d.fb with replan := some p } }
    let past := p.switch < d.clk.fret + 2 ∨ (p.switch = d.clk.fret + 2 ∧ d.clk.tickInFret ≠ 0)
    (¬ past → exec (.replan e) s = .next (withDev s (settle d'))) ∧
    (past → exec (.replan e) s = .next (withDev s (settle (missReplan d' p))))) ∧
  (∀ (s : State) (e : Nat) (x : Entry), Safety.runs s.dev e x .sequence →
    let d := Safety.intent s.dev e
    (sqDown x.image = true → exec (.sequence e) s = .next (withDev s (settle (newRun d .seqDown 3 (sqFirst x.image) (sqLast x.image) (some e))))) ∧
    (sqDown x.image = false → exec (.sequence e) s = .next (withDev s (settle (newRun d .seqUp 2 (sqFirst x.image) (sqLast x.image) (some e))))))

/-- O26. A FENCE with nothing before it open completes OK; one with an open descriptor waits, and FENCE_WAIT_END completes it once nothing it waits on is
open. A descriptor other than MODE that its own fence flag held executes at FENCE_BEFORE_RELEASE as its class says. A request that waited for a run
executes when it no longer waits; an ON request latched in SHUTDOWN starts BOOT from COLD once the minimum off time has passed. -/
def Obligations.WaitingWorkExecutes : Prop :=
  (∀ (s : State) (e : Nat) (x : Entry),
    let d := Safety.intent s.dev e
    (Safety.runs s.dev e x .fence → fenceOpen d x = true → exec (.fence e) s = .next (withDev s (settle (finishNow d e .ok 0)))) ∧
    (Safety.runs s.dev e x .fence → fenceOpen d x = false → exec (.fence e) s = .next (withDev s (settle d))) ∧
    (entryOf s.dev e = some x → x.st = .intent → classOf x.image = .fence → s.dev.pwr.ctlLost = false →
      (fenceOpen s.dev x = true → exec (.fenceWaitEnd e) s = .next (withDev s (settle (finishNow s.dev e .ok 0)))) ∧
      (fenceOpen s.dev x = false → exec (.fenceWaitEnd e) s = .next (withDev s (settle s.dev)))) ∧
    (Safety.runs s.dev e x (classOf x.image) → flagFence x = true → classOf x.image ≠ .mode →
      exec (.fenceBeforeRelease e) s = .next (withDev s (settle (workOf s.repIn x d x))))) ∧
  (∀ (s : State) (e : Nat) (x : Entry),
    (entryOf s.dev e = some x → x.deferred = true → x.latched = false → ready s.dev x = true → waitsRun s.dev x = false → isOn s.dev x = false →
      checkDesc (Safety.intent s.dev e) x = none →
      exec (.deferredModeExecute e) s = .next (withDev s (settle (workOf s.repIn x (Safety.intent s.dev e) x)))) ∧
    (∀ q, s.dev.mm.latched = some q → s.dev.mm.mode = .cold → (∀ t, s.dev.mm.offUntil = some t → t ≤ s.dev.clk.tick) →
      exec .latchedOnExecute s = .next (withDev s (settle (startBoot s.dev .latchedOn)))))

/-- O27. SHUTDOWN and OFF begin a power-down and SAFE acts at once; another target answers OK where it is the present mode, waits for the next fret
boundary where it is permitted, and is MODE_REFUSED where it is not. SAFE asked for in RUN is entered with cause HOST_RING; RUN and HOLD are entered
at the boundary with the request's cause, and the request answers the mode it left and the mode it entered. -/
def Obligations.ModeDescriptorsAct : Prop :=
  (∀ (s : State) (e : Nat) (x : Entry) (m : Mode), Safety.runs s.dev e x .mode → isOn s.dev x = false → Mode.ofCode (modeTarget x.image) = some m →
    let d := Safety.intent s.dev e
    let c := requestCause x
    (m = .shutdown → exec (.mode e) s = .next (withDev s (settle (requestDown d false c.1 c.2 (some e))))) ∧
    (m = .off → exec (.mode e) s = .next (withDev s (settle (requestDown d true c.1 c.2 (some e))))) ∧
    (m = .safe → exec (.mode e) s = .next (withDev s (settle (requestSafe d c.1 c.2 e)))) ∧
    (m ≠ .shutdown → m ≠ .off → m ≠ .safe → x.refuse = false →
      (m = s.dev.mm.mode → exec (.mode e) s = .next (withDev s (settle (finishNow d e .ok (modeDetail m m))))) ∧
      (m ≠ s.dev.mm.mode → judge s.repIn d m = true →
        exec (.mode e) s = .next (withDev s (settle { d with mm := { d.mm with pend := some { entry := e, target := m, atFret := boundary d } } }))) ∧
      (m ≠ s.dev.mm.mode → judge s.repIn d m = false → exec (.mode e) s = .next (withDev s (settle (finishNow d e .modeRefused 0)))))) ∧
  (∀ (s : State) (e : Nat) (x : Entry),
    (Safety.runs s.dev e x .mode → isOn s.dev x = false → Mode.ofCode (modeTarget x.image) = some .safe → s.dev.mm.mode = .run → s.dev.seq.run = none → x.ring ≠ 32 →
      ∃ d, exec (.mode e) s = .next (withDev s (settle d)) ∧ d.mm.mode = .safe ∧ d.mm.cause = .hostRing ∧ d.mm.causeDetail = x.ring ∧ d.mm.causeFrom = .run ∧ d.mm.causeTo = .safe ∧
        d.clk = { s.dev.clk with free := d.clk.free } ∧ d.otp = s.dev.otp ∧ d.tmr = s.dev.tmr) ∧
    (∀ (frm to' : Mode) (p : PendMode), s.dev.mm.pend = some p → p.entry = e → p.target = to' → entryOf s.dev e = some x → x.st ≠ .done →
      s.dev.mm.mode = frm → (frm = .armed ∧ to' = .run ∨ frm = .run ∧ to' = .hold ∨ frm = .hold ∧ to' = .run) → p.atFret ≤ s.dev.clk.fret →
      s.dev.clk.tickInFret = 0 → s.dev.pwr.ctlLost = false → s.dev.mm.wdHold = false → x.ring ≠ 32 →
      judge s.repIn { s.dev with mm := { s.dev.mm with pend := none } } to' = true →
      ∃ d, exec .modeTakesEffect s = .next (withDev s (settle d)) ∧ d.mm.mode = to' ∧ d.mm.causeFrom = frm ∧ d.mm.causeTo = to' ∧ d.mm.cause = .hostRing ∧ d.mm.pend = none ∧
        (∃ y, entryOf d e = some y ∧ y.st = .done ∧ y.cpls.getLast? = some { seq := x.seq, status := .ok, ring := x.ring, effect := s.dev.clk.fret % 2 ^ 32, detail := modeDetail frm to', mark := flagMark x }) ∧
        d.clk = { s.dev.clk with free := d.clk.free } ∧ d.cfg = s.dev.cfg ∧ d.otp = s.dev.otp ∧ d.tmr = s.dev.tmr))

/-- O28. A running PROFILE gives its string its line's voltage in a fret; a SETPOINT writes the values it selects at its fret and no other value or
string, but for a working value that an entry behind it in the journal has set in this tick; a reservation of an entry whose end fret has come ends, PARTIAL
where a fret of it was clamped or its tail was cut. -/
def Obligations.TimedWorkTakesEffect : Prop :=
  (∀ (s : State) (k : Nat) (p : Prof), powered s.dev .sched = true → s.dev.pwr.ctlLost = false → s.dev.clk.tickInFret = 0 →
    (strU s.dev k).prof = some p → p.done ≠ s.dev.clk.fret + 1 → dueSetpoints s.dev k = [] → duePro s.dev k = [] →
    exec (.profilePoint k) s = .next (withDev s (settle (stepProfile s.dev k p))) ∧
    (k < s.dev.str.length → (strU (stepProfile s.dev k p) k).vCmd = profVolts p.start s.dev.clk.fret p.points)) ∧
  (∀ (s : State) (e : Nat) (x : Entry), entryOf s.dev e = some x → x.st = .scheduled → x.restored = false → classOf x.image = .setpoint → spFret x.image ≤ s.dev.clk.fret →
    s.dev.clk.tickInFret = 0 → s.dev.pwr.ctlLost = false →
    (∀ y ∈ before s.dev e, ∀ z ∈ dueSetpoints s.dev (spString x.image) ++ duePro s.dev (spString x.image), z.idx ≠ y.idx) → (strU s.dev (spString x.image)).prof = none →
    spString x.image < s.dev.str.length →
    let u := strU s.dev (spString x.image)
    let volts := spSel x.image % 2 = 1
    let idles := spSel x.image / 2 % 2 = 1 ∧ overtaken s.dev u.idleBy (some e) = false
    let slews := spSel x.image / 4 = 1 ∧ overtaken s.dev u.slewBy (some e) = false
    ∃ d, exec (.setpointEffect e) s = .next (withDev s (settle d)) ∧
      strU d (spString x.image) = { u with
        vCmd := if volts then spVolts x.image else u.vCmd,
        allot := if volts then { u.allot with vTarget := spVolts x.image } else u.allot,
        idle := if idles then spIdle x.image else u.idle, idleBy := if idles then some (s.dev.clk.tick, some e) else u.idleBy,
        slew := if slews then spSlew x.image else u.slew, slewBy := if slews then some (s.dev.clk.tick, some e) else u.slewBy } ∧
      (∀ j, j ≠ spString x.image → strU d j = strU s.dev j) ∧ Safety.keeps [.jr, .str, .int, .mp, .out, .fretOut] s.dev d) ∧
  (∀ (s : State) (e : Nat) (r : Resv), s.dev.pwr.ctlLost = false → s.dev.fb.resv = [r] → r.entry = e → r.inLive = true → r.stop ≤ s.dev.clk.fret →
    exec (.timedWorkEnd e) s = .next (withDev s (settle (endResv s.dev r (if r.clamped = 0 ∧ r.cutFret = none then .ok else .partialDone) s.dev.clk.fret false))))

/-- O29. ID_COMMIT.COMMIT is taken in CONFIG and refused elsewhere; DISCARD loads every staged copy from its value in force; a commit at tick 0 of its
fret moves every staged copy into force, or, if a check fails, nothing, with the first failing register shown. Writes of staged copies that waited for the commit
land behind it; a DISCARD of that tick drops those. -/
def Obligations.CommitsAreWhole : Prop :=
  ∀ s : State,
    (powered s.dev .mgmt = true → s.dev.mm.mode = .config →
      exec .commit s = Safety.next s { s.dev with cfg := { s.dev.cfg with commits := s.dev.cfg.commits ++ [{ fret := s.dev.clk.fret + 1, entry := none }] } }) ∧
    (powered s.dev .mgmt = true → s.dev.mm.mode ≠ .config → exec .commit s = Safety.next s { s.dev with cfg := { s.dev.cfg with refused := true } }) ∧
    (powered s.dev .mgmt = true → commitDue s.dev = false → exec .discard s = Safety.next s { s.dev with cfg := { s.dev.cfg with staged := s.dev.cfg.force } }) ∧
    (powered s.dev .mgmt = true → commitDue s.dev = true → exec .discard s = Safety.next s { s.dev with cfg := { s.dev.cfg with after := [] } }) ∧
    (∀ c : CommitReq, powered s.dev .sched = true → s.dev.pwr.ctlLost = false → s.dev.clk.tickInFret = 0 → s.dev.cfg.commits = [c] → c.fret ≤ s.dev.clk.fret → c.entry = none →
      (∀ off, firstFailing { s.dev with cfg := { s.dev.cfg with commits := [] } } = some off →
        exec .commitApply s = Safety.next s (landStaged { s.dev with cfg := { s.dev.cfg with commits := [], result := 2, failOffset := off % 65536 } })) ∧
      (firstFailing { s.dev with cfg := { s.dev.cfg with commits := [] } } = none →
        ∃ d, exec .commitApply s = Safety.next s d ∧ d.cfg = (landStaged { s.dev with cfg := { s.dev.cfg with commits := [], force := s.dev.cfg.staged, result := 1, failOffset := 0 } }).cfg ∧
          Safety.keeps [.cap, .capQueue, .cfg, .clk, .fb, .flt, .int, .lk, .out, .rcd, .str] s.dev d))

/-- O30. The end of the build of a REPLAN without add records makes its shadow ready and leaves the live bank; the decision point passes a ready shadow on
and misses one that is not; the swap makes the shadow the live bank in one step, takes its plan cells, counts, and leaves both banks reading alike. -/
def Obligations.ReplanSwapsBanks : Prop :=
  ∀ (s : State) (p : Replan), s.dev.fb.replan = some p → s.dev.pwr.ctlLost = false →
    (∀ x, entryOf s.dev p.entry = some x → x.adds = [] → p.ready = false →
      ∃ d q, exec .replanBuildDone s = Safety.next s d ∧ d.fb.replan = some q ∧ q.ready = true ∧ q.entry = p.entry ∧ q.switch = p.switch ∧
        q.st = (if p.retrying then 4 else 2) ∧ liveBank d = liveBank s.dev ∧ Safety.keeps [.fb, .jr] s.dev d) ∧
    (s.dev.clk.tickInFret = 0 → p.st ≠ 3 → p.ready = true → s.dev.clk.fret + 2 = p.switch →
      exec .decisionPoint s = Safety.next s { s.dev with fb := { s.dev.fb with replan := some { p with st := 3 } } }) ∧
    (s.dev.clk.tickInFret = 0 → p.st ≠ 3 → p.switch ≤ s.dev.clk.fret + 2 → (p.ready = false ∨ p.switch < s.dev.clk.fret + 2) →
      exec .decisionPoint s = Safety.next s (missReplan s.dev p)) ∧
    (s.dev.clk.tickInFret = 0 → p.st = 3 → p.switch ≤ s.dev.clk.fret →
      ∃ d, exec .bankSwap s = Safety.next s d ∧ d.fb.liveB = !s.dev.fb.liveB ∧ d.fb.swaps = s.dev.fb.swaps + 1 ∧ d.fb.replan = none ∧
        d.fb.planLive = s.dev.fb.planShadow ∧ liveBank d = shadowBank s.dev ∧ shadowBank d = shadowBank s.dev ∧
        Safety.keeps [.fb, .jr, .int, .mp, .out, .fretOut] s.dev d)

/-- O31. After four frets over its ceiling a string's I_LIMIT falls to its I_DRAW where it idles or is reserved on, OVERDRAW is noted, and no
other string changes; at the ride fret no reservation without RIDE_SAFE that reaches beyond it is left. -/
def Obligations.OverdrawAndRideClamp : Prop :=
  ∀ s : State,
    (∀ k < 64, k < s.dev.str.length → 4 ≤ (strU s.dev k).overRun → (strU s.dev k).overClamp = false →
      let u := strU s.dev k
      let on := if u.overIdle then powerIn s.dev k s.dev.clk.fret == 0 else decide (s.dev.clk.fret < latestEnd s.dev k u.overFret)
      ∃ d, exec (.overdrawClamp k) s = Safety.next s d ∧ (strU d k).overRun = 0 ∧ (strU d k).overClamp = on ∧
        (strU d k).allot = (if on then { u.allot with iLimit := min u.allot.iLimit u.allot.iDraw, clamped := true } else u.allot) ∧
        (∀ j, j ≠ k → strU d j = strU s.dev j) ∧ d.fb.overdrawn = s.dev.fb.overdrawn ||| (1#64 <<< k) ∧ Safety.keeps [.fb, .int, .rcd, .str] s.dev d) ∧
    (∀ g, s.dev.mm.rideFret = some g → s.dev.pwr.ctlLost = false → g ≤ s.dev.clk.fret → (∀ r ∈ s.dev.fb.resv, r.cutFret = none) →
      ∃ d, exec .rideFret s = Safety.next s d ∧ d.mm = { s.dev.mm with rideFret := none } ∧
        (∀ r ∈ d.fb.resv, r.rideSafe = true ∨ r.stop ≤ g) ∧ Safety.keeps [.fb, .jr, .mm, .int, .mp, .out, .fretOut] s.dev d)

/-- O32. The stream begins at its start fret and its state is shown, or ends at once for want of room; a wrap-mode capture takes a snapshot every KEYFRAME
x 4096 frets; POST frets after a trigger the stream ends with reason 1. A replay fret with its inputs present and output room runs the replay's own
device over one fret and compares its digest; of the device only the capture and replay state and the outputs change. -/
def Obligations.CaptureAndReplayRun : Prop :=
  (∀ s : State,
    (s.dev.cap.st = .awaiting → s.dev.cap.startFret ≤ s.dev.clk.fret →
      ∃ d, exec .captureBegin s = Safety.next s d ∧
        (d.cap.st = (if s.dev.cap.wrap then .wrap else .running) ∨ d.cap.st = .ended) ∧ d.cap.startFret = 0 ∧ d.cap.startEntry = none ∧
        Safety.keeps [.cap, .capQueue, .clk, .flt, .int, .out, .fretOut, .rcd, .jr, .mp] s.dev d ∧ d.clk = { s.dev.clk with free := d.clk.free }) ∧
    ((s.dev.cap.st = .wrap ∨ s.dev.cap.st = .post) → s.dev.cap.wrap = true → rwF s.dev 0x7108 24 8 ≠ 0 → s.dev.cap.keyFret + 4096 * rwF s.dev 0x7108 24 8 ≤ s.dev.clk.fret →
      ∃ d, exec .keyframeSnapshot s = Safety.next s d ∧ d.cap.keyFret = s.dev.clk.fret ∧
        Safety.keeps [.cap, .capQueue, .clk, .flt, .int, .out, .rcd] s.dev d) ∧
    (s.dev.cap.st = .post → s.dev.cap.postUntil ≤ s.dev.clk.fret →
      ∃ d, exec .capturePostEnd s = Safety.next s d ∧ d.cap.st = .ended ∧ d.cap.reason = 1 ∧ d.capQueue = {} ∧
        Safety.keeps [.cap, .capQueue, .clk, .int, .out, .rcd] s.dev d)) ∧
  (∀ (s : State) (r : Dev) (st f digest n : Nat) (rest : List RepRec),
    s.rep = some r → s.dev.mm.mode = .replay → replayActive s.dev = true → powered s.dev .host = true → s.dev.pwr.ctlLost = false → rwF s.dev 0x7210 0 6 ≠ 0 →
    s.repIn = .input st (.fret f digest n) :: rest → rest.any closes = true → outRoom s.dev = true → s.dev.cap.repAt ≠ some s.dev.clk.fret →
    let ahead := aheadOf r.clk.tick (rest.dropWhile (fun q => !closes q))
    let e := replayRun r (without r.capQueue.due (fretInputs (rest.takeWhile (fun q => !closes q))) ++ ahead)
    ∃ t d, exec .replayFret s = .next t ∧ t.dev = settle d ∧ t.rep = some { fretEffects (openFret (closeFret e)) with out := [], capQueue := { due := ahead } } ∧
      t.repIn = rest.dropWhile (fun q => !closes q) ∧ t.pending = s.pending ∧ d.cap.replayed = s.dev.cap.replayed + 1 ∧ d.cap.rst = .running ∧
      ((if s.dev.cap.replayed = 0 then digest else r.cap.digest) ≠ digest → d.cap.diverged = true) ∧ Safety.keeps [.cap, .out] s.dev d)

/-- O33. A good block of the first slot queues its telemetry for the phase units, shows its currents and its status word and ends the run of lost slots. A
good STATUS block gives the stage's identity and the phases' temperatures. The re-send of a refused block counts as late and does not queue. No other
link changes. -/
def Obligations.UplinksAreTaken : Prop :=
  (∀ (s : State) (k : Nat) (b : Block), s.dev.lk.length = 16 → s.dev.ph.length = 64 → k < 16 → listening s.dev k = true → injectionOn s.dev 6 k = false →
    hdrSlot b = 0 → hdrType b = 0 → crcGood b = true →
    ∃ d, exec (.uplinkTelemetry k b) s = Safety.next s d ∧ (lkU d k).inbox = (lkU s.dev k).inbox ++ [sampleOf s.dev b] ∧
      (lkU d k).upRun = 0 ∧ (lkU d k).goodUp = (lkU s.dev k).goodUp + 1 ∧ (lkU d k).status = pf b 27 2 ∧
      (lkU d k).nak = (if ackValid b then some (ackNak b) else (lkU s.dev k).nak) ∧
      (∀ i < 4, (phU d (4 * k + i)).current = (sampleOf s.dev b).cur.getD i 0) ∧ (∀ j, j ≠ k → lkU d j = lkU s.dev j) ∧
      Safety.keeps [.lk, .ph, .str, .fb, .jr, .flt, .int, .rcd, .cap, .capQueue, .clk, .mp, .out, .fretOut] s.dev d) ∧
  (∀ (s : State) (k : Nat) (b : Block), s.dev.lk.length = 16 → s.dev.ph.length = 64 → k < 16 → listening s.dev k = true → crcGood b = true →
    (hdrSlot b = 1 → hdrType b = 1 →
      ∃ d, exec (.uplinkStatus k b) s = Safety.next s d ∧ (lkU d k).stageId = pf b 9 2 ∧ (lkU d k).caps = pf b 11 1 ∧ (lkU d k).stageLost = pf b 12 2 ∧
        (lkU d k).idSeen = true ∧ (lkU d k).upRun = 0 ∧ (∀ i < 4, (phU d (4 * k + i)).temp = signed 16 (pf b (1 + 2 * i) 2)) ∧
        (∀ j, j ≠ k → lkU d j = lkU s.dev j) ∧ Safety.keeps [.lk, .ph, .flt, .int, .rcd, .cap, .capQueue, .clk, .out] s.dev d) ∧
    (hdrSlot b = 0 → hdrType b = 0 → (∃ q ∈ (lkU s.dev k).refused, q.1 = byteAt b 0) →
      ∃ d, exec (.uplinkResend k b) s = Safety.next s d ∧ (lkU d k).late = min ((lkU s.dev k).late + 1) 65535 ∧ (lkU d k).refused = (lkU s.dev k).refused.filter (fun q => q.1 != byteAt b 0) ∧
        (lkU d k).inbox = (lkU s.dev k).inbox ∧ (∀ j, j ≠ k → lkU d j = lkU s.dev j) ∧
        Safety.keeps [.lk, .ph, .str, .fb, .jr, .flt, .int, .rcd, .cap, .capQueue, .clk, .mp, .out, .fretOut] s.dev d))

/-- O34. A slot that is not received good is lost, whichever way it is told: counted, the run of good slots ends, a block of the first slot is missed at
its due tick and is refused behind the second downlink slot; the third in a row holds an UP link and makes it RECOVERING. The second downlink slot, sent once
in a tick, re-sends the edge block on a NAK where the link allows it, and otherwise carries a COMMAND block. No other link changes. -/
def Obligations.LostSlotsAndTheSecondSlot : Prop :=
  (∀ (s : State) (k : Nat) (second : Bool) (hdr : Nat), s.dev.lk.length = 16 → k < 16 → listening s.dev k = true →
    (∃ d, exec (.lostUplinkSlot k second hdr) s = Safety.next s d ∧ (lkU d k).upRun = (lkU s.dev k).upRun + 1 ∧ (lkU d k).goodUp = 0 ∧
      (lkU d k).up = min ((lkU s.dev k).up + 1) 65535 ∧ (lkU d k).lostNow = (lkU s.dev k).lostNow + 1 ∧ (lkU d k).flight = (lkU s.dev k).flight ∧
      (second = false → (lkU d k).lateDue = (lkU s.dev k).lateDue ++ [s.dev.clk.tick + 1]) ∧
      (second = false → ((lkU s.dev k).second.any fun q => q.1 == s.dev.clk.tick) = false → (lkU d k).refusing = some hdr) ∧
      (second = false → ((lkU s.dev k).second.any fun q => q.1 == s.dev.clk.tick) = true → (hdr, s.dev.clk.tick) ∈ (lkU d k).refused ∧ (lkU d k).refusing = none) ∧
      ((lkU s.dev k).upRun = 2 → (lkU s.dev k).st = .up → (lkU d k).st = .recovering ∧ (lkU d k).hold = true ∧ (lkU d k).holdAt = s.dev.clk.tick + 1) ∧
      ((lkU s.dev k).upRun ≠ 2 → (lkU d k).st = (lkU s.dev k).st) ∧
      (∀ j, j ≠ k → lkU d j = lkU s.dev j) ∧ Safety.keeps [.lk, .ph, .str, .fb, .flt, .int, .rcd, .cap, .capQueue, .clk, .out, .fretOut] s.dev d) ∧
    (∀ b : Block, crcGood b = false → injectionOn s.dev 6 k = false →
      exec (.uplinkTelemetry k b) s = exec (.lostUplinkSlot k false (byteAt b 0)) s ∧
      exec (.uplinkStatus k b) s = exec (.lostUplinkSlot k true (byteAt b 0)) s ∧
      exec (.uplinkResend k b) s = exec (.lostUplinkSlot k true (byteAt b 0)) s)) ∧
  (∀ (s : State) (k : Nat), k < s.dev.lk.length → listening s.dev k = true →
    let l := lkU s.dev k
    let again := l.nak = some true ∧ l.resendOk = true ∧ (l.hold = false ∨ l.holdAt ≠ s.dev.clk.tick + 1)
    let refusal := match l.refusing with | some h => [Out.refuse k h] | none => []
    (secondFree s.dev k = false → exec (.resendDecision k) s = Safety.next s s.dev) ∧
    (secondFree s.dev k = true → again →
      ∃ d, exec (.resendDecision k) s = Safety.next s d ∧ d.out = s.dev.out ++ [downBlock k 1 (header 0 s.dev.clk.tick 0) l.edge] ++ refusal ∧
        (lkU d k).sameTick = min (l.sameTick + 1) 65535 ∧ (lkU d k).nak = none ∧ (lkU d k).st = l.st ∧ Safety.keeps [.lk, .out, .fretOut] s.dev d) ∧
    (secondFree s.dev k = true → ¬ again →
      ∃ d, exec (.resendDecision k) s = Safety.next s d ∧ d.out = s.dev.out ++ [downBlock k 1 (header 1 s.dev.clk.tick 1) (commandPayload s.dev k)] ++ refusal ∧
        (lkU d k).sameTick = l.sameTick ∧ (lkU d k).nak = none ∧ (lkU d k).st = l.st ∧ Safety.keeps [.lk, .out, .fretOut] s.dev d))

/-- O35. A link trains to HELD on eight good slots each way and a delay within 100 ns, a larger one is shown and the link keeps training; TRAIN_TIMEOUT without it marks the failure once and the link keeps
training; RECOVERING for longer than RECOVERY retires the link, its strings and its phases; REINSTATE in CONFIG trains it again
once LINK_RETIRED is clear for it. -/
def Obligations.LinksTrainAndRetire : Prop :=
  ∀ (s : State) (k : Nat), s.dev.lk.length = 16 → s.dev.ph.length = 64 → s.dev.str.length = 64 → k < 16 →
    let l := lkU s.dev k
    (∀ delay, listening s.dev k = true → l.st = .training → 8 ≤ l.goodUp → 8 ≤ l.goodDown → delay ≤ 100 → s.dev.mm.mode ≠ .drone →
      ∃ d, exec (.linkTrained k delay) s = Safety.next s d ∧ (lkU d k).st = .held ∧ (lkU d k).delay = delay ∧ (lkU d k).resendOk = decide (delay ≤ 40) ∧
        (delay ≤ 40 → d.flt = s.dev.flt) ∧ (∀ j, j ≠ k → lkU d j = lkU s.dev j) ∧ Safety.keeps [.lk, .flt] s.dev d) ∧
    (∀ delay, listening s.dev k = true → l.st = .training → 8 ≤ l.goodUp → 8 ≤ l.goodDown → 100 < delay →
      ∃ d, exec (.linkTrained k delay) s = Safety.next s d ∧ (lkU d k).st = .training ∧ (lkU d k).delay = min 255 delay ∧ (lkU d k).resendOk = false ∧
        (∀ j, j ≠ k → lkU d j = lkU s.dev j) ∧ Safety.keeps [.lk] s.dev d) ∧
    (listening s.dev k = true → l.st = .training → l.trainFailed = false → l.trainAt + 1000 * rsF s.dev 0x3004 24 8 ≤ s.dev.clk.tick →
      ∃ d, exec (.linkTrainFail k) s = Safety.next s d ∧ (lkU d k).trainFailed = true ∧ (lkU d k).st = .training ∧
        d.flt.inbox = s.dev.flt.inbox ++ [{ due := s.dev.clk.tick + 1, code := 0x1203, p0 := k, p1 := 0xFFFFFFFF, p2 := l.delay }] ∧ Safety.keeps [.lk, .flt, .int] s.dev d) ∧
    (listening s.dev k = true → l.st = .recovering → l.recoverAt + rsF s.dev 0x3004 16 8 < s.dev.clk.tick →
      ∃ d, exec (.linkRecoveryTimeout k) s = Safety.next s d ∧ (lkU d k).st = .retired ∧ (∀ j, j ≠ k → lkU d j = lkU s.dev j) ∧
        (∀ i < 4, (phU d (4 * k + i)).retired = true) ∧
        (∀ j ∈ stringsOnLink s.dev k, (strU d j).retired = true) ∧
        Safety.keeps [.lk, .ph, .str, .fb, .jr, .flt, .int, .rcd, .mp, .out, .fretOut] s.dev d) ∧
    (s.dev.mm.mode = .config → l.st = .retired → ((srcOf s.dev 0x1202).status && (srcOf s.dev 0x1202).insts.contains k) = false → linkUsed s.dev k = true → bit s.dev.flt.regRetired (regionOfLink k) = false →
      exec (.linkReinstate k) s = Safety.next s (trainLink s.dev k) ∧ (lkU (trainLink s.dev k) k).st = .training)

/-- O36. N limited cycles begin a hiccup for its off time, or, when K have begun within the window, retire the string; the off time's end begins a soft
start from the measured output. A safe discharge ends in SAFE_OFF below 10 % or at its timeout, which also sets STR_EVENT bit 5; REINSTATE in CONFIG
with no fault of the string set returns the string and its phases. No other string changes. -/
def Obligations.StringsHiccupAndRest : Prop :=
  (∀ (s : State) (k : Nat), s.dev.str.length = 64 → k < 64 →
    let u := strU s.dev k
    let n := ((inService s.dev k).map (fun p => (phU s.dev p).limRun)).foldl max 0
    (u.st.switching = true → 1 ≤ n → hicN s.dev k ≤ n → hiccupsIn s.dev k < hicK s.dev k → u.retired = false → (∀ p ∈ inService s.dev k, (phU s.dev p).follower = false) →
      ∃ d, exec (.stringHiccup k) s = Safety.next s d ∧ (strU d k).st = .hiccup ∧ (strU d k).hicUntil = s.dev.clk.tick + 500 * hicT s.dev k ∧
        (strU d k).hicStarts = s.dev.clk.tick :: u.hicStarts.take 15 ∧ (strU d k).retired = false ∧ (∀ j, j ≠ k → strU d j = strU s.dev j) ∧
        d.flt.inbox = s.dev.flt.inbox ++ [{ due := s.dev.clk.tick + 1, code := 0x1100, p0 := k, p1 := 0xFFFFFFFF, p2 := n }] ∧ Safety.keeps [.str, .ph, .flt] s.dev d) ∧
    (u.st.switching = true → 1 ≤ n → hicN s.dev k ≤ n → hicK s.dev k ≤ hiccupsIn s.dev k → u.retired = false →
      ∃ d, exec (.stringHiccup k) s = Safety.next s d ∧ (strU d k).retired = true ∧ (strU d k).retireCode = 0x1101 ∧ (∀ j, j ≠ k → strU d j = strU s.dev j) ∧
        Safety.keeps [.ph, .str, .fb, .jr, .flt, .int, .rcd, .mp, .out, .fretOut] s.dev d) ∧
    (u.st = .hiccup → u.hicUntil ≤ s.dev.clk.tick →
      ∃ d, exec (.hiccupRetry k) s = Safety.next s d ∧ (strU d k).st = .softStart ∧ (strU d k).vRamp = measuredRamp s.dev k ∧ (strU d k).vCmd = u.vCmd ∧
        (∀ j, j ≠ k → strU d j = strU s.dev j) ∧ Safety.keeps [.str, .ph] s.dev d)) ∧
  (∀ (s : State) (k : Nat), s.dev.str.length = 64 → s.dev.ph.length = 64 → k < 64 →
    let u := strU s.dev k
    (u.st = .safeDischarge → u.retired = false → below10 s.dev k = true →
      exec (.safeDischargeDone k) s = Safety.next s (updStr s.dev k (fun u => { u with st := .safeOff }))) ∧
    (u.st = .safeDischarge → u.retired = false → u.dischBy ≤ s.dev.clk.tick →
      ∃ d, exec (.safeDischargeTimeout k) s = Safety.next s d ∧ strU d k = { u with st := .safeOff, event := withBit u.event 5 } ∧
        (∀ j, j ≠ k → strU d j = strU s.dev j) ∧ Safety.keeps [.str, .flt] s.dev d) ∧
    (s.dev.mm.mode = .config → stringFault s.dev k = false →
      ∃ d, exec (.stringReinstate k) s = Safety.next s d ∧ (strU d k).retired = false ∧ (∀ p ∈ course s.dev k, (phU d p).retired = false) ∧
        (u.st = .retired → u.retired = true → (strU d k).st = .disabled) ∧ (∀ j, j ≠ k → strU d j = strU s.dev j) ∧
        (∀ p, p ∉ course s.dev k → phU d p = phU s.dev p) ∧ Safety.keeps [.str, .ph, .fb, .flt, .int, .rcd] s.dev d))

/-- O37. An open phase is retired with cause 1; one whose sense fails becomes a follower or is retired; a follower is retired with cause 2 after 64 of its
cycles. No phase of another course changes. -/
def Obligations.PhasesFailAlone : Prop :=
  ∀ (s : State) (p : Nat), s.dev.ph.length = 64 → s.dev.str.length = 64 → p < 64 →
    (tested s.dev p = true → 32 ≤ (phU s.dev p).openRun → senseFailed s.dev p = false →
      ∃ d, exec (.phaseOpen p) s = Safety.next s d ∧ (phU d p).retired = true ∧ (phU d p).cause = 1 ∧ (phU d p).fault = 0x1102 ∧
        (∀ q, q ≠ p → (∀ j, stringOf s.dev p = some j → q ∉ course s.dev j) → phU d q = phU s.dev q) ∧ Safety.keeps [.ph, .str, .fb, .jr, .flt, .int, .rcd, .mp, .out, .fretOut] s.dev d) ∧
    (tested s.dev p = true → senseFailed s.dev p = true →
      ∃ d, exec (.phaseSenseFailed p) s = Safety.next s d ∧ ((phU d p).follower = true ∨ (phU d p).retired = true) ∧
        (∀ q, q ≠ p → (∀ j, stringOf s.dev p = some j → q ∉ course s.dev j) → phU d q = phU s.dev q) ∧ Safety.keeps [.ph, .str, .fb, .jr, .flt, .int, .rcd, .mp, .out, .fretOut] s.dev d) ∧
    ((phU s.dev p).follower = true → (phU s.dev p).retired = false → 64 ≤ (phU s.dev p).fCycles →
      ∃ d, exec (.followerRetire p) s = Safety.next s d ∧ (phU d p).retired = true ∧ (phU d p).cause = 2 ∧ (phU d p).fault = 0x1103 ∧
        (∀ q, q ≠ p → (∀ j, stringOf s.dev p = some j → q ∉ course s.dev j) → phU d q = phU s.dev q) ∧ Safety.keeps [.ph, .str, .fb, .jr, .flt, .int, .rcd, .mp, .out, .fretOut] s.dev d)

/-- O38. An item that reaches its window becomes power-good, and completes an up step that waited for it alone; a warning level of a rail or string sets
its bit and detects nothing; a fault level detects UV or OV with the item, its step and the measured value, and UV clears power-good. -/
def Obligations.ItemsAreSupervised : Prop :=
  ∀ (s : State) (i : Item) (ovr : Bool) (mv : Nat),
    (canBeGood s.dev i = true → s.dev.mm.mode ≠ .boot → s.dev.seq.run = none → exec (.itemPowerGood i) s = Safety.next s (setGood s.dev i)) ∧
    (∀ r, canBeGood s.dev i = true → s.dev.mm.mode ≠ .boot → s.dev.seq.run = some r → r.phase = .upWait → r.items = [i] → s.dev.str.length = 64 → s.dev.seq.rails.length = 8 →
      i.num < (match i with | .rail _ => 8 | .string _ => 64) → exec (.itemPowerGood i) s = Safety.next s (stepDone (setGood s.dev i) r)) ∧
    (levelArmed s.dev i ovr = true →
      (∀ r, i = .rail r → exec (.levelWarningTrip i ovr) s = Safety.next s (setSeqEvent (updRail s.dev r (fun u => { u with levels := u.levels ||| (1#4 <<< b2n ovr) })) r) ∧
        exec (.levelFaultTrip i ovr mv) s = Safety.next s (detect (updRail s.dev r (fun u => { u with levels := u.levels ||| (1#4 <<< (2 + b2n ovr)), pgood := u.pgood && ovr })) (if ovr then 0x1301 else 0x1300) r (itemStep s.dev i) mv)) ∧
      (∀ k, i = .string k → exec (.levelWarningTrip i ovr) s = Safety.next s (setSeqEvent { s.dev with seq := { s.dev.seq with warned := s.dev.seq.warned ||| (1#64 <<< k) } } 8) ∧
        exec (.levelFaultTrip i ovr mv) s = Safety.next s (detect (updStr s.dev k (fun u => { u with pgood := u.pgood && ovr })) (if ovr then 0x1303 else 0x1302) k (itemStep s.dev i) mv)))

/-- O39. The DELAY that ends starts the next step or opens the next domain; an up step that is late unwinds its run; a down step whose items are all low
passes to its DELAY; a normal one that times out is counted and passes on, a STRICT one holds; a release, or the items' discharge, ends the hold. -/
def Obligations.RunStepsAdvance : Prop :=
  ∀ (s : State) (r : Run), s.dev.seq.run = some r →
    let late := r.deadline ≤ s.dev.clk.tick
    let low := r.items.all (itemLow s.dev) = true
    let rests (e : Dev) := ∃ q, e.seq.run = some q ∧ q.phase = .delay ∧ q.step = r.step ∧ q.table = r.table ∧
      q.deadline = s.dev.clk.tick + 1000 * (if stepUsed s.dev r.table r.step then stepDelay s.dev r.table r.step else 0)
    (late → r.phase = .delay → r.waitPeers = false → exec .stepDelayEnd s = Safety.next s (afterStep s.dev r)) ∧
    (∀ i, late → r.phase = .domainDown i → i < 7 → exec .stepDelayEnd s = Safety.next s (openStage s.dev r i) ∧ bit (openStage s.dev r i).pwr.on (downStage i).bit = false) ∧
    (late → r.phase = .upWait → r.kind ≠ .boot → follows s.dev r = false →
      exec .stepTimeout s = Safety.next s (startUnwind (seqFault (setSeqEvent s.dev 12) 0x1304 ((r.items.find? (fun i => !itemGood s.dev i)).getD (.rail 0)) r.step) r .timeout)) ∧
    (∀ i, late → r.phase = .domainUp i → r.kind = .boot → exec .stepTimeout s = Safety.next s (startUnwind (seqRecord (setSeqEvent s.dev 12) 0x3002 0 0) r .timeout)) ∧
    (low → (r.phase = .downWait ∨ r.phase = .hold) →
      ∃ e, exec .downItemsDischarged s = Safety.next s e ∧ rests e ∧ Safety.keeps [.seq] s.dev e) ∧
    (low → r.phase = .closing → exec .downItemsDischarged s = Safety.next s (endClosing s.dev r)) ∧
    (late → ¬ low → r.phase = .downWait → stepStrict s.dev r.table r.step = false →
      ∃ e, exec .dischargeTimeout s = Safety.next s e ∧ rests e ∧ e.seq.dischTimeouts = min 255 (s.dev.seq.dischTimeouts + 1) ∧ Safety.keeps [.seq, .int, .rcd, .clk] s.dev e) ∧
    (late → ¬ low → r.phase = .downWait → stepStrict s.dev r.table r.step = true →
      ∃ e, exec .dischargeTimeout s = Safety.next s e ∧ e.seq.run = some { r with phase := .hold } ∧ Safety.keeps [.seq, .int, .flt] s.dev e) ∧
    (r.phase = .hold → powered s.dev .mgmt = true → ∃ e, exec .release s = Safety.next s e ∧ rests e ∧ Safety.keeps [.seq, .rcd, .int, .clk] s.dev e)

/-- O40. A held trigger starts BOOT at the end of the minimum off time, with its cause, the pack path closed and the run of the boot table. A domain stage
that is good is shown; the first passes to the verification, the next ones power the stage after them, and the last ends BOOT in CONFIG; a reference
that has not started 5 ms after VPLL's power-good unwinds the boot. -/
def Obligations.BootGoesThroughItsDomains : Prop :=
  (∀ (s : State) (c : Cause) (tr : Trigger) (t : Nat), s.dev.mm.mode = .cold → s.dev.mm.offUntil = some t → t ≤ s.dev.clk.tick → s.dev.mm.latched = none → s.dev.mm.held = some tr →
    (tr = .button ∧ c = .buttonShort ∨ tr = .input ∧ c = .inputArrival ∨ tr = .master ∧ c = .master) →
    ∃ e r, exec .minOffTimeEnd s = Safety.next s e ∧ e.mm.mode = .boot ∧ e.mm.target = .config ∧ e.mm.cause = c ∧ e.mm.causeFrom = .cold ∧ e.mm.held = none ∧ e.mm.offUntil = none ∧
      e.pwr.packPath = true ∧ e.seq.run = some r ∧ r.kind = .boot ∧ r.table = 1 ∧ e.clk.tick = s.dev.clk.tick ∧ e.otp = s.dev.otp ∧ e.cfg = s.dev.cfg) ∧
  (∀ (s : State) (r : Run), s.dev.seq.run = some r →
    (r.phase = .domainUp 0 → ∃ e, exec .domainPowerGood s = Safety.next s e ∧ e.seq.run = some { r with phase := .verify } ∧
      (∀ x, x = Domain.mgmt ∨ x = Domain.aux → bit e.pwr.pgood x.bit = true) ∧ Safety.keeps [.seq, .pwr] s.dev e) ∧
    (∀ i, 0 < i → i < 5 → r.phase = .domainUp i →
      ∃ e, exec .domainPowerGood s = Safety.next s e ∧ (∀ x ∈ bootStage i, bit e.pwr.pgood x.bit = true) ∧ (∀ x ∈ bootStage (i + 1), bit e.pwr.on x.bit = true) ∧
        e.seq.run = some { r with phase := .domainUp (i + 1), items := [], deadline := s.dev.clk.tick + 1000 } ∧ Safety.keeps [.seq, .pwr] s.dev e) ∧
    (r.phase = .domainUp 5 → s.dev.mm.safeAfterBoot = none →
      ∃ e, exec .domainPowerGood s = Safety.next s e ∧ e.mm.mode = .config ∧ e.mm.cause = .bootDone ∧ e.seq.run = none ∧ e.pins.hrstMode = false ∧ bit e.pwr.pgood Domain.fastb.bit = true) ∧
    (∀ t, s.dev.seq.vpllGood = some t → s.dev.mm.mode = .boot → r.kind = .boot → r.phase ≠ .unwind → t + 5000 ≤ s.dev.clk.tick →
      exec .referenceStartTimeout s = Safety.next s (startUnwind (seqRecord (setSeqEvent s.dev 12) 0x3002 (runPlace r).1 (runPlace r).2) r .timeout)))

/-- O41. An unwind commands the newest enabled items down as soon as the ones before them are low or late; when none is left the run ends, and an unwound
BOOT ends in COLD with the minimum off time begun. An item that passes its own timeout is counted and no longer waited for. -/
def Obligations.UnwindGoesBack : Prop :=
  ∀ (s : State) (r : Run), s.dev.seq.run = some r → r.phase = .unwind →
    (r.items.all (fun i => itemUnwound s.dev i || r.timedOut.contains i) = true →
      (∀ is rest, r.enabled = is :: rest →
        ∃ e, exec .unwindStepEnd s = Safety.next s e ∧ e.seq.run = some { r with phase := .unwind, items := is, enabled := rest, timedOut := [], deadline := s.dev.clk.tick } ∧
          (∀ k, Item.string k ∈ is → (strU e k).st.enabled = false) ∧ (∀ q, Item.rail q ∈ is → (railU e q).enabled = false) ∧
          Safety.keeps [.seq, .str, .ph, .fb, .flt, .int, .rcd] s.dev e) ∧
      (r.enabled = [] → r.kind = .boot →
        ∃ e, exec .unwindStepEnd s = Safety.next s e ∧ e.mm.mode = .cold ∧ e.mm.cause = (if r.unwindEnd = .preempt then .preemptUnwind else .bootFailed) ∧
          e.mm.offUntil = some (s.dev.clk.tick + 200000) ∧ e.seq.run = none) ∧
      (r.enabled = [] → r.kind = .seqUp → s.dev.mm.after = none → r.entry = none →
        ∃ e, exec .unwindStepEnd s = Safety.next s e ∧ e.mm.mode = s.dev.mm.mode ∧ e.seq.run = none ∧ Safety.keeps [.mm, .seq] s.dev e)) ∧
    (∀ i, i ∈ r.items → i ∉ r.timedOut → itemUnwound s.dev i = false → r.deadline + 1000 * unwindMs s.dev i ≤ s.dev.clk.tick →
      ∃ e, exec (.unwindItemTimeout i) s = Safety.next s e ∧ e.seq.run = some { r with timedOut := r.timedOut ++ [i], timeouts := r.timeouts + 1 } ∧
        Safety.keeps [.seq, .int, .rcd, .clk] s.dev e)

/-- O42. A press is timed; a mode input acts two ticks after its stamp, waits until then, and is late after it; a release before LONG_TIME boots from COLD where the policy says so, is latched in SHUTDOWN, and is an event elsewhere; at
LONG_TIME in RUN it shuts the device down; the end of the minimum off time lets a latched request or a held trigger boot; nMR asserts HRST_N until 10
ms after its release, with no mode change. -/
def Obligations.ButtonAndResetPins : Prop :=
  ∀ s : State,
    let due (stamp : Stamp) := stampTick s.dev stamp + 2
    let acts (stamp : Stamp) := due stamp = s.dev.clk.tick ∧ inputsOpen s.dev = true
    let waits (stamp : Stamp) := s.dev.clk.tick < due stamp ∨ (due stamp = s.dev.clk.tick ∧ inputsOpen s.dev = false)
    (∀ stamp, s.dev.pins.pressed = true → s.dev.pins.longDone = false → longDue s.dev (stampTick s.dev stamp) = false →
      let d : Dev := { s.dev with pins := { s.dev.pins with pressed := false, longDone := false } }
      (waits stamp → exec (.buttonShort stamp) s = Safety.next s { d with waiting := d.waiting ++ [(due stamp, .mode .shortPress)] }) ∧
      (due stamp < s.dev.clk.tick → exec (.buttonShort stamp) s = Safety.next s (lateInput d 6 0))) ∧
    (s.dev.mm.mode ≠ .off → s.dev.pins.pressed = false →
      exec .buttonPressStart s = Safety.next s { s.dev with pins := { s.dev.pins with pressed := true, pressStart := s.dev.clk.tick, longDone := false } }) ∧
    (∀ stamp, s.dev.pins.pressed = true → s.dev.pins.longDone = false → longDue s.dev (stampTick s.dev stamp) = false → capturing s.dev = false → acts stamp →
      let d : Dev := { s.dev with pins := { s.dev.pins with pressed := false, longDone := false } }
      (s.dev.mm.mode = .cold → follower s.dev = false → 2 ≤ coldBoot s.dev → s.dev.mm.offUntil = none → exec (.buttonShort stamp) s = Safety.next s (startBoot d .buttonShort)) ∧
      (s.dev.mm.mode = .shutdown → s.dev.mm.latched = none →
        exec (.buttonShort stamp) s = Safety.next s { d with mm := { d.mm with latched := some .press, onLatched := true } }) ∧
      (s.dev.mm.mode ≠ .cold → s.dev.mm.mode ≠ .shutdown → s.dev.mm.mode ≠ .off → exec (.buttonShort stamp) s = Safety.next s (setModeEvent d 5))) ∧
    (∀ stamp, longDue s.dev (stampTick s.dev stamp) = true → acts stamp → s.dev.mm.mode = .run → s.dev.seq.run = none → follower s.dev = false → capturing s.dev = false →
      ∃ e, exec (.longPress stamp) s = Safety.next s e ∧ e.mm.mode = .shutdown ∧ e.mm.cause = .longPress ∧ e.mm.causeFrom = .run ∧ e.pins.longDone = true ∧ e.mm.offPath = false) ∧
    (∀ t, s.dev.mm.mode = .cold → s.dev.mm.offUntil = some t → t ≤ s.dev.clk.tick →
      let d : Dev := { s.dev with mm := { s.dev.mm with offUntil := none } }
      (s.dev.mm.latched = none → s.dev.mm.held = none → exec .minOffTimeEnd s = Safety.next s d) ∧
      (s.dev.mm.latched ≠ none → exec .minOffTimeEnd s = Safety.next s (startBoot d .latchedOn)) ∧
      (s.dev.mm.latched = none → s.dev.mm.held = some .button → exec .minOffTimeEnd s = Safety.next s (startBoot d .buttonShort)) ∧
      (s.dev.mm.latched = none → s.dev.mm.held = some .input → exec .minOffTimeEnd s = Safety.next s (startBoot d .inputArrival)) ∧
      (s.dev.mm.latched = none → s.dev.mm.held = some .master → exec .minOffTimeEnd s = Safety.next s (startBoot d .master))) ∧
    (∀ stamp, acts stamp → s.dev.mm.mode ≠ .off → s.dev.pins.nmr = false → capturing s.dev = false →
      ∃ e, exec (.nmrAssert stamp) s = Safety.next s e ∧ e.pins = { s.dev.pins with nmr := true } ∧ (hrst s.dev = false → Out.hrst true ∈ e.out) ∧ Safety.keeps [.pins, .seq, .int, .rcd, .clk, .out] s.dev e) ∧
    (s.dev.pins.nmr = true →
      ∃ e, exec .nmrRelease s = Safety.next s e ∧ e.pins.nmr = false ∧ e.pins.hrstTimed = true ∧ s.dev.clk.tick + 10000 ≤ e.pins.hrstUntil ∧ hrst e = true ∧ Safety.keeps [.pins, .out] s.dev e) ∧
    (s.dev.pins.hrstTimed = true → s.dev.pins.hrstUntil ≤ s.dev.clk.tick →
      ∃ e, exec .hrstRelease s = Safety.next s e ∧ e.pins = { s.dev.pins with hrstTimed := false } ∧ Safety.keeps [.pins, .out] s.dev e)

/-- O43. A bad sympathetic block is counted and ends the peer's run of good ones; a good one is taken, and eight in a row make the link UP; a peer that
newly reports SAFE is a mode input of four ticks, which in RUN takes this package to SAFE; a token brings a follower's fret boundary, the first one with the master's fret, and four frets without one take it to SAFE;
a link silent for 16 ticks is lost; a peer's failed step unwinds the master's power-up. That a follower's first lock takes the fret of the master's
last block, and the moments of a report, are the model's reading (log 21). -/
def Obligations.PeersAreFollowed : Prop :=
  ∀ s : State,
    (∀ (j : Nat) (b : Block), s.dev.mm.mode ≠ .off → s.dev.pwr.ctlLost = false → (systemPeers s.dev).contains j = true → s.dev.seq.peers.length = 4 →
      let p := peerU s.dev j
      let f := peerFields b
      (peerGood b = false → exec (.sympatheticBlock j b) s = Safety.next s (updPeer s.dev j (fun q => { q with st := if q.st == 0 then 1 else q.st, lost := sat 65535 (q.lost + 1), goodRun := 0, seen := s.dev.clk.tick + 1 }))) ∧
      (peerGood b = true → f.safe = false → f.cmdValid = false → f.fwdDown = false → s.dev.seq.run = none →
        ∃ e, exec (.sympatheticBlock j b) s = Safety.next s e ∧ (peerU e j).block = f ∧ (peerU e j).goodRun = p.goodRun + 1 ∧ (peerU e j).lastGood = s.dev.clk.tick ∧
          (8 ≤ p.goodRun + 1 → (peerU e j).st = 2) ∧ (p.goodRun + 1 < 8 → p.st ≠ 2 → (peerU e j).st = 1) ∧ (∀ i, i ≠ j → peerU e i = peerU s.dev i) ∧ Safety.keeps [.seq, .clk] s.dev e) ∧
      (peerGood b = true → f.safe = true → p.block.safe = false → f.cmdValid = false → f.fwdDown = false → s.dev.seq.run = none →
        ∃ e, exec (.sympatheticBlock j b) s = Safety.next s e ∧ (peerU e j).block = f ∧ e.waiting = s.dev.waiting ++ [(s.dev.clk.tick + 4, .mode (.peerSafe j))] ∧ Safety.keeps [.seq, .clk, .waiting] s.dev e) ∧
      (s.dev.mm.mode = .run → s.dev.seq.run = none → s.dev.mm.after = none → captureActive s.dev = false →
        let e := applyMsg s.dev (.mode (.peerSafe j))
        e.mm.mode = .safe ∧ e.mm.cause = .peerSafe ∧ e.mm.causeDetail = j ∧ e.mm.causeFrom = .run)) ∧
    (follower s.dev = true → powered s.dev .sched = true → s.dev.pwr.ctlLost = false →
      let q : Sequencer := { s.dev.seq with noToken := 0, tokenLock := true, tokenSeen := true }
      (s.dev.seq.tokenSeen = true → exec .fretTokenArrival s = Safety.next s { s.dev with clk := { s.dev.clk with tickInFret := 0, fretDue := true }, seq := q }) ∧
      (∀ p, s.dev.seq.tokenSeen = false → s.dev.seq.peers.find? (fun p => p.block.master) = some p →
        exec .fretTokenArrival s = Safety.next s { s.dev with clk := { s.dev.clk with fret := p.block.fret, tickInFret := 0, fretDue := true }, seq := q })) ∧
    (follower s.dev = true → 4 ≤ s.dev.seq.noToken → s.dev.mm.mode = .run → s.dev.seq.run = none → s.dev.mm.after = none →
      ∃ e, exec .fretTokenLost s = Safety.next s e ∧ e.mm.mode = .safe ∧ e.mm.cause = .fretTokenLost ∧ e.seq.tokenLock = false) ∧
    (∀ j, (systemPeers s.dev).contains j = true → (peerU s.dev j).st = 2 → (peerU s.dev j).lastGood + 16 ≤ s.dev.clk.tick →
      exec (.peerLinkLost j) s = Safety.next s (detect (updPeer s.dev j (fun q => { q with st := 3, goodRun := 0, block := {} })) 0x1306 j 0xFFFFFFFF 0)) ∧
    (∀ r, s.dev.seq.run = some r → sysMaster s.dev = true → r.waitPeers = true → (r.kind = .boot ∨ r.kind = .arm) → r.phase ≠ .unwind →
      (systemPeers s.dev).any (fun j => (peerU s.dev j).block.fail && (peerU s.dev j).block.resNumber == s.dev.seq.cmdNumber) = true →
      exec .peerStepFail s = Safety.next s (startUnwind (seqRecord s.dev 0x3020 r.table r.step) r .timeout))

/-- O44. A loss or a return of the input acts two ticks after its stamp, waits until then, and is late after it. A loss in RUN with RIDE available is due to enter RIDE within two frets; without it the device goes to SAFE with cause NO_RIDE; RIDE
is entered with its ride fret two frets on; a return of the input in RIDE is an event and leaves the mode; in COLD it boots where the policy says so. -/
def Obligations.InputLossAndReturn : Prop :=
  ∀ s : State,
    let due (stamp : Stamp) := stampTick s.dev stamp + 2
    let acts (stamp : Stamp) := due stamp = s.dev.clk.tick ∧ inputsOpen s.dev = true
    let waits (stamp : Stamp) := s.dev.clk.tick < due stamp ∨ (due stamp = s.dev.clk.tick ∧ inputsOpen s.dev = false)
    (∀ stamp, (waits stamp → exec (.inputLoss stamp) s = Safety.next s { s.dev with waiting := s.dev.waiting ++ [(due stamp, .mode .inputLoss)] }) ∧
      (waits stamp → ∀ vin, exec (.inputReturn vin stamp) s = Safety.next s { s.dev with waiting := s.dev.waiting ++ [(due stamp, .mode (.inputReturn vin))] }) ∧
      (due stamp < s.dev.clk.tick → exec (.inputLoss stamp) s = Safety.next s (lateInput s.dev 6 0) ∧ ∀ vin, exec (.inputReturn vin stamp) s = Safety.next s (lateInput s.dev 6 0))) ∧
    (∀ stamp, acts stamp → s.dev.mm.inputPresent = true → s.dev.mm.mode = .run → capturing s.dev = false → s.dev.chg.search = none →
      (s.dev.mm.rideAvailable = true → ∃ e, exec (.inputLoss stamp) s = Safety.next s e ∧ e.mm.mode = .run ∧ e.mm.inputPresent = false ∧ e.mm.rideDue = some (s.dev.clk.fret + 2) ∧
        e.mm.event = withBit s.dev.mm.event 1 ∧ e.chg.st = (if s.dev.chg.st = .absent then .absent else .disabled) ∧ Safety.keeps [.mm, .int, .chg, .str, .ph, .lk] s.dev e) ∧
      (s.dev.mm.rideAvailable = false → s.dev.seq.run = none → s.dev.mm.after = none →
        ∃ e, exec (.inputLoss stamp) s = Safety.next s e ∧ e.mm.mode = .safe ∧ e.mm.cause = .noRide ∧ e.mm.inputPresent = false)) ∧
    (s.dev.mm.rideDue ≠ none → (s.dev.mm.mode = .armed ∨ s.dev.mm.mode = .run ∨ s.dev.mm.mode = .hold) → s.dev.mm.rideAvailable = true → s.dev.seq.run = none →
      ∃ e, exec .rideEntry s = Safety.next s e ∧ e.mm.mode = .ride ∧ e.mm.cause = .inputLoss ∧ e.mm.causeFrom = s.dev.mm.mode ∧ e.mm.rideFret = some (s.dev.clk.fret + 2) ∧ e.mm.rideDue = none ∧
        e.clk.fret = s.dev.clk.fret ∧ e.cfg = s.dev.cfg) ∧
    (∀ stamp vin, acts stamp → s.dev.mm.inputPresent = false → capturing s.dev = false →
      let d : Dev := { s.dev with mm := { s.dev.mm with inputPresent := true }, pins := { s.dev.pins with psuOk := s.dev.pins.psuOk || decide (rsF s.dev 0x4000 1 1 = 1) } }
      (s.dev.mm.mode = .ride → exec (.inputReturn vin stamp) s = Safety.next s (setModeEvent d 2)) ∧
      (s.dev.mm.mode = .cold → arrivalBoots s.dev = true → s.dev.mm.offUntil = none → exec (.inputReturn vin stamp) s = Safety.next s (startBoot d .inputArrival)) ∧
      (s.dev.mm.mode = .cold → arrivalBoots s.dev = false → exec (.inputReturn vin stamp) s = Safety.next s d))

/-- O45. A search step begins its dwell at its time; at the dwell's end the supply's limit, a droop, a load that does not hold the current or the highest
current ends the search in that order, with I_FOUND as each says; else the next step follows. PSU_LIMIT outside a search sets its event and detects
its fault. -/
def Obligations.SearchFindsTheInputCurrent : Prop :=
  ∀ s : State,
    (powered s.dev .aux = true → s.dev.chg.search = none →
      exec .psuLimitAsserted s = Safety.next s (chargerFault (setChgEvent { s.dev with pins := { s.dev.pins with psuLimit := true } } 3) 0x1504)) ∧
    (∀ q vRef, s.dev.chg.search = some q → q.dwell = false → q.start + 50000 * q.step ≤ s.dev.clk.tick →
      exec (.searchStepStart vRef) s = Safety.next s { s.dev with chg := { s.dev.chg with search := some { q with dwell := true, vRef := vRef }, dwellAt := some s.dev.clk.tick } }) ∧
    (∀ (q : Search) (vEnd : Nat) (limit held : Bool), s.dev.chg.search = some q → q.dwell = true → q.start + 50000 * q.step + 1000 * rsF s.dev 0x4020 10 6 ≤ s.dev.clk.tick →
      let i := testCurrent q.step
      let atLimit := limit = true ∧ rsF s.dev 0x4000 2 1 = 1
      let droops := vEnd + rsF s.dev 0x4020 16 8 < q.vRef
      let top := 50 * rsF s.dev 0x4020 0 10
      let ends (found : Nat) := ∃ e, exec (.searchDwellEnd vEnd limit held) s = Safety.next s e ∧ e.chg.iFound = found ∧ e.chg.search = none ∧
        Safety.keeps [.chg, .fb, .str, .ph, .lk, .rcd, .int, .jr, .mp, .out, .fretOut] s.dev e
      (atLimit → ends (i - 50)) ∧ (¬ atLimit → droops → ends (i - 50)) ∧ (¬ atLimit → ¬ droops → held = false → ends (i - 50)) ∧
      (¬ atLimit → ¬ droops → held = true → top ≤ i → ends top) ∧
      (¬ atLimit → ¬ droops → held = true → i < top →
        exec (.searchDwellEnd vEnd limit held) s = Safety.next s { s.dev with chg := { s.dev.chg with search := some { q with dwell := false, step := q.step + 1 }, dwellEnd := s.dev.clk.tick } }))

/-- O46. QUALIFY ends in the state the rest voltage gives; the charge ends in DONE with the estimate full; DONE below the recharge voltage qualifies
again; the safety timer ends a cycle in TIMEOUT, where no termination falls into its tick. A pack that goes makes the charger ABSENT; one that passes the presence test is present; a depleted
one opens its path without the input; an over-voltage detects its fault; in RIDE an exhausted one ends the ride in SAFE. -/
def Obligations.ChargeCycleFollowsThePack : Prop :=
  (∀ s : State,
    (s.dev.chg.st = .qualify → s.dev.chg.restUntil ≤ s.dev.clk.tick →
      ∃ e, exec .qualifyRestEnd s = Safety.next s e ∧
        e.chg.st = (if cellMv s.dev < vPre s.dev then .precharge else if vRecharge s.dev ≤ cellMv s.dev then .done else .fast) ∧
        (s.dev.chg.epStale = false → e.chg.ep = s.dev.chg.ep) ∧ (s.dev.chg.epStale = true → e.chg.ep = min (eFull s.dev) (restEnergy s.dev) ∧ e.chg.calibrated = false) ∧ e.chg.epStale = false ∧
        Safety.keeps [.chg, .str, .ph, .lk, .rcd, .int] s.dev e) ∧
    (s.dev.chg.st = .cv → 60000000 ≤ s.dev.chg.cvCount →
      ∃ e, exec .chargeTerminated s = Safety.next s e ∧ e.chg.st = .done ∧ e.chg.ep = eFull s.dev ∧ e.chg.calibrated = true ∧ Safety.keeps [.chg, .str, .ph, .lk, .rcd, .int] s.dev e) ∧
    (s.dev.chg.st = .done → cellMv s.dev < vRecharge s.dev → s.dev.chg.timedOut = false →
      ∃ e, exec .recharge s = Safety.next s e ∧ e.chg.st = .qualify ∧ e.chg.restUntil = s.dev.clk.tick + 100000 ∧ e.chg.delivered = 0 ∧ e.chg.timerStart = s.dev.clk.tick ∧
        Safety.keeps [.chg, .str, .ph, .lk, .rcd, .int] s.dev e) ∧
    (timerOver s.dev = true → termDue s.dev = false → ∃ e, exec .chargeTimeout s = Safety.next s e ∧ e.chg.st = .timeout ∧ e.chg.timedOut = true ∧
        (∃ f, e.flt.inbox = s.dev.flt.inbox ++ [f] ∧ f.code = 0x1500 ∧ f.due = s.dev.clk.tick + 1) ∧ Safety.keeps [.chg, .str, .ph, .lk, .int, .flt] s.dev e)) ∧
  (∀ s : State, powered s.dev .aux = true →
    (s.dev.chg.st ≠ .absent → ∃ e, exec .packAbsent s = Safety.next s e ∧ e.chg.st = .absent ∧ e.chg.present = false ∧ e.chg.wasAbsent = true ∧
      Safety.keeps [.chg, .str, .ph, .lk, .int, .flt] s.dev e) ∧
    (s.dev.chg.present = false → -450 ≤ s.dev.chg.temp → 2000 ≤ cellMv s.dev → cellMv s.dev ≤ vOv s.dev →
      (s.dev.chg.wasAbsent = false → exec .packInserted s = Safety.next s { s.dev with chg := { s.dev.chg with present := true } }) ∧
      (s.dev.chg.wasAbsent = true → ∃ e, exec .packInserted s = Safety.next s e ∧ e.chg = { s.dev.chg with present := true, event := withBit s.dev.chg.event 6 } ∧ Safety.keeps [.chg, .int, .rcd] s.dev e)) ∧
    (s.dev.mm.inputPresent = false → s.dev.pwr.packPath = true → cellMv s.dev + 200 < vCutoff s.dev →
      ∃ e, exec .packDepleted s = Safety.next s e ∧ e.pwr = { s.dev.pwr with packPath := false } ∧ Safety.keeps [.pwr, .rcd, .int] s.dev e) ∧
    (vOv s.dev < cellMv s.dev → exec .packOv s = Safety.next s (chargerFault s.dev 0x1503)) ∧
    (∀ cutoff, s.dev.mm.mode = .ride → (cutoff = true ∧ cellMv s.dev < vCutoff s.dev ∨ rideConditions s.dev = false) → s.dev.seq.run = none → s.dev.mm.after = none →
      ∃ e, exec (.packExhausted cutoff) s = Safety.next s e ∧ e.mm.mode = .safe ∧ e.mm.cause = .noRide ∧ e.mm.causeFrom = .ride))

/-- O47. At a loss of supply AON stands on VHOLD, the journal is frozen, the mode is COLD and the rails are off; the flush seals the journal's image; with
VHOLD exhausted the device is OFF; a supply that returns after the flush lets the journal be used at once; a power-up counts its cycle and enters
COLD. -/
def Obligations.SupplyLossAndPowerUp : Prop :=
  ∀ s : State,
    (s.dev.mm.mode ≠ .off → s.dev.pwr.onVhold = false →
      ∃ e, exec .supplyFreeze s = Safety.next s e ∧ e.pwr.onVhold = true ∧ e.pwr.flushing = true ∧ e.pwr.source = 0 ∧ e.jr.frozen = true ∧ e.jr.nv = .unsealed ∧ e.mm.mode = .cold ∧
        (s.dev.mm.mode ≠ .cold → e.mm.cause = .supply) ∧ e.clk.fret = s.dev.clk.fret ∧ (∀ x ∈ e.jr.primary, x.st ≠ .writing) ∧ (∀ r ∈ e.seq.rails, r.enabled = false) ∧ e.seq.rails.length = s.dev.seq.rails.length) ∧
    (s.dev.pwr.flushing = true → s.dev.pwr.onVhold = true →
      ∃ e, exec .flushSealed s = Safety.next s e ∧ e.jr.nv = .sealed ∧ e.jr.image = some { entries := s.dev.jr.primary, tails := s.dev.jr.tails, fret := s.dev.clk.fret } ∧
        e.pwr.flushing = false ∧ e.rcd.nvSeconds = s.dev.rcd.seconds ∧ e.mm = s.dev.mm ∧ e.cfg = s.dev.cfg ∧ e.fb = s.dev.fb ∧ e.otp = s.dev.otp) ∧
    (s.dev.pwr.onVhold = true → exec .vholdExhausted s = Safety.next s (goOff s.dev) ∧ (goOff s.dev).mm = {} ∧ (goOff s.dev).pwr = { packPath := s.dev.pwr.packPath } ∧ (s.dev.otp.cmd = none → (goOff s.dev).otp.normal = s.dev.otp.normal) ∧
      (captureActive s.dev = false → (goOff s.dev).rcd.log = s.dev.rcd.log)) ∧
    (∀ vin pack, s.dev.pwr.onVhold = true → supplyCode vin (pack && s.dev.pwr.packPath) ≠ 0 →
      let p : Power := { s.dev.pwr with onVhold := false, source := supplyCode vin (pack && s.dev.pwr.packPath) }
      (s.dev.pwr.flushing = true → exec (.supplyReturnOnVhold vin pack) s = Safety.next s { s.dev with pwr := p }) ∧
      (s.dev.pwr.flushing = false → ∃ e, exec (.supplyReturnOnVhold vin pack) s = Safety.next s e ∧ e.pwr = p ∧ e.jr.needRestore = true ∧ e.jr.frozen = false ∧ e.jr.restored = true ∧
        e.jr.primary = restoredFrom s.dev.jr.primary ∧ Safety.keeps [.pwr, .jr, .int, .rcd, .clk] s.dev e)) ∧
    (∀ vin pack, s.dev.mm.mode = .off → supplyCode vin (pack && s.dev.pwr.packPath) ≠ 0 →
      ∃ e, exec (.aonPowerUp vin pack) s = Safety.next s e ∧ e.mm.mode = .cold ∧ e.mm.cause = .supply ∧ e.mm.causeFrom = .off ∧ e.pwr.on = 1#8 ∧
        e.rcd.cycle = (s.dev.rcd.nvCycle + 1) % 2 ^ 32 ∧ e.rcd.nvCycle = e.rcd.cycle ∧ e.otp.normal = s.dev.otp.normal)

/-- O48. One fault input of an implemented source, raised in RUN with none before it, sets its status, counts it, keeps the first values, and is the last
fault where it is new; DEVICE_SAFE and DRONE change the mode with the fault as cause; with no reaction nothing but the collector, the interrupts, the
recorder and the outputs changes. A unit's parity fault is its course's
lead's. Losses of a die are stated elsewhere. -/
def Obligations.FaultRaiseTakesReaction : Prop :=
  ∀ (s : State) (f : FaultIn) (i : SrcInfo), s.dev.mm.mode = .run → s.dev.flt.inbox = [] → f.injected = false → srcInfo f.code = some i → s.dev.seq.run = none → s.dev.mm.after = none →
    s.dev.cap.st = .idle → (∀ q ∈ s.dev.waiting, s.dev.clk.tick < q.1) → f.code ≠ 0x1000 → f.code ≠ 0x1001 →
    let old := srcOf s.dev f.code
    let g := ofLead s.dev f
    let r := takenReaction s.dev i g
    ∃ e, exec (.faultRaise [f]) s = Safety.next s e ∧ (srcOf e f.code).status = true ∧ (srcOf e f.code).count = min (old.count + 1) 65535 ∧
      (old.status = false → (srcOf e f.code).first = g.p0 ∧ (srcOf e f.code).fret = fretLow s.dev ∧ e.flt.lastCode = f.code ∧ e.flt.lastSeverity = i.severity ∧ e.flt.lastReaction = r) ∧
      (old.status = true → (srcOf e f.code).first = old.first ∧ (srcOf e f.code).fret = old.fret) ∧
      (r = .deviceSafe → e.mm.mode = .safe ∧ e.mm.cause = .fault ∧ e.mm.causeDetail = f.code ∧ e.mm.causeFrom = .run) ∧
      (r = .drone → e.mm.mode = .drone ∧ e.mm.cause = .fault ∧ e.mm.causeDetail = f.code) ∧
      (r = .none → Safety.keeps [.flt, .int, .rcd, .out, .fretOut] s.dev e) ∧ ((r = .none ∨ r = .retireUnit ∨ r = .stringSafe) → e.mm = s.dev.mm)

/-- O49. A clear takes a status whose cause is gone, and no other source changes; one whose cause holds stays and is counted refused; one
in the tick of a raise clears what stood before that raise. REINSTATE in CONFIG
returns a region with no fault of its own, and its used links train. -/
def Obligations.FaultsAreCleared : Prop :=
  (∀ (s : State) (held : List Nat) (code : Nat) (i : SrcInfo), srcInfo code = some i → srcCode (srcIndex code) = code → srcIndex code < 512 → powered s.dev .mgmt = true → (srcOf s.dev code).status = true →
    let ix := srcIndex code
    (∀ q, freshNow s.dev code = some q →
      (q.prior = false → exec (.fltStatusClear (ix / 32) (1#32 <<< (ix % 32)) held) s = Safety.next s s.dev) ∧
      (q.prior = true → ∃ e, exec (.fltStatusClear (ix / 32) (1#32 <<< (ix % 32)) held) s = Safety.next s e ∧ (srcOf e code).status = true ∧ (srcOf e code).first = q.first ∧ (srcOf e code).taken = q.taken ∧
        e.flt.lastCode = code ∧ (∀ c, srcIndex c ≠ ix → srcOf e c = srcOf s.dev c) ∧ Safety.keeps [.flt, .int, .rcd] s.dev e)) ∧
    (freshNow s.dev code = none → (causeGone s.dev held code = true ∨ raiseDue s.dev code = true) → ∃ e, exec (.fltStatusClear (ix / 32) (1#32 <<< (ix % 32)) held) s = Safety.next s e ∧ (srcOf e code).status = false ∧ (srcOf e code).taken = .none ∧
      (∀ c, srcIndex c ≠ ix → srcOf e c = srcOf s.dev c) ∧ e.flt.refusedCount = s.dev.flt.refusedCount ∧ Safety.keeps [.flt, .int, .rcd, .pins, .out] s.dev e) ∧
    (freshNow s.dev code = none → causeGone s.dev held code = false → raiseDue s.dev code = false → exec (.fltStatusClear (ix / 32) (1#32 <<< (ix % 32)) held) s =
      Safety.next s (setFltEvent { s.dev with flt := { s.dev.flt with refusedCount := sat 65535 (s.dev.flt.refusedCount + 1), refusedCode := code } } 4))) ∧
  (∀ (s : State) (r : Nat), r < 4 → s.dev.lk.length = 16 → s.dev.mm.mode = .config → bit s.dev.flt.regRetired r = true → regionFault s.dev r = false →
    ∃ e, exec (.regionReinstate (1#4 <<< r)) s = Safety.next s e ∧ bit e.flt.regRetired r = false ∧ (∀ q, q ≠ r → bit e.flt.regRetired q = bit s.dev.flt.regRetired q) ∧
      (∀ k, k / 4 = r → linkUsed s.dev k = true → (lkU s.dev k).st ≠ .retired → (lkU e k).st = .training) ∧ (∀ k, k / 4 ≠ r → lkU e k = lkU s.dev k) ∧ Safety.keeps [.flt, .lk] s.dev e)

/-- O50. nALIVE toggles every half-period in its modes unless it is frozen, and the test freezes it in CONFIG and does nothing in RUN; an injection is
armed on a part in service in a mode that takes it, and refused otherwise; a loss of the timebase is detected with its island. -/
def Obligations.NaliveAndInjectionWork : Prop :=
  ∀ s : State,
    (naliveMode s.dev.mm.mode = true → ∃ e, exec .naliveHalfPeriod s = Safety.next s e ∧
      e.flt.naliveHalf = (s.dev.flt.naliveAcc + 16384) / 1000 ∧ e.flt.naliveAcc = (s.dev.flt.naliveAcc + 16384) % 1000 ∧
      (s.dev.flt.naliveFrozen = true → e.flt.naliveLevel = s.dev.flt.naliveLevel ∧ e.out = s.dev.out) ∧
      (s.dev.flt.naliveFrozen = false → e.flt.naliveLevel = !s.dev.flt.naliveLevel ∧ e.out = s.dev.out ++ [.nalive (!s.dev.flt.naliveLevel)]) ∧ Safety.keeps [.flt, .out] s.dev e) ∧
    (∀ on, s.dev.mm.mode = .config → ∃ e, exec (.naliveTest on) s = Safety.next s e ∧ e.flt.naliveTest = on ∧ e.flt.naliveFrozen = (criticalSet s.dev || on) ∧ Safety.keeps [.flt] s.dev e) ∧
    (∀ on, s.dev.mm.mode = .run → exec (.naliveTest on) s = Safety.next s s.dev) ∧
    (∀ v, powered s.dev .mgmt = true → s.dev.flt.pending = false → fld v 0 4 ≠ 0 → fld v 0 4 ≠ 2 →
      let ok := injectMode s.dev (bit v 14) && instanceOk s.dev (fld v 0 4) (fld v 4 8)
      ∃ e, exec (.injectArm v) s = Safety.next s e ∧ e.flt.pending = ok ∧ e.flt.selChecker = fld v 0 4 ∧ e.flt.selInst = fld v 4 8 ∧ e.flt.selObserve = bit v 14 ∧
        (ok = true → e.flt.checker = fld v 0 4 ∧ e.flt.inst = fld v 4 8 ∧ e.flt.observe = bit v 14) ∧ (ok = false → e.flt.refused = true) ∧ Safety.keeps [.flt] s.dev e) ∧
    (∀ island, powered s.dev .mgmt = true → exec (.timebaseLost island) s = Safety.next s (detect s.dev 0x1004 island 0 0))

/-- O51. A corrected error is reported and changes no copy; a copy with an uncorrectable word, or the control die's where both pass, is rebuilt from the
other one, or retired at a second error within 1 s; a rebuild that succeeds leaves both copies equal; one that fails retires the copy. -/
def Obligations.JournalCopiesAreRebuilt : Prop :=
  ∀ (s : State) (c : Nat), c < 2 → powered s.dev .sched = true → s.dev.pwr.ctlLost = false → s.dev.jr.frozen = false → s.dev.flt.pending = false →
    (s.dev.mm.mode ≠ .off → exec (.journalMismatch (.corrected c)) s = Safety.next s (detect s.dev 0x1402 c 0 0)) ∧
    (s.dev.jr.retired = none → s.dev.jr.rebuilding = none → s.dev.jr.lastMiss.length = 2 →
      ∀ err, (err = .uncorrectable c ∨ err = .bothPass ∧ c = 1) →
      ((∀ t, s.dev.jr.lastMiss.getD c none = some t → t + 1000000 ≤ s.dev.clk.tick) →
        ∃ e, exec (.journalMismatch err) s = Safety.next s e ∧ e.jr.rebuilding = some c ∧ e.jr.retired = none ∧ journalFree e = 0 ∧ e.jr.primary = s.dev.jr.primary ∧ e.jr.secondary = s.dev.jr.secondary ∧
          e.flt.inbox = s.dev.flt.inbox ++ [{ due := s.dev.clk.tick + 1, code := 0x1400, p0 := c }] ∧ Safety.keeps [.jr, .flt] s.dev e) ∧
      (∀ t, s.dev.jr.lastMiss.getD c none = some t → s.dev.clk.tick < t + 1000000 →
        ∃ e, exec (.journalMismatch err) s = Safety.next s e ∧ e.jr.retired = some c ∧ journalFree e = 0 ∧ Safety.keeps [.jr, .flt] s.dev e)) ∧
    (s.dev.jr.rebuilding = some c →
      (∃ e, exec (.journalRebuildDone true) s = Safety.next s e ∧ e.jr.rebuilding = none ∧ e.jr.primary = e.jr.secondary ∧ e.jr.primary = (if c = 0 then s.dev.jr.secondary else s.dev.jr.primary) ∧ Safety.keeps [.jr] s.dev e) ∧
      (∃ e, exec (.journalRebuildDone false) s = Safety.next s e ∧ e.jr.rebuilding = none ∧ e.jr.retired = some c ∧ Safety.keeps [.jr, .flt] s.dev e))

/-- O52. A flush takes the buffered records; a block of one record that reads back is written to the next slot and no other slot changes, one that fails
twice marks its slot bad; dropped records are told once there is room; the operating time advances each second; a clear is taken in CONFIG with the
service key and its word, and leaves its own record only. -/
def Obligations.RecorderKeepsTheLog : Prop :=
  ∀ s : State,
    (s.dev.pwr.pwrLost = false → s.dev.rcd.clearing = false → s.dev.rcd.flushing = false →
      let e : Dev := { s.dev with rcd := { s.dev.rcd with flushing := !s.dev.rcd.buffer.isEmpty, toFlush := s.dev.rcd.buffer.length, want := false } }
      (s.dev.rcd.want = true → exec .recorderFlushTrigger s = Safety.next s e) ∧ (powered s.dev .mgmt = true → exec .flush s = Safety.next s e)) ∧
    (∀ q first second, s.dev.rcd.flushing = true → s.dev.rcd.toFlush = 1 → s.dev.rcd.buffer = [q] → logNext s.dev.rcd < 8191 → s.dev.rcd.again = false →
      ((first = true ∨ second = true) → ∃ e, exec (.recorderBlockWritten first second) s = Safety.next s e ∧ e.rcd.log.get none (logNext s.dev.rcd) = some q ∧
        (∀ n, n ≠ logNext s.dev.rcd → e.rcd.log.get none n = s.dev.rcd.log.get none n) ∧ e.rcd.next = logNext s.dev.rcd + 1 ∧ e.rcd.buffer = [] ∧ e.rcd.flushing = false ∧ Safety.keeps [.rcd] s.dev e) ∧
      (first = false → second = false → ∃ e, exec (.recorderBlockWritten first second) s = Safety.next s e ∧ e.rcd = { s.dev.rcd with bad := s.dev.rcd.bad ++ [logNext s.dev.rcd] } ∧
        e.flt.inbox = s.dev.flt.inbox ++ [{ due := s.dev.clk.tick + 1, code := 0x1800, p0 := logNext s.dev.rcd, p1 := 1 }] ∧ Safety.keeps [.rcd, .flt] s.dev e)) ∧
    (s.dev.rcd.drops ≠ 0 → s.dev.rcd.buffer.length < 64 → ∃ e, exec .recordsDropped s = Safety.next s e ∧ e.rcd.drops = 0 ∧
      (∃ f, e.flt.inbox = s.dev.flt.inbox ++ [f] ∧ f.code = 0x1801) ∧ Safety.keeps [.rcd, .int, .flt] s.dev e) ∧
    (s.dev.mm.mode ≠ .off → s.dev.mm.mode ≠ .cold →
      exec .operatingSecond s = Safety.next s { s.dev with rcd := { s.dev.rcd with seconds := s.dev.rcd.seconds + 1, nvSeconds := if (s.dev.rcd.seconds + 1) % 3600 = 0 then s.dev.rcd.seconds + 1 else s.dev.rcd.nvSeconds } }) ∧
    (s.dev.rcd.clearing = true → ∃ e q, exec .logClearDone s = Safety.next s e ∧ e.rcd.log = [(0, some q)] ∧ q.code = 0xF002 ∧ q.p0 = (s.dev.rcd.log.filter (fun x => x.2.isSome)).length ∧
      e.rcd.bad = [] ∧ e.rcd.next = 1 ∧ e.rcd.full = false ∧ e.rcd.clearing = false ∧ e.rcd.buffer = s.dev.rcd.buffer ∧ Safety.keeps [.rcd] s.dev e) ∧
    (∀ confirm, powered s.dev .mgmt = true → s.dev.rcd.clearing = false →
      let ok := s.dev.mm.mode = .config ∧ s.dev.otp.enable = true ∧ confirm = 0xC1EA
      (ok → exec (.clear confirm) s = Safety.next s { s.dev with rcd := { s.dev.rcd with clearing := true, flushing := false, toFlush := 0, again := false } }) ∧
      (¬ ok → exec (.clear confirm) s = Safety.next s { s.dev with rcd := { s.dev.rcd with refused := true } }))

/-- O53. The two service keys in a row open OTP; with the key, the input and the confirmed word, PROGRAM, PROGRAM_SECRET and REVOKE begin on a blank word
of their own area, ADVANCE_ROLLBACK and ADVANCE_EPOCH behind the counter's value; each refusal programs nothing and names its reason. The word
programmed, 50 µs after its start, only gains bits, of those wanted; its tight-margin read-back decides result 1 or 3; every other word of the array is unchanged. -/
def Obligations.OtpIsProgrammed : Prop :=
  (∀ (s : State) (confirm : Nat), powered s.dev .mgmt = true →
    let w := otpWord s.dev
    let refused (r : Nat) := Safety.next s { s.dev with otp := { s.dev.otp with result := 2, reason := r } }
    let starts (c : OtpCmd) := Safety.next s { s.dev with otp := { s.dev.otp with cmd := some { c with since := s.dev.clk.tick }, stopAfter := false, result := 0, reason := 0 } }
    let blank (n : Nat) := otpState s.dev n = .blank ∧ n ∉ s.dev.otp.programmed
    let roll := rollbackValue s.dev + s.dev.otp.advRoll
    let epoch := epochValue s.dev + s.dev.otp.advEpoch
    let ops (e : Nat → Instr) (i : Instr) := i = e confirm
    (∀ key : BitVec 16, let ok := s.dev.mm.mode = .config ∧ s.dev.mm.inputPresent = true
      exec (.otpServiceKey key) s = Safety.next s { s.dev with otp := { s.dev.otp with keyOne := decide (ok ∧ key = 0x5A3C), enable := decide (ok ∧ key = 0xC3A5 ∧ s.dev.otp.keyOne = true) } }) ∧
    (∀ i, (ops .program i ∨ ops .programSecret i ∨ ops .advanceRollback i ∨ ops .advanceEpoch i ∨ ops .revoke i) →
      (s.dev.otp.cmd ≠ none → exec i s = Safety.next s { s.dev with otp := { s.dev.otp with ignored := true } }) ∧
      (s.dev.otp.cmd = none → (s.dev.otp.enable = false ∨ s.dev.mm.inputPresent = false) → exec i s = refused 1) ∧
      (s.dev.otp.cmd = none → s.dev.otp.enable = true → s.dev.mm.inputPresent = true → confirm ≠ w → exec i s = refused 2)) ∧
    (s.dev.otp.cmd = none → s.dev.otp.enable = true → s.dev.mm.inputPresent = true → confirm = w →
      (programmable w = true → blank w → exec (.program confirm) s = starts { op := 1, word := w, data := otpData s.dev }) ∧
      (programmable w = true → ¬ blank w → exec (.program confirm) s = refused 4) ∧ (programmable w = false → exec (.program confirm) s = refused 3) ∧
      (0xE4 ≤ w → w < 0xEC → blank w → exec (.programSecret confirm) s = starts { op := 2, word := w, data := Config.scramble (w - 0xE4) (otpData s.dev) }) ∧
      ((w < 0xE4 ∨ 0xEC ≤ w) → exec (.programSecret confirm) s = refused 3) ∧
      (s.dev.mm.fwValid = true → roll < s.dev.otp.bootRollback →
        exec (.advanceRollback confirm) s = starts { op := 3, word := 0x100 + roll, rest := s.dev.otp.bootRollback - roll - 1, data := 0xFFFFFFFF }) ∧
      (s.dev.mm.fwValid = false → exec (.advanceRollback confirm) s = refused 6) ∧
      (epoch < 64 → exec (.advanceEpoch confirm) s = starts { op := 4, word := 0x180 + epoch, rest := 0, data := 0xFFFFFFFF }) ∧ (64 ≤ epoch → exec (.advanceEpoch confirm) s = refused 5) ∧
      (w ≤ 3 → blank (0xC0 + 9 * w + 8) → exec (.revoke confirm) s = starts { op := 5, word := 0xC0 + 9 * w + 8, data := 0xFFFFFFFF }) ∧ (3 < w → exec (.revoke confirm) s = refused 3))) ∧
  (∀ (s : State) (c : OtpCmd) (normal tight : BitVec 39), s.dev.otp.cmd = some c → c.since + 50 ≤ s.dev.clk.tick → powered s.dev .mgmt = true →
    let want := otpBits c.data
    let n := s.dev.otp.normal.get 0 c.word ||| (normal &&& want)
    let t := s.dev.otp.tight.get 0 c.word ||| (tight &&& want)
    ∃ e, exec (.otpProgramDone normal tight) s = Safety.next s e ∧ e.otp.normal.get 0 c.word = n ∧ e.otp.tight.get 0 c.word = t ∧
      (∀ w, w ≠ c.word → e.otp.normal.get 0 w = s.dev.otp.normal.get 0 w ∧ e.otp.tight.get 0 w = s.dev.otp.tight.get 0 w) ∧
      (t ≠ want → e.otp.cmd = none ∧ e.otp.result = 3) ∧ (t = want → c.rest = 0 → e.otp.cmd = none ∧ e.otp.result = 1) ∧
      (t = want → c.rest ≠ 0 → s.dev.otp.stopAfter = false → e.otp.cmd = some { c with word := c.word + 1, rest := c.rest - 1, since := s.dev.clk.tick }) ∧ e.otp.shadow = s.dev.otp.shadow ∧
      Safety.keeps [.otp, .rcd, .int, .clk] s.dev e)

/-- O54. Image A that passes gives FW_VALID and its key; A's rejection tries image B; with both rejected the core stays without key. The next domain stage
is powered either way. The QSPI port runs a command where it is open and is denied elsewhere; a read command that ends fills the buffer. -/
def Obligations.FirmwareIsVerified : Prop :=
  ∀ (s : State),
    (∀ (r : Run) (a b : ImageFacts) (flash : Nat), s.dev.seq.run = some r → r.phase = .verify → s.dev.mm.fwValid = false →
      ∃ e, exec (.fwVerifyDone a b flash) s = Safety.next s e ∧ e.seq.run = some { r with phase := .domainUp 1, items := [], deadline := s.dev.clk.tick + 1000 } ∧ bit e.pwr.on Domain.sched.bit = true ∧
        (rejectReason s.dev a false flash = none → e.mm.fwValid = true ∧ e.pwr.keyReg = secretKey s.dev ∧ e.otp.bootImage = 0 ∧ e.otp.bootVersion = a.version ∧ e.otp.rejectA = s.dev.otp.rejectA) ∧
        (∀ ra, rejectReason s.dev a false flash = some ra → e.otp.rejectA = ra ∧
          (rejectReason s.dev b true flash = none → e.mm.fwValid = true ∧ e.pwr.keyReg = secretKey s.dev ∧ e.otp.bootImage = 1 ∧ e.otp.bootVersion = b.version) ∧
          (∀ rb, rejectReason s.dev b true flash = some rb → e.mm.fwValid = false ∧ e.otp.rejectB = rb ∧ e.pwr.keyReg = s.dev.pwr.keyReg)) ∧
        Safety.keeps [.clk, .mm, .pwr, .otp, .seq, .flt, .int, .rcd] s.dev e) ∧
    (∀ v, powered s.dev .mgmt = true → s.dev.otp.flashBusy = false →
      (flashOpen s.dev = true → ∃ e n, exec (.flashGo v) s = Safety.next s e ∧ e.otp.flashBusy = true ∧ e.out = s.dev.out ++ [.flash (fld v 0 8) n (min 256 (fld v 9 9)) (bit v 18) (if bit v 18 then flashData s.dev (min 256 (fld v 9 9)) else [])] ∧ Safety.keeps [.otp, .cfg, .out] s.dev e) ∧
      (flashOpen s.dev = false → ∃ e, exec (.flashGo v) s = Safety.next s e ∧ e.otp.flashDenied = true ∧ e.otp.flashBusy = false ∧ e.out = s.dev.out ∧ Safety.keeps [.otp, .cfg] s.dev e)) ∧
    (∀ data, s.dev.otp.flashBusy = true → bit s.dev.otp.flashCmd 18 = true → exec (.flashCommandDone data) s = Safety.next s { s.dev with otp := { s.dev.otp with flashBusy := false } }) ∧
    (∀ data, s.dev.otp.flashBusy = true → bit s.dev.otp.flashCmd 18 = false → 256 ≤ fld s.dev.otp.flashCmd 9 9 → s.dev.otp.buffer.length = 64 → data.length = 64 →
      exec (.flashCommandDone data) s = Safety.next s { s.dev with otp := { s.dev.otp with flashBusy := false, buffer := data } })

/-- O55. A write to a staged register changes the staged copy under its mask, not the value in force nor another staged copy,
or waits while a commit is due in its tick; a write to a register whose
domain is unpowered changes nothing; event bits are cleared by ones; the read of FB_FRET_LOW latches the rest of the fret counter. -/
def Obligations.RegisterAccessesWork : Prop :=
  ∀ (s : State) (off : Nat) (v : Word) (held : List Nat),
    (powered s.dev .sched = true → exec .fbFretLowRead s = Safety.next s { s.dev with cfg := { s.dev.cfg with fretHigh := s.dev.clk.fret / 2 ^ 32 % 65536 + (s.dev.clk.tickInFret <<< 16) }, bus := w32 (fretLow s.dev) }) ∧
    (reached s.dev off = false → exec (.registerWrite off v held) s = Safety.next s s.dev) ∧
    (reached s.dev off = true → ((0x2000 ≤ off ∧ off < 0x3000 ∧ off % 64 ≠ 0x30 ∧ off % 64 ≠ 0x3C) ∨ (0x8000 ≤ off ∧ off < 0xA000) ∨ (0x4000 ≤ off ∧ off < 0x4048)) → rsMask off ≠ 0 →
      (commitDue s.dev = true → exec (.registerWrite off v held) s = Safety.next s { s.dev with cfg := { s.dev.cfg with after := s.dev.cfg.after ++ [(off, v)] } }) ∧
      (commitDue s.dev = false → ∃ e, exec (.registerWrite off v held) s = Safety.next s e ∧ stagedOf e off = merge (stagedOf s.dev off) v (rsMask off) ∧ inForce e off = inForce s.dev off ∧
        (∀ o, o ≠ off → stagedOf e o = stagedOf s.dev o) ∧ Safety.keeps [.cfg] s.dev e)) ∧
    (reached s.dev 0x1C = true → exec (.registerWrite 0x1C v held) s = Safety.next s { s.dev with mm := { s.dev.mm with event := s.dev.mm.event &&& ~~~(v &&& 0x7F) } }) ∧
    (reached s.dev 0x38B4 = true → exec (.registerWrite 0x38B4 v held) s = Safety.next s { s.dev with seq := { s.dev.seq with event := s.dev.seq.event &&& ~~~(v &&& 0x1FFF) } })

/-- O56. A read of the port answers its register's value, counts its transaction and changes nothing else; in the values of MODE, MODE_CAUSE and the
results the fields stand at their bits; CLAIM is the claim read of target 3; with MGMT unpowered nothing is answered. The alert response answers the
port's address while IRQ_N is low; a RECORD_WINDOW read shows COUNT slots, those above 8191 EMPTY, and moves SLOT on when it completes. -/
def Obligations.PortReadsAnswer : Prop :=
  (∀ s : State,
    let begun : Dev := { s.dev with mp := { s.dev.mp with busy := true, transactions := min (s.dev.mp.transactions + 1) 65535 } }
    let ended (d : Dev) : Dev := { d with mp := { d.mp with busy := false } }
    let reads (c : Instr) (v : Nat) := exec c s = Safety.next s { ended begun with bus := w32 v }
    let all : List Instr := [.ident, .mpMode, .modeCause, .outstanding, .portStatus, .resultOrdinary, .resultUrgent, .clearResult, .mpFret, .lastFault, .mpCharger, .recorder, .stack, .modeBlock, .faultList, .claim]
    (powered s.dev .mgmt = false → ∀ c ∈ all, exec c s = Safety.next s s.dev) ∧
    (powered s.dev .mgmt = true →
      reads .ident 0x64401EA7 ∧ reads .mpMode (idMode s.dev) ∧ reads .modeCause (idModeCause s.dev) ∧ reads .outstanding (fltOutstanding s.dev) ∧ reads .portStatus (mpStatus begun) ∧
      reads .resultOrdinary (resultWord s.dev s.dev.mp.ordinary) ∧ reads .resultUrgent (resultWord s.dev s.dev.mp.urgent) ∧ reads .clearResult (s.dev.mp.clearCode + s.dev.mp.clearResult * 65536) ∧
      (powered s.dev .sched = true → reads .mpFret (s.dev.clk.fret % 2 ^ 32)) ∧ (powered s.dev .sched = false → reads .mpFret 0) ∧
      reads .lastFault (fltLast s.dev) ∧ (powered s.dev .aux = true → reads .mpCharger (chgStatus s.dev)) ∧ (powered s.dev .aux = false → reads .mpCharger 0) ∧
      reads .recorder (recStatus s.dev) ∧ reads .stack (stackWord s.dev 3) ∧
      exec .claim s = Safety.next s (ended (claimRead begun 3)) ∧
      (∃ bs, exec .modeBlock s = Safety.next s { ended begun with busBlock := bs } ∧ bs.length = 28 ∧ wordAt bs 0 = idMode s.dev % 2 ^ 32 ∧ wordAt bs 4 = idModeCause s.dev % 2 ^ 32 ∧ wordAt bs 8 = idDomain s.dev % 2 ^ 32 ∧
        wordAt bs 12 = s.dev.mm.event.toNat ∧ wordAt bs 16 = idBoot s.dev % 2 ^ 32 ∧ wordAt bs 20 = idJournal s.dev % 2 ^ 32 ∧ wordAt bs 24 = fltOutstanding s.dev % 2 ^ 32) ∧
      (∃ bs, exec .faultList s = Safety.next s { ended begun with busBlock := bs } ∧ bs.length = 64 ∧ ∀ b < 16, wordAt bs (4 * b) = (statusWord s.dev b).toNat)) ∧
    (let m := w32 (idMode s.dev);
      fld m 0 4 = s.dev.mm.mode.code ∧ fld m 4 4 = s.dev.mm.target.code ∧ bit m 8 = inTransition s.dev ∧ bit m 9 = s.dev.mm.fwValid ∧ bit m 10 = s.dev.mm.rideAvailable ∧ bit m 11 = s.dev.mm.inputPresent ∧ bit m 12 = s.dev.mm.onLatched ∧ fld m 13 19 = 0) ∧
    (let m := w32 (idModeCause s.dev);
      fld m 0 4 = s.dev.mm.causeFrom.code ∧ fld m 4 4 = s.dev.mm.causeTo.code ∧ fld m 8 8 = s.dev.mm.cause.code ∧ fld m 16 16 = s.dev.mm.causeDetail % 65536) ∧
    (∀ u : MpSlot, u.status < 256 → u.tag < 256 → u.frm < 16 → u.dest < 16 →
      let m := w32 (resultWord s.dev u);
      fld m 0 3 = (slotState s.dev u).code ∧ fld m 3 5 = 0 ∧ fld m 8 8 = u.status ∧ fld m 16 8 = u.tag ∧ fld m 24 4 = u.frm ∧ fld m 28 4 = u.dest)) ∧
  (∀ s : State,
    let begun : Dev := { s.dev with mp := { s.dev.mp with busy := true, transactions := min (s.dev.mp.transactions + 1) 65535 } }
    let asked := powered s.dev .mgmt = true ∧ fld (rwOf s.dev 0x7800) 2 1 = 1 ∧ claimOf s.dev 3 ≠ 0
    (asked → exec .alertResponse s = Safety.next s { s.dev with bus := w32 (2 * (s.dev.mp.address % 128)) }) ∧ (¬ asked → exec .alertResponse s = Safety.next s s.dev) ∧
    (∀ complete, powered s.dev .mgmt = true →
      ∃ bs, exec (.recordWindow complete) s = Safety.next s { s.dev with mp := { begun.mp with busy := false, slot := if complete then min 8192 (s.dev.mp.slot + s.dev.mp.count) else s.dev.mp.slot }, busBlock := bs } ∧
        bs.length = 33 * s.dev.mp.count ∧ (∀ i < s.dev.mp.count, 8192 ≤ s.dev.mp.slot + i → bs[i]? = some 0) ∧
        (∀ i < s.dev.mp.count, s.dev.mp.slot + i < 8192 → bs[i]? = some (logSlot s.dev (s.dev.mp.slot + i)).1)))

/-- O57. A write of a wrong length or with a wrong or missing PEC executes nothing and sets the bit that says so; a reserved code is NACKed with
BAD_COMMAND, which completes its transaction. A line held for longer than 25 ms completes with its event set and its source detected, and the transaction under
way, if there is one, counted and left without its STOP. -/
def Obligations.PortRefusesBadTransfers : Prop :=
  ∀ (s : State) (held : List Nat) (bs : List Byte), powered s.dev .mgmt = true →
    let begun : Dev := { s.dev with mp := { s.dev.mp with busy := true, transactions := min (s.dev.mp.transactions + 1) 65535 } }
    let ended (d : Dev) : Dev := { d with mp := { d.mp with busy := false } }
    let none' := ended { begun with mp := { begun.mp with badCommand := true } }
    (∀ r ∈ ([(.checkin bs, 0x81, 0), (.faultClear bs held, 0x82, 2), (.complete bs, 0xC9, 4), (.windowAddress (some bs), 0xC0, 2), (.windowData (some bs) held, 0xC1, 4), (.windowNext (some bs) held, 0xC2, 4), (.modeRequest bs, 0x80, 2)] : List (Instr × Nat × Nat)),
      let pec := crc8 (2 * (s.dev.mp.address % 128) :: r.2.1 :: (bs.take r.2.2).map (fun b => b.toNat))
      (bs.length < r.2.2 → exec r.1 s = Safety.next s none') ∧
      (r.2.2 + 1 < bs.length → (bs.getD r.2.2 0).toNat = pec → exec r.1 s = Safety.next s none') ∧
      (r.2.2 < bs.length → (bs.getD r.2.2 0).toNat ≠ pec → exec r.1 s = Safety.next s (ended (setMpEvent { begun with mp := { begun.mp with nacks := min (begun.mp.nacks + 1) 65535 }, out := begun.out ++ [.portNack] } 2))) ∧
      (bs.length = r.2.2 → fld (rwOf s.dev 0x7800) 0 1 = 1 → exec r.1 s = Safety.next s (ended (setMpEvent { begun with mp := { begun.mp with pecMissing := true } } 2)))) ∧
    (∀ code, code ∉ portCodes → exec (.badCommand code) s = Safety.next s (ended { begun with mp := { begun.mp with nacks := min (begun.mp.nacks + 1) 65535, badCommand := true }, out := begun.out ++ [.portNack] })) ∧
    (∀ us code index, 25000 < us →
      let under : Dev := if code = 0xFFFFFFFF then s.dev else begun
      exec (.mpSclTimeout us code index) s = Safety.next s (detect (setMpEvent under 0) 0x1900 us code index) ∧
      exec (.mpSdaStuck us code index) s = Safety.next s (detect (setMpEvent under 1) 0x1901 us code index)) ∧
    (∀ us code index, 25000 < us →
      (∃ e, exec (.mpSclTimeout us code index) s = Safety.next s e ∧ bit e.mp.event 0 = true ∧ e.flt.inbox = s.dev.flt.inbox ++ [{ due := s.dev.clk.tick + 1, code := 0x1900, p0 := us, p1 := code, p2 := index }] ∧ Safety.keeps [.mp, .int, .flt] s.dev e) ∧
      (∃ e, exec (.mpSdaStuck us code index) s = Safety.next s e ∧ bit e.mp.event 1 = true ∧ e.flt.inbox = s.dev.flt.inbox ++ [{ due := s.dev.clk.tick + 1, code := 0x1901, p0 := us, p1 := code, p2 := index }] ∧ Safety.keeps [.mp, .int, .flt] s.dev e))

/-- O58. A write whose bytes and PEC are right executes: the check-in of slot 7, the fault clear with its outcome, the completion of target 3, the record
selection, the window's address and its accesses, and the refusals of a window write. -/
def Obligations.PortWritesExecute : Prop :=
  ∀ (s : State) (held : List Nat) (bs : List Byte), powered s.dev .mgmt = true →
    let begun : Dev := { s.dev with mp := { s.dev.mp with busy := true, transactions := min (s.dev.mp.transactions + 1) 65535 } }
    let ended (d : Dev) : Dev := { d with mp := { d.mp with busy := false } }
    let good (code n : Nat) := (bs.length = n ∧ fld (rwOf s.dev 0x7800) 0 1 = 0) ∨ (bs.length = n + 1 ∧ (bs.getD n 0).toNat = crc8 (2 * (s.dev.mp.address % 128) :: code :: (bs.take n).map (fun b => b.toNat)))
    let value (n : Nat) := leValue (bs.take n)
    let answers (c : Instr) (d : Dev) := exec c s = Safety.next s (ended d)
    let off := s.dev.mp.window
    let writable := fld (rwOf s.dev 0x7800) 1 1 = 1 ∧ off ≠ 0x7800 ∧ off ≠ 0x7804 ∧ reached s.dev off = true
    let on (d : Dev) : Dev := { d with mp := { d.mp with window := (d.mp.window + 4) % 65536 } }
    (good 0x81 0 → (bit s.dev.wd.setup 13 = true → answers (.checkin bs) { begun with wd := { s.dev.wd with slot7 := s.dev.wd.slot7 + 1 } }) ∧
      (bit s.dev.wd.setup 13 = false → answers (.checkin bs) { begun with mp := { begun.mp with checkinIgnored := true } })) ∧
    (good 0x82 2 → (srcInfo (value 2) = none → answers (.faultClear bs held) { begun with mp := { begun.mp with clearCode := value 2, clearResult := 3 } }) ∧
      (srcInfo (value 2) ≠ none → ∃ e, exec (.faultClear bs held) s = Safety.next s e ∧ e.mp.clearCode = value 2 ∧
        e.mp.clearResult = (if (srcOf e (value 2)).status = true then 2 else 1) ∧ ((srcOf s.dev (value 2)).status = false → e.mp.clearResult = 1) ∧
        (causeGone s.dev held (value 2) = false → raiseDue s.dev (value 2) = false → (srcOf s.dev (value 2)).status = true → e.mp.clearResult = 2) ∧ Safety.keeps [.flt, .int, .mp, .out, .pins, .rcd] s.dev e)) ∧
    (good 0xC9 4 → answers (.complete bs) (completeWrite begun 3 (value 4 % 256))) ∧
    (good 0xC0 2 → answers (.windowAddress (some bs)) { begun with mp := { begun.mp with window := value 2 / 4 * 4 } }) ∧
    answers (.windowAddress none) { begun with bus := w32 off } ∧
    (good 0xC1 4 → (writable → answers (.windowData (some bs) held) (busWrite begun held off (w32 (value 4)))) ∧
      (¬ writable → answers (.windowData (some bs) held) { begun with mp := { begun.mp with windowRefused := true } })) ∧
    (good 0xC2 4 → (writable → answers (.windowNext (some bs) held) (on (busWrite begun held off (w32 (value 4))))) ∧
      (¬ writable → answers (.windowNext (some bs) held) (on { begun with mp := { begun.mp with windowRefused := true } }))) ∧
    (answers (.windowData none held) (busRead begun held off)) ∧ (answers (.windowNext none held) (on (busRead begun held off))) ∧
    (reached s.dev off = false → answers (.windowData none held) { begun with bus := 0 }) ∧
    (∀ lo hi n : Byte, bs = [4, lo, hi, n, 0] → fld (rwOf s.dev 0x7800) 0 1 = 0 → let slot := lo.toNat + 256 * hi.toNat
      (slot ≤ 8191 → 1 ≤ n.toNat → n.toNat ≤ 7 → answers (.recordSelect bs) { begun with mp := { begun.mp with slot := slot, count := n.toNat } }) ∧
      (slot ≤ 8191 → n = 0 → answers (.recordSelect bs) { begun with mp := { begun.mp with blockZero := true } }) ∧
      ((8191 < slot ∨ 7 < n.toNat) → n ≠ 0 → answers (.recordSelect bs) { begun with mp := { begun.mp with badCommand := true } }))

/-- O59. A Block Write (RECORD_SELECT) whose byte count is 0, and a RECORD_SELECT whose COUNT is 0, are acknowledged (no NACK), execute nothing (SLOT,
COUNT and every other part stand) and set BLOCK_ZERO. -/
def Obligations.ZeroCountsExecuteNothing : Prop :=
  ∀ (s : State) (bs : List Byte), powered s.dev .mgmt = true →
    let zero := bs.head? = some 0
    let good := (bs.length = 5 ∧ fld (rwOf s.dev 0x7800) 0 1 = 0) ∨ (bs.length = 6 ∧ (bs.getD 5 0).toNat = crc8 (2 * (s.dev.mp.address % 128) :: 0x42 :: (bs.take 5).map (fun b => b.toNat)))
    zero ∨ (bs.head? = some 4 ∧ good ∧ bs.getD 3 0 = 0) →
      ∃ e, exec (.recordSelect bs) s = Safety.next s e ∧ e.mp.blockZero = true ∧ e.mp.slot = s.dev.mp.slot ∧ e.mp.count = s.dev.mp.count ∧ e.mp.nacks = s.dev.mp.nacks ∧
        e.mp.transactions = min (s.dev.mp.transactions + 1) 65535 ∧ (zero → e.mp.badCommand = s.dev.mp.badCommand) ∧ Safety.keeps [.mp] s.dev e

/-- O60. A mode request takes its slot and, with room in the journal, its place there in both copies as a MODE descriptor of the port; without room it
waits, and enters when room appears, the urgent one first; a slot that is not DONE keeps its request. In BOOT an urgent one waits for its due tick,
and an ordinary one is DONE at once, refused or BAD_FIELD (the model's choice of the order of these two checks is in log 25). -/
def Obligations.PortRequestsEnterTheJournal : Prop :=
  ∀ (s : State) (t g : Byte), powered s.dev .mgmt = true → fld (rwOf s.dev 0x7800) 0 1 = 0 →
    let begun : Dev := { s.dev with mp := { s.dev.mp with busy := true, transactions := min (s.dev.mp.transactions + 1) 65535 } }
    let urgent := t.toNat % 16 = 10 ∨ t.toNat % 16 = 9 ∨ t.toNat % 16 = 0
    let slotOf (d : Dev) := if urgent then d.mp.urgent else d.mp.ordinary
    let other (d : Dev) := if urgent then d.mp.ordinary else d.mp.urgent
    let free := (slotOf s.dev).st = .none ∨ (slotOf s.dev).st = .done
    (¬ free → exec (.modeRequest [t, g]) s = Safety.next s { s.dev with mp := { begun.mp with busy := false, requestBusy := true } }) ∧
    (free → s.dev.mm.mode ≠ .boot → requestRoom s.dev = false →
      ∃ e, exec (.modeRequest [t, g]) s = Safety.next s e ∧ (slotOf e).st = .waiting ∧ (slotOf e).tag = g.toNat ∧ (slotOf e).target = t.toNat % 16 ∧ other e = other s.dev ∧ Safety.keeps [.mp] s.dev e) ∧
    (free → s.dev.mm.mode ≠ .boot → requestRoom s.dev = true → s.dev.cap.st = .idle →
      ∃ e x, exec (.modeRequest [t, g]) s = Safety.next s e ∧ (slotOf e).st = .accepted ∧ (slotOf e).tag = g.toNat ∧ (slotOf e).entry = some x.idx ∧ other e = other s.dev ∧
        x.ring = 32 ∧ x.st = .accepted ∧ x.accTick = s.dev.clk.tick + 1 ∧ fld x.image 0 4 = 5 ∧ fld x.image 64 4 = t.toNat % 16 ∧ fld x.image 68 4 = t.toNat / 16 ∧
        x.idx = freeIdx (s.dev.jr.primary ++ writing s.dev) ∧ x ∈ e.jr.primary ∧ x ∈ e.jr.secondary ∧ (∀ y ∈ s.dev.jr.primary, y ∈ e.jr.primary) ∧ e.jr.primary.length = s.dev.jr.primary.length + 1 ∧ Safety.keeps [.mp, .jr] s.dev e) ∧
    (free → s.dev.mm.mode = .boot → ¬ urgent → ∃ e, exec (.modeRequest [t, g]) s = Safety.next s e ∧ (slotOf e).st = .done ∧ (slotOf e).frm = 2 ∧ (slotOf e).dest = 2 ∧
      (slotOf e).status = (if t.toNat / 16 = 0 ∧ t.toNat % 16 ∈ [3, 4, 5, 6, 8, 11] then Status.modeRefused.code else Status.badField.code) ∧ bit e.mp.event 3 = true ∧ Safety.keeps [.mp, .int] s.dev e) ∧
    (free → s.dev.mm.mode = .boot → urgent → t.toNat / 16 = 0 →
      ∃ e q, exec (.modeRequest [t, g]) s = Safety.next s e ∧ slotOf e = q ∧ q.st = .waiting ∧ q.tag = g.toNat ∧ q.target = t.toNat % 16 ∧ other e = other s.dev ∧ e.waiting = s.dev.waiting ++ [(s.dev.clk.tick + 5, .request q)] ∧
        Safety.keeps [.mp, .waiting] s.dev e) ∧
    (s.dev.mm.mode ≠ .boot → requestRoom s.dev = true → s.dev.cap.st = .idle → s.dev.mp.urgent.st = .waiting → urgentTarget s.dev.mp.urgent.target = true →
      ∃ e, exec .mpRequestEnqueue s = Safety.next s e ∧ e.mp.urgent.st = .accepted ∧ e.mp.ordinary = s.dev.mp.ordinary ∧ e.jr.primary.length = s.dev.jr.primary.length + 1 ∧ Safety.keeps [.mp, .jr] s.dev e) ∧
    (s.dev.mm.mode ≠ .boot → requestRoom s.dev = true → s.dev.cap.st = .idle → s.dev.mp.urgent.st ≠ .waiting → s.dev.mp.ordinary.st = .waiting → urgentTarget s.dev.mp.ordinary.target = false →
      ∃ e, exec .mpRequestEnqueue s = Safety.next s e ∧ e.mp.ordinary.st = .accepted ∧ e.mp.urgent = s.dev.mp.urgent ∧ e.jr.primary.length = s.dev.jr.primary.length + 1 ∧ Safety.keeps [.mp, .jr] s.dev e)
end

