-- ==== Sys2Proof/Laws/Sparse.lean ====
section
/-!
SUPPORT. Sparse memories: a read after a write, and the canonical form that every write keeps; lists of units.
-/
set_option Elab.async false
namespace Sys2Proof.Machine

variable {α : Type} [DecidableEq α]

/-- Every key of a list lies above a bound. -/
def Sparse.above (lo : Nat) (m : Sparse α) : Prop := ∀ e ∈ m, lo < e.1

/-- The canonical form of a list with a head. -/
theorem Sparse.wf_cons (dflt : α) (k : Nat) (v : α) (m : Sparse α) :
    Sparse.wf dflt ((k, v) :: m) = true ↔ v ≠ dflt ∧ Sparse.above k m ∧ Sparse.wf dflt m = true := by
  induction m generalizing k v with
  | nil => simp [Sparse.wf, Sparse.above]
  | cons e m ih =>
    obtain ⟨k', v'⟩ := e
    have h := ih k' v'
    simp only [Sparse.wf, Bool.and_eq_true, decide_eq_true_eq]
    constructor
    · rintro ⟨⟨hv, hk⟩, hw⟩
      refine ⟨hv, ?_, hw⟩
      intro e he
      rcases List.mem_cons.1 he with rfl | he
      · exact hk
      · exact Nat.lt_trans hk ((h.1 hw).2.1 e he)
    · rintro ⟨hv, ha, hw⟩
      exact ⟨⟨hv, ha (k', v') (by simp)⟩, hw⟩

theorem Sparse.get_above (dflt : α) (m : Sparse α) (i : Nat) (h : Sparse.above i m) : m.get dflt i = dflt := by
  induction m with
  | nil => rfl
  | cons e m ih =>
    obtain ⟨k, v⟩ := e
    have hk : i < k := h (k, v) (by simp)
    have : i ≠ k := by omega
    simp only [Sparse.get, this, if_false]
    exact ih (fun e he => h e (by simp [he]))

theorem Sparse.above_erase (lo i : Nat) (m : Sparse α) (h : Sparse.above lo m) : Sparse.above lo (m.erase i) := by
  induction m with
  | nil => exact h
  | cons e m ih =>
    obtain ⟨k, v⟩ := e
    have ht : Sparse.above lo m := fun e he => h e (by simp [he])
    unfold Sparse.erase
    split
    · exact ih ht
    · intro e he
      rcases List.mem_cons.1 he with rfl | he
      · exact h _ (by simp)
      · exact ih ht e he

theorem Sparse.above_insert (lo i : Nat) (x : α) (m : Sparse α) (hi : lo < i) (h : Sparse.above lo m) : Sparse.above lo (m.insert i x) := by
  induction m with
  | nil => intro e he; simp [Sparse.insert] at he; simp [he, hi]
  | cons e m ih =>
    obtain ⟨k, v⟩ := e
    have hk : lo < k := h (k, v) (by simp)
    have ht : Sparse.above lo m := fun e he => h e (by simp [he])
    unfold Sparse.insert
    split
    · intro e he
      rcases List.mem_cons.1 he with rfl | he
      · exact hi
      · exact h e he
    · split
      · intro e he
        rcases List.mem_cons.1 he with rfl | he
        · exact hk
        · exact ht e he
      · intro e he
        rcases List.mem_cons.1 he with rfl | he
        · exact hk
        · exact ih ht e he

theorem Sparse.wf_erase (dflt : α) (m : Sparse α) (i : Nat) (h : Sparse.wf dflt m = true) : Sparse.wf dflt (m.erase i) = true := by
  induction m with
  | nil => exact h
  | cons e m ih =>
    obtain ⟨k, v⟩ := e
    obtain ⟨hv, ha, hw⟩ := (Sparse.wf_cons dflt k v m).1 h
    unfold Sparse.erase
    split
    · exact ih hw
    · exact (Sparse.wf_cons dflt k v _).2 ⟨hv, Sparse.above_erase k i m ha, ih hw⟩

theorem Sparse.wf_insert (dflt : α) (m : Sparse α) (i : Nat) (x : α) (hx : x ≠ dflt) (h : Sparse.wf dflt m = true) :
    Sparse.wf dflt (m.insert i x) = true := by
  induction m with
  | nil => simpa [Sparse.insert, Sparse.wf] using hx
  | cons e m ih =>
    obtain ⟨k, v⟩ := e
    obtain ⟨hv, ha, hw⟩ := (Sparse.wf_cons dflt k v m).1 h
    unfold Sparse.insert
    split
    · rename_i hik
      refine (Sparse.wf_cons dflt i x _).2 ⟨hx, ?_, h⟩
      intro e he
      rcases List.mem_cons.1 he with rfl | he
      · exact hik
      · exact Nat.lt_trans hik (ha e he)
    · split
      · exact (Sparse.wf_cons dflt k x m).2 ⟨hx, ha, hw⟩
      · rename_i h1 h2
        exact (Sparse.wf_cons dflt k v _).2 ⟨hv, Sparse.above_insert k i x m (by omega) ha, ih hw⟩

/-- Every write keeps the canonical form. -/
theorem Sparse.wf_set (dflt : α) (m : Sparse α) (i : Nat) (x : α) (h : Sparse.wf dflt m = true) : Sparse.wf dflt (m.set dflt i x) = true := by
  unfold Sparse.set
  split
  · exact Sparse.wf_erase dflt m i h
  · rename_i hx; exact Sparse.wf_insert dflt m i x hx h

theorem Sparse.get_insert (dflt : α) (m : Sparse α) (i j : Nat) (x : α) : (m.insert i x).get dflt j = if j = i then x else m.get dflt j := by
  induction m with
  | nil => simp [Sparse.insert, Sparse.get]
  | cons e m ih =>
    obtain ⟨k, v⟩ := e
    unfold Sparse.insert
    split
    · simp [Sparse.get]
    · split
      · rename_i h; subst h; by_cases hj : j = i <;> simp [Sparse.get, hj]
      · rename_i h1 h2
        simp only [Sparse.get, ih]
        by_cases hj : j = k
        · subst hj; have : ¬ j = i := by omega
          simp [this]
        · simp [hj]

omit [DecidableEq α] in
theorem Sparse.get_erase (dflt : α) (m : Sparse α) (i j : Nat) : (m.erase i).get dflt j = if j = i then dflt else m.get dflt j := by
  induction m with
  | nil => simp [Sparse.erase, Sparse.get]
  | cons e m ih =>
    obtain ⟨k, v⟩ := e
    unfold Sparse.erase
    split
    · rename_i hik
      subst hik
      rw [ih]
      by_cases hj : j = i <;> simp [Sparse.get, hj]
    · rename_i hik
      simp only [Sparse.get, ih]
      by_cases hj : j = k
      · subst hj; have : ¬ j = i := fun h => hik h.symm
        simp [this]
      · simp [hj]

/-- A read after a write gives the value written, and every other key reads as before. -/
theorem Sparse.get_set (dflt : α) (m : Sparse α) (i j : Nat) (x : α) : (m.set dflt i x).get dflt j = if j = i then x else m.get dflt j := by
  unfold Sparse.set
  split
  · rename_i hx; rw [Sparse.get_erase dflt m i j, hx]
  · exact Sparse.get_insert dflt m i j x

/-! ### Lists of units -/

omit [DecidableEq α] in
@[simp] theorem upd_length (l : List α) (i : Nat) (f : α → α) : (upd l i f).length = l.length := by simp [upd]

omit [DecidableEq α] in
/-- A changed unit holds the new value. -/
theorem at'_upd_same (dflt : α) (l : List α) (i : Nat) (f : α → α) (h : i < l.length) : at' dflt (upd l i f) i = f (at' dflt l i) := by
  simp [at', upd, List.getD, h]

omit [DecidableEq α] in
/-- Every other unit is as before. -/
theorem at'_upd_other (dflt : α) (l : List α) (i j : Nat) (f : α → α) (h : j ≠ i) : at' dflt (upd l i f) j = at' dflt l j := by
  have h' : i ≠ j := fun e => h e.symm
  simp [at', upd, List.getD, List.getElem?_modify, h']

end Sys2Proof.Machine
end

