-- ==== Sys2Proof/Laws/Access.lean ====
section
/-!
SUPPORT. Reading one unit after an update of one unit.
-/
set_option Elab.async false
namespace Sys2Proof.Machine

theorem strU_updStr_same (d : Dev) (k : Nat) (f : StringUnit → StringUnit) (h : k < d.str.length) : strU (updStr d k f) k = f (strU d k) := at'_upd_same _ _ _ _ h
theorem strU_updStr_other (d : Dev) (j k : Nat) (f : StringUnit → StringUnit) (h : j ≠ k) : strU (updStr d k f) j = strU d j := at'_upd_other _ _ _ _ _ h
@[simp] theorem updStr_length (d : Dev) (k : Nat) (f : StringUnit → StringUnit) : (updStr d k f).str.length = d.str.length := upd_length _ _ _

theorem phU_updPh_same (d : Dev) (k : Nat) (f : PhaseUnit → PhaseUnit) (h : k < d.ph.length) : phU (updPh d k f) k = f (phU d k) := at'_upd_same _ _ _ _ h
theorem phU_updPh_other (d : Dev) (j k : Nat) (f : PhaseUnit → PhaseUnit) (h : j ≠ k) : phU (updPh d k f) j = phU d j := at'_upd_other _ _ _ _ _ h
@[simp] theorem updPh_length (d : Dev) (k : Nat) (f : PhaseUnit → PhaseUnit) : (updPh d k f).ph.length = d.ph.length := upd_length _ _ _

theorem lkU_updLk_same (d : Dev) (k : Nat) (f : LinkUnit → LinkUnit) (h : k < d.lk.length) : lkU (updLk d k f) k = f (lkU d k) := at'_upd_same _ _ _ _ h
theorem lkU_updLk_other (d : Dev) (j k : Nat) (f : LinkUnit → LinkUnit) (h : j ≠ k) : lkU (updLk d k f) j = lkU d j := at'_upd_other _ _ _ _ _ h
@[simp] theorem updLk_length (d : Dev) (k : Nat) (f : LinkUnit → LinkUnit) : (updLk d k f).lk.length = d.lk.length := upd_length _ _ _

theorem subU_updSub_same (d : Dev) (k : Nat) (f : SubRing → SubRing) (h : k < d.ring.sub.length) : subU (updSub d k f) k = f (subU d k) := at'_upd_same _ _ _ _ h
theorem subU_updSub_other (d : Dev) (j k : Nat) (f : SubRing → SubRing) (h : j ≠ k) : subU (updSub d k f) j = subU d j := at'_upd_other _ _ _ _ _ h
@[simp] theorem updSub_length (d : Dev) (k : Nat) (f : SubRing → SubRing) : (updSub d k f).ring.sub.length = d.ring.sub.length := upd_length _ _ _

theorem cplU_updCpl_same (d : Dev) (k : Nat) (f : CplRing → CplRing) (h : k < d.ring.cpl.length) : cplU (updCpl d k f) k = f (cplU d k) := at'_upd_same _ _ _ _ h
theorem cplU_updCpl_other (d : Dev) (j k : Nat) (f : CplRing → CplRing) (h : j ≠ k) : cplU (updCpl d k f) j = cplU d j := at'_upd_other _ _ _ _ _ h
@[simp] theorem updCpl_length (d : Dev) (k : Nat) (f : CplRing → CplRing) : (updCpl d k f).ring.cpl.length = d.ring.cpl.length := upd_length _ _ _

theorem tailOf_updTail_same (d : Dev) (k : Nat) (f : Tail → Tail) (h : k < d.jr.tails.length) : tailOf (updTail d k f) k = f (tailOf d k) := at'_upd_same _ _ _ _ h
theorem tailOf_updTail_other (d : Dev) (j k : Nat) (f : Tail → Tail) (h : j ≠ k) : tailOf (updTail d k f) j = tailOf d j := at'_upd_other _ _ _ _ _ h
@[simp] theorem updTail_length (d : Dev) (k : Nat) (f : Tail → Tail) : (updTail d k f).jr.tails.length = d.jr.tails.length := upd_length _ _ _

theorem tmrU_updTmr_same (d : Dev) (k : Nat) (f : Timer → Timer) (h : k < d.tmr.length) : tmrU (updTmr d k f) k = f (tmrU d k) := at'_upd_same _ _ _ _ h
theorem tmrU_updTmr_other (d : Dev) (j k : Nat) (f : Timer → Timer) (h : j ≠ k) : tmrU (updTmr d k f) j = tmrU d j := at'_upd_other _ _ _ _ _ h
@[simp] theorem updTmr_length (d : Dev) (k : Nat) (f : Timer → Timer) : (updTmr d k f).tmr.length = d.tmr.length := upd_length _ _ _

theorem railU_updRail_same (d : Dev) (k : Nat) (f : Rail → Rail) (h : k < d.seq.rails.length) : railU (updRail d k f) k = f (railU d k) := at'_upd_same _ _ _ _ h
theorem railU_updRail_other (d : Dev) (j k : Nat) (f : Rail → Rail) (h : j ≠ k) : railU (updRail d k f) j = railU d j := at'_upd_other _ _ _ _ _ h
@[simp] theorem updRail_length (d : Dev) (k : Nat) (f : Rail → Rail) : (updRail d k f).seq.rails.length = d.seq.rails.length := upd_length _ _ _

/-- Reset values depend on the OTP shadows alone (R349). -/
theorem regReset_congr (d e : Dev) (h : d.otp = e.otp) (off : Nat) : regReset d off = regReset e off := by
  have h1 : shadowOf d = shadowOf e := by funext w; simp only [shadowOf, h]
  have h2 : otpUsable d = otpUsable e := by funext w; simp only [otpUsable, h1]
  have h3 : otpOr d = otpOr e := by funext w x; simp only [otpOr, h1, h2]
  have h4 : railsFromOtp d = railsFromOtp e := by
    unfold railsFromOtp railWordsUsable railGroupsOk railNetsOk otpRailSize otpRailNet
    rw [h1, h2]
  have h5 : seqReset d = seqReset e := by
    funext o; simp only [seqReset, railConfigImage, railWarnImage, railFaultImage, policyWord, h1, h3, h4]
  have h6 : chgReset d = chgReset e := by
    funext o; unfold chgReset cellDefault otpChemistry inputLevelsImage; rw [h1, h2, h3]
  simp only [regReset, h5, h6]

theorem rwOf_congr (d e : Dev) (h : d.otp = e.otp) (hc : d.cfg.rw = e.cfg.rw) (off : Nat) : rwOf d off = rwOf e off := by
  simp only [rwOf, regReset_congr d e h, hc]

theorem inForce_congr (d e : Dev) (h : d.otp = e.otp) (hc : d.cfg.force = e.cfg.force) (off : Nat) : inForce d off = inForce e off := by
  simp only [inForce, regReset_congr d e h, hc]

end Sys2Proof.Machine
end

