-- ==== Sys2Proof/Laws/Settle.lean ====
section
/-!
SUPPORT. What follows every command: `settle` touches the charger, strings, phases and links, the state words shown, the claim flags, the
pending bits of MSI-X and the outputs, and nothing else.
-/
set_option Elab.async false
namespace Sys2Proof.Machine

/-- A device without the parts that `settle` may touch. -/
def Laws.core (d : Dev) : Dev :=
  { d with pci := { d.pci with pending := 0 }, chg := {}, str := [], ph := [], lk := [], ring := { d.ring with sub := [] }, int := { d.int with was := [] }, out := [] }

theorem Laws.core_foldl {β : Type} (g : Dev → β → Dev) (h : ∀ d x, Laws.core (g d x) = Laws.core d) (l : List β) (d : Dev) :
    Laws.core (l.foldl g d) = Laws.core d := by
  induction l generalizing d with
  | nil => rfl
  | cons x xs ih => rw [List.foldl_cons, ih, h]

theorem Laws.core_updStr (d : Dev) (k : Nat) (f : StringUnit → StringUnit) : Laws.core (updStr d k f) = Laws.core d := rfl
theorem Laws.core_updPh (d : Dev) (k : Nat) (f : PhaseUnit → PhaseUnit) : Laws.core (updPh d k f) = Laws.core d := rfl
theorem Laws.core_updLk (d : Dev) (k : Nat) (f : LinkUnit → LinkUnit) : Laws.core (updLk d k f) = Laws.core d := rfl
theorem Laws.core_chg (d : Dev) (c : Charger) : Laws.core { d with chg := c } = Laws.core d := rfl
theorem Laws.core_emit (d : Dev) (o : Out) : Laws.core (emit d o) = Laws.core d := rfl

theorem Laws.core_clearLoops (d : Dev) (k : Nat) : Laws.core (clearLoops d k) = Laws.core d := by
  refine (Laws.core_foldl _ (fun _ _ => ?_) _ _).trans rfl
  exact Laws.core_updPh _ _ _

theorem Laws.core_enableString (d : Dev) (k : Nat) : Laws.core (enableString d k) = Laws.core d := by
  unfold enableString
  split
  · rfl
  · rw [Laws.core_updStr, Laws.core_clearLoops]

theorem Laws.core_packOff (d : Dev) : Laws.core (packOff d) = Laws.core d := by
  unfold packOff
  dsimp only
  split
  · rw [Laws.core_updStr, Laws.core_clearLoops]
  · rfl

theorem Laws.core_packFollow (d : Dev) : Laws.core (packFollow d) = Laws.core d := by
  unfold packFollow
  dsimp only
  split
  · rfl
  · split
    · split
      · rw [Laws.core_enableString]
      · rw [Laws.core_updStr, Laws.core_enableString]
    · rw [Laws.core_packOff]

theorem Laws.core_setCharger (d : Dev) (c : CState) : Laws.core (setCharger d c) = Laws.core d := by
  unfold setCharger
  rw [Laws.core_packFollow]; rfl

theorem Laws.core_enterQualify (d : Dev) : Laws.core (enterQualify d) = Laws.core d := by
  unfold enterQualify
  split
  · rw [Laws.core_setCharger]
  · rw [Laws.core_setCharger]; rfl

theorem Laws.core_followCharger (d : Dev) : Laws.core (followCharger d) = Laws.core d := by
  unfold followCharger
  repeat' split
  all_goals first | rfl | rw [Laws.core_packOff] | rw [Laws.core_enterQualify] | rw [Laws.core_setCharger] | rw [Laws.core_packFollow] | skip
  all_goals rfl

theorem Laws.core_out (d : Dev) (os : List Out) : Laws.core { d with out := os } = Laws.core d := rfl
theorem Laws.core_updSub (d : Dev) (n : Nat) (f : SubRing → SubRing) : Laws.core (updSub d n f) = Laws.core d := rfl

theorem Laws.core_writeStateBlock (d : Dev) (b : Nat) : Laws.core (writeStateBlock d b) = Laws.core d :=
  (Laws.core_out _ _).trans (Laws.core_foldl _ (fun _ _ => Laws.core_updSub _ _ _) _ _)

theorem Laws.core_followState (d : Dev) : Laws.core (followState d) = Laws.core d := by
  unfold followState
  split
  · rfl
  · rw [Laws.core_foldl]
    intro d b; split
    · rw [Laws.core_writeStateBlock]
    · rfl

theorem Laws.core_message (d : Dev) (t : Nat) (now became : Bool) : Laws.core (message d t now became) = Laws.core d := by
  unfold message
  dsimp only
  repeat' split
  all_goals rfl

theorem Laws.core_intLine (d : Dev) (t : Nat) (now was : Bool) : Laws.core (intLine d t now was) = Laws.core d := by
  unfold intLine
  split <;> rfl

theorem Laws.core_followInt (d : Dev) : Laws.core (followInt d) = Laws.core d := by
  unfold followInt
  dsimp only
  rw [Laws.core_foldl _ (fun _ _ => Laws.core_intLine _ _ _ _), Laws.core_foldl _ (fun _ _ => Laws.core_message _ _ _ _)]
  rfl

theorem Laws.core_settle (d : Dev) : Laws.core (settle d) = Laws.core d := by
  unfold settle
  rw [Laws.core_followInt, Laws.core_followState, Laws.core_followCharger]

theorem Laws.core_clk (d : Dev) : (Laws.core d).clk = d.clk := rfl
theorem Laws.core_pins (d : Dev) : (Laws.core d).pins = d.pins := rfl
theorem Laws.core_mm (d : Dev) : (Laws.core d).mm = d.mm := rfl
theorem Laws.core_pwr (d : Dev) : (Laws.core d).pwr = d.pwr := rfl
theorem Laws.core_cfg (d : Dev) : (Laws.core d).cfg = d.cfg := rfl
theorem Laws.core_jr (d : Dev) : (Laws.core d).jr = d.jr := rfl
theorem Laws.core_fb (d : Dev) : (Laws.core d).fb = d.fb := rfl
theorem Laws.core_seq (d : Dev) : (Laws.core d).seq = d.seq := rfl
theorem Laws.core_flt (d : Dev) : (Laws.core d).flt = d.flt := rfl
theorem Laws.core_tmr (d : Dev) : (Laws.core d).tmr = d.tmr := rfl
theorem Laws.core_wd (d : Dev) : (Laws.core d).wd = d.wd := rfl
theorem Laws.core_otp (d : Dev) : (Laws.core d).otp = d.otp := rfl
theorem Laws.core_rcd (d : Dev) : (Laws.core d).rcd = d.rcd := rfl
theorem Laws.core_cap (d : Dev) : (Laws.core d).cap = d.cap := rfl
theorem Laws.core_capQueue (d : Dev) : (Laws.core d).capQueue = d.capQueue := rfl
theorem Laws.core_waiting (d : Dev) : (Laws.core d).waiting = d.waiting := rfl
theorem Laws.core_mp (d : Dev) : (Laws.core d).mp = d.mp := rfl
theorem Laws.core_fretOut (d : Dev) : (Laws.core d).fretOut = d.fretOut := rfl
theorem Laws.core_bus (d : Dev) : (Laws.core d).bus = d.bus := rfl
theorem Laws.core_busBlock (d : Dev) : (Laws.core d).busBlock = d.busBlock := rfl
theorem Laws.core_int_target2 (d : Dev) : (Laws.core d).int.target2 = d.int.target2 := rfl
theorem Laws.core_int_refired (d : Dev) : (Laws.core d).int.refired = d.int.refired := rfl
theorem Laws.core_pci_enable (d : Dev) : (Laws.core d).pci.enable = d.pci.enable := rfl
theorem Laws.core_int_claimStacks (d : Dev) : (Laws.core d).int.claimStacks = d.int.claimStacks := rfl

@[simp] theorem settle_clk (d : Dev) : (settle d).clk = d.clk := by rw [← Laws.core_clk (settle d), Laws.core_settle, Laws.core_clk]
@[simp] theorem settle_pins (d : Dev) : (settle d).pins = d.pins := by rw [← Laws.core_pins (settle d), Laws.core_settle, Laws.core_pins]
@[simp] theorem settle_mm (d : Dev) : (settle d).mm = d.mm := by rw [← Laws.core_mm (settle d), Laws.core_settle, Laws.core_mm]
@[simp] theorem settle_pwr (d : Dev) : (settle d).pwr = d.pwr := by rw [← Laws.core_pwr (settle d), Laws.core_settle, Laws.core_pwr]
@[simp] theorem settle_cfg (d : Dev) : (settle d).cfg = d.cfg := by rw [← Laws.core_cfg (settle d), Laws.core_settle, Laws.core_cfg]
@[simp] theorem settle_jr (d : Dev) : (settle d).jr = d.jr := by rw [← Laws.core_jr (settle d), Laws.core_settle, Laws.core_jr]
@[simp] theorem settle_fb (d : Dev) : (settle d).fb = d.fb := by rw [← Laws.core_fb (settle d), Laws.core_settle, Laws.core_fb]
@[simp] theorem settle_seq (d : Dev) : (settle d).seq = d.seq := by rw [← Laws.core_seq (settle d), Laws.core_settle, Laws.core_seq]
@[simp] theorem settle_flt (d : Dev) : (settle d).flt = d.flt := by rw [← Laws.core_flt (settle d), Laws.core_settle, Laws.core_flt]
@[simp] theorem settle_tmr (d : Dev) : (settle d).tmr = d.tmr := by rw [← Laws.core_tmr (settle d), Laws.core_settle, Laws.core_tmr]
@[simp] theorem settle_wd (d : Dev) : (settle d).wd = d.wd := by rw [← Laws.core_wd (settle d), Laws.core_settle, Laws.core_wd]
@[simp] theorem settle_otp (d : Dev) : (settle d).otp = d.otp := by rw [← Laws.core_otp (settle d), Laws.core_settle, Laws.core_otp]
@[simp] theorem settle_rcd (d : Dev) : (settle d).rcd = d.rcd := by rw [← Laws.core_rcd (settle d), Laws.core_settle, Laws.core_rcd]
@[simp] theorem settle_cap (d : Dev) : (settle d).cap = d.cap := by rw [← Laws.core_cap (settle d), Laws.core_settle, Laws.core_cap]
@[simp] theorem settle_capQueue (d : Dev) : (settle d).capQueue = d.capQueue := by rw [← Laws.core_capQueue (settle d), Laws.core_settle, Laws.core_capQueue]
@[simp] theorem settle_waiting (d : Dev) : (settle d).waiting = d.waiting := by rw [← Laws.core_waiting (settle d), Laws.core_settle, Laws.core_waiting]
@[simp] theorem settle_mp (d : Dev) : (settle d).mp = d.mp := by rw [← Laws.core_mp (settle d), Laws.core_settle, Laws.core_mp]
@[simp] theorem settle_fretOut (d : Dev) : (settle d).fretOut = d.fretOut := by rw [← Laws.core_fretOut (settle d), Laws.core_settle, Laws.core_fretOut]
@[simp] theorem settle_bus (d : Dev) : (settle d).bus = d.bus := by rw [← Laws.core_bus (settle d), Laws.core_settle, Laws.core_bus]
@[simp] theorem settle_busBlock (d : Dev) : (settle d).busBlock = d.busBlock := by rw [← Laws.core_busBlock (settle d), Laws.core_settle, Laws.core_busBlock]
@[simp] theorem settle_int_target2 (d : Dev) : (settle d).int.target2 = d.int.target2 := by rw [← Laws.core_int_target2 (settle d), Laws.core_settle, Laws.core_int_target2]
@[simp] theorem settle_int_refired (d : Dev) : (settle d).int.refired = d.int.refired := by rw [← Laws.core_int_refired (settle d), Laws.core_settle, Laws.core_int_refired]
@[simp] theorem settle_pci_enable (d : Dev) : (settle d).pci.enable = d.pci.enable := by rw [← Laws.core_pci_enable (settle d), Laws.core_settle, Laws.core_pci_enable]
@[simp] theorem settle_int_claimStacks (d : Dev) : (settle d).int.claimStacks = d.int.claimStacks := by rw [← Laws.core_int_claimStacks (settle d), Laws.core_settle, Laws.core_int_claimStacks]

end Sys2Proof.Machine
end

