-- ==== Sys2Proof/Laws/Frames.lean ====
section
/-!
SUPPORT. Frames. `Laws.mask ps d` blanks the parts listed in `ps`; an effect that may write only those parts does not change the mask, so that
frames of composed effects follow by rewriting.
-/
set_option Elab.async false
namespace Sys2Proof.Machine
open Sys2Proof.Safety

/-- A device with the listed parts blanked. -/
def Laws.mask (ps : List Part) (d : Dev) : Dev :=
  { clk := if Part.clk ∈ ps then {} else d.clk, pins := if Part.pins ∈ ps then {} else d.pins, mm := if Part.mm ∈ ps then {} else d.mm, pwr := if Part.pwr ∈ ps then {} else d.pwr, cfg := if Part.cfg ∈ ps then {} else d.cfg, pci := if Part.pci ∈ ps then {} else d.pci, ring := if Part.ring ∈ ps then {} else d.ring, jr := if Part.jr ∈ ps then {} else d.jr, fb := if Part.fb ∈ ps then {} else d.fb, str := if Part.str ∈ ps then [] else d.str, ph := if Part.ph ∈ ps then [] else d.ph, lk := if Part.lk ∈ ps then [] else d.lk, seq := if Part.seq ∈ ps then {} else d.seq, chg := if Part.chg ∈ ps then {} else d.chg, flt := if Part.flt ∈ ps then {} else d.flt, int := if Part.int ∈ ps then {} else d.int, tmr := if Part.tmr ∈ ps then [] else d.tmr, wd := if Part.wd ∈ ps then {} else d.wd, otp := if Part.otp ∈ ps then {} else d.otp, rcd := if Part.rcd ∈ ps then {} else d.rcd, cap := if Part.cap ∈ ps then {} else d.cap, capQueue := if Part.capQueue ∈ ps then {} else d.capQueue, mp := if Part.mp ∈ ps then {} else d.mp, waiting := if Part.waiting ∈ ps then [] else d.waiting, out := if Part.out ∈ ps then [] else d.out, fretOut := if Part.fretOut ∈ ps then [] else d.fretOut, bus := if Part.bus ∈ ps then 0 else d.bus, busBlock := if Part.busBlock ∈ ps then [] else d.busBlock }

theorem Laws.keeps_of_mask (ps : List Part) (a b : Dev) (h : Laws.mask ps b = Laws.mask ps a) : keeps ps a b := by
  intro p hp
  cases p
  case clk => have h1 := congrArg Dev.clk h; simp only [Laws.mask, if_neg hp] at h1; exact h1.symm
  case pins => have h1 := congrArg Dev.pins h; simp only [Laws.mask, if_neg hp] at h1; exact h1.symm
  case mm => have h1 := congrArg Dev.mm h; simp only [Laws.mask, if_neg hp] at h1; exact h1.symm
  case pwr => have h1 := congrArg Dev.pwr h; simp only [Laws.mask, if_neg hp] at h1; exact h1.symm
  case cfg => have h1 := congrArg Dev.cfg h; simp only [Laws.mask, if_neg hp] at h1; exact h1.symm
  case pci => have h1 := congrArg Dev.pci h; simp only [Laws.mask, if_neg hp] at h1; exact h1.symm
  case ring => have h1 := congrArg Dev.ring h; simp only [Laws.mask, if_neg hp] at h1; exact h1.symm
  case jr => have h1 := congrArg Dev.jr h; simp only [Laws.mask, if_neg hp] at h1; exact h1.symm
  case fb => have h1 := congrArg Dev.fb h; simp only [Laws.mask, if_neg hp] at h1; exact h1.symm
  case str => have h1 := congrArg Dev.str h; simp only [Laws.mask, if_neg hp] at h1; exact h1.symm
  case ph => have h1 := congrArg Dev.ph h; simp only [Laws.mask, if_neg hp] at h1; exact h1.symm
  case lk => have h1 := congrArg Dev.lk h; simp only [Laws.mask, if_neg hp] at h1; exact h1.symm
  case seq => have h1 := congrArg Dev.seq h; simp only [Laws.mask, if_neg hp] at h1; exact h1.symm
  case chg => have h1 := congrArg Dev.chg h; simp only [Laws.mask, if_neg hp] at h1; exact h1.symm
  case flt => have h1 := congrArg Dev.flt h; simp only [Laws.mask, if_neg hp] at h1; exact h1.symm
  case int => have h1 := congrArg Dev.int h; simp only [Laws.mask, if_neg hp] at h1; exact h1.symm
  case tmr => have h1 := congrArg Dev.tmr h; simp only [Laws.mask, if_neg hp] at h1; exact h1.symm
  case wd => have h1 := congrArg Dev.wd h; simp only [Laws.mask, if_neg hp] at h1; exact h1.symm
  case otp => have h1 := congrArg Dev.otp h; simp only [Laws.mask, if_neg hp] at h1; exact h1.symm
  case rcd => have h1 := congrArg Dev.rcd h; simp only [Laws.mask, if_neg hp] at h1; exact h1.symm
  case cap => have h1 := congrArg Dev.cap h; simp only [Laws.mask, if_neg hp] at h1; exact h1.symm
  case capQueue => have h1 := congrArg Dev.capQueue h; simp only [Laws.mask, if_neg hp] at h1; exact h1.symm
  case mp => have h1 := congrArg Dev.mp h; simp only [Laws.mask, if_neg hp] at h1; exact h1.symm
  case waiting => have h1 := congrArg Dev.waiting h; simp only [Laws.mask, if_neg hp] at h1; exact h1.symm
  case out => have h1 := congrArg Dev.out h; simp only [Laws.mask, if_neg hp] at h1; exact h1.symm
  case fretOut => have h1 := congrArg Dev.fretOut h; simp only [Laws.mask, if_neg hp] at h1; exact h1.symm
  case bus => have h1 := congrArg Dev.bus h; simp only [Laws.mask, if_neg hp] at h1; exact h1.symm
  case busBlock => have h1 := congrArg Dev.busBlock h; simp only [Laws.mask, if_neg hp] at h1; exact h1.symm

theorem Laws.mask_of_keeps (ps : List Part) (a b : Dev) (h : keeps ps a b) : Laws.mask ps b = Laws.mask ps a := by
  unfold Laws.mask
  have h_clk : (if Part.clk ∈ ps then {} else b.clk) = (if Part.clk ∈ ps then {} else a.clk) := by
    split
    · rfl
    · rename_i hn; exact (h .clk hn).symm
  have h_pins : (if Part.pins ∈ ps then {} else b.pins) = (if Part.pins ∈ ps then {} else a.pins) := by
    split
    · rfl
    · rename_i hn; exact (h .pins hn).symm
  have h_mm : (if Part.mm ∈ ps then {} else b.mm) = (if Part.mm ∈ ps then {} else a.mm) := by
    split
    · rfl
    · rename_i hn; exact (h .mm hn).symm
  have h_pwr : (if Part.pwr ∈ ps then {} else b.pwr) = (if Part.pwr ∈ ps then {} else a.pwr) := by
    split
    · rfl
    · rename_i hn; exact (h .pwr hn).symm
  have h_cfg : (if Part.cfg ∈ ps then {} else b.cfg) = (if Part.cfg ∈ ps then {} else a.cfg) := by
    split
    · rfl
    · rename_i hn; exact (h .cfg hn).symm
  have h_pci : (if Part.pci ∈ ps then {} else b.pci) = (if Part.pci ∈ ps then {} else a.pci) := by
    split
    · rfl
    · rename_i hn; exact (h .pci hn).symm
  have h_ring : (if Part.ring ∈ ps then {} else b.ring) = (if Part.ring ∈ ps then {} else a.ring) := by
    split
    · rfl
    · rename_i hn; exact (h .ring hn).symm
  have h_jr : (if Part.jr ∈ ps then {} else b.jr) = (if Part.jr ∈ ps then {} else a.jr) := by
    split
    · rfl
    · rename_i hn; exact (h .jr hn).symm
  have h_fb : (if Part.fb ∈ ps then {} else b.fb) = (if Part.fb ∈ ps then {} else a.fb) := by
    split
    · rfl
    · rename_i hn; exact (h .fb hn).symm
  have h_str : (if Part.str ∈ ps then [] else b.str) = (if Part.str ∈ ps then [] else a.str) := by
    split
    · rfl
    · rename_i hn; exact (h .str hn).symm
  have h_ph : (if Part.ph ∈ ps then [] else b.ph) = (if Part.ph ∈ ps then [] else a.ph) := by
    split
    · rfl
    · rename_i hn; exact (h .ph hn).symm
  have h_lk : (if Part.lk ∈ ps then [] else b.lk) = (if Part.lk ∈ ps then [] else a.lk) := by
    split
    · rfl
    · rename_i hn; exact (h .lk hn).symm
  have h_seq : (if Part.seq ∈ ps then {} else b.seq) = (if Part.seq ∈ ps then {} else a.seq) := by
    split
    · rfl
    · rename_i hn; exact (h .seq hn).symm
  have h_chg : (if Part.chg ∈ ps then {} else b.chg) = (if Part.chg ∈ ps then {} else a.chg) := by
    split
    · rfl
    · rename_i hn; exact (h .chg hn).symm
  have h_flt : (if Part.flt ∈ ps then {} else b.flt) = (if Part.flt ∈ ps then {} else a.flt) := by
    split
    · rfl
    · rename_i hn; exact (h .flt hn).symm
  have h_int : (if Part.int ∈ ps then {} else b.int) = (if Part.int ∈ ps then {} else a.int) := by
    split
    · rfl
    · rename_i hn; exact (h .int hn).symm
  have h_tmr : (if Part.tmr ∈ ps then [] else b.tmr) = (if Part.tmr ∈ ps then [] else a.tmr) := by
    split
    · rfl
    · rename_i hn; exact (h .tmr hn).symm
  have h_wd : (if Part.wd ∈ ps then {} else b.wd) = (if Part.wd ∈ ps then {} else a.wd) := by
    split
    · rfl
    · rename_i hn; exact (h .wd hn).symm
  have h_otp : (if Part.otp ∈ ps then {} else b.otp) = (if Part.otp ∈ ps then {} else a.otp) := by
    split
    · rfl
    · rename_i hn; exact (h .otp hn).symm
  have h_rcd : (if Part.rcd ∈ ps then {} else b.rcd) = (if Part.rcd ∈ ps then {} else a.rcd) := by
    split
    · rfl
    · rename_i hn; exact (h .rcd hn).symm
  have h_cap : (if Part.cap ∈ ps then {} else b.cap) = (if Part.cap ∈ ps then {} else a.cap) := by
    split
    · rfl
    · rename_i hn; exact (h .cap hn).symm
  have h_capQueue : (if Part.capQueue ∈ ps then {} else b.capQueue) = (if Part.capQueue ∈ ps then {} else a.capQueue) := by
    split
    · rfl
    · rename_i hn; exact (h .capQueue hn).symm
  have h_mp : (if Part.mp ∈ ps then {} else b.mp) = (if Part.mp ∈ ps then {} else a.mp) := by
    split
    · rfl
    · rename_i hn; exact (h .mp hn).symm
  have h_waiting : (if Part.waiting ∈ ps then [] else b.waiting) = (if Part.waiting ∈ ps then [] else a.waiting) := by
    split
    · rfl
    · rename_i hn; exact (h .waiting hn).symm
  have h_out : (if Part.out ∈ ps then [] else b.out) = (if Part.out ∈ ps then [] else a.out) := by
    split
    · rfl
    · rename_i hn; exact (h .out hn).symm
  have h_fretOut : (if Part.fretOut ∈ ps then [] else b.fretOut) = (if Part.fretOut ∈ ps then [] else a.fretOut) := by
    split
    · rfl
    · rename_i hn; exact (h .fretOut hn).symm
  have h_bus : (if Part.bus ∈ ps then 0 else b.bus) = (if Part.bus ∈ ps then 0 else a.bus) := by
    split
    · rfl
    · rename_i hn; exact (h .bus hn).symm
  have h_busBlock : (if Part.busBlock ∈ ps then [] else b.busBlock) = (if Part.busBlock ∈ ps then [] else a.busBlock) := by
    split
    · rfl
    · rename_i hn; exact (h .busBlock hn).symm
  rw [h_clk, h_pins, h_mm, h_pwr, h_cfg, h_pci, h_ring, h_jr, h_fb, h_str, h_ph, h_lk, h_seq, h_chg, h_flt, h_int, h_tmr, h_wd, h_otp, h_rcd, h_cap, h_capQueue, h_mp, h_waiting, h_out, h_fretOut, h_bus, h_busBlock]

@[simp] theorem Laws.mask_ite (ps : List Part) (c : Prop) [Decidable c] (a b : Dev) :
    Laws.mask ps (if c then a else b) = if c then Laws.mask ps a else Laws.mask ps b := by split <;> rfl

@[simp] theorem Laws.mask_foldl {β : Type} (ps : List Part) (g : Dev → β → Dev) (h : ∀ d x, Laws.mask ps (g d x) = Laws.mask ps d)
    (l : List β) (d : Dev) : Laws.mask ps (l.foldl g d) = Laws.mask ps d := by
  induction l generalizing d with
  | nil => rfl
  | cons x xs ih => rw [List.foldl_cons, ih, h]

@[simp] theorem Laws.mask_foldN (ps : List Part) (n : Nat) (g : Dev → Nat → Dev) (h : ∀ d x, Laws.mask ps (g d x) = Laws.mask ps d) (d : Dev) :
    Laws.mask ps (foldN n g d) = Laws.mask ps d := Laws.mask_foldl ps g h _ d

@[simp] theorem Laws.mask_clk (ps : List Part) (d : Dev) (v) (h : Part.clk ∈ ps) : Laws.mask ps { d with clk := v } = Laws.mask ps d := by
  simp only [Laws.mask, if_pos h]
@[simp] theorem Laws.mask_pins (ps : List Part) (d : Dev) (v) (h : Part.pins ∈ ps) : Laws.mask ps { d with pins := v } = Laws.mask ps d := by
  simp only [Laws.mask, if_pos h]
@[simp] theorem Laws.mask_mm (ps : List Part) (d : Dev) (v) (h : Part.mm ∈ ps) : Laws.mask ps { d with mm := v } = Laws.mask ps d := by
  simp only [Laws.mask, if_pos h]
@[simp] theorem Laws.mask_pwr (ps : List Part) (d : Dev) (v) (h : Part.pwr ∈ ps) : Laws.mask ps { d with pwr := v } = Laws.mask ps d := by
  simp only [Laws.mask, if_pos h]
@[simp] theorem Laws.mask_cfg (ps : List Part) (d : Dev) (v) (h : Part.cfg ∈ ps) : Laws.mask ps { d with cfg := v } = Laws.mask ps d := by
  simp only [Laws.mask, if_pos h]
@[simp] theorem Laws.mask_pci (ps : List Part) (d : Dev) (v) (h : Part.pci ∈ ps) : Laws.mask ps { d with pci := v } = Laws.mask ps d := by
  simp only [Laws.mask, if_pos h]
@[simp] theorem Laws.mask_ring (ps : List Part) (d : Dev) (v) (h : Part.ring ∈ ps) : Laws.mask ps { d with ring := v } = Laws.mask ps d := by
  simp only [Laws.mask, if_pos h]
@[simp] theorem Laws.mask_jr (ps : List Part) (d : Dev) (v) (h : Part.jr ∈ ps) : Laws.mask ps { d with jr := v } = Laws.mask ps d := by
  simp only [Laws.mask, if_pos h]
@[simp] theorem Laws.mask_fb (ps : List Part) (d : Dev) (v) (h : Part.fb ∈ ps) : Laws.mask ps { d with fb := v } = Laws.mask ps d := by
  simp only [Laws.mask, if_pos h]
@[simp] theorem Laws.mask_str (ps : List Part) (d : Dev) (v) (h : Part.str ∈ ps) : Laws.mask ps { d with str := v } = Laws.mask ps d := by
  simp only [Laws.mask, if_pos h]
@[simp] theorem Laws.mask_ph (ps : List Part) (d : Dev) (v) (h : Part.ph ∈ ps) : Laws.mask ps { d with ph := v } = Laws.mask ps d := by
  simp only [Laws.mask, if_pos h]
@[simp] theorem Laws.mask_lk (ps : List Part) (d : Dev) (v) (h : Part.lk ∈ ps) : Laws.mask ps { d with lk := v } = Laws.mask ps d := by
  simp only [Laws.mask, if_pos h]
@[simp] theorem Laws.mask_seq (ps : List Part) (d : Dev) (v) (h : Part.seq ∈ ps) : Laws.mask ps { d with seq := v } = Laws.mask ps d := by
  simp only [Laws.mask, if_pos h]
@[simp] theorem Laws.mask_chg (ps : List Part) (d : Dev) (v) (h : Part.chg ∈ ps) : Laws.mask ps { d with chg := v } = Laws.mask ps d := by
  simp only [Laws.mask, if_pos h]
@[simp] theorem Laws.mask_flt (ps : List Part) (d : Dev) (v) (h : Part.flt ∈ ps) : Laws.mask ps { d with flt := v } = Laws.mask ps d := by
  simp only [Laws.mask, if_pos h]
@[simp] theorem Laws.mask_int (ps : List Part) (d : Dev) (v) (h : Part.int ∈ ps) : Laws.mask ps { d with int := v } = Laws.mask ps d := by
  simp only [Laws.mask, if_pos h]
@[simp] theorem Laws.mask_tmr (ps : List Part) (d : Dev) (v) (h : Part.tmr ∈ ps) : Laws.mask ps { d with tmr := v } = Laws.mask ps d := by
  simp only [Laws.mask, if_pos h]
@[simp] theorem Laws.mask_wd (ps : List Part) (d : Dev) (v) (h : Part.wd ∈ ps) : Laws.mask ps { d with wd := v } = Laws.mask ps d := by
  simp only [Laws.mask, if_pos h]
@[simp] theorem Laws.mask_otp (ps : List Part) (d : Dev) (v) (h : Part.otp ∈ ps) : Laws.mask ps { d with otp := v } = Laws.mask ps d := by
  simp only [Laws.mask, if_pos h]
@[simp] theorem Laws.mask_rcd (ps : List Part) (d : Dev) (v) (h : Part.rcd ∈ ps) : Laws.mask ps { d with rcd := v } = Laws.mask ps d := by
  simp only [Laws.mask, if_pos h]
@[simp] theorem Laws.mask_cap (ps : List Part) (d : Dev) (v) (h : Part.cap ∈ ps) : Laws.mask ps { d with cap := v } = Laws.mask ps d := by
  simp only [Laws.mask, if_pos h]
@[simp] theorem Laws.mask_capQueue (ps : List Part) (d : Dev) (v) (h : Part.capQueue ∈ ps) : Laws.mask ps { d with capQueue := v } = Laws.mask ps d := by
  simp only [Laws.mask, if_pos h]
@[simp] theorem Laws.mask_mp (ps : List Part) (d : Dev) (v) (h : Part.mp ∈ ps) : Laws.mask ps { d with mp := v } = Laws.mask ps d := by
  simp only [Laws.mask, if_pos h]
@[simp] theorem Laws.mask_waiting (ps : List Part) (d : Dev) (v) (h : Part.waiting ∈ ps) : Laws.mask ps { d with waiting := v } = Laws.mask ps d := by
  simp only [Laws.mask, if_pos h]
@[simp] theorem Laws.mask_out (ps : List Part) (d : Dev) (v) (h : Part.out ∈ ps) : Laws.mask ps { d with out := v } = Laws.mask ps d := by
  simp only [Laws.mask, if_pos h]
@[simp] theorem Laws.mask_fretOut (ps : List Part) (d : Dev) (v) (h : Part.fretOut ∈ ps) : Laws.mask ps { d with fretOut := v } = Laws.mask ps d := by
  simp only [Laws.mask, if_pos h]
@[simp] theorem Laws.mask_bus (ps : List Part) (d : Dev) (v) (h : Part.bus ∈ ps) : Laws.mask ps { d with bus := v } = Laws.mask ps d := by
  simp only [Laws.mask, if_pos h]
@[simp] theorem Laws.mask_busBlock (ps : List Part) (d : Dev) (v) (h : Part.busBlock ∈ ps) : Laws.mask ps { d with busBlock := v } = Laws.mask ps d := by
  simp only [Laws.mask, if_pos h]

end Sys2Proof.Machine
end

