-- ==== Sys2Proof/Laws/State.lean ====
section
/-!
SUPPORT. For each update of the device, the fields that it leaves as they were.
-/
set_option Elab.async false
namespace Sys2Proof.Machine

@[simp] theorem emit_clk (d : Dev) (o : Out) : (emit d o).clk = d.clk := rfl
@[simp] theorem emit_pins (d : Dev) (o : Out) : (emit d o).pins = d.pins := rfl
@[simp] theorem emit_mm (d : Dev) (o : Out) : (emit d o).mm = d.mm := rfl
@[simp] theorem emit_pwr (d : Dev) (o : Out) : (emit d o).pwr = d.pwr := rfl
@[simp] theorem emit_cfg (d : Dev) (o : Out) : (emit d o).cfg = d.cfg := rfl
@[simp] theorem emit_pci (d : Dev) (o : Out) : (emit d o).pci = d.pci := rfl
@[simp] theorem emit_ring (d : Dev) (o : Out) : (emit d o).ring = d.ring := rfl
@[simp] theorem emit_jr (d : Dev) (o : Out) : (emit d o).jr = d.jr := rfl
@[simp] theorem emit_fb (d : Dev) (o : Out) : (emit d o).fb = d.fb := rfl
@[simp] theorem emit_str (d : Dev) (o : Out) : (emit d o).str = d.str := rfl
@[simp] theorem emit_ph (d : Dev) (o : Out) : (emit d o).ph = d.ph := rfl
@[simp] theorem emit_lk (d : Dev) (o : Out) : (emit d o).lk = d.lk := rfl
@[simp] theorem emit_seq (d : Dev) (o : Out) : (emit d o).seq = d.seq := rfl
@[simp] theorem emit_chg (d : Dev) (o : Out) : (emit d o).chg = d.chg := rfl
@[simp] theorem emit_flt (d : Dev) (o : Out) : (emit d o).flt = d.flt := rfl
@[simp] theorem emit_int (d : Dev) (o : Out) : (emit d o).int = d.int := rfl
@[simp] theorem emit_tmr (d : Dev) (o : Out) : (emit d o).tmr = d.tmr := rfl
@[simp] theorem emit_wd (d : Dev) (o : Out) : (emit d o).wd = d.wd := rfl
@[simp] theorem emit_otp (d : Dev) (o : Out) : (emit d o).otp = d.otp := rfl
@[simp] theorem emit_rcd (d : Dev) (o : Out) : (emit d o).rcd = d.rcd := rfl
@[simp] theorem emit_cap (d : Dev) (o : Out) : (emit d o).cap = d.cap := rfl
@[simp] theorem emit_capQueue (d : Dev) (o : Out) : (emit d o).capQueue = d.capQueue := rfl
@[simp] theorem emit_mp (d : Dev) (o : Out) : (emit d o).mp = d.mp := rfl
@[simp] theorem emit_waiting (d : Dev) (o : Out) : (emit d o).waiting = d.waiting := rfl
@[simp] theorem emit_fretOut (d : Dev) (o : Out) : (emit d o).fretOut = d.fretOut := rfl
@[simp] theorem emit_bus (d : Dev) (o : Out) : (emit d o).bus = d.bus := rfl
@[simp] theorem emit_busBlock (d : Dev) (o : Out) : (emit d o).busBlock = d.busBlock := rfl

@[simp] theorem emitFast_clk (d : Dev) (o : Out) : (emitFast d o).clk = d.clk := rfl
@[simp] theorem emitFast_pins (d : Dev) (o : Out) : (emitFast d o).pins = d.pins := rfl
@[simp] theorem emitFast_mm (d : Dev) (o : Out) : (emitFast d o).mm = d.mm := rfl
@[simp] theorem emitFast_pwr (d : Dev) (o : Out) : (emitFast d o).pwr = d.pwr := rfl
@[simp] theorem emitFast_cfg (d : Dev) (o : Out) : (emitFast d o).cfg = d.cfg := rfl
@[simp] theorem emitFast_pci (d : Dev) (o : Out) : (emitFast d o).pci = d.pci := rfl
@[simp] theorem emitFast_ring (d : Dev) (o : Out) : (emitFast d o).ring = d.ring := rfl
@[simp] theorem emitFast_jr (d : Dev) (o : Out) : (emitFast d o).jr = d.jr := rfl
@[simp] theorem emitFast_fb (d : Dev) (o : Out) : (emitFast d o).fb = d.fb := rfl
@[simp] theorem emitFast_str (d : Dev) (o : Out) : (emitFast d o).str = d.str := rfl
@[simp] theorem emitFast_ph (d : Dev) (o : Out) : (emitFast d o).ph = d.ph := rfl
@[simp] theorem emitFast_lk (d : Dev) (o : Out) : (emitFast d o).lk = d.lk := rfl
@[simp] theorem emitFast_seq (d : Dev) (o : Out) : (emitFast d o).seq = d.seq := rfl
@[simp] theorem emitFast_chg (d : Dev) (o : Out) : (emitFast d o).chg = d.chg := rfl
@[simp] theorem emitFast_flt (d : Dev) (o : Out) : (emitFast d o).flt = d.flt := rfl
@[simp] theorem emitFast_int (d : Dev) (o : Out) : (emitFast d o).int = d.int := rfl
@[simp] theorem emitFast_tmr (d : Dev) (o : Out) : (emitFast d o).tmr = d.tmr := rfl
@[simp] theorem emitFast_wd (d : Dev) (o : Out) : (emitFast d o).wd = d.wd := rfl
@[simp] theorem emitFast_otp (d : Dev) (o : Out) : (emitFast d o).otp = d.otp := rfl
@[simp] theorem emitFast_rcd (d : Dev) (o : Out) : (emitFast d o).rcd = d.rcd := rfl
@[simp] theorem emitFast_cap (d : Dev) (o : Out) : (emitFast d o).cap = d.cap := rfl
@[simp] theorem emitFast_capQueue (d : Dev) (o : Out) : (emitFast d o).capQueue = d.capQueue := rfl
@[simp] theorem emitFast_mp (d : Dev) (o : Out) : (emitFast d o).mp = d.mp := rfl
@[simp] theorem emitFast_waiting (d : Dev) (o : Out) : (emitFast d o).waiting = d.waiting := rfl
@[simp] theorem emitFast_bus (d : Dev) (o : Out) : (emitFast d o).bus = d.bus := rfl
@[simp] theorem emitFast_busBlock (d : Dev) (o : Out) : (emitFast d o).busBlock = d.busBlock := rfl

@[simp] theorem nextFree_pins (d : Dev) : (nextFree d).pins = d.pins := rfl
@[simp] theorem nextFree_mm (d : Dev) : (nextFree d).mm = d.mm := rfl
@[simp] theorem nextFree_pwr (d : Dev) : (nextFree d).pwr = d.pwr := rfl
@[simp] theorem nextFree_cfg (d : Dev) : (nextFree d).cfg = d.cfg := rfl
@[simp] theorem nextFree_pci (d : Dev) : (nextFree d).pci = d.pci := rfl
@[simp] theorem nextFree_ring (d : Dev) : (nextFree d).ring = d.ring := rfl
@[simp] theorem nextFree_jr (d : Dev) : (nextFree d).jr = d.jr := rfl
@[simp] theorem nextFree_fb (d : Dev) : (nextFree d).fb = d.fb := rfl
@[simp] theorem nextFree_str (d : Dev) : (nextFree d).str = d.str := rfl
@[simp] theorem nextFree_ph (d : Dev) : (nextFree d).ph = d.ph := rfl
@[simp] theorem nextFree_lk (d : Dev) : (nextFree d).lk = d.lk := rfl
@[simp] theorem nextFree_seq (d : Dev) : (nextFree d).seq = d.seq := rfl
@[simp] theorem nextFree_chg (d : Dev) : (nextFree d).chg = d.chg := rfl
@[simp] theorem nextFree_flt (d : Dev) : (nextFree d).flt = d.flt := rfl
@[simp] theorem nextFree_int (d : Dev) : (nextFree d).int = d.int := rfl
@[simp] theorem nextFree_tmr (d : Dev) : (nextFree d).tmr = d.tmr := rfl
@[simp] theorem nextFree_wd (d : Dev) : (nextFree d).wd = d.wd := rfl
@[simp] theorem nextFree_otp (d : Dev) : (nextFree d).otp = d.otp := rfl
@[simp] theorem nextFree_rcd (d : Dev) : (nextFree d).rcd = d.rcd := rfl
@[simp] theorem nextFree_cap (d : Dev) : (nextFree d).cap = d.cap := rfl
@[simp] theorem nextFree_capQueue (d : Dev) : (nextFree d).capQueue = d.capQueue := rfl
@[simp] theorem nextFree_mp (d : Dev) : (nextFree d).mp = d.mp := rfl
@[simp] theorem nextFree_waiting (d : Dev) : (nextFree d).waiting = d.waiting := rfl
@[simp] theorem nextFree_out (d : Dev) : (nextFree d).out = d.out := rfl
@[simp] theorem nextFree_fretOut (d : Dev) : (nextFree d).fretOut = d.fretOut := rfl
@[simp] theorem nextFree_bus (d : Dev) : (nextFree d).bus = d.bus := rfl
@[simp] theorem nextFree_busBlock (d : Dev) : (nextFree d).busBlock = d.busBlock := rfl

@[simp] theorem statusLine_clk (d : Dev) : (statusLine d).clk = d.clk := rfl
@[simp] theorem statusLine_pins (d : Dev) : (statusLine d).pins = d.pins := rfl
@[simp] theorem statusLine_mm (d : Dev) : (statusLine d).mm = d.mm := rfl
@[simp] theorem statusLine_pwr (d : Dev) : (statusLine d).pwr = d.pwr := rfl
@[simp] theorem statusLine_cfg (d : Dev) : (statusLine d).cfg = d.cfg := rfl
@[simp] theorem statusLine_pci (d : Dev) : (statusLine d).pci = d.pci := rfl
@[simp] theorem statusLine_ring (d : Dev) : (statusLine d).ring = d.ring := rfl
@[simp] theorem statusLine_jr (d : Dev) : (statusLine d).jr = d.jr := rfl
@[simp] theorem statusLine_fb (d : Dev) : (statusLine d).fb = d.fb := rfl
@[simp] theorem statusLine_str (d : Dev) : (statusLine d).str = d.str := rfl
@[simp] theorem statusLine_ph (d : Dev) : (statusLine d).ph = d.ph := rfl
@[simp] theorem statusLine_lk (d : Dev) : (statusLine d).lk = d.lk := rfl
@[simp] theorem statusLine_seq (d : Dev) : (statusLine d).seq = d.seq := rfl
@[simp] theorem statusLine_chg (d : Dev) : (statusLine d).chg = d.chg := rfl
@[simp] theorem statusLine_flt (d : Dev) : (statusLine d).flt = d.flt := rfl
@[simp] theorem statusLine_int (d : Dev) : (statusLine d).int = d.int := rfl
@[simp] theorem statusLine_tmr (d : Dev) : (statusLine d).tmr = d.tmr := rfl
@[simp] theorem statusLine_wd (d : Dev) : (statusLine d).wd = d.wd := rfl
@[simp] theorem statusLine_otp (d : Dev) : (statusLine d).otp = d.otp := rfl
@[simp] theorem statusLine_rcd (d : Dev) : (statusLine d).rcd = d.rcd := rfl
@[simp] theorem statusLine_cap (d : Dev) : (statusLine d).cap = d.cap := rfl
@[simp] theorem statusLine_capQueue (d : Dev) : (statusLine d).capQueue = d.capQueue := rfl
@[simp] theorem statusLine_mp (d : Dev) : (statusLine d).mp = d.mp := rfl
@[simp] theorem statusLine_waiting (d : Dev) : (statusLine d).waiting = d.waiting := rfl
@[simp] theorem statusLine_fretOut (d : Dev) : (statusLine d).fretOut = d.fretOut := rfl
@[simp] theorem statusLine_bus (d : Dev) : (statusLine d).bus = d.bus := rfl
@[simp] theorem statusLine_busBlock (d : Dev) : (statusLine d).busBlock = d.busBlock := rfl

@[simp] theorem updStr_clk (d : Dev) (k : Nat) (f : StringUnit → StringUnit) : (updStr d k f).clk = d.clk := rfl
@[simp] theorem updStr_pins (d : Dev) (k : Nat) (f : StringUnit → StringUnit) : (updStr d k f).pins = d.pins := rfl
@[simp] theorem updStr_mm (d : Dev) (k : Nat) (f : StringUnit → StringUnit) : (updStr d k f).mm = d.mm := rfl
@[simp] theorem updStr_pwr (d : Dev) (k : Nat) (f : StringUnit → StringUnit) : (updStr d k f).pwr = d.pwr := rfl
@[simp] theorem updStr_cfg (d : Dev) (k : Nat) (f : StringUnit → StringUnit) : (updStr d k f).cfg = d.cfg := rfl
@[simp] theorem updStr_pci (d : Dev) (k : Nat) (f : StringUnit → StringUnit) : (updStr d k f).pci = d.pci := rfl
@[simp] theorem updStr_ring (d : Dev) (k : Nat) (f : StringUnit → StringUnit) : (updStr d k f).ring = d.ring := rfl
@[simp] theorem updStr_jr (d : Dev) (k : Nat) (f : StringUnit → StringUnit) : (updStr d k f).jr = d.jr := rfl
@[simp] theorem updStr_fb (d : Dev) (k : Nat) (f : StringUnit → StringUnit) : (updStr d k f).fb = d.fb := rfl
@[simp] theorem updStr_ph (d : Dev) (k : Nat) (f : StringUnit → StringUnit) : (updStr d k f).ph = d.ph := rfl
@[simp] theorem updStr_lk (d : Dev) (k : Nat) (f : StringUnit → StringUnit) : (updStr d k f).lk = d.lk := rfl
@[simp] theorem updStr_seq (d : Dev) (k : Nat) (f : StringUnit → StringUnit) : (updStr d k f).seq = d.seq := rfl
@[simp] theorem updStr_chg (d : Dev) (k : Nat) (f : StringUnit → StringUnit) : (updStr d k f).chg = d.chg := rfl
@[simp] theorem updStr_flt (d : Dev) (k : Nat) (f : StringUnit → StringUnit) : (updStr d k f).flt = d.flt := rfl
@[simp] theorem updStr_int (d : Dev) (k : Nat) (f : StringUnit → StringUnit) : (updStr d k f).int = d.int := rfl
@[simp] theorem updStr_tmr (d : Dev) (k : Nat) (f : StringUnit → StringUnit) : (updStr d k f).tmr = d.tmr := rfl
@[simp] theorem updStr_wd (d : Dev) (k : Nat) (f : StringUnit → StringUnit) : (updStr d k f).wd = d.wd := rfl
@[simp] theorem updStr_otp (d : Dev) (k : Nat) (f : StringUnit → StringUnit) : (updStr d k f).otp = d.otp := rfl
@[simp] theorem updStr_rcd (d : Dev) (k : Nat) (f : StringUnit → StringUnit) : (updStr d k f).rcd = d.rcd := rfl
@[simp] theorem updStr_cap (d : Dev) (k : Nat) (f : StringUnit → StringUnit) : (updStr d k f).cap = d.cap := rfl
@[simp] theorem updStr_capQueue (d : Dev) (k : Nat) (f : StringUnit → StringUnit) : (updStr d k f).capQueue = d.capQueue := rfl
@[simp] theorem updStr_mp (d : Dev) (k : Nat) (f : StringUnit → StringUnit) : (updStr d k f).mp = d.mp := rfl
@[simp] theorem updStr_waiting (d : Dev) (k : Nat) (f : StringUnit → StringUnit) : (updStr d k f).waiting = d.waiting := rfl
@[simp] theorem updStr_out (d : Dev) (k : Nat) (f : StringUnit → StringUnit) : (updStr d k f).out = d.out := rfl
@[simp] theorem updStr_fretOut (d : Dev) (k : Nat) (f : StringUnit → StringUnit) : (updStr d k f).fretOut = d.fretOut := rfl
@[simp] theorem updStr_bus (d : Dev) (k : Nat) (f : StringUnit → StringUnit) : (updStr d k f).bus = d.bus := rfl
@[simp] theorem updStr_busBlock (d : Dev) (k : Nat) (f : StringUnit → StringUnit) : (updStr d k f).busBlock = d.busBlock := rfl

@[simp] theorem updPh_clk (d : Dev) (p : Nat) (f : PhaseUnit → PhaseUnit) : (updPh d p f).clk = d.clk := rfl
@[simp] theorem updPh_pins (d : Dev) (p : Nat) (f : PhaseUnit → PhaseUnit) : (updPh d p f).pins = d.pins := rfl
@[simp] theorem updPh_mm (d : Dev) (p : Nat) (f : PhaseUnit → PhaseUnit) : (updPh d p f).mm = d.mm := rfl
@[simp] theorem updPh_pwr (d : Dev) (p : Nat) (f : PhaseUnit → PhaseUnit) : (updPh d p f).pwr = d.pwr := rfl
@[simp] theorem updPh_cfg (d : Dev) (p : Nat) (f : PhaseUnit → PhaseUnit) : (updPh d p f).cfg = d.cfg := rfl
@[simp] theorem updPh_pci (d : Dev) (p : Nat) (f : PhaseUnit → PhaseUnit) : (updPh d p f).pci = d.pci := rfl
@[simp] theorem updPh_ring (d : Dev) (p : Nat) (f : PhaseUnit → PhaseUnit) : (updPh d p f).ring = d.ring := rfl
@[simp] theorem updPh_jr (d : Dev) (p : Nat) (f : PhaseUnit → PhaseUnit) : (updPh d p f).jr = d.jr := rfl
@[simp] theorem updPh_fb (d : Dev) (p : Nat) (f : PhaseUnit → PhaseUnit) : (updPh d p f).fb = d.fb := rfl
@[simp] theorem updPh_str (d : Dev) (p : Nat) (f : PhaseUnit → PhaseUnit) : (updPh d p f).str = d.str := rfl
@[simp] theorem updPh_lk (d : Dev) (p : Nat) (f : PhaseUnit → PhaseUnit) : (updPh d p f).lk = d.lk := rfl
@[simp] theorem updPh_seq (d : Dev) (p : Nat) (f : PhaseUnit → PhaseUnit) : (updPh d p f).seq = d.seq := rfl
@[simp] theorem updPh_chg (d : Dev) (p : Nat) (f : PhaseUnit → PhaseUnit) : (updPh d p f).chg = d.chg := rfl
@[simp] theorem updPh_flt (d : Dev) (p : Nat) (f : PhaseUnit → PhaseUnit) : (updPh d p f).flt = d.flt := rfl
@[simp] theorem updPh_int (d : Dev) (p : Nat) (f : PhaseUnit → PhaseUnit) : (updPh d p f).int = d.int := rfl
@[simp] theorem updPh_tmr (d : Dev) (p : Nat) (f : PhaseUnit → PhaseUnit) : (updPh d p f).tmr = d.tmr := rfl
@[simp] theorem updPh_wd (d : Dev) (p : Nat) (f : PhaseUnit → PhaseUnit) : (updPh d p f).wd = d.wd := rfl
@[simp] theorem updPh_otp (d : Dev) (p : Nat) (f : PhaseUnit → PhaseUnit) : (updPh d p f).otp = d.otp := rfl
@[simp] theorem updPh_rcd (d : Dev) (p : Nat) (f : PhaseUnit → PhaseUnit) : (updPh d p f).rcd = d.rcd := rfl
@[simp] theorem updPh_cap (d : Dev) (p : Nat) (f : PhaseUnit → PhaseUnit) : (updPh d p f).cap = d.cap := rfl
@[simp] theorem updPh_capQueue (d : Dev) (p : Nat) (f : PhaseUnit → PhaseUnit) : (updPh d p f).capQueue = d.capQueue := rfl
@[simp] theorem updPh_mp (d : Dev) (p : Nat) (f : PhaseUnit → PhaseUnit) : (updPh d p f).mp = d.mp := rfl
@[simp] theorem updPh_waiting (d : Dev) (p : Nat) (f : PhaseUnit → PhaseUnit) : (updPh d p f).waiting = d.waiting := rfl
@[simp] theorem updPh_out (d : Dev) (p : Nat) (f : PhaseUnit → PhaseUnit) : (updPh d p f).out = d.out := rfl
@[simp] theorem updPh_fretOut (d : Dev) (p : Nat) (f : PhaseUnit → PhaseUnit) : (updPh d p f).fretOut = d.fretOut := rfl
@[simp] theorem updPh_bus (d : Dev) (p : Nat) (f : PhaseUnit → PhaseUnit) : (updPh d p f).bus = d.bus := rfl
@[simp] theorem updPh_busBlock (d : Dev) (p : Nat) (f : PhaseUnit → PhaseUnit) : (updPh d p f).busBlock = d.busBlock := rfl

@[simp] theorem updLk_clk (d : Dev) (k : Nat) (f : LinkUnit → LinkUnit) : (updLk d k f).clk = d.clk := rfl
@[simp] theorem updLk_pins (d : Dev) (k : Nat) (f : LinkUnit → LinkUnit) : (updLk d k f).pins = d.pins := rfl
@[simp] theorem updLk_mm (d : Dev) (k : Nat) (f : LinkUnit → LinkUnit) : (updLk d k f).mm = d.mm := rfl
@[simp] theorem updLk_pwr (d : Dev) (k : Nat) (f : LinkUnit → LinkUnit) : (updLk d k f).pwr = d.pwr := rfl
@[simp] theorem updLk_cfg (d : Dev) (k : Nat) (f : LinkUnit → LinkUnit) : (updLk d k f).cfg = d.cfg := rfl
@[simp] theorem updLk_pci (d : Dev) (k : Nat) (f : LinkUnit → LinkUnit) : (updLk d k f).pci = d.pci := rfl
@[simp] theorem updLk_ring (d : Dev) (k : Nat) (f : LinkUnit → LinkUnit) : (updLk d k f).ring = d.ring := rfl
@[simp] theorem updLk_jr (d : Dev) (k : Nat) (f : LinkUnit → LinkUnit) : (updLk d k f).jr = d.jr := rfl
@[simp] theorem updLk_fb (d : Dev) (k : Nat) (f : LinkUnit → LinkUnit) : (updLk d k f).fb = d.fb := rfl
@[simp] theorem updLk_str (d : Dev) (k : Nat) (f : LinkUnit → LinkUnit) : (updLk d k f).str = d.str := rfl
@[simp] theorem updLk_ph (d : Dev) (k : Nat) (f : LinkUnit → LinkUnit) : (updLk d k f).ph = d.ph := rfl
@[simp] theorem updLk_seq (d : Dev) (k : Nat) (f : LinkUnit → LinkUnit) : (updLk d k f).seq = d.seq := rfl
@[simp] theorem updLk_chg (d : Dev) (k : Nat) (f : LinkUnit → LinkUnit) : (updLk d k f).chg = d.chg := rfl
@[simp] theorem updLk_flt (d : Dev) (k : Nat) (f : LinkUnit → LinkUnit) : (updLk d k f).flt = d.flt := rfl
@[simp] theorem updLk_int (d : Dev) (k : Nat) (f : LinkUnit → LinkUnit) : (updLk d k f).int = d.int := rfl
@[simp] theorem updLk_tmr (d : Dev) (k : Nat) (f : LinkUnit → LinkUnit) : (updLk d k f).tmr = d.tmr := rfl
@[simp] theorem updLk_wd (d : Dev) (k : Nat) (f : LinkUnit → LinkUnit) : (updLk d k f).wd = d.wd := rfl
@[simp] theorem updLk_otp (d : Dev) (k : Nat) (f : LinkUnit → LinkUnit) : (updLk d k f).otp = d.otp := rfl
@[simp] theorem updLk_rcd (d : Dev) (k : Nat) (f : LinkUnit → LinkUnit) : (updLk d k f).rcd = d.rcd := rfl
@[simp] theorem updLk_cap (d : Dev) (k : Nat) (f : LinkUnit → LinkUnit) : (updLk d k f).cap = d.cap := rfl
@[simp] theorem updLk_capQueue (d : Dev) (k : Nat) (f : LinkUnit → LinkUnit) : (updLk d k f).capQueue = d.capQueue := rfl
@[simp] theorem updLk_mp (d : Dev) (k : Nat) (f : LinkUnit → LinkUnit) : (updLk d k f).mp = d.mp := rfl
@[simp] theorem updLk_waiting (d : Dev) (k : Nat) (f : LinkUnit → LinkUnit) : (updLk d k f).waiting = d.waiting := rfl
@[simp] theorem updLk_out (d : Dev) (k : Nat) (f : LinkUnit → LinkUnit) : (updLk d k f).out = d.out := rfl
@[simp] theorem updLk_fretOut (d : Dev) (k : Nat) (f : LinkUnit → LinkUnit) : (updLk d k f).fretOut = d.fretOut := rfl
@[simp] theorem updLk_bus (d : Dev) (k : Nat) (f : LinkUnit → LinkUnit) : (updLk d k f).bus = d.bus := rfl
@[simp] theorem updLk_busBlock (d : Dev) (k : Nat) (f : LinkUnit → LinkUnit) : (updLk d k f).busBlock = d.busBlock := rfl

@[simp] theorem updRail_clk (d : Dev) (r : Nat) (f : Rail → Rail) : (updRail d r f).clk = d.clk := rfl
@[simp] theorem updRail_pins (d : Dev) (r : Nat) (f : Rail → Rail) : (updRail d r f).pins = d.pins := rfl
@[simp] theorem updRail_mm (d : Dev) (r : Nat) (f : Rail → Rail) : (updRail d r f).mm = d.mm := rfl
@[simp] theorem updRail_pwr (d : Dev) (r : Nat) (f : Rail → Rail) : (updRail d r f).pwr = d.pwr := rfl
@[simp] theorem updRail_cfg (d : Dev) (r : Nat) (f : Rail → Rail) : (updRail d r f).cfg = d.cfg := rfl
@[simp] theorem updRail_pci (d : Dev) (r : Nat) (f : Rail → Rail) : (updRail d r f).pci = d.pci := rfl
@[simp] theorem updRail_ring (d : Dev) (r : Nat) (f : Rail → Rail) : (updRail d r f).ring = d.ring := rfl
@[simp] theorem updRail_jr (d : Dev) (r : Nat) (f : Rail → Rail) : (updRail d r f).jr = d.jr := rfl
@[simp] theorem updRail_fb (d : Dev) (r : Nat) (f : Rail → Rail) : (updRail d r f).fb = d.fb := rfl
@[simp] theorem updRail_str (d : Dev) (r : Nat) (f : Rail → Rail) : (updRail d r f).str = d.str := rfl
@[simp] theorem updRail_ph (d : Dev) (r : Nat) (f : Rail → Rail) : (updRail d r f).ph = d.ph := rfl
@[simp] theorem updRail_lk (d : Dev) (r : Nat) (f : Rail → Rail) : (updRail d r f).lk = d.lk := rfl
@[simp] theorem updRail_chg (d : Dev) (r : Nat) (f : Rail → Rail) : (updRail d r f).chg = d.chg := rfl
@[simp] theorem updRail_flt (d : Dev) (r : Nat) (f : Rail → Rail) : (updRail d r f).flt = d.flt := rfl
@[simp] theorem updRail_int (d : Dev) (r : Nat) (f : Rail → Rail) : (updRail d r f).int = d.int := rfl
@[simp] theorem updRail_tmr (d : Dev) (r : Nat) (f : Rail → Rail) : (updRail d r f).tmr = d.tmr := rfl
@[simp] theorem updRail_wd (d : Dev) (r : Nat) (f : Rail → Rail) : (updRail d r f).wd = d.wd := rfl
@[simp] theorem updRail_otp (d : Dev) (r : Nat) (f : Rail → Rail) : (updRail d r f).otp = d.otp := rfl
@[simp] theorem updRail_rcd (d : Dev) (r : Nat) (f : Rail → Rail) : (updRail d r f).rcd = d.rcd := rfl
@[simp] theorem updRail_cap (d : Dev) (r : Nat) (f : Rail → Rail) : (updRail d r f).cap = d.cap := rfl
@[simp] theorem updRail_capQueue (d : Dev) (r : Nat) (f : Rail → Rail) : (updRail d r f).capQueue = d.capQueue := rfl
@[simp] theorem updRail_mp (d : Dev) (r : Nat) (f : Rail → Rail) : (updRail d r f).mp = d.mp := rfl
@[simp] theorem updRail_waiting (d : Dev) (r : Nat) (f : Rail → Rail) : (updRail d r f).waiting = d.waiting := rfl
@[simp] theorem updRail_out (d : Dev) (r : Nat) (f : Rail → Rail) : (updRail d r f).out = d.out := rfl
@[simp] theorem updRail_fretOut (d : Dev) (r : Nat) (f : Rail → Rail) : (updRail d r f).fretOut = d.fretOut := rfl
@[simp] theorem updRail_bus (d : Dev) (r : Nat) (f : Rail → Rail) : (updRail d r f).bus = d.bus := rfl
@[simp] theorem updRail_busBlock (d : Dev) (r : Nat) (f : Rail → Rail) : (updRail d r f).busBlock = d.busBlock := rfl

@[simp] theorem updTmr_clk (d : Dev) (t : Nat) (f : Timer → Timer) : (updTmr d t f).clk = d.clk := rfl
@[simp] theorem updTmr_pins (d : Dev) (t : Nat) (f : Timer → Timer) : (updTmr d t f).pins = d.pins := rfl
@[simp] theorem updTmr_mm (d : Dev) (t : Nat) (f : Timer → Timer) : (updTmr d t f).mm = d.mm := rfl
@[simp] theorem updTmr_pwr (d : Dev) (t : Nat) (f : Timer → Timer) : (updTmr d t f).pwr = d.pwr := rfl
@[simp] theorem updTmr_cfg (d : Dev) (t : Nat) (f : Timer → Timer) : (updTmr d t f).cfg = d.cfg := rfl
@[simp] theorem updTmr_pci (d : Dev) (t : Nat) (f : Timer → Timer) : (updTmr d t f).pci = d.pci := rfl
@[simp] theorem updTmr_ring (d : Dev) (t : Nat) (f : Timer → Timer) : (updTmr d t f).ring = d.ring := rfl
@[simp] theorem updTmr_jr (d : Dev) (t : Nat) (f : Timer → Timer) : (updTmr d t f).jr = d.jr := rfl
@[simp] theorem updTmr_fb (d : Dev) (t : Nat) (f : Timer → Timer) : (updTmr d t f).fb = d.fb := rfl
@[simp] theorem updTmr_str (d : Dev) (t : Nat) (f : Timer → Timer) : (updTmr d t f).str = d.str := rfl
@[simp] theorem updTmr_ph (d : Dev) (t : Nat) (f : Timer → Timer) : (updTmr d t f).ph = d.ph := rfl
@[simp] theorem updTmr_lk (d : Dev) (t : Nat) (f : Timer → Timer) : (updTmr d t f).lk = d.lk := rfl
@[simp] theorem updTmr_seq (d : Dev) (t : Nat) (f : Timer → Timer) : (updTmr d t f).seq = d.seq := rfl
@[simp] theorem updTmr_chg (d : Dev) (t : Nat) (f : Timer → Timer) : (updTmr d t f).chg = d.chg := rfl
@[simp] theorem updTmr_flt (d : Dev) (t : Nat) (f : Timer → Timer) : (updTmr d t f).flt = d.flt := rfl
@[simp] theorem updTmr_int (d : Dev) (t : Nat) (f : Timer → Timer) : (updTmr d t f).int = d.int := rfl
@[simp] theorem updTmr_wd (d : Dev) (t : Nat) (f : Timer → Timer) : (updTmr d t f).wd = d.wd := rfl
@[simp] theorem updTmr_otp (d : Dev) (t : Nat) (f : Timer → Timer) : (updTmr d t f).otp = d.otp := rfl
@[simp] theorem updTmr_rcd (d : Dev) (t : Nat) (f : Timer → Timer) : (updTmr d t f).rcd = d.rcd := rfl
@[simp] theorem updTmr_cap (d : Dev) (t : Nat) (f : Timer → Timer) : (updTmr d t f).cap = d.cap := rfl
@[simp] theorem updTmr_capQueue (d : Dev) (t : Nat) (f : Timer → Timer) : (updTmr d t f).capQueue = d.capQueue := rfl
@[simp] theorem updTmr_mp (d : Dev) (t : Nat) (f : Timer → Timer) : (updTmr d t f).mp = d.mp := rfl
@[simp] theorem updTmr_waiting (d : Dev) (t : Nat) (f : Timer → Timer) : (updTmr d t f).waiting = d.waiting := rfl
@[simp] theorem updTmr_out (d : Dev) (t : Nat) (f : Timer → Timer) : (updTmr d t f).out = d.out := rfl
@[simp] theorem updTmr_fretOut (d : Dev) (t : Nat) (f : Timer → Timer) : (updTmr d t f).fretOut = d.fretOut := rfl
@[simp] theorem updTmr_bus (d : Dev) (t : Nat) (f : Timer → Timer) : (updTmr d t f).bus = d.bus := rfl
@[simp] theorem updTmr_busBlock (d : Dev) (t : Nat) (f : Timer → Timer) : (updTmr d t f).busBlock = d.busBlock := rfl

@[simp] theorem updSub_clk (d : Dev) (n : Nat) (f : SubRing → SubRing) : (updSub d n f).clk = d.clk := rfl
@[simp] theorem updSub_pins (d : Dev) (n : Nat) (f : SubRing → SubRing) : (updSub d n f).pins = d.pins := rfl
@[simp] theorem updSub_mm (d : Dev) (n : Nat) (f : SubRing → SubRing) : (updSub d n f).mm = d.mm := rfl
@[simp] theorem updSub_pwr (d : Dev) (n : Nat) (f : SubRing → SubRing) : (updSub d n f).pwr = d.pwr := rfl
@[simp] theorem updSub_cfg (d : Dev) (n : Nat) (f : SubRing → SubRing) : (updSub d n f).cfg = d.cfg := rfl
@[simp] theorem updSub_pci (d : Dev) (n : Nat) (f : SubRing → SubRing) : (updSub d n f).pci = d.pci := rfl
@[simp] theorem updSub_jr (d : Dev) (n : Nat) (f : SubRing → SubRing) : (updSub d n f).jr = d.jr := rfl
@[simp] theorem updSub_fb (d : Dev) (n : Nat) (f : SubRing → SubRing) : (updSub d n f).fb = d.fb := rfl
@[simp] theorem updSub_str (d : Dev) (n : Nat) (f : SubRing → SubRing) : (updSub d n f).str = d.str := rfl
@[simp] theorem updSub_ph (d : Dev) (n : Nat) (f : SubRing → SubRing) : (updSub d n f).ph = d.ph := rfl
@[simp] theorem updSub_lk (d : Dev) (n : Nat) (f : SubRing → SubRing) : (updSub d n f).lk = d.lk := rfl
@[simp] theorem updSub_seq (d : Dev) (n : Nat) (f : SubRing → SubRing) : (updSub d n f).seq = d.seq := rfl
@[simp] theorem updSub_chg (d : Dev) (n : Nat) (f : SubRing → SubRing) : (updSub d n f).chg = d.chg := rfl
@[simp] theorem updSub_flt (d : Dev) (n : Nat) (f : SubRing → SubRing) : (updSub d n f).flt = d.flt := rfl
@[simp] theorem updSub_int (d : Dev) (n : Nat) (f : SubRing → SubRing) : (updSub d n f).int = d.int := rfl
@[simp] theorem updSub_tmr (d : Dev) (n : Nat) (f : SubRing → SubRing) : (updSub d n f).tmr = d.tmr := rfl
@[simp] theorem updSub_wd (d : Dev) (n : Nat) (f : SubRing → SubRing) : (updSub d n f).wd = d.wd := rfl
@[simp] theorem updSub_otp (d : Dev) (n : Nat) (f : SubRing → SubRing) : (updSub d n f).otp = d.otp := rfl
@[simp] theorem updSub_rcd (d : Dev) (n : Nat) (f : SubRing → SubRing) : (updSub d n f).rcd = d.rcd := rfl
@[simp] theorem updSub_cap (d : Dev) (n : Nat) (f : SubRing → SubRing) : (updSub d n f).cap = d.cap := rfl
@[simp] theorem updSub_capQueue (d : Dev) (n : Nat) (f : SubRing → SubRing) : (updSub d n f).capQueue = d.capQueue := rfl
@[simp] theorem updSub_mp (d : Dev) (n : Nat) (f : SubRing → SubRing) : (updSub d n f).mp = d.mp := rfl
@[simp] theorem updSub_waiting (d : Dev) (n : Nat) (f : SubRing → SubRing) : (updSub d n f).waiting = d.waiting := rfl
@[simp] theorem updSub_out (d : Dev) (n : Nat) (f : SubRing → SubRing) : (updSub d n f).out = d.out := rfl
@[simp] theorem updSub_fretOut (d : Dev) (n : Nat) (f : SubRing → SubRing) : (updSub d n f).fretOut = d.fretOut := rfl
@[simp] theorem updSub_bus (d : Dev) (n : Nat) (f : SubRing → SubRing) : (updSub d n f).bus = d.bus := rfl
@[simp] theorem updSub_busBlock (d : Dev) (n : Nat) (f : SubRing → SubRing) : (updSub d n f).busBlock = d.busBlock := rfl

@[simp] theorem updCpl_clk (d : Dev) (m : Nat) (f : CplRing → CplRing) : (updCpl d m f).clk = d.clk := rfl
@[simp] theorem updCpl_pins (d : Dev) (m : Nat) (f : CplRing → CplRing) : (updCpl d m f).pins = d.pins := rfl
@[simp] theorem updCpl_mm (d : Dev) (m : Nat) (f : CplRing → CplRing) : (updCpl d m f).mm = d.mm := rfl
@[simp] theorem updCpl_pwr (d : Dev) (m : Nat) (f : CplRing → CplRing) : (updCpl d m f).pwr = d.pwr := rfl
@[simp] theorem updCpl_cfg (d : Dev) (m : Nat) (f : CplRing → CplRing) : (updCpl d m f).cfg = d.cfg := rfl
@[simp] theorem updCpl_pci (d : Dev) (m : Nat) (f : CplRing → CplRing) : (updCpl d m f).pci = d.pci := rfl
@[simp] theorem updCpl_jr (d : Dev) (m : Nat) (f : CplRing → CplRing) : (updCpl d m f).jr = d.jr := rfl
@[simp] theorem updCpl_fb (d : Dev) (m : Nat) (f : CplRing → CplRing) : (updCpl d m f).fb = d.fb := rfl
@[simp] theorem updCpl_str (d : Dev) (m : Nat) (f : CplRing → CplRing) : (updCpl d m f).str = d.str := rfl
@[simp] theorem updCpl_ph (d : Dev) (m : Nat) (f : CplRing → CplRing) : (updCpl d m f).ph = d.ph := rfl
@[simp] theorem updCpl_lk (d : Dev) (m : Nat) (f : CplRing → CplRing) : (updCpl d m f).lk = d.lk := rfl
@[simp] theorem updCpl_seq (d : Dev) (m : Nat) (f : CplRing → CplRing) : (updCpl d m f).seq = d.seq := rfl
@[simp] theorem updCpl_chg (d : Dev) (m : Nat) (f : CplRing → CplRing) : (updCpl d m f).chg = d.chg := rfl
@[simp] theorem updCpl_flt (d : Dev) (m : Nat) (f : CplRing → CplRing) : (updCpl d m f).flt = d.flt := rfl
@[simp] theorem updCpl_int (d : Dev) (m : Nat) (f : CplRing → CplRing) : (updCpl d m f).int = d.int := rfl
@[simp] theorem updCpl_tmr (d : Dev) (m : Nat) (f : CplRing → CplRing) : (updCpl d m f).tmr = d.tmr := rfl
@[simp] theorem updCpl_wd (d : Dev) (m : Nat) (f : CplRing → CplRing) : (updCpl d m f).wd = d.wd := rfl
@[simp] theorem updCpl_otp (d : Dev) (m : Nat) (f : CplRing → CplRing) : (updCpl d m f).otp = d.otp := rfl
@[simp] theorem updCpl_rcd (d : Dev) (m : Nat) (f : CplRing → CplRing) : (updCpl d m f).rcd = d.rcd := rfl
@[simp] theorem updCpl_cap (d : Dev) (m : Nat) (f : CplRing → CplRing) : (updCpl d m f).cap = d.cap := rfl
@[simp] theorem updCpl_capQueue (d : Dev) (m : Nat) (f : CplRing → CplRing) : (updCpl d m f).capQueue = d.capQueue := rfl
@[simp] theorem updCpl_mp (d : Dev) (m : Nat) (f : CplRing → CplRing) : (updCpl d m f).mp = d.mp := rfl
@[simp] theorem updCpl_waiting (d : Dev) (m : Nat) (f : CplRing → CplRing) : (updCpl d m f).waiting = d.waiting := rfl
@[simp] theorem updCpl_out (d : Dev) (m : Nat) (f : CplRing → CplRing) : (updCpl d m f).out = d.out := rfl
@[simp] theorem updCpl_fretOut (d : Dev) (m : Nat) (f : CplRing → CplRing) : (updCpl d m f).fretOut = d.fretOut := rfl
@[simp] theorem updCpl_bus (d : Dev) (m : Nat) (f : CplRing → CplRing) : (updCpl d m f).bus = d.bus := rfl
@[simp] theorem updCpl_busBlock (d : Dev) (m : Nat) (f : CplRing → CplRing) : (updCpl d m f).busBlock = d.busBlock := rfl

@[simp] theorem mapJournal_clk (d : Dev) (f : List Entry → List Entry) : (mapJournal d f).clk = d.clk := rfl
@[simp] theorem mapJournal_pins (d : Dev) (f : List Entry → List Entry) : (mapJournal d f).pins = d.pins := rfl
@[simp] theorem mapJournal_mm (d : Dev) (f : List Entry → List Entry) : (mapJournal d f).mm = d.mm := rfl
@[simp] theorem mapJournal_pwr (d : Dev) (f : List Entry → List Entry) : (mapJournal d f).pwr = d.pwr := rfl
@[simp] theorem mapJournal_cfg (d : Dev) (f : List Entry → List Entry) : (mapJournal d f).cfg = d.cfg := rfl
@[simp] theorem mapJournal_pci (d : Dev) (f : List Entry → List Entry) : (mapJournal d f).pci = d.pci := rfl
@[simp] theorem mapJournal_ring (d : Dev) (f : List Entry → List Entry) : (mapJournal d f).ring = d.ring := rfl
@[simp] theorem mapJournal_fb (d : Dev) (f : List Entry → List Entry) : (mapJournal d f).fb = d.fb := rfl
@[simp] theorem mapJournal_str (d : Dev) (f : List Entry → List Entry) : (mapJournal d f).str = d.str := rfl
@[simp] theorem mapJournal_ph (d : Dev) (f : List Entry → List Entry) : (mapJournal d f).ph = d.ph := rfl
@[simp] theorem mapJournal_lk (d : Dev) (f : List Entry → List Entry) : (mapJournal d f).lk = d.lk := rfl
@[simp] theorem mapJournal_seq (d : Dev) (f : List Entry → List Entry) : (mapJournal d f).seq = d.seq := rfl
@[simp] theorem mapJournal_chg (d : Dev) (f : List Entry → List Entry) : (mapJournal d f).chg = d.chg := rfl
@[simp] theorem mapJournal_flt (d : Dev) (f : List Entry → List Entry) : (mapJournal d f).flt = d.flt := rfl
@[simp] theorem mapJournal_int (d : Dev) (f : List Entry → List Entry) : (mapJournal d f).int = d.int := rfl
@[simp] theorem mapJournal_tmr (d : Dev) (f : List Entry → List Entry) : (mapJournal d f).tmr = d.tmr := rfl
@[simp] theorem mapJournal_wd (d : Dev) (f : List Entry → List Entry) : (mapJournal d f).wd = d.wd := rfl
@[simp] theorem mapJournal_otp (d : Dev) (f : List Entry → List Entry) : (mapJournal d f).otp = d.otp := rfl
@[simp] theorem mapJournal_rcd (d : Dev) (f : List Entry → List Entry) : (mapJournal d f).rcd = d.rcd := rfl
@[simp] theorem mapJournal_cap (d : Dev) (f : List Entry → List Entry) : (mapJournal d f).cap = d.cap := rfl
@[simp] theorem mapJournal_capQueue (d : Dev) (f : List Entry → List Entry) : (mapJournal d f).capQueue = d.capQueue := rfl
@[simp] theorem mapJournal_mp (d : Dev) (f : List Entry → List Entry) : (mapJournal d f).mp = d.mp := rfl
@[simp] theorem mapJournal_waiting (d : Dev) (f : List Entry → List Entry) : (mapJournal d f).waiting = d.waiting := rfl
@[simp] theorem mapJournal_out (d : Dev) (f : List Entry → List Entry) : (mapJournal d f).out = d.out := rfl
@[simp] theorem mapJournal_fretOut (d : Dev) (f : List Entry → List Entry) : (mapJournal d f).fretOut = d.fretOut := rfl
@[simp] theorem mapJournal_bus (d : Dev) (f : List Entry → List Entry) : (mapJournal d f).bus = d.bus := rfl
@[simp] theorem mapJournal_busBlock (d : Dev) (f : List Entry → List Entry) : (mapJournal d f).busBlock = d.busBlock := rfl

@[simp] theorem updEntry_clk (d : Dev) (e : Nat) (f : Entry → Entry) : (updEntry d e f).clk = d.clk := rfl
@[simp] theorem updEntry_pins (d : Dev) (e : Nat) (f : Entry → Entry) : (updEntry d e f).pins = d.pins := rfl
@[simp] theorem updEntry_mm (d : Dev) (e : Nat) (f : Entry → Entry) : (updEntry d e f).mm = d.mm := rfl
@[simp] theorem updEntry_pwr (d : Dev) (e : Nat) (f : Entry → Entry) : (updEntry d e f).pwr = d.pwr := rfl
@[simp] theorem updEntry_cfg (d : Dev) (e : Nat) (f : Entry → Entry) : (updEntry d e f).cfg = d.cfg := rfl
@[simp] theorem updEntry_pci (d : Dev) (e : Nat) (f : Entry → Entry) : (updEntry d e f).pci = d.pci := rfl
@[simp] theorem updEntry_ring (d : Dev) (e : Nat) (f : Entry → Entry) : (updEntry d e f).ring = d.ring := rfl
@[simp] theorem updEntry_fb (d : Dev) (e : Nat) (f : Entry → Entry) : (updEntry d e f).fb = d.fb := rfl
@[simp] theorem updEntry_str (d : Dev) (e : Nat) (f : Entry → Entry) : (updEntry d e f).str = d.str := rfl
@[simp] theorem updEntry_ph (d : Dev) (e : Nat) (f : Entry → Entry) : (updEntry d e f).ph = d.ph := rfl
@[simp] theorem updEntry_lk (d : Dev) (e : Nat) (f : Entry → Entry) : (updEntry d e f).lk = d.lk := rfl
@[simp] theorem updEntry_seq (d : Dev) (e : Nat) (f : Entry → Entry) : (updEntry d e f).seq = d.seq := rfl
@[simp] theorem updEntry_chg (d : Dev) (e : Nat) (f : Entry → Entry) : (updEntry d e f).chg = d.chg := rfl
@[simp] theorem updEntry_flt (d : Dev) (e : Nat) (f : Entry → Entry) : (updEntry d e f).flt = d.flt := rfl
@[simp] theorem updEntry_int (d : Dev) (e : Nat) (f : Entry → Entry) : (updEntry d e f).int = d.int := rfl
@[simp] theorem updEntry_tmr (d : Dev) (e : Nat) (f : Entry → Entry) : (updEntry d e f).tmr = d.tmr := rfl
@[simp] theorem updEntry_wd (d : Dev) (e : Nat) (f : Entry → Entry) : (updEntry d e f).wd = d.wd := rfl
@[simp] theorem updEntry_otp (d : Dev) (e : Nat) (f : Entry → Entry) : (updEntry d e f).otp = d.otp := rfl
@[simp] theorem updEntry_rcd (d : Dev) (e : Nat) (f : Entry → Entry) : (updEntry d e f).rcd = d.rcd := rfl
@[simp] theorem updEntry_cap (d : Dev) (e : Nat) (f : Entry → Entry) : (updEntry d e f).cap = d.cap := rfl
@[simp] theorem updEntry_capQueue (d : Dev) (e : Nat) (f : Entry → Entry) : (updEntry d e f).capQueue = d.capQueue := rfl
@[simp] theorem updEntry_mp (d : Dev) (e : Nat) (f : Entry → Entry) : (updEntry d e f).mp = d.mp := rfl
@[simp] theorem updEntry_waiting (d : Dev) (e : Nat) (f : Entry → Entry) : (updEntry d e f).waiting = d.waiting := rfl
@[simp] theorem updEntry_out (d : Dev) (e : Nat) (f : Entry → Entry) : (updEntry d e f).out = d.out := rfl
@[simp] theorem updEntry_fretOut (d : Dev) (e : Nat) (f : Entry → Entry) : (updEntry d e f).fretOut = d.fretOut := rfl
@[simp] theorem updEntry_bus (d : Dev) (e : Nat) (f : Entry → Entry) : (updEntry d e f).bus = d.bus := rfl
@[simp] theorem updEntry_busBlock (d : Dev) (e : Nat) (f : Entry → Entry) : (updEntry d e f).busBlock = d.busBlock := rfl

@[simp] theorem dropEntry_clk (d : Dev) (e : Nat) : (dropEntry d e).clk = d.clk := rfl
@[simp] theorem dropEntry_pins (d : Dev) (e : Nat) : (dropEntry d e).pins = d.pins := rfl
@[simp] theorem dropEntry_mm (d : Dev) (e : Nat) : (dropEntry d e).mm = d.mm := rfl
@[simp] theorem dropEntry_pwr (d : Dev) (e : Nat) : (dropEntry d e).pwr = d.pwr := rfl
@[simp] theorem dropEntry_cfg (d : Dev) (e : Nat) : (dropEntry d e).cfg = d.cfg := rfl
@[simp] theorem dropEntry_pci (d : Dev) (e : Nat) : (dropEntry d e).pci = d.pci := rfl
@[simp] theorem dropEntry_ring (d : Dev) (e : Nat) : (dropEntry d e).ring = d.ring := rfl
@[simp] theorem dropEntry_fb (d : Dev) (e : Nat) : (dropEntry d e).fb = d.fb := rfl
@[simp] theorem dropEntry_str (d : Dev) (e : Nat) : (dropEntry d e).str = d.str := rfl
@[simp] theorem dropEntry_ph (d : Dev) (e : Nat) : (dropEntry d e).ph = d.ph := rfl
@[simp] theorem dropEntry_lk (d : Dev) (e : Nat) : (dropEntry d e).lk = d.lk := rfl
@[simp] theorem dropEntry_seq (d : Dev) (e : Nat) : (dropEntry d e).seq = d.seq := rfl
@[simp] theorem dropEntry_chg (d : Dev) (e : Nat) : (dropEntry d e).chg = d.chg := rfl
@[simp] theorem dropEntry_flt (d : Dev) (e : Nat) : (dropEntry d e).flt = d.flt := rfl
@[simp] theorem dropEntry_int (d : Dev) (e : Nat) : (dropEntry d e).int = d.int := rfl
@[simp] theorem dropEntry_tmr (d : Dev) (e : Nat) : (dropEntry d e).tmr = d.tmr := rfl
@[simp] theorem dropEntry_wd (d : Dev) (e : Nat) : (dropEntry d e).wd = d.wd := rfl
@[simp] theorem dropEntry_otp (d : Dev) (e : Nat) : (dropEntry d e).otp = d.otp := rfl
@[simp] theorem dropEntry_rcd (d : Dev) (e : Nat) : (dropEntry d e).rcd = d.rcd := rfl
@[simp] theorem dropEntry_cap (d : Dev) (e : Nat) : (dropEntry d e).cap = d.cap := rfl
@[simp] theorem dropEntry_capQueue (d : Dev) (e : Nat) : (dropEntry d e).capQueue = d.capQueue := rfl
@[simp] theorem dropEntry_mp (d : Dev) (e : Nat) : (dropEntry d e).mp = d.mp := rfl
@[simp] theorem dropEntry_waiting (d : Dev) (e : Nat) : (dropEntry d e).waiting = d.waiting := rfl
@[simp] theorem dropEntry_out (d : Dev) (e : Nat) : (dropEntry d e).out = d.out := rfl
@[simp] theorem dropEntry_fretOut (d : Dev) (e : Nat) : (dropEntry d e).fretOut = d.fretOut := rfl
@[simp] theorem dropEntry_bus (d : Dev) (e : Nat) : (dropEntry d e).bus = d.bus := rfl
@[simp] theorem dropEntry_busBlock (d : Dev) (e : Nat) : (dropEntry d e).busBlock = d.busBlock := rfl

@[simp] theorem updTail_clk (d : Dev) (n : Nat) (f : Tail → Tail) : (updTail d n f).clk = d.clk := rfl
@[simp] theorem updTail_pins (d : Dev) (n : Nat) (f : Tail → Tail) : (updTail d n f).pins = d.pins := rfl
@[simp] theorem updTail_mm (d : Dev) (n : Nat) (f : Tail → Tail) : (updTail d n f).mm = d.mm := rfl
@[simp] theorem updTail_pwr (d : Dev) (n : Nat) (f : Tail → Tail) : (updTail d n f).pwr = d.pwr := rfl
@[simp] theorem updTail_cfg (d : Dev) (n : Nat) (f : Tail → Tail) : (updTail d n f).cfg = d.cfg := rfl
@[simp] theorem updTail_pci (d : Dev) (n : Nat) (f : Tail → Tail) : (updTail d n f).pci = d.pci := rfl
@[simp] theorem updTail_ring (d : Dev) (n : Nat) (f : Tail → Tail) : (updTail d n f).ring = d.ring := rfl
@[simp] theorem updTail_fb (d : Dev) (n : Nat) (f : Tail → Tail) : (updTail d n f).fb = d.fb := rfl
@[simp] theorem updTail_str (d : Dev) (n : Nat) (f : Tail → Tail) : (updTail d n f).str = d.str := rfl
@[simp] theorem updTail_ph (d : Dev) (n : Nat) (f : Tail → Tail) : (updTail d n f).ph = d.ph := rfl
@[simp] theorem updTail_lk (d : Dev) (n : Nat) (f : Tail → Tail) : (updTail d n f).lk = d.lk := rfl
@[simp] theorem updTail_seq (d : Dev) (n : Nat) (f : Tail → Tail) : (updTail d n f).seq = d.seq := rfl
@[simp] theorem updTail_chg (d : Dev) (n : Nat) (f : Tail → Tail) : (updTail d n f).chg = d.chg := rfl
@[simp] theorem updTail_flt (d : Dev) (n : Nat) (f : Tail → Tail) : (updTail d n f).flt = d.flt := rfl
@[simp] theorem updTail_int (d : Dev) (n : Nat) (f : Tail → Tail) : (updTail d n f).int = d.int := rfl
@[simp] theorem updTail_tmr (d : Dev) (n : Nat) (f : Tail → Tail) : (updTail d n f).tmr = d.tmr := rfl
@[simp] theorem updTail_wd (d : Dev) (n : Nat) (f : Tail → Tail) : (updTail d n f).wd = d.wd := rfl
@[simp] theorem updTail_otp (d : Dev) (n : Nat) (f : Tail → Tail) : (updTail d n f).otp = d.otp := rfl
@[simp] theorem updTail_rcd (d : Dev) (n : Nat) (f : Tail → Tail) : (updTail d n f).rcd = d.rcd := rfl
@[simp] theorem updTail_cap (d : Dev) (n : Nat) (f : Tail → Tail) : (updTail d n f).cap = d.cap := rfl
@[simp] theorem updTail_capQueue (d : Dev) (n : Nat) (f : Tail → Tail) : (updTail d n f).capQueue = d.capQueue := rfl
@[simp] theorem updTail_mp (d : Dev) (n : Nat) (f : Tail → Tail) : (updTail d n f).mp = d.mp := rfl
@[simp] theorem updTail_waiting (d : Dev) (n : Nat) (f : Tail → Tail) : (updTail d n f).waiting = d.waiting := rfl
@[simp] theorem updTail_out (d : Dev) (n : Nat) (f : Tail → Tail) : (updTail d n f).out = d.out := rfl
@[simp] theorem updTail_fretOut (d : Dev) (n : Nat) (f : Tail → Tail) : (updTail d n f).fretOut = d.fretOut := rfl
@[simp] theorem updTail_bus (d : Dev) (n : Nat) (f : Tail → Tail) : (updTail d n f).bus = d.bus := rfl
@[simp] theorem updTail_busBlock (d : Dev) (n : Nat) (f : Tail → Tail) : (updTail d n f).busBlock = d.busBlock := rfl

@[simp] theorem setForce_pci (d : Dev) (off : Nat) (v : Word) : (setForce d off v).pci = d.pci := rfl
@[simp] theorem setForce_clk (d : Dev) (off : Nat) (v : Word) : (setForce d off v).clk = d.clk := rfl
@[simp] theorem setForce_pins (d : Dev) (off : Nat) (v : Word) : (setForce d off v).pins = d.pins := rfl
@[simp] theorem setForce_mm (d : Dev) (off : Nat) (v : Word) : (setForce d off v).mm = d.mm := rfl
@[simp] theorem setForce_pwr (d : Dev) (off : Nat) (v : Word) : (setForce d off v).pwr = d.pwr := rfl
@[simp] theorem setForce_ring (d : Dev) (off : Nat) (v : Word) : (setForce d off v).ring = d.ring := rfl
@[simp] theorem setForce_jr (d : Dev) (off : Nat) (v : Word) : (setForce d off v).jr = d.jr := rfl
@[simp] theorem setForce_fb (d : Dev) (off : Nat) (v : Word) : (setForce d off v).fb = d.fb := rfl
@[simp] theorem setForce_str (d : Dev) (off : Nat) (v : Word) : (setForce d off v).str = d.str := rfl
@[simp] theorem setForce_ph (d : Dev) (off : Nat) (v : Word) : (setForce d off v).ph = d.ph := rfl
@[simp] theorem setForce_lk (d : Dev) (off : Nat) (v : Word) : (setForce d off v).lk = d.lk := rfl
@[simp] theorem setForce_seq (d : Dev) (off : Nat) (v : Word) : (setForce d off v).seq = d.seq := rfl
@[simp] theorem setForce_chg (d : Dev) (off : Nat) (v : Word) : (setForce d off v).chg = d.chg := rfl
@[simp] theorem setForce_flt (d : Dev) (off : Nat) (v : Word) : (setForce d off v).flt = d.flt := rfl
@[simp] theorem setForce_int (d : Dev) (off : Nat) (v : Word) : (setForce d off v).int = d.int := rfl
@[simp] theorem setForce_tmr (d : Dev) (off : Nat) (v : Word) : (setForce d off v).tmr = d.tmr := rfl
@[simp] theorem setForce_wd (d : Dev) (off : Nat) (v : Word) : (setForce d off v).wd = d.wd := rfl
@[simp] theorem setForce_otp (d : Dev) (off : Nat) (v : Word) : (setForce d off v).otp = d.otp := rfl
@[simp] theorem setForce_rcd (d : Dev) (off : Nat) (v : Word) : (setForce d off v).rcd = d.rcd := rfl
@[simp] theorem setForce_cap (d : Dev) (off : Nat) (v : Word) : (setForce d off v).cap = d.cap := rfl
@[simp] theorem setForce_capQueue (d : Dev) (off : Nat) (v : Word) : (setForce d off v).capQueue = d.capQueue := rfl
@[simp] theorem setForce_mp (d : Dev) (off : Nat) (v : Word) : (setForce d off v).mp = d.mp := rfl
@[simp] theorem setForce_waiting (d : Dev) (off : Nat) (v : Word) : (setForce d off v).waiting = d.waiting := rfl
@[simp] theorem setForce_out (d : Dev) (off : Nat) (v : Word) : (setForce d off v).out = d.out := rfl
@[simp] theorem setForce_fretOut (d : Dev) (off : Nat) (v : Word) : (setForce d off v).fretOut = d.fretOut := rfl
@[simp] theorem setForce_bus (d : Dev) (off : Nat) (v : Word) : (setForce d off v).bus = d.bus := rfl
@[simp] theorem setForce_busBlock (d : Dev) (off : Nat) (v : Word) : (setForce d off v).busBlock = d.busBlock := rfl

@[simp] theorem setStaged_pci (d : Dev) (off : Nat) (v : Word) : (setStaged d off v).pci = d.pci := rfl
@[simp] theorem setStaged_clk (d : Dev) (off : Nat) (v : Word) : (setStaged d off v).clk = d.clk := rfl
@[simp] theorem setStaged_pins (d : Dev) (off : Nat) (v : Word) : (setStaged d off v).pins = d.pins := rfl
@[simp] theorem setStaged_mm (d : Dev) (off : Nat) (v : Word) : (setStaged d off v).mm = d.mm := rfl
@[simp] theorem setStaged_pwr (d : Dev) (off : Nat) (v : Word) : (setStaged d off v).pwr = d.pwr := rfl
@[simp] theorem setStaged_ring (d : Dev) (off : Nat) (v : Word) : (setStaged d off v).ring = d.ring := rfl
@[simp] theorem setStaged_jr (d : Dev) (off : Nat) (v : Word) : (setStaged d off v).jr = d.jr := rfl
@[simp] theorem setStaged_fb (d : Dev) (off : Nat) (v : Word) : (setStaged d off v).fb = d.fb := rfl
@[simp] theorem setStaged_str (d : Dev) (off : Nat) (v : Word) : (setStaged d off v).str = d.str := rfl
@[simp] theorem setStaged_ph (d : Dev) (off : Nat) (v : Word) : (setStaged d off v).ph = d.ph := rfl
@[simp] theorem setStaged_lk (d : Dev) (off : Nat) (v : Word) : (setStaged d off v).lk = d.lk := rfl
@[simp] theorem setStaged_seq (d : Dev) (off : Nat) (v : Word) : (setStaged d off v).seq = d.seq := rfl
@[simp] theorem setStaged_chg (d : Dev) (off : Nat) (v : Word) : (setStaged d off v).chg = d.chg := rfl
@[simp] theorem setStaged_flt (d : Dev) (off : Nat) (v : Word) : (setStaged d off v).flt = d.flt := rfl
@[simp] theorem setStaged_int (d : Dev) (off : Nat) (v : Word) : (setStaged d off v).int = d.int := rfl
@[simp] theorem setStaged_tmr (d : Dev) (off : Nat) (v : Word) : (setStaged d off v).tmr = d.tmr := rfl
@[simp] theorem setStaged_wd (d : Dev) (off : Nat) (v : Word) : (setStaged d off v).wd = d.wd := rfl
@[simp] theorem setStaged_otp (d : Dev) (off : Nat) (v : Word) : (setStaged d off v).otp = d.otp := rfl
@[simp] theorem setStaged_rcd (d : Dev) (off : Nat) (v : Word) : (setStaged d off v).rcd = d.rcd := rfl
@[simp] theorem setStaged_cap (d : Dev) (off : Nat) (v : Word) : (setStaged d off v).cap = d.cap := rfl
@[simp] theorem setStaged_capQueue (d : Dev) (off : Nat) (v : Word) : (setStaged d off v).capQueue = d.capQueue := rfl
@[simp] theorem setStaged_mp (d : Dev) (off : Nat) (v : Word) : (setStaged d off v).mp = d.mp := rfl
@[simp] theorem setStaged_waiting (d : Dev) (off : Nat) (v : Word) : (setStaged d off v).waiting = d.waiting := rfl
@[simp] theorem setStaged_out (d : Dev) (off : Nat) (v : Word) : (setStaged d off v).out = d.out := rfl
@[simp] theorem setStaged_fretOut (d : Dev) (off : Nat) (v : Word) : (setStaged d off v).fretOut = d.fretOut := rfl
@[simp] theorem setStaged_bus (d : Dev) (off : Nat) (v : Word) : (setStaged d off v).bus = d.bus := rfl
@[simp] theorem setStaged_busBlock (d : Dev) (off : Nat) (v : Word) : (setStaged d off v).busBlock = d.busBlock := rfl

@[simp] theorem setRw_pci (d : Dev) (off : Nat) (v : Word) : (setRw d off v).pci = d.pci := rfl
@[simp] theorem setRw_clk (d : Dev) (off : Nat) (v : Word) : (setRw d off v).clk = d.clk := rfl
@[simp] theorem setRw_pins (d : Dev) (off : Nat) (v : Word) : (setRw d off v).pins = d.pins := rfl
@[simp] theorem setRw_mm (d : Dev) (off : Nat) (v : Word) : (setRw d off v).mm = d.mm := rfl
@[simp] theorem setRw_pwr (d : Dev) (off : Nat) (v : Word) : (setRw d off v).pwr = d.pwr := rfl
@[simp] theorem setRw_ring (d : Dev) (off : Nat) (v : Word) : (setRw d off v).ring = d.ring := rfl
@[simp] theorem setRw_jr (d : Dev) (off : Nat) (v : Word) : (setRw d off v).jr = d.jr := rfl
@[simp] theorem setRw_fb (d : Dev) (off : Nat) (v : Word) : (setRw d off v).fb = d.fb := rfl
@[simp] theorem setRw_str (d : Dev) (off : Nat) (v : Word) : (setRw d off v).str = d.str := rfl
@[simp] theorem setRw_ph (d : Dev) (off : Nat) (v : Word) : (setRw d off v).ph = d.ph := rfl
@[simp] theorem setRw_lk (d : Dev) (off : Nat) (v : Word) : (setRw d off v).lk = d.lk := rfl
@[simp] theorem setRw_seq (d : Dev) (off : Nat) (v : Word) : (setRw d off v).seq = d.seq := rfl
@[simp] theorem setRw_chg (d : Dev) (off : Nat) (v : Word) : (setRw d off v).chg = d.chg := rfl
@[simp] theorem setRw_flt (d : Dev) (off : Nat) (v : Word) : (setRw d off v).flt = d.flt := rfl
@[simp] theorem setRw_int (d : Dev) (off : Nat) (v : Word) : (setRw d off v).int = d.int := rfl
@[simp] theorem setRw_tmr (d : Dev) (off : Nat) (v : Word) : (setRw d off v).tmr = d.tmr := rfl
@[simp] theorem setRw_wd (d : Dev) (off : Nat) (v : Word) : (setRw d off v).wd = d.wd := rfl
@[simp] theorem setRw_otp (d : Dev) (off : Nat) (v : Word) : (setRw d off v).otp = d.otp := rfl
@[simp] theorem setRw_rcd (d : Dev) (off : Nat) (v : Word) : (setRw d off v).rcd = d.rcd := rfl
@[simp] theorem setRw_cap (d : Dev) (off : Nat) (v : Word) : (setRw d off v).cap = d.cap := rfl
@[simp] theorem setRw_capQueue (d : Dev) (off : Nat) (v : Word) : (setRw d off v).capQueue = d.capQueue := rfl
@[simp] theorem setRw_mp (d : Dev) (off : Nat) (v : Word) : (setRw d off v).mp = d.mp := rfl
@[simp] theorem setRw_waiting (d : Dev) (off : Nat) (v : Word) : (setRw d off v).waiting = d.waiting := rfl
@[simp] theorem setRw_out (d : Dev) (off : Nat) (v : Word) : (setRw d off v).out = d.out := rfl
@[simp] theorem setRw_fretOut (d : Dev) (off : Nat) (v : Word) : (setRw d off v).fretOut = d.fretOut := rfl
@[simp] theorem setRw_bus (d : Dev) (off : Nat) (v : Word) : (setRw d off v).bus = d.bus := rfl
@[simp] theorem setRw_busBlock (d : Dev) (off : Nat) (v : Word) : (setRw d off v).busBlock = d.busBlock := rfl

@[simp] theorem updSrc_clk (d : Dev) (code : Nat) (f : Source → Source) : (updSrc d code f).clk = d.clk := rfl
@[simp] theorem updSrc_pins (d : Dev) (code : Nat) (f : Source → Source) : (updSrc d code f).pins = d.pins := rfl
@[simp] theorem updSrc_mm (d : Dev) (code : Nat) (f : Source → Source) : (updSrc d code f).mm = d.mm := rfl
@[simp] theorem updSrc_pwr (d : Dev) (code : Nat) (f : Source → Source) : (updSrc d code f).pwr = d.pwr := rfl
@[simp] theorem updSrc_cfg (d : Dev) (code : Nat) (f : Source → Source) : (updSrc d code f).cfg = d.cfg := rfl
@[simp] theorem updSrc_pci (d : Dev) (code : Nat) (f : Source → Source) : (updSrc d code f).pci = d.pci := rfl
@[simp] theorem updSrc_ring (d : Dev) (code : Nat) (f : Source → Source) : (updSrc d code f).ring = d.ring := rfl
@[simp] theorem updSrc_jr (d : Dev) (code : Nat) (f : Source → Source) : (updSrc d code f).jr = d.jr := rfl
@[simp] theorem updSrc_fb (d : Dev) (code : Nat) (f : Source → Source) : (updSrc d code f).fb = d.fb := rfl
@[simp] theorem updSrc_str (d : Dev) (code : Nat) (f : Source → Source) : (updSrc d code f).str = d.str := rfl
@[simp] theorem updSrc_ph (d : Dev) (code : Nat) (f : Source → Source) : (updSrc d code f).ph = d.ph := rfl
@[simp] theorem updSrc_lk (d : Dev) (code : Nat) (f : Source → Source) : (updSrc d code f).lk = d.lk := rfl
@[simp] theorem updSrc_seq (d : Dev) (code : Nat) (f : Source → Source) : (updSrc d code f).seq = d.seq := rfl
@[simp] theorem updSrc_chg (d : Dev) (code : Nat) (f : Source → Source) : (updSrc d code f).chg = d.chg := rfl
@[simp] theorem updSrc_int (d : Dev) (code : Nat) (f : Source → Source) : (updSrc d code f).int = d.int := rfl
@[simp] theorem updSrc_tmr (d : Dev) (code : Nat) (f : Source → Source) : (updSrc d code f).tmr = d.tmr := rfl
@[simp] theorem updSrc_wd (d : Dev) (code : Nat) (f : Source → Source) : (updSrc d code f).wd = d.wd := rfl
@[simp] theorem updSrc_otp (d : Dev) (code : Nat) (f : Source → Source) : (updSrc d code f).otp = d.otp := rfl
@[simp] theorem updSrc_rcd (d : Dev) (code : Nat) (f : Source → Source) : (updSrc d code f).rcd = d.rcd := rfl
@[simp] theorem updSrc_cap (d : Dev) (code : Nat) (f : Source → Source) : (updSrc d code f).cap = d.cap := rfl
@[simp] theorem updSrc_capQueue (d : Dev) (code : Nat) (f : Source → Source) : (updSrc d code f).capQueue = d.capQueue := rfl
@[simp] theorem updSrc_mp (d : Dev) (code : Nat) (f : Source → Source) : (updSrc d code f).mp = d.mp := rfl
@[simp] theorem updSrc_waiting (d : Dev) (code : Nat) (f : Source → Source) : (updSrc d code f).waiting = d.waiting := rfl
@[simp] theorem updSrc_out (d : Dev) (code : Nat) (f : Source → Source) : (updSrc d code f).out = d.out := rfl
@[simp] theorem updSrc_fretOut (d : Dev) (code : Nat) (f : Source → Source) : (updSrc d code f).fretOut = d.fretOut := rfl
@[simp] theorem updSrc_bus (d : Dev) (code : Nat) (f : Source → Source) : (updSrc d code f).bus = d.bus := rfl
@[simp] theorem updSrc_busBlock (d : Dev) (code : Nat) (f : Source → Source) : (updSrc d code f).busBlock = d.busBlock := rfl

@[simp] theorem detect_clk (d : Dev) (code p0 p1 p2 : Nat) : (detect d code p0 p1 p2).clk = d.clk := rfl
@[simp] theorem detect_pins (d : Dev) (code p0 p1 p2 : Nat) : (detect d code p0 p1 p2).pins = d.pins := rfl
@[simp] theorem detect_mm (d : Dev) (code p0 p1 p2 : Nat) : (detect d code p0 p1 p2).mm = d.mm := rfl
@[simp] theorem detect_pwr (d : Dev) (code p0 p1 p2 : Nat) : (detect d code p0 p1 p2).pwr = d.pwr := rfl
@[simp] theorem detect_cfg (d : Dev) (code p0 p1 p2 : Nat) : (detect d code p0 p1 p2).cfg = d.cfg := rfl
@[simp] theorem detect_pci (d : Dev) (code p0 p1 p2 : Nat) : (detect d code p0 p1 p2).pci = d.pci := rfl
@[simp] theorem detect_ring (d : Dev) (code p0 p1 p2 : Nat) : (detect d code p0 p1 p2).ring = d.ring := rfl
@[simp] theorem detect_jr (d : Dev) (code p0 p1 p2 : Nat) : (detect d code p0 p1 p2).jr = d.jr := rfl
@[simp] theorem detect_fb (d : Dev) (code p0 p1 p2 : Nat) : (detect d code p0 p1 p2).fb = d.fb := rfl
@[simp] theorem detect_str (d : Dev) (code p0 p1 p2 : Nat) : (detect d code p0 p1 p2).str = d.str := rfl
@[simp] theorem detect_ph (d : Dev) (code p0 p1 p2 : Nat) : (detect d code p0 p1 p2).ph = d.ph := rfl
@[simp] theorem detect_lk (d : Dev) (code p0 p1 p2 : Nat) : (detect d code p0 p1 p2).lk = d.lk := rfl
@[simp] theorem detect_seq (d : Dev) (code p0 p1 p2 : Nat) : (detect d code p0 p1 p2).seq = d.seq := rfl
@[simp] theorem detect_chg (d : Dev) (code p0 p1 p2 : Nat) : (detect d code p0 p1 p2).chg = d.chg := rfl
@[simp] theorem detect_int (d : Dev) (code p0 p1 p2 : Nat) : (detect d code p0 p1 p2).int = d.int := rfl
@[simp] theorem detect_tmr (d : Dev) (code p0 p1 p2 : Nat) : (detect d code p0 p1 p2).tmr = d.tmr := rfl
@[simp] theorem detect_wd (d : Dev) (code p0 p1 p2 : Nat) : (detect d code p0 p1 p2).wd = d.wd := rfl
@[simp] theorem detect_otp (d : Dev) (code p0 p1 p2 : Nat) : (detect d code p0 p1 p2).otp = d.otp := rfl
@[simp] theorem detect_rcd (d : Dev) (code p0 p1 p2 : Nat) : (detect d code p0 p1 p2).rcd = d.rcd := rfl
@[simp] theorem detect_cap (d : Dev) (code p0 p1 p2 : Nat) : (detect d code p0 p1 p2).cap = d.cap := rfl
@[simp] theorem detect_capQueue (d : Dev) (code p0 p1 p2 : Nat) : (detect d code p0 p1 p2).capQueue = d.capQueue := rfl
@[simp] theorem detect_mp (d : Dev) (code p0 p1 p2 : Nat) : (detect d code p0 p1 p2).mp = d.mp := rfl
@[simp] theorem detect_waiting (d : Dev) (code p0 p1 p2 : Nat) : (detect d code p0 p1 p2).waiting = d.waiting := rfl
@[simp] theorem detect_out (d : Dev) (code p0 p1 p2 : Nat) : (detect d code p0 p1 p2).out = d.out := rfl
@[simp] theorem detect_fretOut (d : Dev) (code p0 p1 p2 : Nat) : (detect d code p0 p1 p2).fretOut = d.fretOut := rfl
@[simp] theorem detect_bus (d : Dev) (code p0 p1 p2 : Nat) : (detect d code p0 p1 p2).bus = d.bus := rfl
@[simp] theorem detect_busBlock (d : Dev) (code p0 p1 p2 : Nat) : (detect d code p0 p1 p2).busBlock = d.busBlock := rfl

@[simp] theorem lateInput_clk (d : Dev) (path inst : Nat) : (lateInput d path inst).clk = d.clk := rfl
@[simp] theorem lateInput_pins (d : Dev) (path inst : Nat) : (lateInput d path inst).pins = d.pins := rfl
@[simp] theorem lateInput_mm (d : Dev) (path inst : Nat) : (lateInput d path inst).mm = d.mm := rfl
@[simp] theorem lateInput_cfg (d : Dev) (path inst : Nat) : (lateInput d path inst).cfg = d.cfg := rfl
@[simp] theorem lateInput_pci (d : Dev) (path inst : Nat) : (lateInput d path inst).pci = d.pci := rfl
@[simp] theorem lateInput_ring (d : Dev) (path inst : Nat) : (lateInput d path inst).ring = d.ring := rfl
@[simp] theorem lateInput_jr (d : Dev) (path inst : Nat) : (lateInput d path inst).jr = d.jr := rfl
@[simp] theorem lateInput_fb (d : Dev) (path inst : Nat) : (lateInput d path inst).fb = d.fb := rfl
@[simp] theorem lateInput_str (d : Dev) (path inst : Nat) : (lateInput d path inst).str = d.str := rfl
@[simp] theorem lateInput_ph (d : Dev) (path inst : Nat) : (lateInput d path inst).ph = d.ph := rfl
@[simp] theorem lateInput_lk (d : Dev) (path inst : Nat) : (lateInput d path inst).lk = d.lk := rfl
@[simp] theorem lateInput_seq (d : Dev) (path inst : Nat) : (lateInput d path inst).seq = d.seq := rfl
@[simp] theorem lateInput_chg (d : Dev) (path inst : Nat) : (lateInput d path inst).chg = d.chg := rfl
@[simp] theorem lateInput_int (d : Dev) (path inst : Nat) : (lateInput d path inst).int = d.int := rfl
@[simp] theorem lateInput_tmr (d : Dev) (path inst : Nat) : (lateInput d path inst).tmr = d.tmr := rfl
@[simp] theorem lateInput_wd (d : Dev) (path inst : Nat) : (lateInput d path inst).wd = d.wd := rfl
@[simp] theorem lateInput_otp (d : Dev) (path inst : Nat) : (lateInput d path inst).otp = d.otp := rfl
@[simp] theorem lateInput_rcd (d : Dev) (path inst : Nat) : (lateInput d path inst).rcd = d.rcd := rfl
@[simp] theorem lateInput_cap (d : Dev) (path inst : Nat) : (lateInput d path inst).cap = d.cap := rfl
@[simp] theorem lateInput_capQueue (d : Dev) (path inst : Nat) : (lateInput d path inst).capQueue = d.capQueue := rfl
@[simp] theorem lateInput_mp (d : Dev) (path inst : Nat) : (lateInput d path inst).mp = d.mp := rfl
@[simp] theorem lateInput_waiting (d : Dev) (path inst : Nat) : (lateInput d path inst).waiting = d.waiting := rfl
@[simp] theorem lateInput_out (d : Dev) (path inst : Nat) : (lateInput d path inst).out = d.out := rfl
@[simp] theorem lateInput_fretOut (d : Dev) (path inst : Nat) : (lateInput d path inst).fretOut = d.fretOut := rfl
@[simp] theorem lateInput_bus (d : Dev) (path inst : Nat) : (lateInput d path inst).bus = d.bus := rfl
@[simp] theorem lateInput_busBlock (d : Dev) (path inst : Nat) : (lateInput d path inst).busBlock = d.busBlock := rfl

@[simp] theorem setRun_clk (d : Dev) (r : Run) : (setRun d r).clk = d.clk := rfl
@[simp] theorem setRun_pins (d : Dev) (r : Run) : (setRun d r).pins = d.pins := rfl
@[simp] theorem setRun_mm (d : Dev) (r : Run) : (setRun d r).mm = d.mm := rfl
@[simp] theorem setRun_pwr (d : Dev) (r : Run) : (setRun d r).pwr = d.pwr := rfl
@[simp] theorem setRun_cfg (d : Dev) (r : Run) : (setRun d r).cfg = d.cfg := rfl
@[simp] theorem setRun_pci (d : Dev) (r : Run) : (setRun d r).pci = d.pci := rfl
@[simp] theorem setRun_ring (d : Dev) (r : Run) : (setRun d r).ring = d.ring := rfl
@[simp] theorem setRun_jr (d : Dev) (r : Run) : (setRun d r).jr = d.jr := rfl
@[simp] theorem setRun_fb (d : Dev) (r : Run) : (setRun d r).fb = d.fb := rfl
@[simp] theorem setRun_str (d : Dev) (r : Run) : (setRun d r).str = d.str := rfl
@[simp] theorem setRun_ph (d : Dev) (r : Run) : (setRun d r).ph = d.ph := rfl
@[simp] theorem setRun_lk (d : Dev) (r : Run) : (setRun d r).lk = d.lk := rfl
@[simp] theorem setRun_chg (d : Dev) (r : Run) : (setRun d r).chg = d.chg := rfl
@[simp] theorem setRun_flt (d : Dev) (r : Run) : (setRun d r).flt = d.flt := rfl
@[simp] theorem setRun_int (d : Dev) (r : Run) : (setRun d r).int = d.int := rfl
@[simp] theorem setRun_tmr (d : Dev) (r : Run) : (setRun d r).tmr = d.tmr := rfl
@[simp] theorem setRun_wd (d : Dev) (r : Run) : (setRun d r).wd = d.wd := rfl
@[simp] theorem setRun_otp (d : Dev) (r : Run) : (setRun d r).otp = d.otp := rfl
@[simp] theorem setRun_rcd (d : Dev) (r : Run) : (setRun d r).rcd = d.rcd := rfl
@[simp] theorem setRun_cap (d : Dev) (r : Run) : (setRun d r).cap = d.cap := rfl
@[simp] theorem setRun_capQueue (d : Dev) (r : Run) : (setRun d r).capQueue = d.capQueue := rfl
@[simp] theorem setRun_mp (d : Dev) (r : Run) : (setRun d r).mp = d.mp := rfl
@[simp] theorem setRun_waiting (d : Dev) (r : Run) : (setRun d r).waiting = d.waiting := rfl
@[simp] theorem setRun_out (d : Dev) (r : Run) : (setRun d r).out = d.out := rfl
@[simp] theorem setRun_fretOut (d : Dev) (r : Run) : (setRun d r).fretOut = d.fretOut := rfl
@[simp] theorem setRun_bus (d : Dev) (r : Run) : (setRun d r).bus = d.bus := rfl
@[simp] theorem setRun_busBlock (d : Dev) (r : Run) : (setRun d r).busBlock = d.busBlock := rfl

@[simp] theorem clearRun_clk (d : Dev) : (clearRun d).clk = d.clk := rfl
@[simp] theorem clearRun_pins (d : Dev) : (clearRun d).pins = d.pins := rfl
@[simp] theorem clearRun_mm (d : Dev) : (clearRun d).mm = d.mm := rfl
@[simp] theorem clearRun_pwr (d : Dev) : (clearRun d).pwr = d.pwr := rfl
@[simp] theorem clearRun_cfg (d : Dev) : (clearRun d).cfg = d.cfg := rfl
@[simp] theorem clearRun_pci (d : Dev) : (clearRun d).pci = d.pci := rfl
@[simp] theorem clearRun_ring (d : Dev) : (clearRun d).ring = d.ring := rfl
@[simp] theorem clearRun_jr (d : Dev) : (clearRun d).jr = d.jr := rfl
@[simp] theorem clearRun_fb (d : Dev) : (clearRun d).fb = d.fb := rfl
@[simp] theorem clearRun_str (d : Dev) : (clearRun d).str = d.str := rfl
@[simp] theorem clearRun_ph (d : Dev) : (clearRun d).ph = d.ph := rfl
@[simp] theorem clearRun_lk (d : Dev) : (clearRun d).lk = d.lk := rfl
@[simp] theorem clearRun_chg (d : Dev) : (clearRun d).chg = d.chg := rfl
@[simp] theorem clearRun_flt (d : Dev) : (clearRun d).flt = d.flt := rfl
@[simp] theorem clearRun_int (d : Dev) : (clearRun d).int = d.int := rfl
@[simp] theorem clearRun_tmr (d : Dev) : (clearRun d).tmr = d.tmr := rfl
@[simp] theorem clearRun_wd (d : Dev) : (clearRun d).wd = d.wd := rfl
@[simp] theorem clearRun_otp (d : Dev) : (clearRun d).otp = d.otp := rfl
@[simp] theorem clearRun_rcd (d : Dev) : (clearRun d).rcd = d.rcd := rfl
@[simp] theorem clearRun_cap (d : Dev) : (clearRun d).cap = d.cap := rfl
@[simp] theorem clearRun_capQueue (d : Dev) : (clearRun d).capQueue = d.capQueue := rfl
@[simp] theorem clearRun_mp (d : Dev) : (clearRun d).mp = d.mp := rfl
@[simp] theorem clearRun_waiting (d : Dev) : (clearRun d).waiting = d.waiting := rfl
@[simp] theorem clearRun_out (d : Dev) : (clearRun d).out = d.out := rfl
@[simp] theorem clearRun_fretOut (d : Dev) : (clearRun d).fretOut = d.fretOut := rfl
@[simp] theorem clearRun_bus (d : Dev) : (clearRun d).bus = d.bus := rfl
@[simp] theorem clearRun_busBlock (d : Dev) : (clearRun d).busBlock = d.busBlock := rfl

@[simp] theorem answer_clk (d : Dev) (v : Nat) : (answer d v).clk = d.clk := rfl
@[simp] theorem answer_pins (d : Dev) (v : Nat) : (answer d v).pins = d.pins := rfl
@[simp] theorem answer_mm (d : Dev) (v : Nat) : (answer d v).mm = d.mm := rfl
@[simp] theorem answer_pwr (d : Dev) (v : Nat) : (answer d v).pwr = d.pwr := rfl
@[simp] theorem answer_cfg (d : Dev) (v : Nat) : (answer d v).cfg = d.cfg := rfl
@[simp] theorem answer_pci (d : Dev) (v : Nat) : (answer d v).pci = d.pci := rfl
@[simp] theorem answer_ring (d : Dev) (v : Nat) : (answer d v).ring = d.ring := rfl
@[simp] theorem answer_jr (d : Dev) (v : Nat) : (answer d v).jr = d.jr := rfl
@[simp] theorem answer_fb (d : Dev) (v : Nat) : (answer d v).fb = d.fb := rfl
@[simp] theorem answer_str (d : Dev) (v : Nat) : (answer d v).str = d.str := rfl
@[simp] theorem answer_ph (d : Dev) (v : Nat) : (answer d v).ph = d.ph := rfl
@[simp] theorem answer_lk (d : Dev) (v : Nat) : (answer d v).lk = d.lk := rfl
@[simp] theorem answer_seq (d : Dev) (v : Nat) : (answer d v).seq = d.seq := rfl
@[simp] theorem answer_chg (d : Dev) (v : Nat) : (answer d v).chg = d.chg := rfl
@[simp] theorem answer_flt (d : Dev) (v : Nat) : (answer d v).flt = d.flt := rfl
@[simp] theorem answer_int (d : Dev) (v : Nat) : (answer d v).int = d.int := rfl
@[simp] theorem answer_tmr (d : Dev) (v : Nat) : (answer d v).tmr = d.tmr := rfl
@[simp] theorem answer_wd (d : Dev) (v : Nat) : (answer d v).wd = d.wd := rfl
@[simp] theorem answer_otp (d : Dev) (v : Nat) : (answer d v).otp = d.otp := rfl
@[simp] theorem answer_rcd (d : Dev) (v : Nat) : (answer d v).rcd = d.rcd := rfl
@[simp] theorem answer_cap (d : Dev) (v : Nat) : (answer d v).cap = d.cap := rfl
@[simp] theorem answer_capQueue (d : Dev) (v : Nat) : (answer d v).capQueue = d.capQueue := rfl
@[simp] theorem answer_mp (d : Dev) (v : Nat) : (answer d v).mp = d.mp := rfl
@[simp] theorem answer_waiting (d : Dev) (v : Nat) : (answer d v).waiting = d.waiting := rfl
@[simp] theorem answer_out (d : Dev) (v : Nat) : (answer d v).out = d.out := rfl
@[simp] theorem answer_fretOut (d : Dev) (v : Nat) : (answer d v).fretOut = d.fretOut := rfl
@[simp] theorem answer_busBlock (d : Dev) (v : Nat) : (answer d v).busBlock = d.busBlock := rfl

@[simp] theorem occur_clk (d : Dev) (n : Nat) : (occur d n).clk = d.clk := by unfold occur; split <;> rfl
@[simp] theorem occur_pins (d : Dev) (n : Nat) : (occur d n).pins = d.pins := by unfold occur; split <;> rfl
@[simp] theorem occur_mm (d : Dev) (n : Nat) : (occur d n).mm = d.mm := by unfold occur; split <;> rfl
@[simp] theorem occur_pwr (d : Dev) (n : Nat) : (occur d n).pwr = d.pwr := by unfold occur; split <;> rfl
@[simp] theorem occur_cfg (d : Dev) (n : Nat) : (occur d n).cfg = d.cfg := by unfold occur; split <;> rfl
@[simp] theorem occur_pci (d : Dev) (n : Nat) : (occur d n).pci = d.pci := by unfold occur; split <;> rfl
@[simp] theorem occur_ring (d : Dev) (n : Nat) : (occur d n).ring = d.ring := by unfold occur; split <;> rfl
@[simp] theorem occur_jr (d : Dev) (n : Nat) : (occur d n).jr = d.jr := by unfold occur; split <;> rfl
@[simp] theorem occur_fb (d : Dev) (n : Nat) : (occur d n).fb = d.fb := by unfold occur; split <;> rfl
@[simp] theorem occur_str (d : Dev) (n : Nat) : (occur d n).str = d.str := by unfold occur; split <;> rfl
@[simp] theorem occur_ph (d : Dev) (n : Nat) : (occur d n).ph = d.ph := by unfold occur; split <;> rfl
@[simp] theorem occur_lk (d : Dev) (n : Nat) : (occur d n).lk = d.lk := by unfold occur; split <;> rfl
@[simp] theorem occur_seq (d : Dev) (n : Nat) : (occur d n).seq = d.seq := by unfold occur; split <;> rfl
@[simp] theorem occur_chg (d : Dev) (n : Nat) : (occur d n).chg = d.chg := by unfold occur; split <;> rfl
@[simp] theorem occur_flt (d : Dev) (n : Nat) : (occur d n).flt = d.flt := by unfold occur; split <;> rfl
@[simp] theorem occur_tmr (d : Dev) (n : Nat) : (occur d n).tmr = d.tmr := by unfold occur; split <;> rfl
@[simp] theorem occur_wd (d : Dev) (n : Nat) : (occur d n).wd = d.wd := by unfold occur; split <;> rfl
@[simp] theorem occur_otp (d : Dev) (n : Nat) : (occur d n).otp = d.otp := by unfold occur; split <;> rfl
@[simp] theorem occur_rcd (d : Dev) (n : Nat) : (occur d n).rcd = d.rcd := by unfold occur; split <;> rfl
@[simp] theorem occur_cap (d : Dev) (n : Nat) : (occur d n).cap = d.cap := by unfold occur; split <;> rfl
@[simp] theorem occur_capQueue (d : Dev) (n : Nat) : (occur d n).capQueue = d.capQueue := by unfold occur; split <;> rfl
@[simp] theorem occur_mp (d : Dev) (n : Nat) : (occur d n).mp = d.mp := by unfold occur; split <;> rfl
@[simp] theorem occur_waiting (d : Dev) (n : Nat) : (occur d n).waiting = d.waiting := by unfold occur; split <;> rfl
@[simp] theorem occur_out (d : Dev) (n : Nat) : (occur d n).out = d.out := by unfold occur; split <;> rfl
@[simp] theorem occur_fretOut (d : Dev) (n : Nat) : (occur d n).fretOut = d.fretOut := by unfold occur; split <;> rfl
@[simp] theorem occur_bus (d : Dev) (n : Nat) : (occur d n).bus = d.bus := by unfold occur; split <;> rfl
@[simp] theorem occur_busBlock (d : Dev) (n : Nat) : (occur d n).busBlock = d.busBlock := by unfold occur; split <;> rfl

@[simp] theorem setModeEvent_clk (d : Dev) (b : Nat) : (setModeEvent d b).clk = d.clk := by simp [setModeEvent]
@[simp] theorem setModeEvent_pins (d : Dev) (b : Nat) : (setModeEvent d b).pins = d.pins := by simp [setModeEvent]
@[simp] theorem setModeEvent_pwr (d : Dev) (b : Nat) : (setModeEvent d b).pwr = d.pwr := by simp [setModeEvent]
@[simp] theorem setModeEvent_cfg (d : Dev) (b : Nat) : (setModeEvent d b).cfg = d.cfg := by simp [setModeEvent]
@[simp] theorem setModeEvent_pci (d : Dev) (b : Nat) : (setModeEvent d b).pci = d.pci := by simp [setModeEvent]
@[simp] theorem setModeEvent_ring (d : Dev) (b : Nat) : (setModeEvent d b).ring = d.ring := by simp [setModeEvent]
@[simp] theorem setModeEvent_jr (d : Dev) (b : Nat) : (setModeEvent d b).jr = d.jr := by simp [setModeEvent]
@[simp] theorem setModeEvent_fb (d : Dev) (b : Nat) : (setModeEvent d b).fb = d.fb := by simp [setModeEvent]
@[simp] theorem setModeEvent_str (d : Dev) (b : Nat) : (setModeEvent d b).str = d.str := by simp [setModeEvent]
@[simp] theorem setModeEvent_ph (d : Dev) (b : Nat) : (setModeEvent d b).ph = d.ph := by simp [setModeEvent]
@[simp] theorem setModeEvent_lk (d : Dev) (b : Nat) : (setModeEvent d b).lk = d.lk := by simp [setModeEvent]
@[simp] theorem setModeEvent_seq (d : Dev) (b : Nat) : (setModeEvent d b).seq = d.seq := by simp [setModeEvent]
@[simp] theorem setModeEvent_chg (d : Dev) (b : Nat) : (setModeEvent d b).chg = d.chg := by simp [setModeEvent]
@[simp] theorem setModeEvent_flt (d : Dev) (b : Nat) : (setModeEvent d b).flt = d.flt := by simp [setModeEvent]
@[simp] theorem setModeEvent_tmr (d : Dev) (b : Nat) : (setModeEvent d b).tmr = d.tmr := by simp [setModeEvent]
@[simp] theorem setModeEvent_wd (d : Dev) (b : Nat) : (setModeEvent d b).wd = d.wd := by simp [setModeEvent]
@[simp] theorem setModeEvent_otp (d : Dev) (b : Nat) : (setModeEvent d b).otp = d.otp := by simp [setModeEvent]
@[simp] theorem setModeEvent_rcd (d : Dev) (b : Nat) : (setModeEvent d b).rcd = d.rcd := by simp [setModeEvent]
@[simp] theorem setModeEvent_cap (d : Dev) (b : Nat) : (setModeEvent d b).cap = d.cap := by simp [setModeEvent]
@[simp] theorem setModeEvent_capQueue (d : Dev) (b : Nat) : (setModeEvent d b).capQueue = d.capQueue := by simp [setModeEvent]
@[simp] theorem setModeEvent_mp (d : Dev) (b : Nat) : (setModeEvent d b).mp = d.mp := by simp [setModeEvent]
@[simp] theorem setModeEvent_waiting (d : Dev) (b : Nat) : (setModeEvent d b).waiting = d.waiting := by simp [setModeEvent]
@[simp] theorem setModeEvent_out (d : Dev) (b : Nat) : (setModeEvent d b).out = d.out := by simp [setModeEvent]
@[simp] theorem setModeEvent_fretOut (d : Dev) (b : Nat) : (setModeEvent d b).fretOut = d.fretOut := by simp [setModeEvent]
@[simp] theorem setModeEvent_bus (d : Dev) (b : Nat) : (setModeEvent d b).bus = d.bus := by simp [setModeEvent]
@[simp] theorem setModeEvent_busBlock (d : Dev) (b : Nat) : (setModeEvent d b).busBlock = d.busBlock := by simp [setModeEvent]

@[simp] theorem setFbEvent_clk (d : Dev) (b : Nat) : (setFbEvent d b).clk = d.clk := by simp [setFbEvent]
@[simp] theorem setFbEvent_pins (d : Dev) (b : Nat) : (setFbEvent d b).pins = d.pins := by simp [setFbEvent]
@[simp] theorem setFbEvent_mm (d : Dev) (b : Nat) : (setFbEvent d b).mm = d.mm := by simp [setFbEvent]
@[simp] theorem setFbEvent_pwr (d : Dev) (b : Nat) : (setFbEvent d b).pwr = d.pwr := by simp [setFbEvent]
@[simp] theorem setFbEvent_cfg (d : Dev) (b : Nat) : (setFbEvent d b).cfg = d.cfg := by simp [setFbEvent]
@[simp] theorem setFbEvent_pci (d : Dev) (b : Nat) : (setFbEvent d b).pci = d.pci := by simp [setFbEvent]
@[simp] theorem setFbEvent_ring (d : Dev) (b : Nat) : (setFbEvent d b).ring = d.ring := by simp [setFbEvent]
@[simp] theorem setFbEvent_jr (d : Dev) (b : Nat) : (setFbEvent d b).jr = d.jr := by simp [setFbEvent]
@[simp] theorem setFbEvent_str (d : Dev) (b : Nat) : (setFbEvent d b).str = d.str := by simp [setFbEvent]
@[simp] theorem setFbEvent_ph (d : Dev) (b : Nat) : (setFbEvent d b).ph = d.ph := by simp [setFbEvent]
@[simp] theorem setFbEvent_lk (d : Dev) (b : Nat) : (setFbEvent d b).lk = d.lk := by simp [setFbEvent]
@[simp] theorem setFbEvent_seq (d : Dev) (b : Nat) : (setFbEvent d b).seq = d.seq := by simp [setFbEvent]
@[simp] theorem setFbEvent_chg (d : Dev) (b : Nat) : (setFbEvent d b).chg = d.chg := by simp [setFbEvent]
@[simp] theorem setFbEvent_flt (d : Dev) (b : Nat) : (setFbEvent d b).flt = d.flt := by simp [setFbEvent]
@[simp] theorem setFbEvent_tmr (d : Dev) (b : Nat) : (setFbEvent d b).tmr = d.tmr := by simp [setFbEvent]
@[simp] theorem setFbEvent_wd (d : Dev) (b : Nat) : (setFbEvent d b).wd = d.wd := by simp [setFbEvent]
@[simp] theorem setFbEvent_otp (d : Dev) (b : Nat) : (setFbEvent d b).otp = d.otp := by simp [setFbEvent]
@[simp] theorem setFbEvent_rcd (d : Dev) (b : Nat) : (setFbEvent d b).rcd = d.rcd := by simp [setFbEvent]
@[simp] theorem setFbEvent_cap (d : Dev) (b : Nat) : (setFbEvent d b).cap = d.cap := by simp [setFbEvent]
@[simp] theorem setFbEvent_capQueue (d : Dev) (b : Nat) : (setFbEvent d b).capQueue = d.capQueue := by simp [setFbEvent]
@[simp] theorem setFbEvent_mp (d : Dev) (b : Nat) : (setFbEvent d b).mp = d.mp := by simp [setFbEvent]
@[simp] theorem setFbEvent_waiting (d : Dev) (b : Nat) : (setFbEvent d b).waiting = d.waiting := by simp [setFbEvent]
@[simp] theorem setFbEvent_out (d : Dev) (b : Nat) : (setFbEvent d b).out = d.out := by simp [setFbEvent]
@[simp] theorem setFbEvent_fretOut (d : Dev) (b : Nat) : (setFbEvent d b).fretOut = d.fretOut := by simp [setFbEvent]
@[simp] theorem setFbEvent_bus (d : Dev) (b : Nat) : (setFbEvent d b).bus = d.bus := by simp [setFbEvent]
@[simp] theorem setFbEvent_busBlock (d : Dev) (b : Nat) : (setFbEvent d b).busBlock = d.busBlock := by simp [setFbEvent]

@[simp] theorem setSeqEvent_clk (d : Dev) (b : Nat) : (setSeqEvent d b).clk = d.clk := by simp [setSeqEvent]
@[simp] theorem setSeqEvent_pins (d : Dev) (b : Nat) : (setSeqEvent d b).pins = d.pins := by simp [setSeqEvent]
@[simp] theorem setSeqEvent_mm (d : Dev) (b : Nat) : (setSeqEvent d b).mm = d.mm := by simp [setSeqEvent]
@[simp] theorem setSeqEvent_pwr (d : Dev) (b : Nat) : (setSeqEvent d b).pwr = d.pwr := by simp [setSeqEvent]
@[simp] theorem setSeqEvent_cfg (d : Dev) (b : Nat) : (setSeqEvent d b).cfg = d.cfg := by simp [setSeqEvent]
@[simp] theorem setSeqEvent_pci (d : Dev) (b : Nat) : (setSeqEvent d b).pci = d.pci := by simp [setSeqEvent]
@[simp] theorem setSeqEvent_ring (d : Dev) (b : Nat) : (setSeqEvent d b).ring = d.ring := by simp [setSeqEvent]
@[simp] theorem setSeqEvent_jr (d : Dev) (b : Nat) : (setSeqEvent d b).jr = d.jr := by simp [setSeqEvent]
@[simp] theorem setSeqEvent_fb (d : Dev) (b : Nat) : (setSeqEvent d b).fb = d.fb := by simp [setSeqEvent]
@[simp] theorem setSeqEvent_str (d : Dev) (b : Nat) : (setSeqEvent d b).str = d.str := by simp [setSeqEvent]
@[simp] theorem setSeqEvent_ph (d : Dev) (b : Nat) : (setSeqEvent d b).ph = d.ph := by simp [setSeqEvent]
@[simp] theorem setSeqEvent_lk (d : Dev) (b : Nat) : (setSeqEvent d b).lk = d.lk := by simp [setSeqEvent]
@[simp] theorem setSeqEvent_chg (d : Dev) (b : Nat) : (setSeqEvent d b).chg = d.chg := by simp [setSeqEvent]
@[simp] theorem setSeqEvent_flt (d : Dev) (b : Nat) : (setSeqEvent d b).flt = d.flt := by simp [setSeqEvent]
@[simp] theorem setSeqEvent_tmr (d : Dev) (b : Nat) : (setSeqEvent d b).tmr = d.tmr := by simp [setSeqEvent]
@[simp] theorem setSeqEvent_wd (d : Dev) (b : Nat) : (setSeqEvent d b).wd = d.wd := by simp [setSeqEvent]
@[simp] theorem setSeqEvent_otp (d : Dev) (b : Nat) : (setSeqEvent d b).otp = d.otp := by simp [setSeqEvent]
@[simp] theorem setSeqEvent_rcd (d : Dev) (b : Nat) : (setSeqEvent d b).rcd = d.rcd := by simp [setSeqEvent]
@[simp] theorem setSeqEvent_cap (d : Dev) (b : Nat) : (setSeqEvent d b).cap = d.cap := by simp [setSeqEvent]
@[simp] theorem setSeqEvent_capQueue (d : Dev) (b : Nat) : (setSeqEvent d b).capQueue = d.capQueue := by simp [setSeqEvent]
@[simp] theorem setSeqEvent_mp (d : Dev) (b : Nat) : (setSeqEvent d b).mp = d.mp := by simp [setSeqEvent]
@[simp] theorem setSeqEvent_waiting (d : Dev) (b : Nat) : (setSeqEvent d b).waiting = d.waiting := by simp [setSeqEvent]
@[simp] theorem setSeqEvent_out (d : Dev) (b : Nat) : (setSeqEvent d b).out = d.out := by simp [setSeqEvent]
@[simp] theorem setSeqEvent_fretOut (d : Dev) (b : Nat) : (setSeqEvent d b).fretOut = d.fretOut := by simp [setSeqEvent]
@[simp] theorem setSeqEvent_bus (d : Dev) (b : Nat) : (setSeqEvent d b).bus = d.bus := by simp [setSeqEvent]
@[simp] theorem setSeqEvent_busBlock (d : Dev) (b : Nat) : (setSeqEvent d b).busBlock = d.busBlock := by simp [setSeqEvent]

@[simp] theorem setChgEvent_clk (d : Dev) (b : Nat) : (setChgEvent d b).clk = d.clk := by simp [setChgEvent]
@[simp] theorem setChgEvent_pins (d : Dev) (b : Nat) : (setChgEvent d b).pins = d.pins := by simp [setChgEvent]
@[simp] theorem setChgEvent_mm (d : Dev) (b : Nat) : (setChgEvent d b).mm = d.mm := by simp [setChgEvent]
@[simp] theorem setChgEvent_pwr (d : Dev) (b : Nat) : (setChgEvent d b).pwr = d.pwr := by simp [setChgEvent]
@[simp] theorem setChgEvent_cfg (d : Dev) (b : Nat) : (setChgEvent d b).cfg = d.cfg := by simp [setChgEvent]
@[simp] theorem setChgEvent_pci (d : Dev) (b : Nat) : (setChgEvent d b).pci = d.pci := by simp [setChgEvent]
@[simp] theorem setChgEvent_ring (d : Dev) (b : Nat) : (setChgEvent d b).ring = d.ring := by simp [setChgEvent]
@[simp] theorem setChgEvent_jr (d : Dev) (b : Nat) : (setChgEvent d b).jr = d.jr := by simp [setChgEvent]
@[simp] theorem setChgEvent_fb (d : Dev) (b : Nat) : (setChgEvent d b).fb = d.fb := by simp [setChgEvent]
@[simp] theorem setChgEvent_str (d : Dev) (b : Nat) : (setChgEvent d b).str = d.str := by simp [setChgEvent]
@[simp] theorem setChgEvent_ph (d : Dev) (b : Nat) : (setChgEvent d b).ph = d.ph := by simp [setChgEvent]
@[simp] theorem setChgEvent_lk (d : Dev) (b : Nat) : (setChgEvent d b).lk = d.lk := by simp [setChgEvent]
@[simp] theorem setChgEvent_seq (d : Dev) (b : Nat) : (setChgEvent d b).seq = d.seq := by simp [setChgEvent]
@[simp] theorem setChgEvent_flt (d : Dev) (b : Nat) : (setChgEvent d b).flt = d.flt := by simp [setChgEvent]
@[simp] theorem setChgEvent_tmr (d : Dev) (b : Nat) : (setChgEvent d b).tmr = d.tmr := by simp [setChgEvent]
@[simp] theorem setChgEvent_wd (d : Dev) (b : Nat) : (setChgEvent d b).wd = d.wd := by simp [setChgEvent]
@[simp] theorem setChgEvent_otp (d : Dev) (b : Nat) : (setChgEvent d b).otp = d.otp := by simp [setChgEvent]
@[simp] theorem setChgEvent_rcd (d : Dev) (b : Nat) : (setChgEvent d b).rcd = d.rcd := by simp [setChgEvent]
@[simp] theorem setChgEvent_cap (d : Dev) (b : Nat) : (setChgEvent d b).cap = d.cap := by simp [setChgEvent]
@[simp] theorem setChgEvent_capQueue (d : Dev) (b : Nat) : (setChgEvent d b).capQueue = d.capQueue := by simp [setChgEvent]
@[simp] theorem setChgEvent_mp (d : Dev) (b : Nat) : (setChgEvent d b).mp = d.mp := by simp [setChgEvent]
@[simp] theorem setChgEvent_waiting (d : Dev) (b : Nat) : (setChgEvent d b).waiting = d.waiting := by simp [setChgEvent]
@[simp] theorem setChgEvent_out (d : Dev) (b : Nat) : (setChgEvent d b).out = d.out := by simp [setChgEvent]
@[simp] theorem setChgEvent_fretOut (d : Dev) (b : Nat) : (setChgEvent d b).fretOut = d.fretOut := by simp [setChgEvent]
@[simp] theorem setChgEvent_bus (d : Dev) (b : Nat) : (setChgEvent d b).bus = d.bus := by simp [setChgEvent]
@[simp] theorem setChgEvent_busBlock (d : Dev) (b : Nat) : (setChgEvent d b).busBlock = d.busBlock := by simp [setChgEvent]

@[simp] theorem setFltEvent_clk (d : Dev) (b : Nat) : (setFltEvent d b).clk = d.clk := by simp [setFltEvent]
@[simp] theorem setFltEvent_pins (d : Dev) (b : Nat) : (setFltEvent d b).pins = d.pins := by simp [setFltEvent]
@[simp] theorem setFltEvent_mm (d : Dev) (b : Nat) : (setFltEvent d b).mm = d.mm := by simp [setFltEvent]
@[simp] theorem setFltEvent_pwr (d : Dev) (b : Nat) : (setFltEvent d b).pwr = d.pwr := by simp [setFltEvent]
@[simp] theorem setFltEvent_cfg (d : Dev) (b : Nat) : (setFltEvent d b).cfg = d.cfg := by simp [setFltEvent]
@[simp] theorem setFltEvent_pci (d : Dev) (b : Nat) : (setFltEvent d b).pci = d.pci := by simp [setFltEvent]
@[simp] theorem setFltEvent_ring (d : Dev) (b : Nat) : (setFltEvent d b).ring = d.ring := by simp [setFltEvent]
@[simp] theorem setFltEvent_jr (d : Dev) (b : Nat) : (setFltEvent d b).jr = d.jr := by simp [setFltEvent]
@[simp] theorem setFltEvent_fb (d : Dev) (b : Nat) : (setFltEvent d b).fb = d.fb := by simp [setFltEvent]
@[simp] theorem setFltEvent_str (d : Dev) (b : Nat) : (setFltEvent d b).str = d.str := by simp [setFltEvent]
@[simp] theorem setFltEvent_ph (d : Dev) (b : Nat) : (setFltEvent d b).ph = d.ph := by simp [setFltEvent]
@[simp] theorem setFltEvent_lk (d : Dev) (b : Nat) : (setFltEvent d b).lk = d.lk := by simp [setFltEvent]
@[simp] theorem setFltEvent_seq (d : Dev) (b : Nat) : (setFltEvent d b).seq = d.seq := by simp [setFltEvent]
@[simp] theorem setFltEvent_chg (d : Dev) (b : Nat) : (setFltEvent d b).chg = d.chg := by simp [setFltEvent]
@[simp] theorem setFltEvent_tmr (d : Dev) (b : Nat) : (setFltEvent d b).tmr = d.tmr := by simp [setFltEvent]
@[simp] theorem setFltEvent_wd (d : Dev) (b : Nat) : (setFltEvent d b).wd = d.wd := by simp [setFltEvent]
@[simp] theorem setFltEvent_otp (d : Dev) (b : Nat) : (setFltEvent d b).otp = d.otp := by simp [setFltEvent]
@[simp] theorem setFltEvent_rcd (d : Dev) (b : Nat) : (setFltEvent d b).rcd = d.rcd := by simp [setFltEvent]
@[simp] theorem setFltEvent_cap (d : Dev) (b : Nat) : (setFltEvent d b).cap = d.cap := by simp [setFltEvent]
@[simp] theorem setFltEvent_capQueue (d : Dev) (b : Nat) : (setFltEvent d b).capQueue = d.capQueue := by simp [setFltEvent]
@[simp] theorem setFltEvent_mp (d : Dev) (b : Nat) : (setFltEvent d b).mp = d.mp := by simp [setFltEvent]
@[simp] theorem setFltEvent_waiting (d : Dev) (b : Nat) : (setFltEvent d b).waiting = d.waiting := by simp [setFltEvent]
@[simp] theorem setFltEvent_out (d : Dev) (b : Nat) : (setFltEvent d b).out = d.out := by simp [setFltEvent]
@[simp] theorem setFltEvent_fretOut (d : Dev) (b : Nat) : (setFltEvent d b).fretOut = d.fretOut := by simp [setFltEvent]
@[simp] theorem setFltEvent_bus (d : Dev) (b : Nat) : (setFltEvent d b).bus = d.bus := by simp [setFltEvent]
@[simp] theorem setFltEvent_busBlock (d : Dev) (b : Nat) : (setFltEvent d b).busBlock = d.busBlock := by simp [setFltEvent]

@[simp] theorem setRecEvent_clk (d : Dev) (b : Nat) : (setRecEvent d b).clk = d.clk := by simp [setRecEvent]
@[simp] theorem setRecEvent_pins (d : Dev) (b : Nat) : (setRecEvent d b).pins = d.pins := by simp [setRecEvent]
@[simp] theorem setRecEvent_mm (d : Dev) (b : Nat) : (setRecEvent d b).mm = d.mm := by simp [setRecEvent]
@[simp] theorem setRecEvent_pwr (d : Dev) (b : Nat) : (setRecEvent d b).pwr = d.pwr := by simp [setRecEvent]
@[simp] theorem setRecEvent_cfg (d : Dev) (b : Nat) : (setRecEvent d b).cfg = d.cfg := by simp [setRecEvent]
@[simp] theorem setRecEvent_pci (d : Dev) (b : Nat) : (setRecEvent d b).pci = d.pci := by simp [setRecEvent]
@[simp] theorem setRecEvent_ring (d : Dev) (b : Nat) : (setRecEvent d b).ring = d.ring := by simp [setRecEvent]
@[simp] theorem setRecEvent_jr (d : Dev) (b : Nat) : (setRecEvent d b).jr = d.jr := by simp [setRecEvent]
@[simp] theorem setRecEvent_fb (d : Dev) (b : Nat) : (setRecEvent d b).fb = d.fb := by simp [setRecEvent]
@[simp] theorem setRecEvent_str (d : Dev) (b : Nat) : (setRecEvent d b).str = d.str := by simp [setRecEvent]
@[simp] theorem setRecEvent_ph (d : Dev) (b : Nat) : (setRecEvent d b).ph = d.ph := by simp [setRecEvent]
@[simp] theorem setRecEvent_lk (d : Dev) (b : Nat) : (setRecEvent d b).lk = d.lk := by simp [setRecEvent]
@[simp] theorem setRecEvent_seq (d : Dev) (b : Nat) : (setRecEvent d b).seq = d.seq := by simp [setRecEvent]
@[simp] theorem setRecEvent_chg (d : Dev) (b : Nat) : (setRecEvent d b).chg = d.chg := by simp [setRecEvent]
@[simp] theorem setRecEvent_flt (d : Dev) (b : Nat) : (setRecEvent d b).flt = d.flt := by simp [setRecEvent]
@[simp] theorem setRecEvent_tmr (d : Dev) (b : Nat) : (setRecEvent d b).tmr = d.tmr := by simp [setRecEvent]
@[simp] theorem setRecEvent_wd (d : Dev) (b : Nat) : (setRecEvent d b).wd = d.wd := by simp [setRecEvent]
@[simp] theorem setRecEvent_otp (d : Dev) (b : Nat) : (setRecEvent d b).otp = d.otp := by simp [setRecEvent]
@[simp] theorem setRecEvent_cap (d : Dev) (b : Nat) : (setRecEvent d b).cap = d.cap := by simp [setRecEvent]
@[simp] theorem setRecEvent_capQueue (d : Dev) (b : Nat) : (setRecEvent d b).capQueue = d.capQueue := by simp [setRecEvent]
@[simp] theorem setRecEvent_mp (d : Dev) (b : Nat) : (setRecEvent d b).mp = d.mp := by simp [setRecEvent]
@[simp] theorem setRecEvent_waiting (d : Dev) (b : Nat) : (setRecEvent d b).waiting = d.waiting := by simp [setRecEvent]
@[simp] theorem setRecEvent_out (d : Dev) (b : Nat) : (setRecEvent d b).out = d.out := by simp [setRecEvent]
@[simp] theorem setRecEvent_fretOut (d : Dev) (b : Nat) : (setRecEvent d b).fretOut = d.fretOut := by simp [setRecEvent]
@[simp] theorem setRecEvent_bus (d : Dev) (b : Nat) : (setRecEvent d b).bus = d.bus := by simp [setRecEvent]
@[simp] theorem setRecEvent_busBlock (d : Dev) (b : Nat) : (setRecEvent d b).busBlock = d.busBlock := by simp [setRecEvent]

@[simp] theorem setMpEvent_waiting (d : Dev) (b : Nat) : (setMpEvent d b).waiting = d.waiting := by simp [setMpEvent]
@[simp] theorem setMpEvent_clk (d : Dev) (b : Nat) : (setMpEvent d b).clk = d.clk := by simp [setMpEvent]
@[simp] theorem setMpEvent_pins (d : Dev) (b : Nat) : (setMpEvent d b).pins = d.pins := by simp [setMpEvent]
@[simp] theorem setMpEvent_mm (d : Dev) (b : Nat) : (setMpEvent d b).mm = d.mm := by simp [setMpEvent]
@[simp] theorem setMpEvent_pwr (d : Dev) (b : Nat) : (setMpEvent d b).pwr = d.pwr := by simp [setMpEvent]
@[simp] theorem setMpEvent_cfg (d : Dev) (b : Nat) : (setMpEvent d b).cfg = d.cfg := by simp [setMpEvent]
@[simp] theorem setMpEvent_pci (d : Dev) (b : Nat) : (setMpEvent d b).pci = d.pci := by simp [setMpEvent]
@[simp] theorem setMpEvent_ring (d : Dev) (b : Nat) : (setMpEvent d b).ring = d.ring := by simp [setMpEvent]
@[simp] theorem setMpEvent_jr (d : Dev) (b : Nat) : (setMpEvent d b).jr = d.jr := by simp [setMpEvent]
@[simp] theorem setMpEvent_fb (d : Dev) (b : Nat) : (setMpEvent d b).fb = d.fb := by simp [setMpEvent]
@[simp] theorem setMpEvent_str (d : Dev) (b : Nat) : (setMpEvent d b).str = d.str := by simp [setMpEvent]
@[simp] theorem setMpEvent_ph (d : Dev) (b : Nat) : (setMpEvent d b).ph = d.ph := by simp [setMpEvent]
@[simp] theorem setMpEvent_lk (d : Dev) (b : Nat) : (setMpEvent d b).lk = d.lk := by simp [setMpEvent]
@[simp] theorem setMpEvent_seq (d : Dev) (b : Nat) : (setMpEvent d b).seq = d.seq := by simp [setMpEvent]
@[simp] theorem setMpEvent_chg (d : Dev) (b : Nat) : (setMpEvent d b).chg = d.chg := by simp [setMpEvent]
@[simp] theorem setMpEvent_flt (d : Dev) (b : Nat) : (setMpEvent d b).flt = d.flt := by simp [setMpEvent]
@[simp] theorem setMpEvent_tmr (d : Dev) (b : Nat) : (setMpEvent d b).tmr = d.tmr := by simp [setMpEvent]
@[simp] theorem setMpEvent_wd (d : Dev) (b : Nat) : (setMpEvent d b).wd = d.wd := by simp [setMpEvent]
@[simp] theorem setMpEvent_otp (d : Dev) (b : Nat) : (setMpEvent d b).otp = d.otp := by simp [setMpEvent]
@[simp] theorem setMpEvent_rcd (d : Dev) (b : Nat) : (setMpEvent d b).rcd = d.rcd := by simp [setMpEvent]
@[simp] theorem setMpEvent_cap (d : Dev) (b : Nat) : (setMpEvent d b).cap = d.cap := by simp [setMpEvent]
@[simp] theorem setMpEvent_capQueue (d : Dev) (b : Nat) : (setMpEvent d b).capQueue = d.capQueue := by simp [setMpEvent]
@[simp] theorem setMpEvent_out (d : Dev) (b : Nat) : (setMpEvent d b).out = d.out := by simp [setMpEvent]
@[simp] theorem setMpEvent_fretOut (d : Dev) (b : Nat) : (setMpEvent d b).fretOut = d.fretOut := by simp [setMpEvent]
@[simp] theorem setMpEvent_bus (d : Dev) (b : Nat) : (setMpEvent d b).bus = d.bus := by simp [setMpEvent]
@[simp] theorem setMpEvent_busBlock (d : Dev) (b : Nat) : (setMpEvent d b).busBlock = d.busBlock := by simp [setMpEvent]

@[simp] theorem setRestored_clk (d : Dev) : (setRestored d).clk = d.clk := by simp [setRestored]
@[simp] theorem setRestored_pins (d : Dev) : (setRestored d).pins = d.pins := by simp [setRestored]
@[simp] theorem setRestored_mm (d : Dev) : (setRestored d).mm = d.mm := by simp [setRestored]
@[simp] theorem setRestored_pwr (d : Dev) : (setRestored d).pwr = d.pwr := by simp [setRestored]
@[simp] theorem setRestored_cfg (d : Dev) : (setRestored d).cfg = d.cfg := by simp [setRestored]
@[simp] theorem setRestored_pci (d : Dev) : (setRestored d).pci = d.pci := by simp [setRestored]
@[simp] theorem setRestored_ring (d : Dev) : (setRestored d).ring = d.ring := by simp [setRestored]
@[simp] theorem setRestored_fb (d : Dev) : (setRestored d).fb = d.fb := by simp [setRestored]
@[simp] theorem setRestored_str (d : Dev) : (setRestored d).str = d.str := by simp [setRestored]
@[simp] theorem setRestored_ph (d : Dev) : (setRestored d).ph = d.ph := by simp [setRestored]
@[simp] theorem setRestored_lk (d : Dev) : (setRestored d).lk = d.lk := by simp [setRestored]
@[simp] theorem setRestored_seq (d : Dev) : (setRestored d).seq = d.seq := by simp [setRestored]
@[simp] theorem setRestored_chg (d : Dev) : (setRestored d).chg = d.chg := by simp [setRestored]
@[simp] theorem setRestored_flt (d : Dev) : (setRestored d).flt = d.flt := by simp [setRestored]
@[simp] theorem setRestored_tmr (d : Dev) : (setRestored d).tmr = d.tmr := by simp [setRestored]
@[simp] theorem setRestored_wd (d : Dev) : (setRestored d).wd = d.wd := by simp [setRestored]
@[simp] theorem setRestored_otp (d : Dev) : (setRestored d).otp = d.otp := by simp [setRestored]
@[simp] theorem setRestored_rcd (d : Dev) : (setRestored d).rcd = d.rcd := by simp [setRestored]
@[simp] theorem setRestored_cap (d : Dev) : (setRestored d).cap = d.cap := by simp [setRestored]
@[simp] theorem setRestored_capQueue (d : Dev) : (setRestored d).capQueue = d.capQueue := by simp [setRestored]
@[simp] theorem setRestored_mp (d : Dev) : (setRestored d).mp = d.mp := by simp [setRestored]
@[simp] theorem setRestored_waiting (d : Dev) : (setRestored d).waiting = d.waiting := by simp [setRestored]
@[simp] theorem setRestored_out (d : Dev) : (setRestored d).out = d.out := by simp [setRestored]
@[simp] theorem setRestored_fretOut (d : Dev) : (setRestored d).fretOut = d.fretOut := by simp [setRestored]
@[simp] theorem setRestored_bus (d : Dev) : (setRestored d).bus = d.bus := by simp [setRestored]
@[simp] theorem setRestored_busBlock (d : Dev) : (setRestored d).busBlock = d.busBlock := by simp [setRestored]

@[simp] theorem setLost_clk (d : Dev) : (setLost d).clk = d.clk := by simp [setLost]
@[simp] theorem setLost_pins (d : Dev) : (setLost d).pins = d.pins := by simp [setLost]
@[simp] theorem setLost_mm (d : Dev) : (setLost d).mm = d.mm := by simp [setLost]
@[simp] theorem setLost_pwr (d : Dev) : (setLost d).pwr = d.pwr := by simp [setLost]
@[simp] theorem setLost_cfg (d : Dev) : (setLost d).cfg = d.cfg := by simp [setLost]
@[simp] theorem setLost_pci (d : Dev) : (setLost d).pci = d.pci := by simp [setLost]
@[simp] theorem setLost_ring (d : Dev) : (setLost d).ring = d.ring := by simp [setLost]
@[simp] theorem setLost_fb (d : Dev) : (setLost d).fb = d.fb := by simp [setLost]
@[simp] theorem setLost_str (d : Dev) : (setLost d).str = d.str := by simp [setLost]
@[simp] theorem setLost_ph (d : Dev) : (setLost d).ph = d.ph := by simp [setLost]
@[simp] theorem setLost_lk (d : Dev) : (setLost d).lk = d.lk := by simp [setLost]
@[simp] theorem setLost_seq (d : Dev) : (setLost d).seq = d.seq := by simp [setLost]
@[simp] theorem setLost_chg (d : Dev) : (setLost d).chg = d.chg := by simp [setLost]
@[simp] theorem setLost_flt (d : Dev) : (setLost d).flt = d.flt := by simp [setLost]
@[simp] theorem setLost_tmr (d : Dev) : (setLost d).tmr = d.tmr := by simp [setLost]
@[simp] theorem setLost_wd (d : Dev) : (setLost d).wd = d.wd := by simp [setLost]
@[simp] theorem setLost_otp (d : Dev) : (setLost d).otp = d.otp := by simp [setLost]
@[simp] theorem setLost_rcd (d : Dev) : (setLost d).rcd = d.rcd := by simp [setLost]
@[simp] theorem setLost_cap (d : Dev) : (setLost d).cap = d.cap := by simp [setLost]
@[simp] theorem setLost_capQueue (d : Dev) : (setLost d).capQueue = d.capQueue := by simp [setLost]
@[simp] theorem setLost_mp (d : Dev) : (setLost d).mp = d.mp := by simp [setLost]
@[simp] theorem setLost_waiting (d : Dev) : (setLost d).waiting = d.waiting := by simp [setLost]
@[simp] theorem setLost_out (d : Dev) : (setLost d).out = d.out := by simp [setLost]
@[simp] theorem setLost_fretOut (d : Dev) : (setLost d).fretOut = d.fretOut := by simp [setLost]
@[simp] theorem setLost_bus (d : Dev) : (setLost d).bus = d.bus := by simp [setLost]
@[simp] theorem setLost_busBlock (d : Dev) : (setLost d).busBlock = d.busBlock := by simp [setLost]

@[simp] theorem setRebuilt_clk (d : Dev) : (setRebuilt d).clk = d.clk := by simp [setRebuilt]
@[simp] theorem setRebuilt_pins (d : Dev) : (setRebuilt d).pins = d.pins := by simp [setRebuilt]
@[simp] theorem setRebuilt_mm (d : Dev) : (setRebuilt d).mm = d.mm := by simp [setRebuilt]
@[simp] theorem setRebuilt_pwr (d : Dev) : (setRebuilt d).pwr = d.pwr := by simp [setRebuilt]
@[simp] theorem setRebuilt_cfg (d : Dev) : (setRebuilt d).cfg = d.cfg := by simp [setRebuilt]
@[simp] theorem setRebuilt_pci (d : Dev) : (setRebuilt d).pci = d.pci := by simp [setRebuilt]
@[simp] theorem setRebuilt_ring (d : Dev) : (setRebuilt d).ring = d.ring := by simp [setRebuilt]
@[simp] theorem setRebuilt_fb (d : Dev) : (setRebuilt d).fb = d.fb := by simp [setRebuilt]
@[simp] theorem setRebuilt_str (d : Dev) : (setRebuilt d).str = d.str := by simp [setRebuilt]
@[simp] theorem setRebuilt_ph (d : Dev) : (setRebuilt d).ph = d.ph := by simp [setRebuilt]
@[simp] theorem setRebuilt_lk (d : Dev) : (setRebuilt d).lk = d.lk := by simp [setRebuilt]
@[simp] theorem setRebuilt_seq (d : Dev) : (setRebuilt d).seq = d.seq := by simp [setRebuilt]
@[simp] theorem setRebuilt_chg (d : Dev) : (setRebuilt d).chg = d.chg := by simp [setRebuilt]
@[simp] theorem setRebuilt_flt (d : Dev) : (setRebuilt d).flt = d.flt := by simp [setRebuilt]
@[simp] theorem setRebuilt_tmr (d : Dev) : (setRebuilt d).tmr = d.tmr := by simp [setRebuilt]
@[simp] theorem setRebuilt_wd (d : Dev) : (setRebuilt d).wd = d.wd := by simp [setRebuilt]
@[simp] theorem setRebuilt_otp (d : Dev) : (setRebuilt d).otp = d.otp := by simp [setRebuilt]
@[simp] theorem setRebuilt_rcd (d : Dev) : (setRebuilt d).rcd = d.rcd := by simp [setRebuilt]
@[simp] theorem setRebuilt_cap (d : Dev) : (setRebuilt d).cap = d.cap := by simp [setRebuilt]
@[simp] theorem setRebuilt_capQueue (d : Dev) : (setRebuilt d).capQueue = d.capQueue := by simp [setRebuilt]
@[simp] theorem setRebuilt_mp (d : Dev) : (setRebuilt d).mp = d.mp := by simp [setRebuilt]
@[simp] theorem setRebuilt_waiting (d : Dev) : (setRebuilt d).waiting = d.waiting := by simp [setRebuilt]
@[simp] theorem setRebuilt_out (d : Dev) : (setRebuilt d).out = d.out := by simp [setRebuilt]
@[simp] theorem setRebuilt_fretOut (d : Dev) : (setRebuilt d).fretOut = d.fretOut := by simp [setRebuilt]
@[simp] theorem setRebuilt_bus (d : Dev) : (setRebuilt d).bus = d.bus := by simp [setRebuilt]
@[simp] theorem setRebuilt_busBlock (d : Dev) : (setRebuilt d).busBlock = d.busBlock := by simp [setRebuilt]

@[simp] theorem setLinkEvent_clk (d : Dev) (k b : Nat) : (setLinkEvent d k b).clk = d.clk := by simp [setLinkEvent]
@[simp] theorem setLinkEvent_pins (d : Dev) (k b : Nat) : (setLinkEvent d k b).pins = d.pins := by simp [setLinkEvent]
@[simp] theorem setLinkEvent_mm (d : Dev) (k b : Nat) : (setLinkEvent d k b).mm = d.mm := by simp [setLinkEvent]
@[simp] theorem setLinkEvent_pwr (d : Dev) (k b : Nat) : (setLinkEvent d k b).pwr = d.pwr := by simp [setLinkEvent]
@[simp] theorem setLinkEvent_cfg (d : Dev) (k b : Nat) : (setLinkEvent d k b).cfg = d.cfg := by simp [setLinkEvent]
@[simp] theorem setLinkEvent_pci (d : Dev) (k b : Nat) : (setLinkEvent d k b).pci = d.pci := by simp [setLinkEvent]
@[simp] theorem setLinkEvent_ring (d : Dev) (k b : Nat) : (setLinkEvent d k b).ring = d.ring := by simp [setLinkEvent]
@[simp] theorem setLinkEvent_jr (d : Dev) (k b : Nat) : (setLinkEvent d k b).jr = d.jr := by simp [setLinkEvent]
@[simp] theorem setLinkEvent_fb (d : Dev) (k b : Nat) : (setLinkEvent d k b).fb = d.fb := by simp [setLinkEvent]
@[simp] theorem setLinkEvent_str (d : Dev) (k b : Nat) : (setLinkEvent d k b).str = d.str := by simp [setLinkEvent]
@[simp] theorem setLinkEvent_ph (d : Dev) (k b : Nat) : (setLinkEvent d k b).ph = d.ph := by simp [setLinkEvent]
@[simp] theorem setLinkEvent_seq (d : Dev) (k b : Nat) : (setLinkEvent d k b).seq = d.seq := by simp [setLinkEvent]
@[simp] theorem setLinkEvent_chg (d : Dev) (k b : Nat) : (setLinkEvent d k b).chg = d.chg := by simp [setLinkEvent]
@[simp] theorem setLinkEvent_flt (d : Dev) (k b : Nat) : (setLinkEvent d k b).flt = d.flt := by simp [setLinkEvent]
@[simp] theorem setLinkEvent_tmr (d : Dev) (k b : Nat) : (setLinkEvent d k b).tmr = d.tmr := by simp [setLinkEvent]
@[simp] theorem setLinkEvent_wd (d : Dev) (k b : Nat) : (setLinkEvent d k b).wd = d.wd := by simp [setLinkEvent]
@[simp] theorem setLinkEvent_otp (d : Dev) (k b : Nat) : (setLinkEvent d k b).otp = d.otp := by simp [setLinkEvent]
@[simp] theorem setLinkEvent_rcd (d : Dev) (k b : Nat) : (setLinkEvent d k b).rcd = d.rcd := by simp [setLinkEvent]
@[simp] theorem setLinkEvent_cap (d : Dev) (k b : Nat) : (setLinkEvent d k b).cap = d.cap := by simp [setLinkEvent]
@[simp] theorem setLinkEvent_capQueue (d : Dev) (k b : Nat) : (setLinkEvent d k b).capQueue = d.capQueue := by simp [setLinkEvent]
@[simp] theorem setLinkEvent_mp (d : Dev) (k b : Nat) : (setLinkEvent d k b).mp = d.mp := by simp [setLinkEvent]
@[simp] theorem setLinkEvent_waiting (d : Dev) (k b : Nat) : (setLinkEvent d k b).waiting = d.waiting := by simp [setLinkEvent]
@[simp] theorem setLinkEvent_out (d : Dev) (k b : Nat) : (setLinkEvent d k b).out = d.out := by simp [setLinkEvent]
@[simp] theorem setLinkEvent_fretOut (d : Dev) (k b : Nat) : (setLinkEvent d k b).fretOut = d.fretOut := by simp [setLinkEvent]
@[simp] theorem setLinkEvent_bus (d : Dev) (k b : Nat) : (setLinkEvent d k b).bus = d.bus := by simp [setLinkEvent]
@[simp] theorem setLinkEvent_busBlock (d : Dev) (k b : Nat) : (setLinkEvent d k b).busBlock = d.busBlock := by simp [setLinkEvent]

end Sys2Proof.Machine
end

