-- ==== Sys2Proof/Laws/Writes.lean ====
section
/-!
SUPPORT. What each shared operation may write: `Laws.mask_<op>` says that no part of the device outside the ones its hypotheses list differs
after the operation, so that the frame of a command follows by rewriting (`Laws.keeps_of_mask`).
-/
set_option Elab.async false
set_option linter.unusedSimpArgs false
namespace Sys2Proof.Machine
open Sys2Proof.Safety

@[simp] theorem Laws.mask_w_clk_mm_pwr_jr (ps : List Part) (d : Dev) (v_clk) (v_mm) (v_pwr) (v_jr) (h_clk : Part.clk ∈ ps) (h_mm : Part.mm ∈ ps) (h_pwr : Part.pwr ∈ ps) (h_jr : Part.jr ∈ ps) : Laws.mask ps { d with clk := v_clk, mm := v_mm, pwr := v_pwr, jr := v_jr } = Laws.mask ps d := by
  simp only [Laws.mask, if_pos h_clk, if_pos h_mm, if_pos h_pwr, if_pos h_jr]
@[simp] theorem Laws.mask_w_clk_mm_jr_seq_chg_flt_wd_otp_rcd_mp_waiting (ps : List Part) (d : Dev) (v_clk) (v_mm) (v_jr) (v_seq) (v_chg) (v_flt) (v_wd) (v_otp) (v_rcd) (v_mp) (v_waiting) (h_clk : Part.clk ∈ ps) (h_mm : Part.mm ∈ ps) (h_jr : Part.jr ∈ ps) (h_seq : Part.seq ∈ ps) (h_chg : Part.chg ∈ ps) (h_flt : Part.flt ∈ ps) (h_wd : Part.wd ∈ ps) (h_otp : Part.otp ∈ ps) (h_rcd : Part.rcd ∈ ps) (h_mp : Part.mp ∈ ps) (h_waiting : Part.waiting ∈ ps) : Laws.mask ps { d with clk := v_clk, mm := v_mm, jr := v_jr, seq := v_seq, chg := v_chg, flt := v_flt, wd := v_wd, otp := v_otp, rcd := v_rcd, mp := v_mp, waiting := v_waiting } = Laws.mask ps d := by
  simp only [Laws.mask, if_pos h_clk, if_pos h_mm, if_pos h_jr, if_pos h_seq, if_pos h_chg, if_pos h_flt, if_pos h_wd, if_pos h_otp, if_pos h_rcd, if_pos h_mp, if_pos h_waiting]
@[simp] theorem Laws.mask_w_clk_pwr_seq (ps : List Part) (d : Dev) (v_clk) (v_pwr) (v_seq) (h_clk : Part.clk ∈ ps) (h_pwr : Part.pwr ∈ ps) (h_seq : Part.seq ∈ ps) : Laws.mask ps { d with clk := v_clk, pwr := v_pwr, seq := v_seq } = Laws.mask ps d := by
  simp only [Laws.mask, if_pos h_clk, if_pos h_pwr, if_pos h_seq]
@[simp] theorem Laws.mask_w_clk_fb (ps : List Part) (d : Dev) (v_clk) (v_fb) (h_clk : Part.clk ∈ ps) (h_fb : Part.fb ∈ ps) : Laws.mask ps { d with clk := v_clk, fb := v_fb } = Laws.mask ps d := by
  simp only [Laws.mask, if_pos h_clk, if_pos h_fb]
@[simp] theorem Laws.mask_w_clk_seq (ps : List Part) (d : Dev) (v_clk) (v_seq) (h_clk : Part.clk ∈ ps) (h_seq : Part.seq ∈ ps) : Laws.mask ps { d with clk := v_clk, seq := v_seq } = Laws.mask ps d := by
  simp only [Laws.mask, if_pos h_clk, if_pos h_seq]
@[simp] theorem Laws.mask_w_pins_mm (ps : List Part) (d : Dev) (v_pins) (v_mm) (h_pins : Part.pins ∈ ps) (h_mm : Part.mm ∈ ps) : Laws.mask ps { d with pins := v_pins, mm := v_mm } = Laws.mask ps d := by
  simp only [Laws.mask, if_pos h_pins, if_pos h_mm]
@[simp] theorem Laws.mask_w_pins_pwr (ps : List Part) (d : Dev) (v_pins) (v_pwr) (h_pins : Part.pins ∈ ps) (h_pwr : Part.pwr ∈ ps) : Laws.mask ps { d with pins := v_pins, pwr := v_pwr } = Laws.mask ps d := by
  simp only [Laws.mask, if_pos h_pins, if_pos h_pwr]
@[simp] theorem Laws.mask_w_mm_pwr (ps : List Part) (d : Dev) (v_mm) (v_pwr) (h_mm : Part.mm ∈ ps) (h_pwr : Part.pwr ∈ ps) : Laws.mask ps { d with mm := v_mm, pwr := v_pwr } = Laws.mask ps d := by
  simp only [Laws.mask, if_pos h_mm, if_pos h_pwr]
@[simp] theorem Laws.mask_w_mm_pwr_seq (ps : List Part) (d : Dev) (v_mm) (v_pwr) (v_seq) (h_mm : Part.mm ∈ ps) (h_pwr : Part.pwr ∈ ps) (h_seq : Part.seq ∈ ps) : Laws.mask ps { d with mm := v_mm, pwr := v_pwr, seq := v_seq } = Laws.mask ps d := by
  simp only [Laws.mask, if_pos h_mm, if_pos h_pwr, if_pos h_seq]
@[simp] theorem Laws.mask_w_mm_pwr_otp (ps : List Part) (d : Dev) (v_mm) (v_pwr) (v_otp) (h_mm : Part.mm ∈ ps) (h_pwr : Part.pwr ∈ ps) (h_otp : Part.otp ∈ ps) : Laws.mask ps { d with mm := v_mm, pwr := v_pwr, otp := v_otp } = Laws.mask ps d := by
  simp only [Laws.mask, if_pos h_mm, if_pos h_pwr, if_pos h_otp]
@[simp] theorem Laws.mask_w_mm_seq (ps : List Part) (d : Dev) (v_mm) (v_seq) (h_mm : Part.mm ∈ ps) (h_seq : Part.seq ∈ ps) : Laws.mask ps { d with mm := v_mm, seq := v_seq } = Laws.mask ps d := by
  simp only [Laws.mask, if_pos h_mm, if_pos h_seq]
@[simp] theorem Laws.mask_w_pwr_cfg_seq_flt_int_tmr_wd_otp_mp (ps : List Part) (d : Dev) (v_pwr) (v_cfg) (v_seq) (v_flt) (v_int) (v_tmr) (v_wd) (v_otp) (v_mp) (h_pwr : Part.pwr ∈ ps) (h_cfg : Part.cfg ∈ ps) (h_seq : Part.seq ∈ ps) (h_flt : Part.flt ∈ ps) (h_int : Part.int ∈ ps) (h_tmr : Part.tmr ∈ ps) (h_wd : Part.wd ∈ ps) (h_otp : Part.otp ∈ ps) (h_mp : Part.mp ∈ ps) : Laws.mask ps { d with pwr := v_pwr, cfg := v_cfg, seq := v_seq, flt := v_flt, int := v_int, tmr := v_tmr, wd := v_wd, otp := v_otp, mp := v_mp } = Laws.mask ps d := by
  simp only [Laws.mask, if_pos h_pwr, if_pos h_cfg, if_pos h_seq, if_pos h_flt, if_pos h_int, if_pos h_tmr, if_pos h_wd, if_pos h_otp, if_pos h_mp]
@[simp] theorem Laws.mask_w_pwr_jr (ps : List Part) (d : Dev) (v_pwr) (v_jr) (h_pwr : Part.pwr ∈ ps) (h_jr : Part.jr ∈ ps) : Laws.mask ps { d with pwr := v_pwr, jr := v_jr } = Laws.mask ps d := by
  simp only [Laws.mask, if_pos h_pwr, if_pos h_jr]
@[simp] theorem Laws.mask_w_pwr_wd_mp (ps : List Part) (d : Dev) (v_pwr) (v_wd) (v_mp) (h_pwr : Part.pwr ∈ ps) (h_wd : Part.wd ∈ ps) (h_mp : Part.mp ∈ ps) : Laws.mask ps { d with pwr := v_pwr, wd := v_wd, mp := v_mp } = Laws.mask ps d := by
  simp only [Laws.mask, if_pos h_pwr, if_pos h_wd, if_pos h_mp]
@[simp] theorem Laws.mask_w_pwr_rcd (ps : List Part) (d : Dev) (v_pwr) (v_rcd) (h_pwr : Part.pwr ∈ ps) (h_rcd : Part.rcd ∈ ps) : Laws.mask ps { d with pwr := v_pwr, rcd := v_rcd } = Laws.mask ps d := by
  simp only [Laws.mask, if_pos h_pwr, if_pos h_rcd]
@[simp] theorem Laws.mask_w_cfg_pci_ring (ps : List Part) (d : Dev) (v_cfg) (v_pci) (v_ring) (h_cfg : Part.cfg ∈ ps) (h_pci : Part.pci ∈ ps) (h_ring : Part.ring ∈ ps) : Laws.mask ps { d with cfg := v_cfg, pci := v_pci, ring := v_ring } = Laws.mask ps d := by
  simp only [Laws.mask, if_pos h_cfg, if_pos h_pci, if_pos h_ring]
@[simp] theorem Laws.mask_w_cfg_jr_fb_seq (ps : List Part) (d : Dev) (v_cfg) (v_jr) (v_fb) (v_seq) (h_cfg : Part.cfg ∈ ps) (h_jr : Part.jr ∈ ps) (h_fb : Part.fb ∈ ps) (h_seq : Part.seq ∈ ps) : Laws.mask ps { d with cfg := v_cfg, jr := v_jr, fb := v_fb, seq := v_seq } = Laws.mask ps d := by
  simp only [Laws.mask, if_pos h_cfg, if_pos h_jr, if_pos h_fb, if_pos h_seq]
@[simp] theorem Laws.mask_w_cfg_str_wd (ps : List Part) (d : Dev) (v_cfg) (v_str) (v_wd) (h_cfg : Part.cfg ∈ ps) (h_str : Part.str ∈ ps) (h_wd : Part.wd ∈ ps) : Laws.mask ps { d with cfg := v_cfg, str := v_str, wd := v_wd } = Laws.mask ps d := by
  simp only [Laws.mask, if_pos h_cfg, if_pos h_str, if_pos h_wd]
@[simp] theorem Laws.mask_w_pci_ring_cap_capQueue (ps : List Part) (d : Dev) (v_pci) (v_ring) (v_cap) (v_capQueue) (h_pci : Part.pci ∈ ps) (h_ring : Part.ring ∈ ps) (h_cap : Part.cap ∈ ps) (h_capQueue : Part.capQueue ∈ ps) : Laws.mask ps { d with pci := v_pci, ring := v_ring, cap := v_cap, capQueue := v_capQueue } = Laws.mask ps d := by
  simp only [Laws.mask, if_pos h_pci, if_pos h_ring, if_pos h_cap, if_pos h_capQueue]
@[simp] theorem Laws.mask_w_ring_chg_cap_capQueue (ps : List Part) (d : Dev) (v_ring) (v_chg) (v_cap) (v_capQueue) (h_ring : Part.ring ∈ ps) (h_chg : Part.chg ∈ ps) (h_cap : Part.cap ∈ ps) (h_capQueue : Part.capQueue ∈ ps) : Laws.mask ps { d with ring := v_ring, chg := v_chg, cap := v_cap, capQueue := v_capQueue } = Laws.mask ps d := by
  simp only [Laws.mask, if_pos h_ring, if_pos h_chg, if_pos h_cap, if_pos h_capQueue]
@[simp] theorem Laws.mask_w_ring_out (ps : List Part) (d : Dev) (v_ring) (v_out) (h_ring : Part.ring ∈ ps) (h_out : Part.out ∈ ps) : Laws.mask ps { d with ring := v_ring, out := v_out } = Laws.mask ps d := by
  simp only [Laws.mask, if_pos h_ring, if_pos h_out]
@[simp] theorem Laws.mask_w_fb_chg (ps : List Part) (d : Dev) (v_fb) (v_chg) (h_fb : Part.fb ∈ ps) (h_chg : Part.chg ∈ ps) : Laws.mask ps { d with fb := v_fb, chg := v_chg } = Laws.mask ps d := by
  simp only [Laws.mask, if_pos h_fb, if_pos h_chg]
@[simp] theorem Laws.mask_w_fb_cap (ps : List Part) (d : Dev) (v_fb) (v_cap) (h_fb : Part.fb ∈ ps) (h_cap : Part.cap ∈ ps) : Laws.mask ps { d with fb := v_fb, cap := v_cap } = Laws.mask ps d := by
  simp only [Laws.mask, if_pos h_fb, if_pos h_cap]
@[simp] theorem Laws.mask_w_seq_rcd (ps : List Part) (d : Dev) (v_seq) (v_rcd) (h_seq : Part.seq ∈ ps) (h_rcd : Part.rcd ∈ ps) : Laws.mask ps { d with seq := v_seq, rcd := v_rcd } = Laws.mask ps d := by
  simp only [Laws.mask, if_pos h_seq, if_pos h_rcd]
@[simp] theorem Laws.mask_w_cap_capQueue (ps : List Part) (d : Dev) (v_cap) (v_capQueue) (h_cap : Part.cap ∈ ps) (h_capQueue : Part.capQueue ∈ ps) : Laws.mask ps { d with cap := v_cap, capQueue := v_capQueue } = Laws.mask ps d := by
  simp only [Laws.mask, if_pos h_cap, if_pos h_capQueue]
@[simp] theorem Laws.mask_w_cap_fretOut (ps : List Part) (d : Dev) (v_cap) (v_fretOut) (h_cap : Part.cap ∈ ps) (h_fretOut : Part.fretOut ∈ ps) : Laws.mask ps { d with cap := v_cap, fretOut := v_fretOut } = Laws.mask ps d := by
  simp only [Laws.mask, if_pos h_cap, if_pos h_fretOut]
@[simp] theorem Laws.mask_w_capQueue_out (ps : List Part) (d : Dev) (v_capQueue) (v_out) (h_capQueue : Part.capQueue ∈ ps) (h_out : Part.out ∈ ps) : Laws.mask ps { d with capQueue := v_capQueue, out := v_out } = Laws.mask ps d := by
  simp only [Laws.mask, if_pos h_capQueue, if_pos h_out]

@[simp] theorem Laws.mask_setStaged (qs : List Part) (d : Dev) (off : Nat) (v : Word) (h_cfg : Part.cfg ∈ qs) :
    Laws.mask qs (setStaged d off v) = Laws.mask qs d := by
  simp [setStaged, *]
@[simp] theorem Laws.mask_setRw (qs : List Part) (d : Dev) (off : Nat) (v : Word) (h_cfg : Part.cfg ∈ qs) :
    Laws.mask qs (setRw d off v) = Laws.mask qs d := by
  simp [setRw, *]
@[simp] theorem Laws.mask_updStr (qs : List Part) (d : Dev) (k : Nat) (f : StringUnit → StringUnit) (h_str : Part.str ∈ qs) :
    Laws.mask qs (updStr d k f) = Laws.mask qs d := by
  simp [updStr, *]
@[simp] theorem Laws.mask_updPh (qs : List Part) (d : Dev) (p : Nat) (f : PhaseUnit → PhaseUnit) (h_ph : Part.ph ∈ qs) :
    Laws.mask qs (updPh d p f) = Laws.mask qs d := by
  simp [updPh, *]
@[simp] theorem Laws.mask_updLk (qs : List Part) (d : Dev) (k : Nat) (f : LinkUnit → LinkUnit) (h_lk : Part.lk ∈ qs) :
    Laws.mask qs (updLk d k f) = Laws.mask qs d := by
  simp [updLk, *]
@[simp] theorem Laws.mask_resetRegs (qs : List Part) (d : Dev) (x : Domain) (h_cfg : Part.cfg ∈ qs) :
    Laws.mask qs (resetRegs d x) = Laws.mask qs d := by
  simp [resetRegs, *]
@[simp] theorem Laws.mask_emit (qs : List Part) (d : Dev) (o : Out) (h_out : Part.out ∈ qs) :
    Laws.mask qs (emit d o) = Laws.mask qs d := by
  simp [emit, *]
@[simp] theorem Laws.mask_emitFast (qs : List Part) (d : Dev) (o : Out) (h_out : Part.out ∈ qs) (h_fretOut : Part.fretOut ∈ qs) :
    Laws.mask qs (emitFast d o) = Laws.mask qs d := by
  unfold emitFast
  (repeat' split) <;> first | (simp [*]; done) | simp [Laws.mask, *]
@[simp] theorem Laws.mask_nextFree (qs : List Part) (d : Dev) (h_clk : Part.clk ∈ qs) :
    Laws.mask qs (nextFree d) = Laws.mask qs d := by
  simp [nextFree, *]
@[simp] theorem Laws.mask_occur (qs : List Part) (d : Dev) (n : Nat) (h_int : Part.int ∈ qs) :
    Laws.mask qs (occur d n) = Laws.mask qs d := by
  simp [occur, *]
@[simp] theorem Laws.mask_setModeEvent (qs : List Part) (d : Dev) (b : Nat) (h_mm : Part.mm ∈ qs) (h_int : Part.int ∈ qs) :
    Laws.mask qs (setModeEvent d b) = Laws.mask qs d := by
  simp [setModeEvent, *]
@[simp] theorem Laws.mask_setFbEvent (qs : List Part) (d : Dev) (b : Nat) (h_fb : Part.fb ∈ qs) (h_int : Part.int ∈ qs) :
    Laws.mask qs (setFbEvent d b) = Laws.mask qs d := by
  simp [setFbEvent, *]
@[simp] theorem Laws.mask_setSeqEvent (qs : List Part) (d : Dev) (b : Nat) (h_seq : Part.seq ∈ qs) (h_int : Part.int ∈ qs) :
    Laws.mask qs (setSeqEvent d b) = Laws.mask qs d := by
  simp [setSeqEvent, *]
@[simp] theorem Laws.mask_setChgEvent (qs : List Part) (d : Dev) (b : Nat) (h_chg : Part.chg ∈ qs) (h_int : Part.int ∈ qs) :
    Laws.mask qs (setChgEvent d b) = Laws.mask qs d := by
  simp [setChgEvent, *]
@[simp] theorem Laws.mask_setFltEvent (qs : List Part) (d : Dev) (b : Nat) (h_flt : Part.flt ∈ qs) (h_int : Part.int ∈ qs) :
    Laws.mask qs (setFltEvent d b) = Laws.mask qs d := by
  simp [setFltEvent, *]
@[simp] theorem Laws.mask_setLinkEvent (qs : List Part) (d : Dev) (k b : Nat) (h_lk : Part.lk ∈ qs) (h_int : Part.int ∈ qs) :
    Laws.mask qs (setLinkEvent d k b) = Laws.mask qs d := by
  simp [setLinkEvent, *]
@[simp] theorem Laws.mask_setRecEvent (qs : List Part) (d : Dev) (b : Nat) (h_int : Part.int ∈ qs) (h_rcd : Part.rcd ∈ qs) :
    Laws.mask qs (setRecEvent d b) = Laws.mask qs d := by
  simp [setRecEvent, *]
@[simp] theorem Laws.mask_setMpEvent (qs : List Part) (d : Dev) (b : Nat) (h_int : Part.int ∈ qs) (h_mp : Part.mp ∈ qs) :
    Laws.mask qs (setMpEvent d b) = Laws.mask qs d := by
  simp [setMpEvent, *]
@[simp] theorem Laws.mask_setStrEvent (qs : List Part) (d : Dev) (k b : Nat) (h_str : Part.str ∈ qs) :
    Laws.mask qs (setStrEvent d k b) = Laws.mask qs d := by
  simp [setStrEvent, *]
@[simp] theorem Laws.mask_setRestored (qs : List Part) (d : Dev) (h_jr : Part.jr ∈ qs) (h_int : Part.int ∈ qs) :
    Laws.mask qs (setRestored d) = Laws.mask qs d := by
  simp [setRestored, *]
@[simp] theorem Laws.mask_detect (qs : List Part) (d : Dev) (code p0 p1 p2 : Nat) (h_flt : Part.flt ∈ qs) :
    Laws.mask qs (detect d code p0 p1 p2) = Laws.mask qs d := by
  simp [detect, *]
@[simp] theorem Laws.mask_detectInj (qs : List Part) (d : Dev) (code p0 p1 p2 : Nat) (inj obs : Bool) (h_flt : Part.flt ∈ qs) :
    Laws.mask qs (detectInj d code p0 p1 p2 inj obs) = Laws.mask qs d := by
  simp [detectInj, *]
@[simp] theorem Laws.mask_lateInput (qs : List Part) (d : Dev) (path inst : Nat) (h_pwr : Part.pwr ∈ qs) (h_flt : Part.flt ∈ qs) :
    Laws.mask qs (lateInput d path inst) = Laws.mask qs d := by
  simp [lateInput, *]
@[simp] theorem Laws.mask_takeInjection (qs : List Part) (d : Dev) (h_flt : Part.flt ∈ qs) (h_int : Part.int ∈ qs) :
    Laws.mask qs (takeInjection d) = Laws.mask qs d := by
  simp [takeInjection, *]
@[simp] theorem Laws.mask_writeLogFull (qs : List Part) (d : Dev) (firstSeq : Nat) (h_int : Part.int ∈ qs) (h_rcd : Part.rcd ∈ qs) :
    Laws.mask qs (writeLogFull d firstSeq) = Laws.mask qs d := by
  simp [writeLogFull, *]
@[simp] theorem Laws.mask_recordRaw (qs : List Part) (d : Dev) (fault : Bool) (code source flags p0 p1 p2 p3 : Nat) (h_int : Part.int ∈ qs) (h_rcd : Part.rcd ∈ qs) :
    Laws.mask qs (recordRaw d fault code source flags p0 p1 p2 p3) = Laws.mask qs d := by
  simp [recordRaw, *]
@[simp] theorem Laws.mask_record (qs : List Part) (d : Dev) (code source : Nat) (mark : Bool) (p0 p1 p2 p3 : Nat) (h_int : Part.int ∈ qs) (h_rcd : Part.rcd ∈ qs) :
    Laws.mask qs (record d code source mark p0 p1 p2 p3) = Laws.mask qs d := by
  simp [record, *]
@[simp] theorem Laws.mask_recordN (qs : List Part) (d : Dev) (code source : Nat) (ps : List Nat) (h_clk : Part.clk ∈ qs) (h_int : Part.int ∈ qs) (h_rcd : Part.rcd ∈ qs) :
    Laws.mask qs (recordN d code source ps) = Laws.mask qs d := by
  simp [recordN, *]
@[simp] theorem Laws.mask_statusLine (qs : List Part) (d : Dev) (h_out : Part.out ∈ qs) :
    Laws.mask qs (statusLine d) = Laws.mask qs d := by
  simp [statusLine, *]
@[simp] theorem Laws.mask_capPut (qs : List Part) (d : Dev) (stamp : Nat) (r : CapRec) (h_cap : Part.cap ∈ qs) (h_out : Part.out ∈ qs) :
    Laws.mask qs (capPut d stamp r) = Laws.mask qs d := by
  simp [capPut, *]
@[simp] theorem Laws.mask_captureEnd (qs : List Part) (d : Dev) (reason : Nat) (h_clk : Part.clk ∈ qs) (h_int : Part.int ∈ qs) (h_rcd : Part.rcd ∈ qs) (h_cap : Part.cap ∈ qs) (h_capQueue : Part.capQueue ∈ qs) (h_out : Part.out ∈ qs) :
    Laws.mask qs (captureEnd d reason) = Laws.mask qs d := by
  simp [captureEnd, *]
@[simp] theorem Laws.mask_capDrain (qs : List Part) (rs : List (Nat × CapRec)) (d : Dev) (h_cap : Part.cap ∈ qs) (h_capQueue : Part.capQueue ∈ qs) (h_out : Part.out ∈ qs) :
    Laws.mask qs (capDrain d rs) = Laws.mask qs d := by
  induction rs generalizing d with
  | nil => simp [capDrain, *]
  | cons r rs ih => simp only [capDrain, Laws.mask_ite, ih, Laws.mask_capPut, Laws.mask_capQueue, ite_self, *]
@[simp] theorem Laws.mask_stream (qs : List Part) (d : Dev) (stamp : Nat) (r : CapRec) (h_clk : Part.clk ∈ qs) (h_flt : Part.flt ∈ qs) (h_int : Part.int ∈ qs) (h_rcd : Part.rcd ∈ qs) (h_cap : Part.cap ∈ qs) (h_capQueue : Part.capQueue ∈ qs) (h_out : Part.out ∈ qs) :
    Laws.mask qs (stream d stamp r) = Laws.mask qs d := by
  simp only [stream, Laws.mask_ite, Laws.mask_detect, Laws.mask_captureEnd, Laws.mask_w_cap_capQueue, Laws.mask_capDrain, Laws.mask_cap, ite_self, *]
@[simp] theorem Laws.mask_streamDue (qs : List Part) (d : Dev) (h_clk : Part.clk ∈ qs) (h_flt : Part.flt ∈ qs) (h_int : Part.int ∈ qs) (h_rcd : Part.rcd ∈ qs) (h_cap : Part.cap ∈ qs) (h_capQueue : Part.capQueue ∈ qs) (h_out : Part.out ∈ qs) :
    Laws.mask qs (streamDue d) = Laws.mask qs d := by
  simp [streamDue, *]
@[simp] theorem Laws.mask_replayPut (qs : List Part) (d : Dev) (stamp type info : Nat) (payload : List Nat) (h_cap : Part.cap ∈ qs) (h_out : Part.out ∈ qs) :
    Laws.mask qs (replayPut d stamp type info payload) = Laws.mask qs d := by
  simp [replayPut, *]
@[simp] theorem Laws.mask_replayEnd (qs : List Part) (d : Dev) (result : Nat) (h_clk : Part.clk ∈ qs) (h_int : Part.int ∈ qs) (h_rcd : Part.rcd ∈ qs) (h_cap : Part.cap ∈ qs) (h_out : Part.out ∈ qs) :
    Laws.mask qs (replayEnd d result) = Laws.mask qs d := by
  simp [replayEnd, *]
@[simp] theorem Laws.mask_mapJournal (qs : List Part) (d : Dev) (f : List Entry → List Entry) (h_jr : Part.jr ∈ qs) :
    Laws.mask qs (mapJournal d f) = Laws.mask qs d := by
  simp [mapJournal, *]
@[simp] theorem Laws.mask_updEntry (qs : List Part) (d : Dev) (e : Nat) (f : Entry → Entry) (h_jr : Part.jr ∈ qs) :
    Laws.mask qs (updEntry d e f) = Laws.mask qs d := by
  simp [updEntry, *]
@[simp] theorem Laws.mask_dropEntry (qs : List Part) (d : Dev) (e : Nat) (h_jr : Part.jr ∈ qs) :
    Laws.mask qs (dropEntry d e) = Laws.mask qs d := by
  simp [dropEntry, *]
@[simp] theorem Laws.mask_mpFinish (qs : List Part) (d : Dev) (e : Nat) (st : Status) (frm dest : Nat) (h_int : Part.int ∈ qs) (h_mp : Part.mp ∈ qs) :
    Laws.mask qs (mpFinish d e st frm dest) = Laws.mask qs d := by
  simp [mpFinish, *]
@[simp] theorem Laws.mask_pushCpl (qs : List Part) (d : Dev) (x : Entry) (c : Cpl) (h_jr : Part.jr ∈ qs) (h_out : Part.out ∈ qs) (h_fretOut : Part.fretOut ∈ qs) :
    Laws.mask qs (pushCpl d x c) = Laws.mask qs d := by
  simp [pushCpl, *]
@[simp] theorem Laws.mask_commitEntry (qs : List Part) (d : Dev) (e : Nat) (h_jr : Part.jr ∈ qs) :
    Laws.mask qs (commitEntry d e) = Laws.mask qs d := by
  simp [commitEntry, *]
@[simp] theorem Laws.mask_commitFinal (qs : List Part) (d : Dev) (x : Entry) (st : Status) (h_jr : Part.jr ∈ qs) :
    Laws.mask qs (commitFinal d x st) = Laws.mask qs d := by
  simp [commitFinal, *]
@[simp] theorem Laws.mask_finishWith (qs : List Part) (d : Dev) (e : Nat) (st : Status) (effect detail : Nat) (f : Cpl → Cpl) (h_jr : Part.jr ∈ qs) (h_int : Part.int ∈ qs) (h_mp : Part.mp ∈ qs) (h_out : Part.out ∈ qs) (h_fretOut : Part.fretOut ∈ qs) :
    Laws.mask qs (finishWith d e st effect detail f) = Laws.mask qs d := by
  unfold finishWith
  (repeat' split) <;> simp [*]
@[simp] theorem Laws.mask_finish (qs : List Part) (d : Dev) (e : Nat) (st : Status) (effect detail : Nat) (h_jr : Part.jr ∈ qs) (h_int : Part.int ∈ qs) (h_mp : Part.mp ∈ qs) (h_out : Part.out ∈ qs) (h_fretOut : Part.fretOut ∈ qs) :
    Laws.mask qs (finish d e st effect detail) = Laws.mask qs d := by
  simp [finish, *]
@[simp] theorem Laws.mask_finishNow (qs : List Part) (d : Dev) (e : Nat) (st : Status) (detail : Nat) (h_jr : Part.jr ∈ qs) (h_int : Part.int ∈ qs) (h_mp : Part.mp ∈ qs) (h_out : Part.out ∈ qs) (h_fretOut : Part.fretOut ∈ qs) :
    Laws.mask qs (finishNow d e st detail) = Laws.mask qs d := by
  simp [finishNow, *]
@[simp] theorem Laws.mask_dropAwaiting (qs : List Part) (d : Dev) (h_jr : Part.jr ∈ qs) (h_int : Part.int ∈ qs) (h_cap : Part.cap ∈ qs) (h_mp : Part.mp ∈ qs) (h_out : Part.out ∈ qs) (h_fretOut : Part.fretOut ∈ qs) :
    Laws.mask qs (dropAwaiting d) = Laws.mask qs d := by
  unfold dropAwaiting
  repeat' (first | (simp [*]; done) | (simp [Laws.mask, *]; done) | dsimp only | split | (simp only [Laws.mask_ite]; split))
@[simp] theorem Laws.mask_endCapture (qs : List Part) (d : Dev) (reason : Nat) (h_clk : Part.clk ∈ qs) (h_jr : Part.jr ∈ qs) (h_flt : Part.flt ∈ qs) (h_int : Part.int ∈ qs) (h_rcd : Part.rcd ∈ qs) (h_cap : Part.cap ∈ qs) (h_capQueue : Part.capQueue ∈ qs) (h_mp : Part.mp ∈ qs) (h_out : Part.out ∈ qs) (h_fretOut : Part.fretOut ∈ qs) :
    Laws.mask qs (endCapture d reason) = Laws.mask qs d := by
  simp [endCapture, *]
@[simp] theorem Laws.mask_admission (qs : List Part) (d : Dev) (e : Nat) (st : Status) (effect detail : Nat) (pre retry : Bool) (h_jr : Part.jr ∈ qs) (h_out : Part.out ∈ qs) (h_fretOut : Part.fretOut ∈ qs) :
    Laws.mask qs (admission d e st effect detail pre retry) = Laws.mask qs d := by
  unfold admission
  (repeat' split) <;> simp [*]
@[simp] theorem Laws.mask_updTail (qs : List Part) (d : Dev) (n : Nat) (f : Tail → Tail) (h_jr : Part.jr ∈ qs) :
    Laws.mask qs (updTail d n f) = Laws.mask qs d := by
  simp [updTail, *]
@[simp] theorem Laws.mask_setLive (qs : List Part) (d : Dev) (b : Bank) (h_fb : Part.fb ∈ qs) :
    Laws.mask qs (setLive d b) = Laws.mask qs d := by
  simp [setLive, *]
@[simp] theorem Laws.mask_setShadow (qs : List Part) (d : Dev) (b : Bank) (h_fb : Part.fb ∈ qs) :
    Laws.mask qs (setShadow d b) = Laws.mask qs d := by
  simp [setShadow, *]
@[simp] theorem Laws.mask_repredict (qs : List Part) (d : Dev) (h_fb : Part.fb ∈ qs) :
    Laws.mask qs (repredict d) = Laws.mask qs d := by
  simp [repredict, *]
@[simp] theorem Laws.mask_writeTested (qs : List Part) (d : Dev) (ts : List Tested) (h_fb : Part.fb ∈ qs) :
    Laws.mask qs (writeTested d ts) = Laws.mask qs d := by
  simp [writeTested, *]
@[simp] theorem Laws.mask_mirror (qs : List Part) (d : Dev) (h_fb : Part.fb ∈ qs) :
    Laws.mask qs (mirror d) = Laws.mask qs d := by
  simp [mirror, *]
@[simp] theorem Laws.mask_removeCells (qs : List Part) (d : Dev) (r : Resv) (f0 : Nat) (h_fb : Part.fb ∈ qs) :
    Laws.mask qs (removeCells d r f0) = Laws.mask qs d := by
  simp [removeCells, *]
@[simp] theorem Laws.mask_endResv (qs : List Part) (d : Dev) (r : Resv) (st : Status) (effect : Nat) (replaced : Bool) (h_jr : Part.jr ∈ qs) (h_fb : Part.fb ∈ qs) (h_int : Part.int ∈ qs) (h_mp : Part.mp ∈ qs) (h_out : Part.out ∈ qs) (h_fretOut : Part.fretOut ∈ qs) :
    Laws.mask qs (endResv d r st effect replaced) = Laws.mask qs d := by
  unfold endResv
  repeat' (first | (simp [*]; done) | (simp [Laws.mask, *]; done) | dsimp only | split | (simp only [Laws.mask_ite]; split))
@[simp] theorem Laws.mask_cutResv (qs : List Part) (d : Dev) (r : Resv) (st : Status) (f0 effect : Nat) (h_jr : Part.jr ∈ qs) (h_fb : Part.fb ∈ qs) (h_int : Part.int ∈ qs) (h_mp : Part.mp ∈ qs) (h_out : Part.out ∈ qs) (h_fretOut : Part.fretOut ∈ qs) :
    Laws.mask qs (cutResv d r st f0 effect) = Laws.mask qs d := by
  simp [cutResv, *]
@[simp] theorem Laws.mask_endStringResv (qs : List Part) (d : Dev) (k : Nat) (st : Status) (h_jr : Part.jr ∈ qs) (h_fb : Part.fb ∈ qs) (h_int : Part.int ∈ qs) (h_mp : Part.mp ∈ qs) (h_out : Part.out ∈ qs) (h_fretOut : Part.fretOut ∈ qs) :
    Laws.mask qs (endStringResv d k st) = Laws.mask qs d := by
  simp [endStringResv, *]
@[simp] theorem Laws.mask_clearPlans (qs : List Part) (d : Dev) (f0 : Nat) (h_fb : Part.fb ∈ qs) :
    Laws.mask qs (clearPlans d f0) = Laws.mask qs d := by
  simp [clearPlans, *]
@[simp] theorem Laws.mask_discardShadow (qs : List Part) (d : Dev) (h_fb : Part.fb ∈ qs) :
    Laws.mask qs (discardShadow d) = Laws.mask qs d := by
  unfold discardShadow
  (repeat' split) <;> simp [*]
@[simp] theorem Laws.mask_endFingerboard (qs : List Part) (d : Dev) (st : Status) (h_jr : Part.jr ∈ qs) (h_fb : Part.fb ∈ qs) (h_int : Part.int ∈ qs) (h_mp : Part.mp ∈ qs) (h_out : Part.out ∈ qs) (h_fretOut : Part.fretOut ∈ qs) :
    Laws.mask qs (endFingerboard d st) = Laws.mask qs d := by
  unfold endFingerboard
  (repeat' split) <;> simp [*]
@[simp] theorem Laws.mask_clampBegins (qs : List Part) (d : Dev) (k first : Nat) (h_fb : Part.fb ∈ qs) (h_str : Part.str ∈ qs) (h_int : Part.int ∈ qs) (h_rcd : Part.rcd ∈ qs) :
    Laws.mask qs (clampBegins d k first) = Laws.mask qs d := by
  simp [clampBegins, *]
@[simp] theorem Laws.mask_noteDerated (qs : List Part) (d : Dev) (k : Nat) (h_str : Part.str ∈ qs) (h_flt : Part.flt ∈ qs) :
    Laws.mask qs (noteDerated d k) = Laws.mask qs d := by
  simp [noteDerated, *]
@[simp] theorem Laws.mask_capNext (qs : List Part) (d : Dev) (k i : Nat) (ovr : Bool) (h_str : Part.str ∈ qs) :
    Laws.mask qs (capNext d k i ovr) = Laws.mask qs d := by
  simp [capNext, *]
@[simp] theorem Laws.mask_moveCapo (qs : List Part) (d : Dev) (k capo : Nat) (h_fb : Part.fb ∈ qs) (h_str : Part.str ∈ qs) (h_int : Part.int ∈ qs) (h_rcd : Part.rcd ∈ qs) :
    Laws.mask qs (moveCapo d k capo) = Laws.mask qs d := by
  simp [moveCapo, *]
@[simp] theorem Laws.mask_setCapo (qs : List Part) (d : Dev) (k capo : Nat) (h_fb : Part.fb ∈ qs) (h_str : Part.str ∈ qs) (h_flt : Part.flt ∈ qs) (h_int : Part.int ∈ qs) (h_rcd : Part.rcd ∈ qs) :
    Laws.mask qs (setCapo d k capo) = Laws.mask qs d := by
  simp [setCapo, *]
@[simp] theorem Laws.mask_recapo (qs : List Part) (d : Dev) (k : Nat) (h_fb : Part.fb ∈ qs) (h_str : Part.str ∈ qs) (h_flt : Part.flt ∈ qs) (h_int : Part.int ∈ qs) (h_rcd : Part.rcd ∈ qs) :
    Laws.mask qs (recapo d k) = Laws.mask qs d := by
  simp [recapo, *]
@[simp] theorem Laws.mask_clearLoops (qs : List Part) (d : Dev) (k : Nat) (h_str : Part.str ∈ qs) (h_ph : Part.ph ∈ qs) :
    Laws.mask qs (clearLoops d k) = Laws.mask qs d := by
  simp [clearLoops, *]
@[simp] theorem Laws.mask_enableString (qs : List Part) (d : Dev) (k : Nat) (h_str : Part.str ∈ qs) (h_ph : Part.ph ∈ qs) :
    Laws.mask qs (enableString d k) = Laws.mask qs d := by
  simp [enableString, *]
@[simp] theorem Laws.mask_restPhases (qs : List Part) (d : Dev) (k : Nat) (h_fb : Part.fb ∈ qs) (h_str : Part.str ∈ qs) (h_ph : Part.ph ∈ qs) (h_flt : Part.flt ∈ qs) (h_int : Part.int ∈ qs) (h_rcd : Part.rcd ∈ qs) :
    Laws.mask qs (restPhases d k) = Laws.mask qs d := by
  simp [restPhases, *]
@[simp] theorem Laws.mask_dropDischarge (qs : List Part) (d : Dev) (k : Nat) (h_fb : Part.fb ∈ qs) (h_str : Part.str ∈ qs) (h_ph : Part.ph ∈ qs) (h_flt : Part.flt ∈ qs) (h_int : Part.int ∈ qs) (h_rcd : Part.rcd ∈ qs) :
    Laws.mask qs (dropDischarge d k) = Laws.mask qs d := by
  simp [dropDischarge, *]
@[simp] theorem Laws.mask_dropDischarges (qs : List Part) (d : Dev) (h_fb : Part.fb ∈ qs) (h_str : Part.str ∈ qs) (h_ph : Part.ph ∈ qs) (h_flt : Part.flt ∈ qs) (h_int : Part.int ∈ qs) (h_rcd : Part.rcd ∈ qs) :
    Laws.mask qs (dropDischarges d) = Laws.mask qs d := by
  simp [dropDischarges, *]
@[simp] theorem Laws.mask_safeString (qs : List Part) (d : Dev) (k : Nat) (h_fb : Part.fb ∈ qs) (h_str : Part.str ∈ qs) (h_ph : Part.ph ∈ qs) (h_flt : Part.flt ∈ qs) (h_int : Part.int ∈ qs) (h_rcd : Part.rcd ∈ qs) :
    Laws.mask qs (safeString d k) = Laws.mask qs d := by
  simp [safeString, *]
@[simp] theorem Laws.mask_retireString (qs : List Part) (d : Dev) (k code : Nat) (h_jr : Part.jr ∈ qs) (h_fb : Part.fb ∈ qs) (h_str : Part.str ∈ qs) (h_ph : Part.ph ∈ qs) (h_flt : Part.flt ∈ qs) (h_int : Part.int ∈ qs) (h_rcd : Part.rcd ∈ qs) (h_mp : Part.mp ∈ qs) (h_out : Part.out ∈ qs) (h_fretOut : Part.fretOut ∈ qs) :
    Laws.mask qs (retireString d k code) = Laws.mask qs d := by
  simp [retireString, *]
@[simp] theorem Laws.mask_courseLost (qs : List Part) (d : Dev) (k p : Nat) (h_jr : Part.jr ∈ qs) (h_fb : Part.fb ∈ qs) (h_str : Part.str ∈ qs) (h_ph : Part.ph ∈ qs) (h_flt : Part.flt ∈ qs) (h_int : Part.int ∈ qs) (h_rcd : Part.rcd ∈ qs) (h_mp : Part.mp ∈ qs) (h_out : Part.out ∈ qs) (h_fretOut : Part.fretOut ∈ qs) :
    Laws.mask qs (courseLost d k p) = Laws.mask qs d := by
  simp [courseLost, *]
@[simp] theorem Laws.mask_retirePhase (qs : List Part) (d : Dev) (p cause code : Nat) (h_jr : Part.jr ∈ qs) (h_fb : Part.fb ∈ qs) (h_str : Part.str ∈ qs) (h_ph : Part.ph ∈ qs) (h_flt : Part.flt ∈ qs) (h_int : Part.int ∈ qs) (h_rcd : Part.rcd ∈ qs) (h_mp : Part.mp ∈ qs) (h_out : Part.out ∈ qs) (h_fretOut : Part.fretOut ∈ qs) :
    Laws.mask qs (retirePhase d p cause code) = Laws.mask qs d := by
  unfold retirePhase
  repeat' (first | (simp [*]; done) | (simp [Laws.mask, *]; done) | dsimp only | split | (simp only [Laws.mask_ite]; split))
@[simp] theorem Laws.mask_hiccup (qs : List Part) (d : Dev) (k value : Nat) (h_jr : Part.jr ∈ qs) (h_fb : Part.fb ∈ qs) (h_str : Part.str ∈ qs) (h_ph : Part.ph ∈ qs) (h_flt : Part.flt ∈ qs) (h_int : Part.int ∈ qs) (h_rcd : Part.rcd ∈ qs) (h_mp : Part.mp ∈ qs) (h_out : Part.out ∈ qs) (h_fretOut : Part.fretOut ∈ qs) :
    Laws.mask qs (hiccup d k value) = Laws.mask qs d := by
  simp [hiccup, *]
@[simp] theorem Laws.mask_retryString (qs : List Part) (d : Dev) (k : Nat) (h_str : Part.str ∈ qs) (h_ph : Part.ph ∈ qs) :
    Laws.mask qs (retryString d k) = Laws.mask qs d := by
  simp [retryString, *]
@[simp] theorem Laws.mask_trainLink (qs : List Part) (d : Dev) (k : Nat) (h_lk : Part.lk ∈ qs) :
    Laws.mask qs (trainLink d k) = Laws.mask qs d := by
  simp [trainLink, *]
@[simp] theorem Laws.mask_trainLinks (qs : List Part) (d : Dev) (ks : List Nat) (h_lk : Part.lk ∈ qs) :
    Laws.mask qs (trainLinks d ks) = Laws.mask qs d := by
  simp [trainLinks, *]
@[simp] theorem Laws.mask_suspendTests (qs : List Part) (d : Dev) (k : Nat) (h_ph : Part.ph ∈ qs) :
    Laws.mask qs (suspendTests d k) = Laws.mask qs d := by
  simp [suspendTests, *]
@[simp] theorem Laws.mask_recoverLink (qs : List Part) (d : Dev) (k value : Nat) (h_fb : Part.fb ∈ qs) (h_str : Part.str ∈ qs) (h_ph : Part.ph ∈ qs) (h_lk : Part.lk ∈ qs) (h_flt : Part.flt ∈ qs) (h_int : Part.int ∈ qs) (h_rcd : Part.rcd ∈ qs) :
    Laws.mask qs (recoverLink d k value) = Laws.mask qs d := by
  simp [recoverLink, *]
@[simp] theorem Laws.mask_lostSlot (qs : List Part) (d : Dev) (k : Nat) (down inj : Bool) (h_lk : Part.lk ∈ qs) (h_flt : Part.flt ∈ qs) :
    Laws.mask qs (lostSlot d k down inj) = Laws.mask qs d := by
  simp [lostSlot, *]
@[simp] theorem Laws.mask_resetRegions (qs : List Part) (d : Dev) (lo : Nat) (h_str : Part.str ∈ qs) (h_ph : Part.ph ∈ qs) (h_lk : Part.lk ∈ qs) :
    Laws.mask qs (resetRegions d lo) = Laws.mask qs d := by
  simp [resetRegions, *]
@[simp] theorem Laws.mask_settleKinds (qs : List Part) (d : Dev) (h_fb : Part.fb ∈ qs) (h_str : Part.str ∈ qs) (h_flt : Part.flt ∈ qs) (h_int : Part.int ∈ qs) (h_rcd : Part.rcd ∈ qs) :
    Laws.mask qs (settleKinds d) = Laws.mask qs d := by
  simp [settleKinds, *]
@[simp] theorem Laws.mask_recomputePin (qs : List Part) (d : Dev) (h_fb : Part.fb ∈ qs) :
    Laws.mask qs (recomputePin d) = Laws.mask qs d := by
  simp [recomputePin, *]
@[simp] theorem Laws.mask_followRide (qs : List Part) (d : Dev) (h_mm : Part.mm ∈ qs) (h_chg : Part.chg ∈ qs) (h_int : Part.int ∈ qs) :
    Laws.mask qs (followRide d) = Laws.mask qs d := by
  simp [followRide, *]
@[simp] theorem Laws.mask_chargerRecord (qs : List Part) (d : Dev) (code p0 p1 p2 : Nat) (h_int : Part.int ∈ qs) (h_rcd : Part.rcd ∈ qs) :
    Laws.mask qs (chargerRecord d code p0 p1 p2) = Laws.mask qs d := by
  simp [chargerRecord, *]
@[simp] theorem Laws.mask_chargerFault (qs : List Part) (d : Dev) (code : Nat) (h_flt : Part.flt ∈ qs) :
    Laws.mask qs (chargerFault d code) = Laws.mask qs d := by
  simp [chargerFault, *]
@[simp] theorem Laws.mask_packOff (qs : List Part) (d : Dev) (h_str : Part.str ∈ qs) (h_ph : Part.ph ∈ qs) :
    Laws.mask qs (packOff d) = Laws.mask qs d := by
  simp [packOff, *]
@[simp] theorem Laws.mask_packFollow (qs : List Part) (d : Dev) (h_str : Part.str ∈ qs) (h_ph : Part.ph ∈ qs) :
    Laws.mask qs (packFollow d) = Laws.mask qs d := by
  simp [packFollow, *]
@[simp] theorem Laws.mask_setCharger (qs : List Part) (d : Dev) (s : CState) (h_str : Part.str ∈ qs) (h_ph : Part.ph ∈ qs) (h_chg : Part.chg ∈ qs) :
    Laws.mask qs (setCharger d s) = Laws.mask qs d := by
  simp [setCharger, *]
@[simp] theorem Laws.mask_enterQualify (qs : List Part) (d : Dev) (h_str : Part.str ∈ qs) (h_ph : Part.ph ∈ qs) (h_chg : Part.chg ∈ qs) :
    Laws.mask qs (enterQualify d) = Laws.mask qs d := by
  simp [enterQualify, *]
@[simp] theorem Laws.mask_followCharger (qs : List Part) (d : Dev) (h_str : Part.str ∈ qs) (h_ph : Part.ph ∈ qs) (h_chg : Part.chg ∈ qs) :
    Laws.mask qs (followCharger d) = Laws.mask qs d := by
  simp [followCharger, *]
@[simp] theorem Laws.mask_setHrst (qs : List Part) (d : Dev) (f : Pins → Pins) (h_pins : Part.pins ∈ qs) (h_out : Part.out ∈ qs) :
    Laws.mask qs (setHrst d f) = Laws.mask qs d := by
  simp [setHrst, *]
@[simp] theorem Laws.mask_dropTimed (qs : List Part) (d : Dev) (e : Nat) (h_cfg : Part.cfg ∈ qs) (h_str : Part.str ∈ qs) (h_cap : Part.cap ∈ qs) :
    Laws.mask qs (dropTimed d e) = Laws.mask qs d := by
  unfold dropTimed
  repeat' (first | (simp [*]; done) | (simp [Laws.mask, *]; done) | dsimp only | split | (simp only [Laws.mask_ite]; split))
@[simp] theorem Laws.mask_endTimed (qs : List Part) (d : Dev) (x : Entry) (st : Status) (effect : Nat) (h_cfg : Part.cfg ∈ qs) (h_jr : Part.jr ∈ qs) (h_str : Part.str ∈ qs) (h_int : Part.int ∈ qs) (h_cap : Part.cap ∈ qs) (h_mp : Part.mp ∈ qs) (h_out : Part.out ∈ qs) (h_fretOut : Part.fretOut ∈ qs) :
    Laws.mask qs (endTimed d x st effect) = Laws.mask qs d := by
  simp [endTimed, *]
@[simp] theorem Laws.mask_endAllTimed (qs : List Part) (d : Dev) (st : Status) (h_cfg : Part.cfg ∈ qs) (h_jr : Part.jr ∈ qs) (h_fb : Part.fb ∈ qs) (h_str : Part.str ∈ qs) (h_int : Part.int ∈ qs) (h_cap : Part.cap ∈ qs) (h_mp : Part.mp ∈ qs) (h_out : Part.out ∈ qs) (h_fretOut : Part.fretOut ∈ qs) :
    Laws.mask qs (endAllTimed d st) = Laws.mask qs d := by
  simp [endAllTimed, *]
@[simp] theorem Laws.mask_endPending (qs : List Part) (d : Dev) (st : Status) (frm : Mode) (h_mm : Part.mm ∈ qs) (h_jr : Part.jr ∈ qs) (h_int : Part.int ∈ qs) (h_mp : Part.mp ∈ qs) (h_out : Part.out ∈ qs) (h_fretOut : Part.fretOut ∈ qs) :
    Laws.mask qs (endPending d st frm) = Laws.mask qs d := by
  unfold endPending
  (repeat' split) <;> simp [*]
@[simp] theorem Laws.mask_allSafe (qs : List Part) (d : Dev) (keepSafety : Bool) (h_fb : Part.fb ∈ qs) (h_str : Part.str ∈ qs) (h_ph : Part.ph ∈ qs) (h_flt : Part.flt ∈ qs) (h_int : Part.int ∈ qs) (h_rcd : Part.rcd ∈ qs) :
    Laws.mask qs (allSafe d keepSafety) = Laws.mask qs d := by
  simp [allSafe, *]
@[simp] theorem Laws.mask_droneAllot (qs : List Part) (d : Dev) (h_str : Part.str ∈ qs) :
    Laws.mask qs (droneAllot d) = Laws.mask qs d := by
  simp [droneAllot, *]
@[simp] theorem Laws.mask_followNalive (qs : List Part) (d : Dev) (h_flt : Part.flt ∈ qs) (h_out : Part.out ∈ qs) :
    Laws.mask qs (followNalive d) = Laws.mask qs d := by
  simp [followNalive, *]
@[simp] theorem Laws.mask_updRail (qs : List Part) (d : Dev) (r : Nat) (f : Rail → Rail) (h_seq : Part.seq ∈ qs) :
    Laws.mask qs (updRail d r f) = Laws.mask qs d := by
  simp [updRail, *]
@[simp] theorem Laws.mask_seqRecord (qs : List Part) (d : Dev) (code table step : Nat) (h_clk : Part.clk ∈ qs) (h_int : Part.int ∈ qs) (h_rcd : Part.rcd ∈ qs) :
    Laws.mask qs (seqRecord d code table step) = Laws.mask qs d := by
  simp [seqRecord, *]
@[simp] theorem Laws.mask_dischargeRecord (qs : List Part) (d : Dev) (table step : Nat) (h_clk : Part.clk ∈ qs) (h_seq : Part.seq ∈ qs) (h_int : Part.int ∈ qs) (h_rcd : Part.rcd ∈ qs) :
    Laws.mask qs (dischargeRecord d table step) = Laws.mask qs d := by
  simp [dischargeRecord, *]
@[simp] theorem Laws.mask_setRun (qs : List Part) (d : Dev) (r : Run) (h_seq : Part.seq ∈ qs) :
    Laws.mask qs (setRun d r) = Laws.mask qs d := by
  simp [setRun, *]
@[simp] theorem Laws.mask_clearRun (qs : List Part) (d : Dev) (h_seq : Part.seq ∈ qs) :
    Laws.mask qs (clearRun d) = Laws.mask qs d := by
  simp [clearRun, *]
@[simp] theorem Laws.mask_endRequest (qs : List Part) (d : Dev) (r : Run) (st : Status) (frm dest : Mode) (h_jr : Part.jr ∈ qs) (h_int : Part.int ∈ qs) (h_mp : Part.mp ∈ qs) (h_out : Part.out ∈ qs) (h_fretOut : Part.fretOut ∈ qs) :
    Laws.mask qs (endRequest d r st frm dest) = Laws.mask qs d := by
  unfold endRequest
  (repeat' split) <;> simp [*]
@[simp] theorem Laws.mask_done (qs : List Part) (d : Dev) (x : Entry) (detail : Nat) (h_jr : Part.jr ∈ qs) (h_int : Part.int ∈ qs) (h_mp : Part.mp ∈ qs) (h_out : Part.out ∈ qs) (h_fretOut : Part.fretOut ∈ qs) :
    Laws.mask qs (done d x detail) = Laws.mask qs d := by
  simp [done, *]
@[simp] theorem Laws.mask_report (qs : List Part) (d : Dev) (fail done : Bool) (h_seq : Part.seq ∈ qs) :
    Laws.mask qs (report d fail done) = Laws.mask qs d := by
  simp [report, *]
@[simp] theorem Laws.mask_countMissed (qs : List Part) (d : Dev) (h_jr : Part.jr ∈ qs) :
    Laws.mask qs (countMissed d) = Laws.mask qs d := by
  simp [countMissed, *]
@[simp] theorem Laws.mask_countAgain (qs : List Part) (d : Dev) (h_jr : Part.jr ∈ qs) :
    Laws.mask qs (countAgain d) = Laws.mask qs d := by
  simp [countAgain, *]
@[simp] theorem Laws.mask_acceptAgain (qs : List Part) (d : Dev) (e : Nat) (h_jr : Part.jr ∈ qs) :
    Laws.mask qs (acceptAgain d e) = Laws.mask qs d := by
  simp [acceptAgain, *]
@[simp] theorem Laws.mask_restoreEntry (qs : List Part) (d : Dev) (x : Entry) (h_jr : Part.jr ∈ qs) (h_int : Part.int ∈ qs) (h_mp : Part.mp ∈ qs) (h_out : Part.out ∈ qs) (h_fretOut : Part.fretOut ∈ qs) :
    Laws.mask qs (restoreEntry d x) = Laws.mask qs d := by
  unfold restoreEntry
  (repeat' split) <;> simp [*]
@[simp] theorem Laws.mask_restoreEntries (qs : List Part) (d : Dev) (h_jr : Part.jr ∈ qs) (h_int : Part.int ∈ qs) (h_mp : Part.mp ∈ qs) (h_out : Part.out ∈ qs) (h_fretOut : Part.fretOut ∈ qs) :
    Laws.mask qs (restoreEntries d) = Laws.mask qs d := by
  simp [restoreEntries, *]
@[simp] theorem Laws.mask_updSrc (qs : List Part) (d : Dev) (code : Nat) (f : Source → Source) (h_flt : Part.flt ∈ qs) :
    Laws.mask qs (updSrc d code f) = Laws.mask qs d := by
  simp [updSrc, *]
@[simp] theorem Laws.mask_faultRecord (qs : List Part) (d : Dev) (i : SrcInfo) (f : FaultIn) (r : Reaction) (h_flt : Part.flt ∈ qs) (h_int : Part.int ∈ qs) (h_rcd : Part.rcd ∈ qs) :
    Laws.mask qs (faultRecord d i f r) = Laws.mask qs d := by
  simp [faultRecord, *]
@[simp] theorem Laws.mask_clearRecord (qs : List Part) (d : Dev) (i : SrcInfo) (code first : Nat) (h_int : Part.int ∈ qs) (h_rcd : Part.rcd ∈ qs) :
    Laws.mask qs (clearRecord d i code first) = Laws.mask qs d := by
  simp [clearRecord, *]
@[simp] theorem Laws.mask_statusCleared (qs : List Part) (d : Dev) (i : SrcInfo) (code : Nat) (h_pins : Part.pins ∈ qs) (h_flt : Part.flt ∈ qs) (h_int : Part.int ∈ qs) (h_rcd : Part.rcd ∈ qs) (h_out : Part.out ∈ qs) :
    Laws.mask qs (statusCleared d i code) = Laws.mask qs d := by
  unfold statusCleared
  (repeat' split) <;> simp [*]
@[simp] theorem Laws.mask_clearStatus (qs : List Part) (d : Dev) (held : List Nat) (code : Nat) (h_pins : Part.pins ∈ qs) (h_flt : Part.flt ∈ qs) (h_int : Part.int ∈ qs) (h_rcd : Part.rcd ∈ qs) (h_out : Part.out ∈ qs) :
    Laws.mask qs (clearStatus d held code) = Laws.mask qs d := by
  unfold clearStatus
  (repeat' split) <;> simp [*]
@[simp] theorem Laws.mask_reinstateRegion (qs : List Part) (d : Dev) (r : Nat) (h_lk : Part.lk ∈ qs) (h_flt : Part.flt ∈ qs) :
    Laws.mask qs (reinstateRegion d r) = Laws.mask qs d := by
  simp [reinstateRegion, *]
@[simp] theorem Laws.mask_updSub (qs : List Part) (d : Dev) (n : Nat) (f : SubRing → SubRing) (h_ring : Part.ring ∈ qs) :
    Laws.mask qs (updSub d n f) = Laws.mask qs d := by
  simp [updSub, *]
@[simp] theorem Laws.mask_updCpl (qs : List Part) (d : Dev) (m : Nat) (f : CplRing → CplRing) (h_ring : Part.ring ∈ qs) :
    Laws.mask qs (updCpl d m f) = Laws.mask qs d := by
  simp [updCpl, *]
@[simp] theorem Laws.mask_writeStateBlock (qs : List Part) (d : Dev) (b : Nat) (h_ring : Part.ring ∈ qs) (h_out : Part.out ∈ qs) :
    Laws.mask qs (writeStateBlock d b) = Laws.mask qs d := by
  simp [writeStateBlock, *]
@[simp] theorem Laws.mask_writeAcceptBlock (qs : List Part) (d : Dev) (b : Nat) (h_ring : Part.ring ∈ qs) (h_out : Part.out ∈ qs) :
    Laws.mask qs (writeAcceptBlock d b) = Laws.mask qs d := by
  simp [writeAcceptBlock, *]
@[simp] theorem Laws.mask_followState (qs : List Part) (d : Dev) (h_ring : Part.ring ∈ qs) (h_out : Part.out ∈ qs) :
    Laws.mask qs (followState d) = Laws.mask qs d := by
  simp [followState, *]
@[simp] theorem Laws.mask_message (qs : List Part) (d : Dev) (t : Nat) (now became : Bool) (h_pci : Part.pci ∈ qs) (h_out : Part.out ∈ qs) :
    Laws.mask qs (message d t now became) = Laws.mask qs d := by
  simp [message, *]
@[simp] theorem Laws.mask_intLine (qs : List Part) (d : Dev) (t : Nat) (now was : Bool) (h_out : Part.out ∈ qs) :
    Laws.mask qs (intLine d t now was) = Laws.mask qs d := by
  simp [intLine, *]
@[simp] theorem Laws.mask_followInt (qs : List Part) (d : Dev) (h_pci : Part.pci ∈ qs) (h_int : Part.int ∈ qs) (h_out : Part.out ∈ qs) :
    Laws.mask qs (followInt d) = Laws.mask qs d := by
  simp [followInt, *]
@[simp] theorem Laws.mask_retell (qs : List Part) (d : Dev) (t : Nat) (h_int : Part.int ∈ qs) :
    Laws.mask qs (retell d t) = Laws.mask qs d := by
  simp [retell, *]
@[simp] theorem Laws.mask_settle (qs : List Part) (d : Dev) (h_pci : Part.pci ∈ qs) (h_ring : Part.ring ∈ qs) (h_str : Part.str ∈ qs) (h_ph : Part.ph ∈ qs) (h_chg : Part.chg ∈ qs) (h_int : Part.int ∈ qs) (h_out : Part.out ∈ qs) :
    Laws.mask qs (settle d) = Laws.mask qs d := by
  simp [settle, *]
@[simp] theorem Laws.mask_answer (qs : List Part) (d : Dev) (v : Nat) (h_bus : Part.bus ∈ qs) :
    Laws.mask qs (answer d v) = Laws.mask qs d := by
  simp [answer, *]
@[simp] theorem Laws.mask_claimRead (qs : List Part) (d : Dev) (t : Nat) (h_int : Part.int ∈ qs) (h_bus : Part.bus ∈ qs) :
    Laws.mask qs (claimRead d t) = Laws.mask qs d := by
  simp [claimRead, *]
@[simp] theorem Laws.mask_writeGlobal (qs : List Part) (d : Dev) (on : Bool) (h_cfg : Part.cfg ∈ qs) :
    Laws.mask qs (writeGlobal d on) = Laws.mask qs d := by
  simp [writeGlobal, *]
@[simp] theorem Laws.mask_updTmr (qs : List Part) (d : Dev) (t : Nat) (f : Timer → Timer) (h_tmr : Part.tmr ∈ qs) :
    Laws.mask qs (updTmr d t f) = Laws.mask qs d := by
  simp [updTmr, *]
@[simp] theorem Laws.mask_tmrMatch (qs : List Part) (d : Dev) (t : Nat) (h_int : Part.int ∈ qs) (h_tmr : Part.tmr ∈ qs) :
    Laws.mask qs (tmrMatch d t) = Laws.mask qs d := by
  simp [tmrMatch, *]
@[simp] theorem Laws.mask_writeTmrControl (qs : List Part) (d : Dev) (t : Nat) (v : Word) (h_tmr : Part.tmr ∈ qs) :
    Laws.mask qs (writeTmrControl d t v) = Laws.mask qs d := by
  simp [writeTmrControl, *]
@[simp] theorem Laws.mask_writeTmrCount (qs : List Part) (d : Dev) (t : Nat) (v : Word) (h_tmr : Part.tmr ∈ qs) :
    Laws.mask qs (writeTmrCount d t v) = Laws.mask qs d := by
  simp [writeTmrCount, *]
@[simp] theorem Laws.mask_writeTmrCompare (qs : List Part) (d : Dev) (t : Nat) (v : Word) (h_int : Part.int ∈ qs) (h_tmr : Part.tmr ∈ qs) :
    Laws.mask qs (writeTmrCompare d t v) = Laws.mask qs d := by
  simp [writeTmrCompare, *]
@[simp] theorem Laws.mask_readTmrCapture (qs : List Part) (d : Dev) (t : Nat) (h_tmr : Part.tmr ∈ qs) (h_bus : Part.bus ∈ qs) :
    Laws.mask qs (readTmrCapture d t) = Laws.mask qs d := by
  unfold readTmrCapture
  (repeat' split) <;> first | (simp [*]; done) | simp [Laws.mask, *]
@[simp] theorem Laws.mask_assertHrst (qs : List Part) (d : Dev) (us : Nat) (h_pins : Part.pins ∈ qs) (h_out : Part.out ∈ qs) :
    Laws.mask qs (assertHrst d us) = Laws.mask qs d := by
  simp [assertHrst, *]
@[simp] theorem Laws.mask_expire (qs : List Part) (d : Dev) (kept : List Word) (h_pins : Part.pins ∈ qs) (h_mm : Part.mm ∈ qs) (h_wd : Part.wd ∈ qs) (h_out : Part.out ∈ qs) :
    Laws.mask qs (expire d kept) = Laws.mask qs d := by
  simp [expire, *]
@[simp] theorem Laws.mask_writeWdSetup (qs : List Part) (d : Dev) (v : Word) (h_wd : Part.wd ∈ qs) :
    Laws.mask qs (writeWdSetup d v) = Laws.mask qs d := by
  simp [writeWdSetup, *]
@[simp] theorem Laws.mask_retryEvent (qs : List Part) (d : Dev) (k : Nat) (h_str : Part.str ∈ qs) (h_ph : Part.ph ∈ qs) :
    Laws.mask qs (retryEvent d k) = Laws.mask qs d := by
  simp [retryEvent, *]
@[simp] theorem Laws.mask_dischargeDone (qs : List Part) (d : Dev) (k : Nat) (h_fb : Part.fb ∈ qs) (h_str : Part.str ∈ qs) (h_ph : Part.ph ∈ qs) (h_flt : Part.flt ∈ qs) (h_int : Part.int ∈ qs) (h_rcd : Part.rcd ∈ qs) :
    Laws.mask qs (dischargeDone d k) = Laws.mask qs d := by
  simp [dischargeDone, *]
@[simp] theorem Laws.mask_dischargeLate (qs : List Part) (d : Dev) (k : Nat) (h_fb : Part.fb ∈ qs) (h_str : Part.str ∈ qs) (h_ph : Part.ph ∈ qs) (h_flt : Part.flt ∈ qs) (h_int : Part.int ∈ qs) (h_rcd : Part.rcd ∈ qs) :
    Laws.mask qs (dischargeLate d k) = Laws.mask qs d := by
  simp [dischargeLate, *]
@[simp] theorem Laws.mask_reinstateString (qs : List Part) (d : Dev) (k : Nat) (h_fb : Part.fb ∈ qs) (h_str : Part.str ∈ qs) (h_ph : Part.ph ∈ qs) (h_flt : Part.flt ∈ qs) (h_int : Part.int ∈ qs) (h_rcd : Part.rcd ∈ qs) :
    Laws.mask qs (reinstateString d k) = Laws.mask qs d := by
  simp [reinstateString, *]
@[simp] theorem Laws.mask_creditBack (qs : List Part) (d : Dev) (k : Nat) (second : Bool) (h_lk : Part.lk ∈ qs) :
    Laws.mask qs (creditBack d k second) = Laws.mask qs d := by
  simp [creditBack, *]
@[simp] theorem Laws.mask_takeAck (qs : List Part) (d : Dev) (k : Nat) (b : Block) (second : Bool) (h_lk : Part.lk ∈ qs) (h_flt : Part.flt ∈ qs) :
    Laws.mask qs (takeAck d k b second) = Laws.mask qs d := by
  simp [takeAck, *]
@[simp] theorem Laws.mask_goodSlot (qs : List Part) (d : Dev) (k : Nat) (h_lk : Part.lk ∈ qs) :
    Laws.mask qs (goodSlot d k) = Laws.mask qs d := by
  simp [goodSlot, *]
@[simp] theorem Laws.mask_refuseBlock (qs : List Part) (d : Dev) (k hdr : Nat) (h_lk : Part.lk ∈ qs) (h_out : Part.out ∈ qs) (h_fretOut : Part.fretOut ∈ qs) :
    Laws.mask qs (refuseBlock d k hdr) = Laws.mask qs d := by
  simp [refuseBlock, *]
@[simp] theorem Laws.mask_showSample (qs : List Part) (d : Dev) (k : Nat) (q : Sample) (h_ph : Part.ph ∈ qs) :
    Laws.mask qs (showSample d k q) = Laws.mask qs d := by
  simp [showSample, *]
@[simp] theorem Laws.mask_ackRun (qs : List Part) (d : Dev) (k : Nat) (b : Block) (h_lk : Part.lk ∈ qs) :
    Laws.mask qs (ackRun d k b) = Laws.mask qs d := by
  simp [ackRun, *]
@[simp] theorem Laws.mask_refuseNow (qs : List Part) (d : Dev) (k : Nat) (h_lk : Part.lk ∈ qs) (h_out : Part.out ∈ qs) (h_fretOut : Part.fretOut ∈ qs) :
    Laws.mask qs (refuseNow d k) = Laws.mask qs d := by
  unfold refuseNow
  (repeat' split) <;> simp [*]
@[simp] theorem Laws.mask_sendSecond (qs : List Part) (d : Dev) (k : Nat) (h_lk : Part.lk ∈ qs) (h_out : Part.out ∈ qs) (h_fretOut : Part.fretOut ∈ qs) :
    Laws.mask qs (sendSecond d k) = Laws.mask qs d := by
  simp [sendSecond, *]
@[simp] theorem Laws.mask_reinstateLink (qs : List Part) (d : Dev) (k : Nat) (h_lk : Part.lk ∈ qs) :
    Laws.mask qs (reinstateLink d k) = Laws.mask qs d := by
  simp [reinstateLink, *]
@[simp] theorem Laws.mask_setCapState (qs : List Part) (d : Dev) (s : CapState) (h_cap : Part.cap ∈ qs) (h_out : Part.out ∈ qs) :
    Laws.mask qs (setCapState d s) = Laws.mask qs d := by
  simp [setCapState, *]
@[simp] theorem Laws.mask_retireTimed (qs : List Part) (d : Dev) (h_jr : Part.jr ∈ qs) :
    Laws.mask qs (retireTimed d) = Laws.mask qs d := by
  simp [retireTimed, *]
@[simp] theorem Laws.mask_publishString (qs : List Part) (d : Dev) (f k : Nat) (h_fb : Part.fb ∈ qs) (h_str : Part.str ∈ qs) (h_int : Part.int ∈ qs) (h_rcd : Part.rcd ∈ qs) (h_out : Part.out ∈ qs) (h_fretOut : Part.fretOut ∈ qs) :
    Laws.mask qs (publishString d f k) = Laws.mask qs d := by
  simp [publishString, *]
@[simp] theorem Laws.mask_publishStorage (qs : List Part) (d : Dev) (f : Nat) (h_fb : Part.fb ∈ qs) (h_str : Part.str ∈ qs) (h_out : Part.out ∈ qs) (h_fretOut : Part.fretOut ∈ qs) :
    Laws.mask qs (publishStorage d f) = Laws.mask qs d := by
  unfold publishStorage
  repeat' (first | (simp [*]; done) | (simp [Laws.mask, *]; done) | dsimp only | split | (simp only [Laws.mask_ite]; split))
@[simp] theorem Laws.mask_publish (qs : List Part) (d : Dev) (h_fb : Part.fb ∈ qs) (h_str : Part.str ∈ qs) (h_int : Part.int ∈ qs) (h_rcd : Part.rcd ∈ qs) (h_out : Part.out ∈ qs) (h_fretOut : Part.fretOut ∈ qs) :
    Laws.mask qs (publish d) = Laws.mask qs d := by
  simp [publish, *]
@[simp] theorem Laws.mask_setResend (qs : List Part) (d : Dev) (power v : Bool) (h_pwr : Part.pwr ∈ qs) :
    Laws.mask qs (setResend d power v) = Laws.mask qs d := by
  simp [setResend, *]
@[simp] theorem Laws.mask_dieGood (qs : List Part) (d : Dev) (power : Bool) (n : Nat) (h_pwr : Part.pwr ∈ qs) :
    Laws.mask qs (dieGood d power n) = Laws.mask qs d := by
  simp [dieGood, *]
@[simp] theorem Laws.mask_loseCarried (qs : List Part) (d : Dev) (o : Option (Nat × BitVec 16)) (h_pwr : Part.pwr ∈ qs) :
    Laws.mask qs (loseCarried d o) = Laws.mask qs d := by
  cases o <;> simp [loseCarried, *]
@[simp] theorem Laws.mask_dieBad (qs : List Part) (d : Dev) (power : Bool) (carried : Option (Nat × BitVec 16)) (inj obs : Bool) (h_pwr : Part.pwr ∈ qs) (h_flt : Part.flt ∈ qs) :
    Laws.mask qs (dieBad d power carried inj obs) = Laws.mask qs d := by
  unfold dieBad
  split
  · simp only [Laws.mask_loseCarried, Laws.mask_setResend, *]
  · simp only [Laws.mask_setResend, Laws.mask_detectInj, *]
@[simp] theorem Laws.mask_fetchFailed (qs : List Part) (d : Dev) (n : Nat) (h_ring : Part.ring ∈ qs) :
    Laws.mask qs (fetchFailed d n) = Laws.mask qs d := by
  simp [fetchFailed, *]
@[simp] theorem Laws.mask_makeReady (qs : List Part) (d : Dev) (n : Nat) (i : Image) (segs : List Word) (adds : List Image) (fixed : Option (Status × Nat)) (h_ring : Part.ring ∈ qs) :
    Laws.mask qs (makeReady d n i segs adds fixed) = Laws.mask qs d := by
  simp [makeReady, *]
@[simp] theorem Laws.mask_fetchAgain (qs : List Part) (d : Dev) (n : Nat) (i : Image) (fixed : Status × Nat) (h_ring : Part.ring ∈ qs) :
    Laws.mask qs (fetchAgain d n i fixed) = Laws.mask qs d := by
  simp [fetchAgain, *]
@[simp] theorem Laws.mask_listAgain (qs : List Part) (d : Dev) (n : Nat) (i : Image) (adds : List Image) (fixed : Status × Nat) (h_ring : Part.ring ∈ qs) :
    Laws.mask qs (listAgain d n i adds fixed) = Laws.mask qs d := by
  simp [listAgain, *]
@[simp] theorem Laws.mask_writeCpl (qs : List Part) (d : Dev) (m : Nat) (x : Entry) (c : Cpl) (h_ring : Part.ring ∈ qs) (h_jr : Part.jr ∈ qs) (h_int : Part.int ∈ qs) (h_out : Part.out ∈ qs) :
    Laws.mask qs (writeCpl d m x c) = Laws.mask qs d := by
  unfold writeCpl
  repeat' (first | (simp [*]; done) | (simp [Laws.mask, *]; done) | dsimp only | split | (simp only [Laws.mask_ite]; split))
@[simp] theorem Laws.mask_completionWrite (qs : List Part) (d : Dev) (m : Nat) (h_ring : Part.ring ∈ qs) (h_jr : Part.jr ∈ qs) (h_int : Part.int ∈ qs) (h_out : Part.out ∈ qs) :
    Laws.mask qs (completionWrite d m) = Laws.mask qs d := by
  unfold completionWrite
  (repeat' split) <;> simp [*]
@[simp] theorem Laws.mask_ignoreWrite (qs : List Part) (d : Dev) (h_ring : Part.ring ∈ qs) :
    Laws.mask qs (ignoreWrite d) = Laws.mask qs d := by
  simp [ignoreWrite, *]
@[simp] theorem Laws.mask_writeRingControl (qs : List Part) (d : Dev) (v : Word) (h_cfg : Part.cfg ∈ qs) (h_ring : Part.ring ∈ qs) (h_jr : Part.jr ∈ qs) (h_out : Part.out ∈ qs) :
    Laws.mask qs (writeRingControl d v) = Laws.mask qs d := by
  simp only [writeRingControl, Laws.mask_ite, Laws.mask_writeAcceptBlock, Laws.mask_writeStateBlock, Laws.mask_setRw, Laws.mask_foldN, Laws.mask_updSub, Laws.mask_mapJournal, Laws.mask_ring, ite_self, implies_true, *]
@[simp] theorem Laws.mask_enableSub (qs : List Part) (d : Dev) (n : Nat) (h_ring : Part.ring ∈ qs) (h_out : Part.out ∈ qs) :
    Laws.mask qs (enableSub d n) = Laws.mask qs d := by
  simp [enableSub, *]
@[simp] theorem Laws.mask_writeSubControl (qs : List Part) (d : Dev) (n : Nat) (v : Word) (h_cfg : Part.cfg ∈ qs) (h_ring : Part.ring ∈ qs) (h_out : Part.out ∈ qs) :
    Laws.mask qs (writeSubControl d n v) = Laws.mask qs d := by
  simp [writeSubControl, *]
@[simp] theorem Laws.mask_writeCplControl (qs : List Part) (d : Dev) (m : Nat) (v : Word) (h_cfg : Part.cfg ∈ qs) (h_ring : Part.ring ∈ qs) :
    Laws.mask qs (writeCplControl d m v) = Laws.mask qs d := by
  simp [writeCplControl, *]
@[simp] theorem Laws.mask_setSlew (qs : List Part) (d : Dev) (k : Nat) (e : Option Nat) (v : Nat) (h_str : Part.str ∈ qs) :
    Laws.mask qs (setSlew d k e v) = Laws.mask qs d := by
  simp [setSlew, *]
@[simp] theorem Laws.mask_setIdle (qs : List Part) (d : Dev) (k : Nat) (e : Option Nat) (v : Nat) (h_str : Part.str ∈ qs) :
    Laws.mask qs (setIdle d k e v) = Laws.mask qs d := by
  simp [setIdle, *]
@[simp] theorem Laws.mask_requestCommit (qs : List Part) (d : Dev) (h_cfg : Part.cfg ∈ qs) :
    Laws.mask qs (requestCommit d) = Laws.mask qs d := by
  simp [requestCommit, *]
@[simp] theorem Laws.mask_discardStaged (qs : List Part) (d : Dev) (h_cfg : Part.cfg ∈ qs) :
    Laws.mask qs (discardStaged d) = Laws.mask qs d := by
  simp [discardStaged, *]
@[simp] theorem Laws.mask_writeService (qs : List Part) (d : Dev) (key : Nat) (h_otp : Part.otp ∈ qs) :
    Laws.mask qs (writeService d key) = Laws.mask qs d := by
  simp [writeService, *]
@[simp] theorem Laws.mask_otpRefuse (qs : List Part) (d : Dev) (reason : Nat) (h_otp : Part.otp ∈ qs) :
    Laws.mask qs (otpRefuse d reason) = Laws.mask qs d := by
  simp [otpRefuse, *]
@[simp] theorem Laws.mask_otpStart (qs : List Part) (d : Dev) (c : OtpCmd) (h_otp : Part.otp ∈ qs) :
    Laws.mask qs (otpStart d c) = Laws.mask qs d := by
  simp [otpStart, *]
@[simp] theorem Laws.mask_otpOne (qs : List Part) (d : Dev) (op w : Nat) (v : Word) (h_otp : Part.otp ∈ qs) :
    Laws.mask qs (otpOne d op w v) = Laws.mask qs d := by
  simp [otpOne, *]
@[simp] theorem Laws.mask_otpAdvance (qs : List Part) (d : Dev) (op area now target : Nat) (h_otp : Part.otp ∈ qs) :
    Laws.mask qs (otpAdvance d op area now target) = Laws.mask qs d := by
  simp [otpAdvance, *]
@[simp] theorem Laws.mask_otpOperate (qs : List Part) (d : Dev) (op : Nat) (h_otp : Part.otp ∈ qs) :
    Laws.mask qs (otpOperate d op) = Laws.mask qs d := by
  unfold otpOperate
  (repeat' split) <;> simp [*]
@[simp] theorem Laws.mask_otpCommand (qs : List Part) (d : Dev) (op confirm : Nat) (h_otp : Part.otp ∈ qs) :
    Laws.mask qs (otpCommand d op confirm) = Laws.mask qs d := by
  simp [otpCommand, *]
@[simp] theorem Laws.mask_releaseCore (qs : List Part) (d : Dev) (f : ImageFacts) (second : Bool) (h_clk : Part.clk ∈ qs) (h_mm : Part.mm ∈ qs) (h_pwr : Part.pwr ∈ qs) (h_int : Part.int ∈ qs) (h_otp : Part.otp ∈ qs) (h_rcd : Part.rcd ∈ qs) :
    Laws.mask qs (releaseCore d f second) = Laws.mask qs d := by
  simp [releaseCore, *]
@[simp] theorem Laws.mask_rejectImage (qs : List Part) (d : Dev) (second : Bool) (r : Nat) (h_clk : Part.clk ∈ qs) (h_int : Part.int ∈ qs) (h_otp : Part.otp ∈ qs) (h_rcd : Part.rcd ∈ qs) :
    Laws.mask qs (rejectImage d second r) = Laws.mask qs d := by
  simp [rejectImage, *]
@[simp] theorem Laws.mask_writeFlash (qs : List Part) (d : Dev) (v : Word) (h_cfg : Part.cfg ∈ qs) (h_otp : Part.otp ∈ qs) (h_out : Part.out ∈ qs) :
    Laws.mask qs (writeFlash d v) = Laws.mask qs d := by
  unfold writeFlash
  repeat' (first | (simp [*]; done) | (simp [Laws.mask, *]; done) | dsimp only | split | (simp only [Laws.mask_ite]; split))
@[simp] theorem Laws.mask_workNop (qs : List Part) (d : Dev) (x : Entry) (h_jr : Part.jr ∈ qs) (h_int : Part.int ∈ qs) (h_mp : Part.mp ∈ qs) (h_out : Part.out ∈ qs) (h_fretOut : Part.fretOut ∈ qs) :
    Laws.mask qs (workNop d x) = Laws.mask qs d := by
  simp [workNop, *]
@[simp] theorem Laws.mask_schedule (qs : List Part) (d : Dev) (x : Entry) (stop : Nat) (h_jr : Part.jr ∈ qs) :
    Laws.mask qs (schedule d x stop) = Laws.mask qs d := by
  simp [schedule, *]
@[simp] theorem Laws.mask_missReplan (qs : List Part) (d : Dev) (p : Replan) (h_jr : Part.jr ∈ qs) (h_fb : Part.fb ∈ qs) (h_int : Part.int ∈ qs) (h_mp : Part.mp ∈ qs) (h_out : Part.out ∈ qs) (h_fretOut : Part.fretOut ∈ qs) :
    Laws.mask qs (missReplan d p) = Laws.mask qs d := by
  unfold missReplan
  repeat' (first | (simp [*]; done) | (simp [Laws.mask, *]; done) | dsimp only | split | (simp only [Laws.mask_ite]; split))
@[simp] theorem Laws.mask_workReplan (qs : List Part) (d : Dev) (x : Entry) (h_jr : Part.jr ∈ qs) (h_fb : Part.fb ∈ qs) (h_int : Part.int ∈ qs) (h_mp : Part.mp ∈ qs) (h_out : Part.out ∈ qs) (h_fretOut : Part.fretOut ∈ qs) :
    Laws.mask qs (workReplan d x) = Laws.mask qs d := by
  simp [workReplan, *]
@[simp] theorem Laws.mask_workProfile (qs : List Part) (d : Dev) (x : Entry) (h_jr : Part.jr ∈ qs) (h_int : Part.int ∈ qs) (h_mp : Part.mp ∈ qs) (h_out : Part.out ∈ qs) (h_fretOut : Part.fretOut ∈ qs) :
    Laws.mask qs (workProfile d x) = Laws.mask qs d := by
  simp [workProfile, *]
@[simp] theorem Laws.mask_workSetpoint (qs : List Part) (d : Dev) (x : Entry) (h_jr : Part.jr ∈ qs) (h_int : Part.int ∈ qs) (h_mp : Part.mp ∈ qs) (h_out : Part.out ∈ qs) (h_fretOut : Part.fretOut ∈ qs) :
    Laws.mask qs (workSetpoint d x) = Laws.mask qs d := by
  simp [workSetpoint, *]
@[simp] theorem Laws.mask_supersede (qs : List Part) (d : Dev) (k : Nat) (h_jr : Part.jr ∈ qs) (h_str : Part.str ∈ qs) (h_int : Part.int ∈ qs) (h_mp : Part.mp ∈ qs) (h_out : Part.out ∈ qs) (h_fretOut : Part.fretOut ∈ qs) :
    Laws.mask qs (supersede d k) = Laws.mask qs d := by
  unfold supersede
  (repeat' split) <;> simp [*]
@[simp] theorem Laws.mask_setTarget (qs : List Part) (d : Dev) (k v : Nat) (h_str : Part.str ∈ qs) :
    Laws.mask qs (setTarget d k v) = Laws.mask qs d := by
  simp [setTarget, *]
@[simp] theorem Laws.mask_applySetpoint (qs : List Part) (d : Dev) (x : Entry) (h_jr : Part.jr ∈ qs) (h_str : Part.str ∈ qs) (h_int : Part.int ∈ qs) (h_mp : Part.mp ∈ qs) (h_out : Part.out ∈ qs) (h_fretOut : Part.fretOut ∈ qs) :
    Laws.mask qs (applySetpoint d x) = Laws.mask qs d := by
  simp [applySetpoint, *]
@[simp] theorem Laws.mask_setpointEffect (qs : List Part) (d : Dev) (e : Nat) (h_jr : Part.jr ∈ qs) (h_str : Part.str ∈ qs) (h_int : Part.int ∈ qs) (h_mp : Part.mp ∈ qs) (h_out : Part.out ∈ qs) (h_fretOut : Part.fretOut ∈ qs) :
    Laws.mask qs (setpointEffect d e) = Laws.mask qs d := by
  unfold setpointEffect
  (repeat' split) <;> simp [*]
@[simp] theorem Laws.mask_latchOn (qs : List Part) (d : Dev) (x : Entry) (h_mm : Part.mm ∈ qs) (h_jr : Part.jr ∈ qs) :
    Laws.mask qs (latchOn d x) = Laws.mask qs d := by
  simp [latchOn, *]
@[simp] theorem Laws.mask_workCommit (qs : List Part) (d : Dev) (x : Entry) (h_cfg : Part.cfg ∈ qs) (h_jr : Part.jr ∈ qs) :
    Laws.mask qs (workCommit d x) = Laws.mask qs d := by
  simp [workCommit, *]
@[simp] theorem Laws.mask_workStop (qs : List Part) (d : Dev) (x : Entry) (h_jr : Part.jr ∈ qs) (h_str : Part.str ∈ qs) (h_ph : Part.ph ∈ qs) (h_chg : Part.chg ∈ qs) (h_int : Part.int ∈ qs) (h_mp : Part.mp ∈ qs) (h_out : Part.out ∈ qs) (h_fretOut : Part.fretOut ∈ qs) :
    Laws.mask qs (workStop d x) = Laws.mask qs d := by
  simp [workStop, *]
@[simp] theorem Laws.mask_workCharge (qs : List Part) (d : Dev) (x : Entry) (h_jr : Part.jr ∈ qs) (h_str : Part.str ∈ qs) (h_ph : Part.ph ∈ qs) (h_chg : Part.chg ∈ qs) (h_int : Part.int ∈ qs) (h_mp : Part.mp ∈ qs) (h_out : Part.out ∈ qs) (h_fretOut : Part.fretOut ∈ qs) :
    Laws.mask qs (workCharge d x) = Laws.mask qs d := by
  simp [workCharge, *]
@[simp] theorem Laws.mask_workSearch (qs : List Part) (d : Dev) (x : Entry) (h_jr : Part.jr ∈ qs) (h_fb : Part.fb ∈ qs) (h_str : Part.str ∈ qs) (h_ph : Part.ph ∈ qs) (h_chg : Part.chg ∈ qs) (h_int : Part.int ∈ qs) (h_mp : Part.mp ∈ qs) (h_out : Part.out ∈ qs) (h_fretOut : Part.fretOut ∈ qs) :
    Laws.mask qs (workSearch d x) = Laws.mask qs d := by
  unfold workSearch
  (repeat' split) <;> simp [*]
@[simp] theorem Laws.mask_workRideLevel (qs : List Part) (d : Dev) (x : Entry) (h_jr : Part.jr ∈ qs) (h_chg : Part.chg ∈ qs) (h_int : Part.int ∈ qs) (h_mp : Part.mp ∈ qs) (h_out : Part.out ∈ qs) (h_fretOut : Part.fretOut ∈ qs) :
    Laws.mask qs (workRideLevel d x) = Laws.mask qs d := by
  simp [workRideLevel, *]
@[simp] theorem Laws.mask_workClearTimeout (qs : List Part) (d : Dev) (x : Entry) (h_jr : Part.jr ∈ qs) (h_str : Part.str ∈ qs) (h_ph : Part.ph ∈ qs) (h_chg : Part.chg ∈ qs) (h_int : Part.int ∈ qs) (h_mp : Part.mp ∈ qs) (h_out : Part.out ∈ qs) (h_fretOut : Part.fretOut ∈ qs) :
    Laws.mask qs (workClearTimeout d x) = Laws.mask qs d := by
  simp [workClearTimeout, *]
@[simp] theorem Laws.mask_workInputLimit (qs : List Part) (d : Dev) (x : Entry) (h_jr : Part.jr ∈ qs) (h_fb : Part.fb ∈ qs) (h_int : Part.int ∈ qs) (h_mp : Part.mp ∈ qs) (h_out : Part.out ∈ qs) (h_fretOut : Part.fretOut ∈ qs) :
    Laws.mask qs (workInputLimit d x) = Laws.mask qs d := by
  simp [workInputLimit, *]
@[simp] theorem Laws.mask_workFence (qs : List Part) (d : Dev) (x : Entry) (h_jr : Part.jr ∈ qs) (h_int : Part.int ∈ qs) (h_mp : Part.mp ∈ qs) (h_out : Part.out ∈ qs) (h_fretOut : Part.fretOut ∈ qs) :
    Laws.mask qs (workFence d x) = Laws.mask qs d := by
  simp [workFence, *]
@[simp] theorem Laws.mask_fenceEnd (qs : List Part) (d : Dev) (e : Nat) (h_jr : Part.jr ∈ qs) (h_int : Part.int ∈ qs) (h_mp : Part.mp ∈ qs) (h_out : Part.out ∈ qs) (h_fretOut : Part.fretOut ∈ qs) :
    Laws.mask qs (fenceEnd d e) = Laws.mask qs d := by
  unfold fenceEnd
  (repeat' split) <;> simp [*]
@[simp] theorem Laws.mask_workQFree (qs : List Part) (d : Dev) (x : Entry) (h_jr : Part.jr ∈ qs) (h_int : Part.int ∈ qs) (h_mp : Part.mp ∈ qs) (h_out : Part.out ∈ qs) (h_fretOut : Part.fretOut ∈ qs) :
    Laws.mask qs (workQFree d x) = Laws.mask qs d := by
  simp [workQFree, *]
@[simp] theorem Laws.mask_workQFret (qs : List Part) (d : Dev) (x : Entry) (h_jr : Part.jr ∈ qs) (h_int : Part.int ∈ qs) (h_mp : Part.mp ∈ qs) (h_out : Part.out ∈ qs) (h_fretOut : Part.fretOut ∈ qs) :
    Laws.mask qs (workQFret d x) = Laws.mask qs d := by
  simp [workQFret, *]
@[simp] theorem Laws.mask_workQString (qs : List Part) (d : Dev) (x : Entry) (h_jr : Part.jr ∈ qs) (h_int : Part.int ∈ qs) (h_mp : Part.mp ∈ qs) (h_out : Part.out ∈ qs) (h_fretOut : Part.fretOut ∈ qs) :
    Laws.mask qs (workQString d x) = Laws.mask qs d := by
  simp [workQString, *]
@[simp] theorem Laws.mask_workQUnreserved (qs : List Part) (d : Dev) (x : Entry) (h_jr : Part.jr ∈ qs) (h_int : Part.int ∈ qs) (h_mp : Part.mp ∈ qs) (h_out : Part.out ∈ qs) (h_fretOut : Part.fretOut ∈ qs) :
    Laws.mask qs (workQUnreserved d x) = Laws.mask qs d := by
  simp [workQUnreserved, *]
@[simp] theorem Laws.mask_workQBank (qs : List Part) (d : Dev) (x : Entry) (h_jr : Part.jr ∈ qs) (h_int : Part.int ∈ qs) (h_mp : Part.mp ∈ qs) (h_out : Part.out ∈ qs) (h_fretOut : Part.fretOut ∈ qs) :
    Laws.mask qs (workQBank d x) = Laws.mask qs d := by
  simp [workQBank, *]
@[simp] theorem Laws.mask_workQTag (qs : List Part) (d : Dev) (x : Entry) (h_jr : Part.jr ∈ qs) (h_int : Part.int ∈ qs) (h_mp : Part.mp ∈ qs) (h_out : Part.out ∈ qs) (h_fretOut : Part.fretOut ∈ qs) :
    Laws.mask qs (workQTag d x) = Laws.mask qs d := by
  simp [workQTag, *]
@[simp] theorem Laws.mask_workMark (qs : List Part) (d : Dev) (x : Entry) (h_jr : Part.jr ∈ qs) (h_int : Part.int ∈ qs) (h_rcd : Part.rcd ∈ qs) (h_mp : Part.mp ∈ qs) (h_out : Part.out ∈ qs) (h_fretOut : Part.fretOut ∈ qs) :
    Laws.mask qs (workMark d x) = Laws.mask qs d := by
  simp [workMark, *]
@[simp] theorem Laws.mask_workCapStop (qs : List Part) (d : Dev) (x : Entry) (h_clk : Part.clk ∈ qs) (h_jr : Part.jr ∈ qs) (h_flt : Part.flt ∈ qs) (h_int : Part.int ∈ qs) (h_rcd : Part.rcd ∈ qs) (h_cap : Part.cap ∈ qs) (h_capQueue : Part.capQueue ∈ qs) (h_mp : Part.mp ∈ qs) (h_out : Part.out ∈ qs) (h_fretOut : Part.fretOut ∈ qs) :
    Laws.mask qs (workCapStop d x) = Laws.mask qs d := by
  simp [workCapStop, *]
@[simp] theorem Laws.mask_workBad (qs : List Part) (d : Dev) (x : Entry) (h_jr : Part.jr ∈ qs) (h_int : Part.int ∈ qs) (h_mp : Part.mp ∈ qs) (h_out : Part.out ∈ qs) (h_fretOut : Part.fretOut ∈ qs) :
    Laws.mask qs (workBad d x) = Laws.mask qs d := by
  simp [workBad, *]
@[simp] theorem Laws.mask_endAtFret (qs : List Part) (d : Dev) (r : Resv) (h_jr : Part.jr ∈ qs) (h_fb : Part.fb ∈ qs) (h_int : Part.int ∈ qs) (h_mp : Part.mp ∈ qs) (h_out : Part.out ∈ qs) (h_fretOut : Part.fretOut ∈ qs) :
    Laws.mask qs (endAtFret d r) = Laws.mask qs d := by
  simp [endAtFret, *]
@[simp] theorem Laws.mask_timedEnd (qs : List Part) (d : Dev) (e : Nat) (h_jr : Part.jr ∈ qs) (h_fb : Part.fb ∈ qs) (h_int : Part.int ∈ qs) (h_mp : Part.mp ∈ qs) (h_out : Part.out ∈ qs) (h_fretOut : Part.fretOut ∈ qs) :
    Laws.mask qs (timedEnd d e) = Laws.mask qs d := by
  simp [timedEnd, *]
@[simp] theorem Laws.mask_decisionPoint (qs : List Part) (d : Dev) (h_jr : Part.jr ∈ qs) (h_fb : Part.fb ∈ qs) (h_int : Part.int ∈ qs) (h_mp : Part.mp ∈ qs) (h_out : Part.out ∈ qs) (h_fretOut : Part.fretOut ∈ qs) :
    Laws.mask qs (decisionPoint d) = Laws.mask qs d := by
  unfold decisionPoint
  (repeat' split) <;> simp [*]
@[simp] theorem Laws.mask_reportSwap (qs : List Part) (d : Dev) (p : Replan) (removed : Nat) (h_jr : Part.jr ∈ qs) (h_fb : Part.fb ∈ qs) (h_int : Part.int ∈ qs) (h_mp : Part.mp ∈ qs) (h_out : Part.out ∈ qs) (h_fretOut : Part.fretOut ∈ qs) :
    Laws.mask qs (reportSwap d p removed) = Laws.mask qs d := by
  unfold reportSwap
  extract_lets _ _ _ d1 _ d2 d3
  have h1 : Laws.mask qs d1 = Laws.mask qs d := by
    exact Laws.mask_updEntry _ _ _ _ (by assumption)
  have h3 : Laws.mask qs d3 = Laws.mask qs d := by
    simp only [d3, d2, Laws.mask_admission, Laws.mask_fb, h1, *]
  split
  · simp only [Laws.mask_finishWith, *]
  · split
    · exact h3
    · split
      · exact h3
      · simp only [Laws.mask_finishWith, *]
@[simp] theorem Laws.mask_swapBanks (qs : List Part) (d : Dev) (p : Replan) (h_jr : Part.jr ∈ qs) (h_fb : Part.fb ∈ qs) (h_int : Part.int ∈ qs) (h_mp : Part.mp ∈ qs) (h_out : Part.out ∈ qs) (h_fretOut : Part.fretOut ∈ qs) :
    Laws.mask qs (swapBanks d p) = Laws.mask qs d := by
  simp [swapBanks, *]
@[simp] theorem Laws.mask_bankSwap (qs : List Part) (d : Dev) (h_jr : Part.jr ∈ qs) (h_fb : Part.fb ∈ qs) (h_int : Part.int ∈ qs) (h_mp : Part.mp ∈ qs) (h_out : Part.out ∈ qs) (h_fretOut : Part.fretOut ∈ qs) :
    Laws.mask qs (bankSwap d) = Laws.mask qs d := by
  unfold bankSwap
  (repeat' split) <;> simp [*]
@[simp] theorem Laws.mask_noteOverdraw (qs : List Part) (d : Dev) (k : Nat) (h_fb : Part.fb ∈ qs) (h_str : Part.str ∈ qs) (h_int : Part.int ∈ qs) (h_rcd : Part.rcd ∈ qs) :
    Laws.mask qs (noteOverdraw d k) = Laws.mask qs d := by
  simp [noteOverdraw, *]
@[simp] theorem Laws.mask_overdraw (qs : List Part) (d : Dev) (k : Nat) (h_fb : Part.fb ∈ qs) (h_str : Part.str ∈ qs) (h_int : Part.int ∈ qs) (h_rcd : Part.rcd ∈ qs) :
    Laws.mask qs (overdraw d k) = Laws.mask qs d := by
  simp [overdraw, *]
@[simp] theorem Laws.mask_cutTail (qs : List Part) (d : Dev) (r : Resv) (g : Nat) (h_fb : Part.fb ∈ qs) :
    Laws.mask qs (cutTail d r g) = Laws.mask qs d := by
  simp [cutTail, *]
@[simp] theorem Laws.mask_seqFault (qs : List Part) (d : Dev) (code : Nat) (i : Item) (step : Nat) (h_flt : Part.flt ∈ qs) :
    Laws.mask qs (seqFault d code i step) = Laws.mask qs d := by
  simp [seqFault, *]
@[simp] theorem Laws.mask_pressStart (qs : List Part) (d : Dev) (h_pins : Part.pins ∈ qs) :
    Laws.mask qs (pressStart d) = Laws.mask qs d := by
  simp [pressStart, *]
@[simp] theorem Laws.mask_updPeer (qs : List Part) (d : Dev) (j : Nat) (f : Peer → Peer) (h_seq : Part.seq ∈ qs) :
    Laws.mask qs (updPeer d j f) = Laws.mask qs d := by
  simp [updPeer, *]
@[simp] theorem Laws.mask_takeCommand (qs : List Part) (d : Dev) (b : PeerBlock) (h_seq : Part.seq ∈ qs) :
    Laws.mask qs (takeCommand d b) = Laws.mask qs d := by
  simp [takeCommand, *]
@[simp] theorem Laws.mask_recorderFault (qs : List Part) (d : Dev) (code slot count : Nat) (h_flt : Part.flt ∈ qs) :
    Laws.mask qs (recorderFault d code slot count) = Laws.mask qs d := by
  simp [recorderFault, *]
@[simp] theorem Laws.mask_startFlush (qs : List Part) (d : Dev) (h_rcd : Part.rcd ∈ qs) :
    Laws.mask qs (startFlush d) = Laws.mask qs d := by
  simp [startFlush, *]
@[simp] theorem Laws.mask_logRecord (qs : List Part) (d : Dev) (q : Record) (h_int : Part.int ∈ qs) (h_rcd : Part.rcd ∈ qs) :
    Laws.mask qs (logRecord d q) = Laws.mask qs d := by
  simp [logRecord, *]
@[simp] theorem Laws.mask_logOut (qs : List Part) (d : Dev) (n : Nat) (h_int : Part.int ∈ qs) (h_rcd : Part.rcd ∈ qs) :
    Laws.mask qs (logOut d n) = Laws.mask qs d := by
  simp [logOut, *]
@[simp] theorem Laws.mask_flushNext (qs : List Part) (d : Dev) (n : Nat) (h_rcd : Part.rcd ∈ qs) :
    Laws.mask qs (flushNext d n) = Laws.mask qs d := by
  simp [flushNext, *]
@[simp] theorem Laws.mask_operatingSecond (qs : List Part) (d : Dev) (h_rcd : Part.rcd ∈ qs) :
    Laws.mask qs (operatingSecond d) = Laws.mask qs d := by
  simp [operatingSecond, *]
@[simp] theorem Laws.mask_startClear (qs : List Part) (d : Dev) (confirm : Nat) (h_rcd : Part.rcd ∈ qs) :
    Laws.mask qs (startClear d confirm) = Laws.mask qs d := by
  simp [startClear, *]
@[simp] theorem Laws.mask_qualifyEnd (qs : List Part) (d : Dev) (h_str : Part.str ∈ qs) (h_ph : Part.ph ∈ qs) (h_chg : Part.chg ∈ qs) (h_int : Part.int ∈ qs) (h_rcd : Part.rcd ∈ qs) :
    Laws.mask qs (qualifyEnd d) = Laws.mask qs d := by
  simp [qualifyEnd, *]
@[simp] theorem Laws.mask_terminated (qs : List Part) (d : Dev) (h_str : Part.str ∈ qs) (h_ph : Part.ph ∈ qs) (h_chg : Part.chg ∈ qs) (h_int : Part.int ∈ qs) (h_rcd : Part.rcd ∈ qs) :
    Laws.mask qs (terminated d) = Laws.mask qs d := by
  simp [terminated, *]
@[simp] theorem Laws.mask_rechargeStart (qs : List Part) (d : Dev) (h_str : Part.str ∈ qs) (h_ph : Part.ph ∈ qs) (h_chg : Part.chg ∈ qs) (h_int : Part.int ∈ qs) (h_rcd : Part.rcd ∈ qs) :
    Laws.mask qs (rechargeStart d) = Laws.mask qs d := by
  simp [rechargeStart, *]
@[simp] theorem Laws.mask_timeOut (qs : List Part) (d : Dev) (h_chg : Part.chg ∈ qs) (h_flt : Part.flt ∈ qs) (h_int : Part.int ∈ qs) :
    Laws.mask qs (timeOut d) = Laws.mask qs d := by
  simp [timeOut, *]
@[simp] theorem Laws.mask_packDepleted (qs : List Part) (d : Dev) (h_pwr : Part.pwr ∈ qs) (h_int : Part.int ∈ qs) (h_rcd : Part.rcd ∈ qs) :
    Laws.mask qs (packDepleted d) = Laws.mask qs d := by
  simp [packDepleted, *]
@[simp] theorem Laws.mask_useSeal (qs : List Part) (d : Dev) (h_clk : Part.clk ∈ qs) (h_jr : Part.jr ∈ qs) (h_int : Part.int ∈ qs) (h_rcd : Part.rcd ∈ qs) :
    Laws.mask qs (useSeal d) = Laws.mask qs d := by
  simp [useSeal, *]
@[simp] theorem Laws.mask_writeNaliveTest (qs : List Part) (d : Dev) (on : Bool) (h_flt : Part.flt ∈ qs) (h_out : Part.out ∈ qs) :
    Laws.mask qs (writeNaliveTest d on) = Laws.mask qs d := by
  simp [writeNaliveTest, *]
@[simp] theorem Laws.mask_clearBlock (qs : List Part) (d : Dev) (block : Nat) (mask : Word) (held : List Nat) (h_pins : Part.pins ∈ qs) (h_flt : Part.flt ∈ qs) (h_int : Part.int ∈ qs) (h_rcd : Part.rcd ∈ qs) (h_out : Part.out ∈ qs) :
    Laws.mask qs (clearBlock d block mask held) = Laws.mask qs d := by
  simp [clearBlock, *]
@[simp] theorem Laws.mask_writeInject (qs : List Part) (d : Dev) (v : Word) (h_flt : Part.flt ∈ qs) :
    Laws.mask qs (writeInject d v) = Laws.mask qs d := by
  simp [writeInject, *]
@[simp] theorem Laws.mask_retireCopy (qs : List Part) (d : Dev) (c : Nat) (h_jr : Part.jr ∈ qs) (h_flt : Part.flt ∈ qs) :
    Laws.mask qs (retireCopy d c) = Laws.mask qs d := by
  simp [retireCopy, *]
@[simp] theorem Laws.mask_loseCopy (qs : List Part) (d : Dev) (c : Nat) (h_jr : Part.jr ∈ qs) (h_flt : Part.flt ∈ qs) :
    Laws.mask qs (loseCopy d c) = Laws.mask qs d := by
  unfold loseCopy
  repeat' (first | (simp [*]; done) | (simp [Laws.mask, *]; done) | dsimp only | split | (simp only [Laws.mask_ite]; split))
@[simp] theorem Laws.mask_mismatch (qs : List Part) (d : Dev) (err : JournalError) (h_jr : Part.jr ∈ qs) (h_flt : Part.flt ∈ qs) (h_int : Part.int ∈ qs) :
    Laws.mask qs (mismatch d err) = Laws.mask qs d := by
  unfold mismatch
  (repeat' split) <;> simp [*]
@[simp] theorem Laws.mask_rebuilt (qs : List Part) (d : Dev) (ok : Bool) (h_jr : Part.jr ∈ qs) (h_flt : Part.flt ∈ qs) :
    Laws.mask qs (rebuilt d ok) = Laws.mask qs d := by
  unfold rebuilt
  (repeat' split) <;> simp [*]
@[simp] theorem Laws.mask_readFretLow (qs : List Part) (d : Dev) (h_cfg : Part.cfg ∈ qs) (h_bus : Part.bus ∈ qs) :
    Laws.mask qs (readFretLow d) = Laws.mask qs d := by
  simp [readFretLow, *]
@[simp] theorem Laws.mask_writeStaged (qs : List Part) (d : Dev) (key : Nat) (v : Word) (h_cfg : Part.cfg ∈ qs) :
    Laws.mask qs (writeStaged d key v) = Laws.mask qs d := by
  simp [writeStaged, *]
@[simp] theorem Laws.mask_writePlain (qs : List Part) (d : Dev) (off : Nat) (v : Word) (h_cfg : Part.cfg ∈ qs) :
    Laws.mask qs (writePlain d off v) = Laws.mask qs d := by
  simp [writePlain, *]
@[simp] theorem Laws.mask_portBegin (qs : List Part) (d : Dev) (h_mp : Part.mp ∈ qs) :
    Laws.mask qs (portBegin d) = Laws.mask qs d := by
  simp [portBegin, *]
@[simp] theorem Laws.mask_portNack (qs : List Part) (d : Dev) (h_mp : Part.mp ∈ qs) (h_out : Part.out ∈ qs) :
    Laws.mask qs (portNack d) = Laws.mask qs d := by
  simp [portNack, *]
@[simp] theorem Laws.mask_portBad (qs : List Part) (d : Dev) (h_mp : Part.mp ∈ qs) :
    Laws.mask qs (portBad d) = Laws.mask qs d := by
  simp [portBad, *]
@[simp] theorem Laws.mask_portZero (qs : List Part) (d : Dev) (h_mp : Part.mp ∈ qs) :
    Laws.mask qs (portZero d) = Laws.mask qs d := by
  simp [portZero, *]
@[simp] theorem Laws.mask_recordWindow (qs : List Part) (d : Dev) (complete : Bool) (h_mp : Part.mp ∈ qs) (h_busBlock : Part.busBlock ∈ qs) :
    Laws.mask qs (recordWindow d complete) = Laws.mask qs d := by
  unfold recordWindow
  (repeat' split) <;> first | (simp [*]; done) | simp [Laws.mask, *]
@[simp] theorem Laws.mask_updSlot (qs : List Part) (d : Dev) (t : Nat) (f : MpSlot → MpSlot) (h_mp : Part.mp ∈ qs) :
    Laws.mask qs (updSlot d t f) = Laws.mask qs d := by
  simp [updSlot, *]
@[simp] theorem Laws.mask_doneNow (qs : List Part) (d : Dev) (s : MpSlot) (st : Status) (frm dest : Mode) (h_int : Part.int ∈ qs) (h_mp : Part.mp ∈ qs) :
    Laws.mask qs (doneNow d s st frm dest) = Laws.mask qs d := by
  simp [doneNow, *]
@[simp] theorem Laws.mask_busTimeout (qs : List Part) (d : Dev) (b src us code index : Nat) (h_flt : Part.flt ∈ qs) (h_int : Part.int ∈ qs) (h_mp : Part.mp ∈ qs) :
    Laws.mask qs (busTimeout d b src us code index) = Laws.mask qs d := by
  simp [busTimeout, *]
@[simp] theorem Laws.mask_setReplay (qs : List Part) (d : Dev) (s : RepState) (h_cap : Part.cap ∈ qs) (h_out : Part.out ∈ qs) :
    Laws.mask qs (setReplay d s) = Laws.mask qs d := by
  simp [setReplay, *]

end Sys2Proof.Machine
end

