-- ==== Sys2Proof/WellFormed.lean ====
section
/-!
DEFINITION. Well-formed commands: every number an operand carries lies in the range the manual gives it. The table gives no encodings (log 2).
-/
set_option Elab.async false
namespace Sys2Proof.WellFormed
open Sys2Proof.Machine

/-- Rings 0–31 (R65). -/
def ringOk (n : Nat) : Bool := decide (n < 32)
/-- Strings 0–63 (R166). -/
def stringOk (k : Nat) : Bool := decide (k < 64)
/-- Phases 0–63 (R169). -/
def phaseOk (p : Nat) : Bool := decide (p < 64)
/-- Stage links 0–15 (R202). -/
def linkOk (k : Nat) : Bool := decide (k < 16)
/-- Timers 0–7 (R326). -/
def timerOk (t : Nat) : Bool := decide (t < 8)
/-- Interrupt targets 0–3 (R316). -/
def targetOk (t : Nat) : Bool := decide (t < 4)
/-- Interrupt sources, eight bits (R324). -/
def sourceOk (n : Nat) : Bool := decide (n < 256)
/-- Journal entries 0–4095 (R105). -/
def entryOk (e : Nat) : Bool := decide (e < 4096)
/-- Peers 0–3 (R252). -/
def peerOk (j : Nat) : Bool := decide (j < 4)
/-- Frets are 48-bit values (R128). -/
def fretOk (f : Nat) : Bool := decide (f < 2 ^ 48)
/-- Status words 0–15 (R312). -/
def blockOk (b : Nat) : Bool := decide (b < 16)
/-- Fault codes of R285. -/
def faultCodeOk (c : Nat) : Bool := decide (0x1000 ≤ c ∧ c < 0x2000 ∧ c % 256 < 32)
/-- Source indices 0–511 (R285). -/
def sourceIndexOk (i : Nat) : Bool := decide (i < 512)
/-- A fault input names a code of R285 and has 32-bit parameters (R356). -/
def faultOk (f : FaultIn) : Bool := faultCodeOk f.code && decide (f.p0 < 2 ^ 32 ∧ f.p1 < 2 ^ 32 ∧ f.p2 < 2 ^ 32)
/-- An item: a rail 0–7 or a string (R240). -/
def itemOk : Item → Bool
  | .rail r => decide (r < 8)
  | .string k => stringOk k
/-- A register offset, word aligned: BAR0, 64 KiB, then BAR2, 4 KiB, and the configuration header with MSI-X control (R62, log 13). -/
def offsetOk (o : Nat) : Bool :=
  decide (o % 4 = 0) && (decide (o < 0x11000) || decide (0x20000 ≤ o ∧ o < 0x20044))
/-- One byte, one 32-bit word, one 16-bit CONFIRM field. -/
def byteOk (b : Nat) : Bool := decide (b < 256)
def wordOk (w : Nat) : Bool := decide (w < 2 ^ 32)
def confirmOk (c : Nat) : Bool := decide (c < 2 ^ 16)
/-- A copy of the journal: 0 primary, 1 secondary (R105). -/
def copyOk : JournalError → Bool
  | .corrected c => decide (c < 2)
  | .uncorrectable c => decide (c < 2)
  | .bothPass => true
/-- The bytes of a segment list are bytes (R78). -/
def listOk : ListData → Bool
  | .segs bytes => bytes.all byteOk
  | _ => true
/-- An upset names a phase (R22). -/
def upsetOk (u : Upset) : Bool := phaseOk u.p
/-- The paths whose late messages are counted, 0–7 (R18). -/
def pathOk (p : Nat) : Bool := decide (p < 8)
/-- A sample of the converter's channels: eight rails, eight thermistors (R412). -/
def monitorOk (m : Monitor) : Bool := decide (m.rails.length = 8 ∧ m.therm.length = 8)

end Sys2Proof.WellFormed

namespace Sys2Proof
open Sys2Proof.WellFormed

/-- A command is well formed. -/
def Instr.wf : Instr → Bool
  | .tick ups => ups.all upsetOk
  | .fretBoundary => true
  | .allotmentPublish => true
  | .reAnchor => true
  | .managementTick => true
  | .monitorSample m _ => monitorOk m
  | .dieBlockReceive _ _ carried => carried.all (fun q => pathOk q.1)
  | .controlDieLost => true
  | .powerDieLost => true
  | .controlDieRebuild fret => fretOk fret
  | .poll _ _ _ _ _ => true
  | .descriptorFetchReturn ring _ => ringOk ring
  | .listFetchReturn ring data => ringOk ring && listOk data
  | .acceptance ring => ringOk ring
  | .fenceBeforeRelease e => entryOk e
  | .completionWrite ring => ringOk ring
  | .nop e => entryOk e
  | .reserve e => entryOk e
  | .replan e => entryOk e
  | .replanBuildDone => true
  | .decisionPoint => true
  | .bankSwap => true
  | .profile e => entryOk e
  | .profilePoint k => stringOk k
  | .setpoint e => entryOk e
  | .setpointEffect e => entryOk e
  | .mode e => entryOk e
  | .modeTakesEffect => true
  | .deferredModeExecute e => entryOk e
  | .latchedOnExecute => true
  | .sequence e => entryOk e
  | .configCommit e => entryOk e
  | .commitApply => true
  | .chargerStop e => entryOk e
  | .chargerCharge e => entryOk e
  | .chargerSearch e => entryOk e
  | .chargerRideLevel e => entryOk e
  | .chargerClearTimeout e => entryOk e
  | .chargerInputLimit e => entryOk e
  | .fence e => entryOk e
  | .fenceWaitEnd e => entryOk e
  | .queryFreeEntries e => entryOk e
  | .queryFret e => entryOk e
  | .queryString e => entryOk e
  | .queryUnreserved e => entryOk e
  | .queryBankEnergy e => entryOk e
  | .queryTag e => entryOk e
  | .recordMark e => entryOk e
  | .captureStop e => entryOk e
  | .captureStart e => entryOk e
  | .captureStartFreeze e => entryOk e
  | .captureBegin => true
  | .keyframeSnapshot => true
  | .capturePostEnd => true
  | .replayFret => true
  | .timedWorkEnd e => entryOk e
  | .overdrawClamp k => stringOk k
  | .rideFret => true
  | .uplinkTelemetry k _ => linkOk k
  | .uplinkStatus k _ => linkOk k
  | .uplinkResend k _ => linkOk k
  | .lostUplinkSlot k _ header => linkOk k && byteOk header
  | .resendDecision k => linkOk k
  | .linkTrained k _ => linkOk k
  | .linkTrainFail k => linkOk k
  | .linkRecoveryTimeout k => linkOk k
  | .stringHiccup k => stringOk k
  | .hiccupRetry k => stringOk k
  | .phaseOpen p => phaseOk p
  | .phaseSenseFailed p => phaseOk p
  | .followerRetire p => phaseOk p
  | .safeDischargeDone k => stringOk k
  | .safeDischargeTimeout k => stringOk k
  | .itemPowerGood i => itemOk i
  | .levelWarningTrip i _ => itemOk i
  | .levelFaultTrip i _ _ => itemOk i
  | .stepDelayEnd => true
  | .stepTimeout => true
  | .downItemsDischarged => true
  | .dischargeTimeout => true
  | .domainPowerGood => true
  | .unwindStepEnd => true
  | .unwindItemTimeout i => itemOk i
  | .referenceStartTimeout => true
  | .fwVerifyDone _ _ _ => true
  | .buttonShort _ => true
  | .longPress _ => true
  | .nmrAssert _ => true
  | .nmrRelease => true
  | .hrstRelease => true
  | .minOffTimeEnd => true
  | .sympatheticBlock j _ => peerOk j
  | .fretTokenArrival => true
  | .fretTokenLost => true
  | .peerLinkLost j => peerOk j
  | .peerStepFail => true
  | .inputLoss _ => true
  | .rideEntry => true
  | .inputReturn vin _ => wordOk vin
  | .psuLimitAsserted => true
  | .searchStepStart _ => true
  | .searchDwellEnd _ _ _ => true
  | .qualifyRestEnd => true
  | .chargeTerminated => true
  | .recharge => true
  | .chargeTimeout => true
  | .packAbsent => true
  | .packInserted => true
  | .packDepleted => true
  | .packOv => true
  | .packExhausted _ => true
  | .faultRaise inputs => inputs.all faultOk
  | .naliveHalfPeriod => true
  | .journalMismatch err => copyOk err
  | .journalRebuildDone _ => true
  | .supplyFreeze => true
  | .flushSealed => true
  | .vholdExhausted => true
  | .supplyReturnOnVhold _ _ => true
  | .aonPowerUp _ _ => true
  | .recorderFlushTrigger => true
  | .recorderBlockWritten _ _ => true
  | .recordsDropped => true
  | .operatingSecond => true
  | .logClearDone => true
  | .otpProgramDone _ _ => true
  | .flashCommandDone data => decide (data.length ≤ 64)
  | .coreHalt => true
  | .timerAdvance t => timerOk t
  | .captureEvent t _ => timerOk t
  | .watchdogWindowTimeout => true
  | .watchdogWaitLimit => true
  | .watchdogClockLoss => true
  | .functionReset => true
  | .ringControlWrite _ => true
  | .ringSubControlWrite n _ => ringOk n
  | .ringCplControlWrite m _ => ringOk m
  | .commit => true
  | .discard => true
  | .stringReinstate k => stringOk k
  | .linkReinstate k => linkOk k
  | .regionReinstate _ => true
  | .release => true
  | .fltStatusClear block _ held => blockOk block && held.all sourceIndexOk
  | .naliveTest _ => true
  | .injectArm _ => true
  | .intClaim t => targetOk t
  | .intComplete t n => targetOk t && sourceOk n
  | .globalEnable _ => true
  | .tmrControlWrite t _ => timerOk t
  | .tmrCountWrite t _ => timerOk t
  | .tmrCompareWrite t _ => timerOk t
  | .tmrCaptureRead t => timerOk t
  | .wdSetupWrite _ => true
  | .fbFretLowRead => true
  | .otpServiceKey _ => true
  | .program confirm => confirmOk confirm
  | .programSecret confirm => confirmOk confirm
  | .advanceRollback confirm => confirmOk confirm
  | .advanceEpoch confirm => confirmOk confirm
  | .revoke confirm => confirmOk confirm
  | .flashGo _ => true
  | .flush => true
  | .clear confirm => confirmOk confirm
  | .registerWrite offset _ held => offsetOk offset && held.all sourceIndexOk
  | .ident => true
  | .mpMode => true
  | .modeCause => true
  | .outstanding => true
  | .portStatus => true
  | .resultOrdinary => true
  | .resultUrgent => true
  | .clearResult => true
  | .mpFret => true
  | .lastFault => true
  | .mpCharger => true
  | .recorder => true
  | .modeBlock => true
  | .faultList => true
  | .recordSelect _ => true
  | .recordWindow _ => true
  | .modeRequest _ => true
  | .mpRequestEnqueue => true
  | .checkin _ => true
  | .faultClear _ held => held.all sourceIndexOk
  | .windowAddress _ => true
  | .windowData _ held => held.all sourceIndexOk
  | .windowNext _ held => held.all sourceIndexOk
  | .claim => true
  | .complete _ => true
  | .stack => true
  | .alertResponse => true
  | .mpSclTimeout us code index => (byteOk code || code == 0xFFFFFFFF) && wordOk us && wordOk index
  | .mpSdaStuck us code index => (byteOk code || code == 0xFFFFFFFF) && wordOk us && wordOk index
  | .timebaseLost _ => true
  | .badOpcode e => entryOk e
  | .badCommand code => byteOk code
  | .buttonPressStart => true
  | .coreResume => true

end Sys2Proof
end

