-- ==== Sys2Proof/Tests/Slice0.lean ====
section
/-!
SUPPORT. Tests: an ill-formed command for each check of WellFormed, single steps with expected values taken from the manual, and for each statement
with hypotheses states and operands that meet them, clause by clause.
-/
set_option Elab.async false
namespace Sys2Proof.Tests
open Sys2Proof.Machine

/-! ### Small states -/

/-- Every domain powered, in a mode. -/
def dev (m : Mode) : Dev := { pwr := { on := 0xFF, pgood := 0xFF }, mm := { mode := m, target := m, fwValid := true, inputPresent := true } }
/-- Staged registers with their values in force. -/
def rs (d : Dev) (l : List (Nat × Word)) : Dev := { d with cfg := { d.cfg with force := l, staged := l } }
/-- Registers with one copy. -/
def rw (d : Dev) (l : List (Nat × Word)) : Dev := { d with cfg := { d.cfg with rw := l } }
def st (d : Dev) : State := { dev := d }
/-- String 0 an AXIS string of phases 0 and 1 on link 0, regulating. -/
def axis (m : Mode) : Dev :=
  let d := rs (dev m) [(0x2000, 0x20001), (0x3000, 1)]
  { d with str := d.str.set 0 { st := .regulating }, lk := d.lk.set 0 { st := .up, resendOk := true } }
def setStr (d : Dev) (u : StringUnit) : Dev := { d with str := d.str.set 0 u }
def setLk (d : Dev) (u : LinkUnit) : Dev := { d with lk := d.lk.set 0 u }
def setPh (d : Dev) (u : PhaseUnit) : Dev := { d with ph := d.ph.set 0 u }
def setTmr (d : Dev) (u : Timer) : Dev := { d with tmr := d.tmr.set 0 u }
def setClk (d : Dev) (fret q : Nat) : Dev := { d with clk := { d.clk with tick := 32 * fret + q, tickInFret := q, fret := fret } }
/-- A device of which a test reads a flag after a step. -/
def after (o : Host.Outcome State Fault Refusal) : Dev := match o with | .next t => t.dev | _ => {}
/-- A descriptor image: opcode, LENGTH, then the body from byte 8. -/
def img (op len body : Nat) : Image := BitVec.ofNat 512 (op + len * 2 ^ 16 + body * 2 ^ 64)
/-- An accepted entry of ring 0, due. -/
def ent (i : Image) : Entry := { idx := 0, ring := 0, slot := 0, seq := 1, bind := 0, image := i }
/-- A device whose journal holds some entries, at tick 0 of fret 5. -/
def jr (d : Dev) (xs : List Entry) : Dev := { setClk d 5 0 with jr := { d.jr with primary := xs, secondary := xs } }
def run (d : Dev) (r : Run) : Dev := { d with seq := { d.seq with run := some r } }

/-! ### Ill-formed commands -/

theorem test_wf_ring : Instr.wf (.acceptance 32) = false ∧ Instr.wf (.acceptance 31) = true := by decide +kernel
theorem test_wf_string : Instr.wf (.hiccupRetry 64) = false ∧ Instr.wf (.hiccupRetry 63) = true := by decide +kernel
theorem test_wf_phase : Instr.wf (.phaseOpen 64) = false ∧ Instr.wf (.phaseOpen 63) = true := by decide +kernel
theorem test_wf_link : Instr.wf (.linkReinstate 16) = false ∧ Instr.wf (.linkReinstate 15) = true := by decide +kernel
theorem test_wf_timer : Instr.wf (.timerAdvance 8) = false ∧ Instr.wf (.timerAdvance 7) = true := by decide +kernel
theorem test_wf_target : Instr.wf (.intClaim 4) = false ∧ Instr.wf (.intClaim 3) = true := by decide +kernel
theorem test_wf_source : Instr.wf (.intComplete 3 256) = false ∧ Instr.wf (.intComplete 3 255) = true := by decide +kernel
theorem test_wf_entry : Instr.wf (.nop 4096) = false ∧ Instr.wf (.nop 4095) = true := by decide +kernel
theorem test_wf_peer : Instr.wf (.peerLinkLost 4) = false ∧ Instr.wf (.peerLinkLost 3) = true := by decide +kernel
theorem test_wf_fret : Instr.wf (.controlDieRebuild (2 ^ 48)) = false ∧ Instr.wf (.controlDieRebuild (2 ^ 48 - 1)) = true := by decide +kernel
theorem test_wf_block : Instr.wf (.fltStatusClear 16 0 []) = false ∧ Instr.wf (.fltStatusClear 15 0 []) = true := by decide +kernel
theorem test_wf_fault : Instr.wf (.faultRaise [{ code := 0x0FFF }]) = false ∧ Instr.wf (.faultRaise [{ code := 0x1000, p0 := 2 ^ 32 }]) = false ∧ Instr.wf (.faultRaise [{ code := 0x1901 }]) = true := by decide +kernel
theorem test_wf_held : Instr.wf (.faultClear [] [512]) = false ∧ Instr.wf (.faultClear [] [511]) = true := by decide +kernel
theorem test_wf_item : Instr.wf (.itemPowerGood (.rail 8)) = false ∧ Instr.wf (.itemPowerGood (.string 64)) = false ∧ Instr.wf (.itemPowerGood (.rail 7)) = true := by decide +kernel
theorem test_wf_offset : Instr.wf (.registerWrite 2 0 []) = false ∧ Instr.wf (.registerWrite 0xFFFC 0 []) = true := by decide +kernel
theorem test_wf_byte : Instr.wf (.badCommand 256) = false ∧ Instr.wf (.badCommand 255) = true := by decide +kernel
theorem test_wf_word : Instr.wf (.inputReturn (2 ^ 32) 0) = false ∧ Instr.wf (.inputReturn 48000 0) = true := by decide +kernel
theorem test_wf_confirm : Instr.wf (.clear 65536) = false ∧ Instr.wf (.clear 0xC1EA) = true := by decide +kernel
theorem test_wf_copy : Instr.wf (.journalMismatch (.corrected 2)) = false ∧ Instr.wf (.journalMismatch (.uncorrectable 1)) = true := by decide +kernel
theorem test_wf_monitor : Instr.wf (.monitorSample {}) = false ∧ Instr.wf (.monitorSample { rails := List.replicate 8 0, therm := List.replicate 8 0 }) = true := by decide +kernel
theorem test_wf_flash : Instr.wf (.flashCommandDone (List.replicate 65 0)) = false ∧ Instr.wf (.flashCommandDone (List.replicate 64 0)) = true := by decide +kernel
theorem test_wf_port_code : Instr.wf (.mpSclTimeout 26000 256 0) = false ∧ Instr.wf (.mpSclTimeout 26000 0xFFFFFFFF 0) = true := by decide +kernel

/-! ### Single steps, against values that the manual states -/

/-- The running PEC of the worked example of the management port: 0x89, 0x3F, 0x8B, 0x2F. -/
theorem test_pec_of_the_worked_example : crc8 [0x80] = 0x89 ∧ crc8 [0x80, 0x80] = 0x3F ∧ crc8 [0x80, 0x80, 0x0A] = 0x8B ∧ crc8 [0x80, 0x80, 0x0A, 0x31] = 0x2F := by decide +kernel
/-- CRC-32C of "123456789" is 0xE3069283 (the polynomial and the form that R76 names). -/
theorem test_crc32c_check_value : crc32c [0x31, 0x32, 0x33, 0x34, 0x35, 0x36, 0x37, 0x38, 0x39] = 0xE3069283 := by decide +kernel
/-- RESULT_URGENT of the worked example of the management port is 0xA531_0004. -/
theorem test_result_urgent_of_the_worked_example : resultWord (dev .shutdown) { st := .done, status := 0, tag := 0x31, frm := 5, dest := 10 } = 0xA5310004 := by decide +kernel
/-- The request of the worked example enters the urgent slot as a MODE descriptor for SHUTDOWN. -/
theorem test_port_request_accepted :
    let d := after (exec (.modeRequest [0x0A, 0x31, 0x2F]) (st { rw (dev .run) [(0x7800, 7)] with mp := { address := 0x40 } }))
    d.mp.urgent.st = .accepted ∧ d.mp.urgent.tag = 0x31 ∧ d.jr.primary.map (fun x => modeTarget x.image) = [10] ∧ d.mp.ordinary.st = .none := by decide +kernel
/-- With a corrupted TAG the PEC is wrong: a NACK, and nothing executes. -/
theorem test_port_request_corrupted :
    let d := after (exec (.modeRequest [0x0A, 0x30, 0x2F]) (st { rw (dev .run) [(0x7800, 7)] with mp := { address := 0x40 } }))
    d.mp.urgent.st = .none ∧ d.mp.nacks = 1 ∧ d.jr.primary = [] := by decide +kernel
/-- IDENT reads ID_DEVICE, 0x6440_1EA7. -/
theorem test_ident : (after (exec .ident (st (dev .run)))).bus = 0x64401EA7 := by decide +kernel
/-- ID_COMMIT_STATUS places OFFSET in [31:16]. -/
theorem test_commit_status_offset : idCommitStatus { dev .config with cfg := { result := 2, failOffset := 0x2014 } } = 0x20140002 := by decide +kernel
/-- The tick of a fret counts modulo 32; a fret boundary is due behind its last tick. -/
theorem test_tick_counts : (after (exec (.tick []) (st (setClk (dev .run) 3 31)))).clk.tick = 128 ∧ (after (exec (.tick []) (st (setClk (dev .run) 3 31)))).clk.tickInFret = 0 ∧ (after (exec (.tick []) (st (setClk (dev .run) 3 31)))).clk.fretDue = true := by decide +kernel
/-- The fret counter wraps at 48 bits. -/
theorem test_fret_wraps : (after (exec .fretBoundary (st { dev .run with clk := { tick := 32, fret := 2 ^ 48 - 1, fretDue := true } }))).clk.fret = 0 := by decide +kernel
/-- A timer at 0xFFFF_FFFF wraps to 0 and matches a COMPARE of 0. -/
theorem test_timer_wraps :
    let d := after (exec (.timerAdvance 0) (st (setTmr (dev .run) { ctl := 1, count := 0xFFFFFFFF, compare := 0 })))
    (tmrU d 0).count = 0 ∧ (tmrU d 0).matched = true := by decide +kernel
/-- A fifth capture sets OVERFLOW and leaves the queue. -/
theorem test_capture_overflow :
    let d := after (exec (.captureEvent 0 .fretToken) (st (setTmr (dev .run) { ctl := 0x500, count := 9, queue := [1, 2, 3, 4] })))
    (tmrU d 0).queue = [1, 2, 3, 4] ∧ (tmrU d 0).overflow = true := by decide +kernel
/-- SEQUENCE of a ring goes from 0xFFFF_FFFF to 1 at an acceptance. -/
theorem test_sequence_wraps :
    let d := { rw (dev .run) [(0x0400, 1), (0x0508, 4)] with ring := { sub := (List.replicate 32 ({} : SubRing)).set 0 { next := 0xFFFFFFFF, ready := some { slot := 1, image := 0 } } } }
    (subU (after (exec (.acceptance 0) (st d))) 0).next = 1 := by decide +kernel
/-- NOP completes OK with a FINAL entry. -/
theorem test_nop_completes :
    ((after (exec (.nop 0) (st (jr (dev .run) [ent (img 0 0 0)])))).jr.primary.map (fun x => x.cpls.map (fun c => (c.status, c.final)))) = [[(.ok, true)]] := by decide +kernel
/-- An opcode above 0x0C completes BAD_OPCODE. -/
theorem test_bad_opcode :
    ((after (exec (.badOpcode 0) (st (jr (dev .run) [ent (img 0x0D 0 0)])))).jr.primary.map (fun x => x.cpls.map (fun c => c.status))) = [[.badOpcode]] := by decide +kernel
/-- A MODE request for COLD is BAD_FIELD. -/
theorem test_mode_cold_refused :
    ((after (exec (.mode 0) (st (jr (dev .run) [ent (img 5 4 1)])))).jr.primary.map (fun x => x.cpls.map (fun c => c.status))) = [[.badField]] := by decide +kernel
/-- SAFE asked for in RUN acts at once. -/
theorem test_mode_safe : (after (exec (.mode 0) (st (jr (dev .run) [ent (img 5 4 9)])))).mm.mode = .safe := by decide +kernel
/-- COMMIT outside CONFIG is refused. -/
theorem test_commit_refused : (after (exec .commit (st (dev .run)))).cfg.refused = true ∧ (after (exec .commit (st (dev .config)))).cfg.commits.length = 1 := by decide +kernel
/-- A claim prefers the higher PRIORITY, then the lower number. -/
theorem test_claim_priority :
    let d := { rw (dev .run) [(0x5100 + 4 * 33, 0x11), (0x5100 + 4 * 34, 0x12), (0x5100 + 4 * 35, 0x12)] with mm := { (dev .run).mm with event := 7 } }
    (after (exec (.intClaim 0) (st d))).bus = 34 := by decide +kernel
/-- A completion that is not the top clears the stack. -/
theorem test_completion_out_of_order :
    let d := { dev .run with int := { claimStacks := [[(34, 2), (33, 1)], [], [], []] } }
    stackOf (after (exec (.intComplete 0 33) (st d))) 0 = [] ∧ stackOf (after (exec (.intComplete 0 34) (st d))) 0 = [(33, 1)] := by decide +kernel
/-- The third lost slot in a row makes an UP link RECOVERING. -/
theorem test_third_lost_slot :
    (lkU (after (exec (.lostUplinkSlot 0 false 0) (st (setLk (axis .run) { st := .up, upRun := 2 })))) 0).st = .recovering ∧
    (lkU (after (exec (.lostUplinkSlot 0 false 0) (st (setLk (axis .run) { st := .up, upRun := 1 })))) 0).st = .up := by decide +kernel
/-- A delay of 40 ns allows the re-send in the tick; 101 ns does not train. -/
theorem test_link_delay :
    let d := setLk (axis .run) { st := .training, goodUp := 8, goodDown := 8 }
    (lkU (after (exec (.linkTrained 0 40) (st d))) 0).resendOk = true ∧ (lkU (after (exec (.linkTrained 0 41) (st d))) 0).resendOk = false ∧
    (lkU (after (exec (.linkTrained 0 101) (st d))) 0).st = .training := by decide +kernel
/-- The two service keys in a row, with the input present, open OTP. -/
theorem test_service_keys :
    let one := after (exec (.otpServiceKey 0x5A3C) (st (dev .config)))
    one.otp.enable = false ∧ (after (exec (.otpServiceKey 0xC3A5) (st one))).otp.enable = true ∧ (after (exec (.otpServiceKey 0xC3A5) (st (dev .config)))).otp.enable = false := by decide +kernel
/-- The clear of the log wants its word. -/
theorem test_log_clear_word :
    let d := { dev .config with otp := { enable := true } }
    (after (exec (.clear 0xC1EA) (st d))).rcd.clearing = true ∧ (after (exec (.clear 0xC1EB) (st d))).rcd.clearing = false := by decide +kernel
/-- A slot-7 check-in without SLOT7_PORT is ignored. -/
theorem test_checkin_ignored : (after (exec (.checkin []) (st (dev .run)))).mp.checkinIgnored = true ∧ (after (exec (.checkin []) (st { dev .run with wd := { setup := 0x2000 } }))).wd.slot7 = 1 := by decide +kernel
/-- A staged write changes the staged copy alone. -/
theorem test_staged_write :
    let d := after (exec (.registerWrite 0x4008 0x0C800BB8 []) (st (dev .config)))
    stagedOf d 0x4008 = 0x0C800BB8 ∧ inForce d 0x4008 = inForce (dev .config) 0x4008 := by decide +kernel
/-- A hiccup lasts HICCUP_OFF of 0.5 ms steps. -/
theorem test_hiccup_begins :
    let d := setPh (axis .run) { limRun := 1000 }
    (strU (after (exec (.stringHiccup 0) (st d))) 0).st = .hiccup ∧ (strU (after (exec (.stringHiccup 0) (st d))) 0).hicUntil = d.clk.tick + 500 * hicT d 0 := by decide +kernel
/-- On an empty queue the block idles. -/
theorem test_idle : step (st (dev .run)) = .next (st (dev .run)) := rfl

/-! ### States and operands that meet the statements' hypotheses, clause by clause -/

theorem witness_StepRunsTheFrontCommand : ({ pending := [.tick [], .ident] } : State).pending = .tick [] :: [.ident] ∧ State.reset.pending = [] := by decide +kernel

/-- In RUN, in REPLAY with a replay's device, and after reset. -/
theorem witness_StepKeepsBlockInvariant : Safety.Inv State.reset ∧ ({ pending := [.tick []] } : State).pending ≠ [] := by
  refine ⟨⟨fun _ => rfl, by decide +kernel, fun h => absurd h (by decide +kernel), fun h => absurd h (by decide +kernel)⟩, by decide +kernel⟩

theorem witness_ClaimReturnsHighestPriority :
    let d := { rw (dev .run) [(0x5184, 0x11)] with mm := { (dev .run).mm with event := 1 } }
    (globalEnable (dev .run) = true ∧ claimable (dev .run) 3 0 = false ∧ claimOf (dev .run) 3 = 0) ∧
    (globalEnable d = true ∧ claimable d 0 0 = false ∧ claimable d 0 33 = true ∧ d.int.claimStacks.length = 4 ∧ d.int.spurious.length = 4) := by decide +kernel

theorem witness_ClaimAndComplete :
    let d := { rw (dev .run) [(0x5184, 0x11)] with mm := { (dev .run).mm with event := 1 } }
    let q := { dev .run with int := { claimStacks := [[(255, 2), (33, 1)], [], [], []] } }
    (fld (rwOf d 0x5000) 0 1 = 1 ∧ claimOf d 0 = 33) ∧ (fld (rwOf (dev .run) 0x5000) 0 1 = 1 ∧ claimOf (dev .run) 3 = 0) ∧
    fld (rwOf (rw (dev .run) [(0x5000, 0)]) 0x5000) 0 1 = 0 ∧ stackOf q 0 = (255, 2) :: [(33, 1)] ∧ powered q .mgmt = true := by decide +kernel

theorem witness_TimersCountMatchAndCapture :
    let u (t : Timer) := tmrU (setTmr (dev .run) t) 0
    powered (dev .run) .mgmt = true ∧ captureActive (dev .run) = false ∧
    (bit (u { ctl := 1 }).ctl 0 = true ∧ bit (u { ctl := 1 }).ctl 2 = false ∧ (u { ctl := 1 }).count + 1 ≠ (u { ctl := 1 }).compare ∧ (u { ctl := 1, next := 199 }).next < 200 * (dev .run).clk.tick + 200) ∧
    (u { ctl := 3, count := 0xFFFFFFFE }).count + 1 = (u { ctl := 3, count := 0xFFFFFFFE }).compare ∧ bit (u {}).ctl 0 = false ∧
    (u { ctl := 1, compare := 7, count := 7 }).count = 7 ∧ (u { queue := [1, 2, 3, 4] }).queue = 1 :: [2, 3, 4] ∧ (u {}).queue = [] ∧ (u { queue := [1, 2, 3] }).queue.length < 4 ∧
    fld (u { ctl := 0x400 }).ctl 8 4 = 3 + 1 ∧ fld (u { ctl := 0x400 }).ctl 12 2 = 0 ∧ fld (u { ctl := 0x1400 }).ctl 12 2 = 1 ∧ fld (u { ctl := 0x2400 }).ctl 12 2 = 2 ∧
    fld (u { ctl := 0x500 }).ctl 8 4 = 5 ∧ fld (u { ctl := 0x600 }).ctl 8 4 = 6 ∧ fld (u { ctl := 0x700 }).ctl 8 4 = 7 ∧ fld (u { ctl := 0x800 }).ctl 8 4 = 8 ∧
    ((dev .run).clk.tickInFret = 0 ∧ (dev .run).clk.fretDue = false ∧ ({ mgmtAt := some 0 } : Clock).mgmtAt = some (dev .run).clk.tick ∧ ({ changedAt := some 0 } : ModeUnit).changedAt = some (dev .run).clk.tick) ∧
    (tmrU { dev .run with tmr := (dev .run).tmr.set 1 { matchAt := some 0 } } 1).matchAt = some (dev .run).clk.tick := by decide +kernel

theorem witness_WatchdogTurnsOnAndExpires :
    (let d := { dev .run with wd := { openAt := 0, closeAt := 0x7FFFFFFF } }
     powered d .mgmt = true ∧ d.wd.on = false ∧ d.wd.openAt < d.wd.closeAt ∧ d.wd.closeAt ≤ 0x7FFFFFFF ∧ fld (1 : Word) 0 8 ≠ 0) ∧
    (let d := { dev .run with wd := { on := true, closeAt := 100, count := 200, setup := 0x80 } }
     d.wd.on = true ∧ d.wd.waiting = false ∧ 2 * d.wd.closeAt ≤ d.wd.count ∧ bit d.wd.setup 7 = true ∧ bit d.wd.marks 7 = false) ∧
    (let d := { dev .run with wd := { on := true, waiting := true, waitTicks := 1, setup := 0x4001 } }
     d.wd.on = true ∧ d.wd.waiting = true ∧ fld d.wd.setup 14 6 ≠ 0 ∧ fld d.wd.setup 14 6 ≤ d.wd.waitTicks) := by decide +kernel

/-- An engine that is enabled, with ring 0 of 16 slots. -/
def ringDev : Dev := rw (dev .run) [(0x0400, 1), (0x0508, 4), (0x0908, 4), (0x7210, 1)]
def setSub (d : Dev) (u : SubRing) : Dev := { d with ring := { d.ring with sub := d.ring.sub.set 0 u } }
def setCpl (d : Dev) (u : CplRing) : Dev := { d with ring := { d.ring with cpl := d.ring.cpl.set 0 u } }

theorem witness_PollReadsDoorbells :
    engineOn ringDev = true ∧ ringDev.pwr.ctlLost = false ∧ ringDev.ring.sub.length = 32 ∧ ringDev.ring.cpl.length = 32 ∧ subSize ringDev 0 = 16 ∧ cplSize ringDev 0 = 16 ∧
    leAt (15 : Line) 0 2 < subSize ringDev 0 ∧ subSize ringDev 0 ≤ leAt (16 : Line) 0 2 ∧ rwOf ringDev 0x0418 = 0 ∧ rwF ringDev 0x7210 0 6 ≠ 0 ∧
    (ringDev.ring.lastPoll = none ∧ 3 + ({ period := 1 } : RingEngine).period + 1 ≤ 5) := by decide +kernel

/-- An image of a NOP with SEQUENCE 1 and its CRC. -/
def goodImage (i : Image) : Image := BitVec.ofNat 512 (i.toNat + crc32c (bytesOf i 60) <<< 480)

theorem witness_FetchesMakeDescriptorsReady :
    let d := setSub ringDev { prod := 2, fetchDue := true }
    let e := setSub ringDev { prod := 2, fetchDue := true, tries := 2 }
    let plain := goodImage (1 <<< 32)
    let listed := goodImage (1 + (32 <<< 16) + (1 <<< 32) + (1 <<< 70) + (1 <<< 272))
    (engineOn d = true ∧ ringWork d 0 = true ∧ (subU d 0).fetchDue = true ∧ (subU d 0).listWait = none ∧ (subU d 0).ready = none) ∧
    (crc32c (bytesOf plain 60) = leAt plain 60 4 ∧ leAt plain 4 4 = (subU d 0).next ∧ d.mm.mode ≠ .hold ∧ needsList plain = false) ∧
    (crc32c (bytesOf listed 60) = leAt listed 60 4 ∧ leAt listed 4 4 = (subU d 0).next ∧ needsList listed = true ∧ byteAt listed 0 = 1) ∧
    (crc32c (bytesOf (0 : Image) 60) ≠ leAt (0 : Image) 60 4 ∧ (subU d 0).tries < 2 ∧ ringWork e 0 = true ∧ 2 ≤ (subU e 0).tries) ∧
    ((subU (setSub ringDev { fetchDue := true, listWait := some listed }) 0).listWait = some listed) ∧
    (byteAt (2 + (1 <<< 120) : Image) 0 = 2 ∧ ([goodImage 5].take (byteAt (2 + (1 <<< 120) : Image) 15)).all (fun r => crc32c (bytesOf r 60) == leAt r 60 4) = true) ∧
    ((leWords [0x34, 0x12, 0, 1]).take (leAt listed 34 2) = [0x01001234]) := by decide +kernel

theorem witness_AcceptanceTakesDescriptor :
    let d := setSub ringDev { next := 0xFFFFFFFF, ready := some { slot := 1, image := 0 } }
    (subU d 0).ready = some { slot := 1, image := 0 } ∧ acceptable d 0 = true ∧ itsTurn d 0 = true ∧ d.mm.mode ≠ .hold ∧ capturing d = false ∧ 0 < d.jr.tails.length ∧
    (d.pwr.pwrLost = false ∧ d.pwr.resendC = false ∧ d.pwr.resendP = false) ∧ acceptable { d with pwr := { d.pwr with resendP := true } } 0 = true ∧ itsTurn { d with pwr := { d.pwr with resendP := true } } 0 = true := by decide +kernel

/-- Completion entries of an entry of ring 0. -/
def cpl (final : Bool) : Cpl := { seq := 1, status := .ok, final := final, ring := 0, effect := 0 }
theorem witness_CompletionWriteAdvancesRing :
    let d (final : Bool) (p : Nat) := { setCpl ringDev { prod := p, cons := 3 } with jr := { primary := [{ ent 0 with cpls := [cpl final], st := .done }], due := [0] } }
    (let e := d true 15
     powered e .host = true ∧ e.jr.frozen = false ∧ cplSize e 0 ≠ 0 ∧ ((cplU e 0).prod + 1) % cplSize e 0 ≠ (cplU e 0).cons ∧ ((cplU e 0).prod + 1) % cplSize e 0 = 0 ∧
       ((e.jr.due.filterMap (entryOf e)).find? (fun y => y.bind == 0)).map (fun x => x.cpls) = some [cpl true]) ∧
    (let e := d false 0
     ((cplU e 0).prod + 1) % cplSize e 0 ≠ (cplU e 0).cons ∧ ((e.jr.due.filterMap (entryOf e)).find? (fun y => y.bind == 0)).map (fun x => x.cpls) = some [cpl false]) := by decide +kernel

theorem witness_RingRegistersWork :
    let off := rw (dev .run) [(0x0400, 0)]
    powered ringDev .host = true ∧ ringDev.ring.sub.length = 32 ∧ engineOn off = false ∧ off.ring.accWrote = [] ∧ engineOn (setRw off 0x0400 1) = true ∧ engineOn ringDev = true ∧
    fld (rwOf off 0x0508) 0 5 = 0 ∧ (4 ≤ fld (16 : Word) 0 5 ∧ fld (16 : Word) 0 5 ≤ 16) ∧ (4 ≤ fld (4 : Word) 0 5) ∧ (fld (17 : Word) 0 5 ≠ 0 ∧ 16 < fld (17 : Word) 0 5) ∧ fld (3 : Word) 0 5 < 4 ∧
    captureActive ringDev = false := by decide +kernel

theorem witness_TickAdvancesTime :
    let d := { dev .run with wd := { on := true, setup := 0x101 } }
    d.clk.fretDue = false ∧ d.waiting = [] ∧ (2, Msg.mode .inputLoss).1 > d.clk.tick + 1 ∧ follower d = false ∧ d.cfg.after = [] ∧
    (d.wd.on = true ∧ d.wd.waiting = false ∧ powered d .mgmt = true ∧ bit d.wd.setup 8 = true) ∧ (dev .run).wd.on = false := by decide +kernel

theorem witness_FretBoundaryPassesColumn :
    (dev .run).clk.fretDue = false ∧ ({ fretDue := true } : Clock).fretDue = true ∧ (dev .run).mm.wdHold = false ∧ (dev .run).waiting = [] := by decide +kernel

theorem witness_AllotmentAndReAnchor :
    (let d := setClk (axis .run) 5 0
     powered d .sched = true ∧ d.pwr.ctlLost = false ∧ d.clk.tickInFret = 0 ∧ d.mm.mode ≠ .drone ∧ d.str.length = 64 ∧ 0 ∈ configured d ∧ kindOf d 0 = .axis) ∧
    (let d := setClk (axis .run) 5 1
     powered d .sched = true ∧ d.clk.tickInFret = 1) := by decide +kernel

theorem witness_ManagementTickAndSamples :
    let m : Monitor := { rails := List.replicate 8 0, therm := List.replicate 8 0 }
    let d := dev .run
    (powered d .mgmt = true ∧ d.pwr.ctlLost = false ∧ d.lk.length = 16 ∧ ∀ k < 16, (lkU d k).lostJudged ≤ rsF d 0x3004 0 10) ∧
    (d.mm.mode ≠ .off ∧ d.pwr.monRetired = [] ∧ capturing d = false ∧ d.seq.rails.length = 8 ∧ m.rails.length = 8 ∧ powered d .sched = true ∧ powered d .aux = true) ∧
    (let e := setClk d 2 0
     stampTick e 32 + 32 = e.clk.tick ∧ inputsOpen e = true ∧ e.clk.tick < stampTick e 33 + 32 ∧ stampTick e 31 + 32 < e.clk.tick) ∧
    (let e := setClk d 2 5
     stampTick e 32 + 32 < e.clk.tick ∧ e.clk.tick ≤ stampTick e 32 + 32 + e.clk.tickInFret) := by decide +kernel

/-- A die-to-die block of number 1 with its CRC. -/
def goodBlock : DieBlock := BitVec.ofNat 256 (1 + (crc16 (bytesOf (1 : DieBlock) 30)) <<< 240)
theorem witness_DieLinkLossAndRebuild :
    let lost := { setClk (dev .run) 1 0 with pwr := { (dev .run).pwr with lastBlockP := 12, lastBlockC := 12 } }
    (powered (dev .run) .mgmt = true ∧ (dev .run).flt.pending = false ∧ (dev .run).pwr.resendP = false ∧ ({ (dev .run).pwr with resendC := true } : Power).resendC = true) ∧
    (leAt goodBlock 30 2 = crc16 (bytesOf goodBlock 30) ∧ leAt goodBlock 0 2 = 1 ∧ leAt (goodBlock + 1) 30 2 ≠ crc16 (bytesOf (goodBlock + 1) 30) ∧ leAt goodBlock 0 2 = (0 + 1) % 65536 ∧ leAt goodBlock 0 2 ≠ (7 + 1) % 65536) ∧
    (powered lost .mgmt = true ∧ lost.pwr.ctlLost = false ∧ lost.pwr.onVhold = false ∧ lost.mm.mode = .run ∧ lost.seq.run = none ∧ lost.mm.after = none ∧ captureActive lost = false) ∧
    (lost.pwr.lastBlockP + 20 ≤ lost.clk.tick ∧ reactionOf lost 0x1000 = .drone) ∧ (lost.pwr.pwrLost = false ∧ lost.pwr.lastBlockC + 20 ≤ lost.clk.tick ∧ reactionOf lost 0x1001 = .deviceSafe) ∧
    (let d := { dev .drone with pwr := { (dev .drone).pwr with ctlLost := true, lostFret := 7 } }
     let near := d.pwr.lostFret + (d.clk.tick - d.pwr.lostTick) / 32
     d.pwr.ctlLost = true ∧ near ≤ 7 + 2 ∧ 7 ≤ near + 2 ∧ near ≤ 5 + 2 ∧ 9 ≤ near + 2) := by decide +kernel

/-- `Safety.executes` and `Safety.runs`, decided. -/
def executesB (d : Dev) (e : Nat) (x : Entry) (c : Sys2Proof.Machine.Class) : Bool :=
  decide (entryOf d e = some x) && ready d x && decide (classOf x.image = c) && !x.latched && !x.deferred && !(onEngine x && engineBusy d x) && !waitsRun d x
def runsB (d : Dev) (e : Nat) (x : Entry) (c : Sys2Proof.Machine.Class) : Bool := executesB d e x c && decide (checkDesc (Safety.intent d e) x = none)
theorem executesB_iff (d : Dev) (e : Nat) (x : Entry) (c : Sys2Proof.Machine.Class) : executesB d e x c = true ↔ Safety.executes d e x c := by
  simp only [executesB, Safety.executes, Bool.and_eq_true, decide_eq_true_eq, Bool.not_eq_true', and_assoc]
theorem runsB_iff (d : Dev) (e : Nat) (x : Entry) (c : Sys2Proof.Machine.Class) : runsB d e x c = true ↔ Safety.runs d e x c := by
  simp only [runsB, Safety.runs, Bool.and_eq_true, decide_eq_true_eq, executesB_iff]
/-- A descriptor alone in the journal runs. -/
def ok (d : Dev) (i : Image) (c : Sys2Proof.Machine.Class) : Bool := runsB (jr d [ent i]) 0 (ent i) c

/-- A NOP of ring 0. -/
theorem witness_NopHasNoEffect : let x := ent (img 0 0 0); runsB (jr (dev .run) [x]) 0 x .nop ∧ x.ring ≠ 32 := by
  decide +kernel

theorem witness_FailedCheckCompletes :
    (let x := ent (img 0 4 0); executesB (jr (dev .run) [x]) 0 x .nop ∧ isOn (jr (dev .run) [x]) x = false ∧ checkDesc (Safety.intent (jr (dev .run) [x]) 0) x = some (.badLength, badDetail 2 0xFF 0)) ∧
    (let x := ent (img 0x0D 0 0); executesB (jr (dev .run) [x]) 0 x .bad ∧ x.fixed = none ∧ 0x0C < opcodeOf x.image) := by
  decide +kernel

theorem witness_QueriesAnswer :
    let ok := ok (dev .run)
    ok (img 10 0 0) .qFree ∧ ok (img 10 4 1) .qFret ∧ ok (img 10 4 (2 + 63 * 256)) .qString ∧ ok (img 10 4 (3 + 4095 * 256)) .qUnreserved ∧ ok (img 10 4 (4 + 4095 * 256)) .qBank ∧
    ok (img 10 4 (5 + 65535 * 256)) .qTag := by
  decide +kernel

/-- A CHARGER descriptor executes in ARMED. -/
def charger (s : CState) (shunt : Word) : Dev := { rs (dev .armed) [(0x4028, shunt)] with chg := { st := s } }
theorem witness_ChargerDescriptorsWork :
    let d (s : CState) := charger s 10
    (ok (d .timeout) (img 8 4 0) .chgStop ∧ ok (d .fast) (img 8 4 0) .chgStop) ∧ (ok (d .stopped) (img 8 4 (1 + 2000 * 65536)) .chgCharge ∧ ok (d .disabled) (img 8 4 1) .chgCharge) ∧
    (ok (d .stopped) (img 8 4 2) .chgSearch ∧ rsF (d .stopped) 0x4028 0 16 ≠ 0 ∧ ok (charger .stopped 0) (img 8 4 2) .chgSearch ∧ rsF (charger .stopped 0) 0x4028 0 16 = 0) ∧
    ok { d .search with chg := { st := .search, search := some { start := 0, entries := [] } } } (img 8 4 2) .chgSearch ∧
    (ok (d .stopped) (img 8 4 (3 + 4200 * 65536)) .chgRide ∧ ok (d .stopped) (img 8 4 (3 + 5800 * 65536)) .chgRide) ∧ (ok (d .timeout) (img 8 4 4) .chgClear ∧ ok (d .stopped) (img 8 4 4) .chgClear) ∧
    ok (d .stopped) (img 8 4 (5 + 65535 * 65536)) .chgLimit := by
  decide +kernel

theorem witness_TimedDescriptorsSchedule :
    let d := rw (axis .run) [(0x7108, 16)]
    ok d (img 3 14 (0 + (1 <<< 8) + (8 <<< 32) + (4800 <<< 96))) .profile ∧ ok d (img 4 16 (0 + (2 <<< 8) + (8 <<< 32) + (1 <<< 96))) .setpoint ∧
    (ok (dev .config) (img 7 8 0) .commit ∧ ok (dev .config) (img 7 8 4096) .commit ∧ coFret (img 7 8 4096) = 4096) ∧
    (ok d (img 12 8 1) .capStart ∧ ok d (img 12 8 (1 + (8 <<< 16))) .capStart ∧ ok d (img 12 8 2) .capFreeze ∧ captureActive d = false ∧ rwF d 0x7108 0 6 ≠ 0) ∧
    (ok { d with cap := { st := .running } } (img 12 8 1) .capStart ∧ captureActive ({ d with cap := { st := .running } } : Dev) = true) ∧
    (ok d (img 12 8 0) .capStop ∧ ok d (img 12 8 (4096 <<< 16)) .capStop) ∧ ok d (img 11 20 0x6FFF) .mark ∧
    (let r : Run := { kind := .disarm, table := 3, step := 0, phase := .downWait }
     disarming d = false ∧ disarming (run d r) = true ∧ ok (run d r) (img 3 14 (0 + (1 <<< 8) + (8 <<< 32) + (4800 <<< 96))) .profile ∧ ok (run d r) (img 4 16 (0 + (2 <<< 8) + (8 <<< 32) + (1 <<< 96))) .setpoint) := by
  decide +kernel

/-- A RESERVE of AXIS string 0, frets 8 to 9, one segment of 0 W. -/
def resvImage (p : Nat) : Image := img 1 22 (0 + (1 <<< 8) + (5 <<< 16) + (8 <<< 32) + (10 <<< 80) + (p <<< 128) + (2 <<< 144) + (p <<< 160))
def resvDev (p : Nat) : Dev := jr (axis .run) [ent (resvImage p)]
theorem witness_ReserveIsAllOrNothing :
    runsB (resvDev 0) 0 (ent (resvImage 0)) .reserve ∧ runsB (resvDev 30000) 0 (ent (resvImage 30000)) .reserve := by
  decide +kernel

theorem witness_LongWorkBegins :
    let rp (f : Nat) := img 2 43 (f + (1 <<< 288))
    (ok (axis .run) (rp 8) .replan ∧ rpSwitch (rp 8) = 8 ∧ (jr (axis .run) []).clk.fret + 2 ≤ 8) ∧ (ok (axis .run) (rp 6) .replan ∧ rpSwitch (rp 6) < (jr (axis .run) []).clk.fret + 2) ∧ (¬ ((jr (axis .run) []).clk.fret + 2 < (jr (axis .run) []).clk.fret + 2)) ∧
    (ok (dev .safe) (img 6 4 (1 + 0x0F0000)) .sequence = false ∧ ok (dev .armed) (img 6 4 (1 + 0x0F0000)) .sequence ∧ sqDown (img 6 4 (1 + 0x0F0000)) = true) ∧
    (ok (dev .armed) (img 6 4 0x0F0F00) .sequence ∧ sqDown (img 6 4 0x0F0F00) = false) := by decide +kernel

theorem witness_WaitingWorkExecutes :
    let old := { ent (img 0 0 0) with idx := 1, st := .intent }
    let fence := ent (img 9 0 0)
    let wait := { fence with st := .intent }
    let fenced := ent (img 0x0200 0 0)
    let late := { ent (img 5 4 6) with deferred := true }
    (ok (dev .run) (img 9 0 0) .fence ∧ fenceOpen (Safety.intent (jr (dev .run) [fence]) 0) fence = true) ∧
    (runsB (jr (dev .run) [old, fence]) 0 fence .fence ∧ fenceOpen (Safety.intent (jr (dev .run) [old, fence]) 0) fence = false) ∧
    (entryOf (jr (dev .run) [wait]) 0 = some wait ∧ classOf wait.image = .fence ∧ fenceOpen (jr (dev .run) [wait]) wait = true ∧ fenceOpen (jr (dev .run) [old, wait]) wait = false) ∧
    (ok (dev .run) (img 0x0200 0 0) .nop ∧ classOf fenced.image = .nop ∧ flagFence fenced = true) ∧
    (let d := jr (dev .run) [late]
     entryOf d 0 = some late ∧ late.deferred = true ∧ late.latched = false ∧ ready d late = true ∧ waitsRun d late = false ∧ isOn d late = false ∧ checkDesc (Safety.intent d 0) late = none) ∧
    (let d := { dev .cold with mm := { mode := .cold, latched := some .press, offUntil := some 0 } }
     d.mm.latched = some .press ∧ d.mm.mode = .cold ∧ d.mm.offUntil = some 0 ∧ 0 ≤ d.clk.tick) := by decide +kernel

theorem witness_ModeDescriptorsAct :
    let m (t : Nat) := img 5 4 t
    let x (t : Nat) := ent (m t)
    (ok (dev .run) (m 10) .mode ∧ ok (dev .run) (m 0) .mode ∧ ok (dev .run) (m 9) .mode ∧ isOn (jr (dev .run) [x 9]) (x 9) = false ∧ (jr (dev .run) [x 9]).seq.run = none ∧ (x 9).ring ≠ 32) ∧
    (ok (dev .run) (m 5) .mode ∧ Mode.ofCode (modeTarget (m 5)) = some .run ∧ (x 5).refuse = false) ∧
    (ok (dev .run) (m 6) .mode ∧ judge [] (Safety.intent (jr (dev .run) [x 6]) 0) .hold = true) ∧ (ok (dev .run) (m 11) .mode ∧ judge [] (Safety.intent (jr (dev .run) [x 11]) 0) .replay = false) ∧
    (let y := { x 6 with st := .intent }
     let d := { jr (dev .run) [y] with mm := { (dev .run).mm with pend := some { entry := 0, target := .hold, atFret := 5 } } }
     entryOf d 0 = some y ∧ y.st ≠ .done ∧ d.clk.fret = 5 ∧ d.clk.tickInFret = 0 ∧ d.mm.wdHold = false ∧ judge [] { d with mm := { d.mm with pend := none } } .hold = true) ∧
    judge [] (dev .armed) .run = true ∧ judge [] (dev .hold) .run = true := by decide +kernel

theorem witness_TimedWorkTakesEffect :
    (let p : Prof := { entry := 0, start := 4, points := [(0, 4800), (8, 5600)] }
     let d := setStr (setClk (axis .run) 5 0) { st := .regulating, prof := some p }
     powered d .sched = true ∧ (strU d 0).prof = some p ∧ p.done ≠ d.clk.fret + 1 ∧ dueSetpoints d 0 = [] ∧ duePro d 0 = []) ∧
    (let x := { ent (img 4 16 (0 + (7 <<< 8) + (5 <<< 32) + (4800 <<< 80) + (2000 <<< 96) + (100 <<< 112))) with st := .scheduled }
     let d := jr (axis .run) [x]
     entryOf d 0 = some x ∧ x.restored = false ∧ overtaken d (strU d 0).idleBy (some 0) = false ∧ overtaken { d with jr := { d.jr with primary := d.jr.primary ++ [{ ent 0 with idx := 1 }] } } (some (d.clk.tick, some 1)) (some 0) = true ∧ classOf x.image = .setpoint ∧ spFret x.image ≤ d.clk.fret ∧ d.clk.tickInFret = 0 ∧ before d 0 = [] ∧ (strU d (spString x.image)).prof = none ∧ spString x.image < d.str.length) ∧
    (let r : Resv := { entry := 0, ring := 0, string := 0, tag := 0, start := 1, stop := 5, pStart := 0, segs := [] }
     r.inLive = true ∧ r.stop ≤ (setClk (axis .run) 5 0).clk.fret) := by decide +kernel

theorem witness_CommitsAreWhole :
    let c : CommitReq := { fret := 5, entry := none }
    let d := { setClk (dev .config) 5 0 with cfg := { commits := [c] } }
    let bad := { rs (setClk (dev .config) 5 0) [] with cfg := { staged := [(0x2000, 1)], commits := [c] } }
    (powered d .mgmt = true ∧ d.mm.mode = .config ∧ (dev .run).mm.mode ≠ .config) ∧ (powered d .sched = true ∧ d.clk.tickInFret = 0 ∧ d.cfg.commits = [c] ∧ c.fret ≤ d.clk.fret) ∧
    firstFailing { d with cfg := { d.cfg with commits := [] } } = none ∧ firstFailing { bad with cfg := { bad.cfg with commits := [] } } ≠ none ∧
    commitDue (dev .config) = false ∧ commitDue d = true := by decide +kernel

theorem witness_ReplanSwapsBanks :
    let p : Replan := { entry := 0, switch := 7 }
    let d := jr (axis .run) [{ ent (img 2 43 7) with st := .intent }]
    let at5 (p : Replan) := { d with fb := { d.fb with replan := some p } }
    ((at5 p).fb.replan = some p ∧ ((entryOf d 0).map (fun x => x.adds)) = some [] ∧ p.ready = false) ∧ (d.clk.tickInFret = 0 ∧ p.st ≠ 3 ∧ ({ p with ready := true } : Replan).ready = true ∧ d.clk.fret + 2 = p.switch) ∧
    (p.switch ≤ d.clk.fret + 2) ∧ (({ p with st := 3, switch := 5 } : Replan).switch ≤ d.clk.fret) := by decide +kernel

theorem witness_OverdrawAndRideClamp :
    let d := setStr (axis .run) { st := .regulating, overRun := 4, overIdle := true }
    let r : Resv := { entry := 0, ring := 0, string := 0, tag := 0, start := 1, stop := 9, pStart := 0, segs := [] }
    let g := { setClk (axis .ride) 5 0 with mm := { (axis .ride).mm with rideFret := some 5 }, fb := { resv := [r] } }
    (0 < d.str.length ∧ 4 ≤ (strU d 0).overRun ∧ (strU d 0).overClamp = false ∧ powerIn d 0 d.clk.fret = 0 ∧ (strU (setStr (axis .run) { overRun := 4, overFret := 5 }) 0).overIdle = false) ∧ (g.mm.rideFret = some 5 ∧ g.pwr.ctlLost = false ∧ 5 ≤ g.clk.fret ∧ ∀ r ∈ g.fb.resv, r.cutFret = none) := by decide +kernel

theorem witness_CaptureAndReplayRun :
    (let d := { setClk (dev .run) 5 0 with cap := { st := .awaiting, startFret := 5 } }
     d.cap.st = .awaiting ∧ d.cap.startFret ≤ d.clk.fret) ∧
    (let d := { rw (setClk (dev .run) 4096 0) [(0x7108, 1 <<< 24)] with cap := { st := .wrap, wrap := true } }
     d.cap.st = .wrap ∧ rwF d 0x7108 24 8 ≠ 0 ∧ d.cap.keyFret + 4096 * rwF d 0x7108 24 8 ≤ d.clk.fret) ∧
    (let d := { dev .run with cap := { st := .post } }
     d.cap.st = .post ∧ d.cap.postUntil ≤ d.clk.fret) ∧
    (let d := { rw (dev .replay) [(0x7210, 1 + (17 <<< 8))] with cap := { rst := .running } }
     let rest : List RepRec := [.input 1 (.fret 1 0 0)]
     d.mm.mode = .replay ∧ replayActive d = true ∧ powered d .host = true ∧ rwF d 0x7210 0 6 ≠ 0 ∧ rest.any closes = true ∧ outRoom d = true ∧ d.cap.repAt ≠ some d.clk.fret) := by decide +kernel

/-- A block of a slot and type with its CRC-16. -/
def blockOf (slot type : Nat) : Block := BitVec.ofNat 280 ((slot + type * 64) + (crc16 (bytesOf (BitVec.ofNat 280 (slot + type * 64) : Block) 33)) <<< 264)

theorem witness_UplinksAreTaken :
    let d := axis .run
    let r := setLk (axis .run) { st := .up, refused := [(0, 0), (32, 0)] }
    (d.lk.length = 16 ∧ d.ph.length = 64 ∧ listening d 0 = true ∧ injectionOn d 6 0 = false ∧ hdrSlot (blockOf 0 0) = 0 ∧ hdrType (blockOf 0 0) = 0 ∧ crcGood (blockOf 0 0) = true) ∧
    (hdrSlot (blockOf 1 1) = 1 ∧ hdrType (blockOf 1 1) = 1 ∧ crcGood (blockOf 1 1) = true) ∧ (listening r 0 = true ∧ (lkU r 0).refused.any (fun q => q.1 == byteAt (blockOf 0 0) 0) = true) := by decide +kernel

theorem witness_LostSlotsAndTheSecondSlot :
    let d := setLk (axis .run) { st := .up, upRun := 2 }
    let n := setLk (axis .run) { st := .up, nak := some true, resendOk := true }
    (d.lk.length = 16 ∧ listening d 0 = true ∧ (lkU d 0).upRun = 2 ∧ (lkU d 0).st = .up ∧ (lkU (axis .run) 0).upRun ≠ 2) ∧ (crcGood (1 : Block) = false ∧ injectionOn d 6 0 = false) ∧
    ((lkU n 0).nak = some true ∧ (lkU n 0).resendOk = true ∧ (lkU n 0).hold = false ∧ secondFree n 0 = true) ∧ ((lkU d 0).nak = none ∧ secondFree d 0 = true) ∧
    (let t := setLk (axis .run) { st := .up, second := some (0, 0) }
     secondFree t 0 = false ∧ ((lkU t 0).second.any fun q => q.1 == t.clk.tick) = true ∧ ((lkU d 0).second.any fun q => q.1 == d.clk.tick) = false) := by decide +kernel

theorem witness_LinksTrainAndRetire :
    let t := setLk (axis .run) { st := .training, goodUp := 8, goodDown := 8 }
    let r := setLk (setClk (axis .run) 5 0) { st := .recovering, recoverAt := 0 }
    let f := setLk (setClk (axis .run) 5000 0) { st := .training }
    let c := setLk (axis .config) { st := .retired }
    (t.lk.length = 16 ∧ t.ph.length = 64 ∧ t.str.length = 64 ∧ listening t 0 = true ∧ (lkU t 0).st = .training ∧ 8 ≤ (lkU t 0).goodUp ∧ 8 ≤ (lkU t 0).goodDown ∧ t.mm.mode ≠ .drone) ∧
    (listening f 0 = true ∧ (lkU f 0).trainFailed = false ∧ (lkU f 0).trainAt + 1000 * rsF f 0x3004 24 8 ≤ f.clk.tick) ∧
    (listening r 0 = true ∧ (lkU r 0).st = .recovering ∧ (lkU r 0).recoverAt + rsF r 0x3004 16 8 < r.clk.tick) ∧
    (c.mm.mode = .config ∧ (lkU c 0).st = .retired ∧ ((srcOf c 0x1202).status && (srcOf c 0x1202).insts.contains 0) = false ∧ linkUsed c 0 = true ∧ bit c.flt.regRetired (regionOfLink 0) = false) := by decide +kernel

theorem witness_StringsHiccupAndRest :
    let n (d : Dev) := ((inService d 0).map (fun p => (phU d p).limRun)).foldl max 0
    let h := setPh (axis .run) { limRun := 1000 }
    let k := setStr (setPh (setClk (axis .run) 5 0) { limRun := 1000 }) { st := .regulating, hicStarts := List.replicate 15 0 }
    let w := setStr (axis .run) { st := .hiccup }
    let s := setStr (axis .safe) { st := .safeDischarge }
    let c := setStr (axis .config) { st := .retired, retired := true }
    ((strU h 0).st.switching = true ∧ 1 ≤ n h ∧ hicN h 0 ≤ n h ∧ hiccupsIn h 0 < hicK h 0 ∧ (strU h 0).retired = false ∧ ∀ p ∈ inService h 0, (phU h p).follower = false) ∧
    ((strU k 0).st.switching = true ∧ 1 ≤ n k ∧ hicN k 0 ≤ n k ∧ hicK k 0 ≤ hiccupsIn k 0) ∧ ((strU w 0).st = .hiccup ∧ (strU w 0).hicUntil ≤ w.clk.tick) ∧
    ((strU s 0).st = .safeDischarge ∧ (strU s 0).retired = false ∧ below10 s 0 = true ∧ (strU s 0).dischBy ≤ s.clk.tick) ∧ (c.mm.mode = .config ∧ stringFault c 0 = false ∧ (strU c 0).st = .retired) := by decide +kernel

theorem witness_PhasesFailAlone :
    let o := setPh (axis .run) { openRun := 32 }
    let s := setPh (axis .run) { rangeRun := 2 }
    let f := setPh (axis .run) { follower := true, fCycles := 64 }
    (o.ph.length = 64 ∧ o.str.length = 64 ∧ tested o 0 = true ∧ 32 ≤ (phU o 0).openRun ∧ senseFailed o 0 = false) ∧ (tested s 0 = true ∧ senseFailed s 0 = true) ∧
    ((phU f 0).follower = true ∧ (phU f 0).retired = false ∧ 64 ≤ (phU f 0).fCycles) := by decide +kernel

/-- Rail 0 enabled, its warning armed. -/
def rail (m : Mode) : Dev := { dev m with seq := { rails := (List.replicate 8 ({} : Rail)).set 0 { enabled := true, uvArmed := true } } }
theorem witness_ItemsAreSupervised :
    let r : Run := { kind := .seqUp, table := 2, step := 0, phase := .upWait, items := [.rail 0] }
    (canBeGood (rail .armed) (.rail 0) = true ∧ (rail .armed).mm.mode ≠ .boot ∧ (rail .armed).seq.run = none) ∧ (canBeGood (run (rail .armed) r) (.rail 0) = true ∧ (run (rail .armed) r).seq.rails.length = 8 ∧ r.items = [.rail 0]) ∧
    (levelArmed (rail .armed) (.rail 0) true = true ∧ levelArmed (rail .armed) (.rail 0) false = true) ∧ (levelArmed (axis .run) (.string 0) true = true) := by decide +kernel

theorem witness_RunStepsAdvance :
    let r (p : RunPhase) : Run := { kind := .seqDown, table := 3, step := 0, phase := p }
    let low (d : Dev) (r : Run) := r.items.all (itemLow d) = true
    let i (p : RunPhase) : Run := { r p with items := [.rail 0] }
    let strict := rs (rail .armed) [(0x3A00, 3)]
    ((r .delay).deadline ≤ (rail .armed).clk.tick ∧ (r .delay).waitPeers = false) ∧ ((r (.domainDown 6)).phase = .domainDown 6 ∧ ({ r (.domainUp 1) with kind := .boot } : Run).kind = .boot) ∧ follows (rail .armed) (i .upWait) = false ∧
    (low (rail .armed) (r .downWait) ∧ low (rail .armed) (r .hold) ∧ low (rail .armed) (r .closing)) ∧ ¬ low (rail .armed) (i .downWait) ∧ stepStrict (rail .armed) 3 0 = false ∧
    stepStrict strict 3 0 = true ∧ ¬ low strict (i .downWait) ∧ powered strict .mgmt = true := by decide +kernel

theorem witness_BootGoesThroughItsDomains :
    let r (p : RunPhase) : Run := { kind := .boot, table := 1, step := 15, phase := p }
    let c (t : Trigger) := { dev .cold with mm := { mode := .cold, offUntil := some 0, held := some t } }
    ((c .master).mm.mode = .cold ∧ (c .button).mm.offUntil = some 0 ∧ (c .input).mm.latched = none) ∧ ((run (dev .boot) (r (.domainUp 0))).seq.run = some (r (.domainUp 0)) ∧ (r (.domainUp 1)).phase = .domainUp 1 ∧ (r (.domainUp 4)).phase = .domainUp 4) ∧
    (dev .boot).mm.safeAfterBoot = none ∧ (r .upWait).phase ≠ .unwind ∧ 0 + 5000 ≤ (setClk (dev .boot) 157 0).clk.tick := by decide +kernel

theorem witness_UnwindGoesBack :
    let r : Run := { kind := .boot, table := 1, step := 2, phase := .unwind, enabled := [[.rail 0]] }
    let d := run (dev .boot) r
    let t : Run := { kind := .seqUp, table := 2, step := 0, phase := .unwind, items := [.rail 0] }
    (d.seq.run = some r ∧ r.items.all (fun i => itemUnwound d i || r.timedOut.contains i) = true ∧ r.enabled = [.rail 0] :: []) ∧ ({ r with enabled := [] } : Run).enabled = [] ∧ (t.kind = .seqUp ∧ (dev .armed).mm.after = none ∧ t.entry = none) ∧
    (let e := setClk (run (rail .armed) t) 10000 0
     Item.rail 0 ∈ t.items ∧ Item.rail 0 ∉ t.timedOut ∧ itemUnwound e (.rail 0) = false ∧ t.deadline + 1000 * unwindMs e (.rail 0) ≤ e.clk.tick) := by decide +kernel

theorem witness_ButtonAndResetPins :
    let p (m : Mode) : Dev := { setClk (dev m) 5 0 with pins := { pressed := true, pressStart := 100 } }
    let long := { setClk (dev .run) 1000000 0 with pins := { pressed := true } }
    let cold (q : Option OnReq) (h : Option Trigger) := { dev .cold with mm := { mode := .cold, offUntil := some 0, latched := q, held := h } }
    ((dev .run).pins.pressed = false) ∧ ((p .cold).pins.longDone = false ∧ longDue (p .cold) (stampTick (p .cold) 158) = false ∧ stampTick (p .cold) 158 + 2 = (p .cold).clk.tick ∧ inputsOpen (p .cold) = true ∧ capturing (p .cold) = false ∧ follower (p .cold) = false ∧ 2 ≤ coldBoot (p .cold) ∧ (p .cold).mm.offUntil = none) ∧
    ((p .shutdown).mm.latched = none ∧ longDue (p .shutdown) (stampTick (p .shutdown) 158) = false) ∧ ((p .run).clk.tick < stampTick (p .run) 160 + 2 ∧ stampTick (p .run) 157 + 2 < (p .run).clk.tick ∧ longDue (p .run) (stampTick (p .run) 160) = false ∧ inputsOpen { p .run with clk := { (p .run).clk with fretDue := true } } = false) ∧
    (longDue long (stampTick long (BitVec.ofNat 16 (long.clk.tick - 2))) = true ∧ stampTick long (BitVec.ofNat 16 (long.clk.tick - 2)) + 2 = long.clk.tick ∧ inputsOpen long = true ∧ long.mm.mode = .run ∧ long.seq.run = none ∧ follower long = false ∧ capturing long = false) ∧
    ((cold none none).mm.held = none ∧ (cold (some .press) none).mm.latched ≠ none ∧ (cold none (some .button)).mm.held = some .button ∧ (cold none (some .input)).mm.held = some .input ∧ (cold none (some .master)).mm.held = some .master) ∧
    ((dev .run).pins.nmr = false) ∧ ({ (dev .run).pins with nmr := true } : Pins).nmr = true ∧ ({ hrstTimed := true } : Pins).hrstTimed = true := by decide +kernel

/-- A package of a system of four: POLICY with COUNT 3; a follower, or the master. -/
def system (master : Bool) (m : Mode) : Dev :=
  let d := dev m
  { d with pins := { index := if master then 0 else 1, master := master }, otp := { shadow := [(0x080, { val := 14, st := .good })] } }
/-- A sympathetic block whose SAFE bit is set or clear, with its CRC. -/
def symBlock (safe : Nat) : Block := BitVec.ofNat 280 (safe * 256 + (crc16 (bytesOf (BitVec.ofNat 280 (safe * 256) : Block) 33)) <<< 264)
def setPeer (d : Dev) (j : Nat) (p : Peer) : Dev := { d with seq := { d.seq with peers := d.seq.peers.set j p } }
theorem witness_PeersAreFollowed :
    let d := system true .run
    let f := system false .run
    let r : Run := { kind := .arm, table := 2, step := 0, phase := .peers, waitPeers := true }
    (d.mm.mode ≠ .off ∧ d.pwr.ctlLost = false ∧ (systemPeers d).contains 3 = true ∧ d.seq.peers.length = 4 ∧ peerGood (0xFFFF : Block) = false) ∧
    (peerGood (symBlock 0) = true ∧ (peerFields (symBlock 0)).safe = false ∧ (peerFields (symBlock 0)).cmdValid = false ∧ (peerFields (symBlock 0)).fwdDown = false ∧ d.seq.run = none) ∧
    (peerGood (symBlock 1) = true ∧ (peerFields (symBlock 1)).safe = true ∧ (peerU d 3).block.safe = false ∧ (peerFields (symBlock 1)).cmdValid = false ∧ (peerFields (symBlock 1)).fwdDown = false ∧ d.mm.after = none ∧ captureActive d = false) ∧
    (follower f = true ∧ powered f .sched = true ∧ f.seq.tokenSeen = false ∧ ({ f.seq with tokenSeen := true } : Sequencer).tokenSeen = true ∧ ((setPeer f 0 { block := { master := true, fret := 9 } }).seq.peers.find? (fun p => p.block.master)).isSome = true) ∧
    (follower f = true ∧ 4 ≤ ({ noToken := 4 } : Sequencer).noToken) ∧ ((peerU (setPeer (setClk d 5 0) 3 { st := 2 }) 3).st = 2 ∧ (peerU (setPeer (setClk d 5 0) 3 { st := 2 }) 3).lastGood + 16 ≤ (setClk d 5 0).clk.tick) ∧
    (sysMaster d = true ∧ r.waitPeers = true ∧ r.phase ≠ .unwind ∧ (systemPeers d).any (fun j => (peerU (setPeer d 3 { block := { fail := true } }) j).block.fail && (peerU (setPeer d 3 { block := { fail := true } }) j).block.resNumber == d.seq.cmdNumber) = true) := by decide +kernel

theorem witness_InputLossAndReturn :
    let ride := { dev .run with mm := { (dev .run).mm with rideAvailable := true } }
    let due := { dev .run with mm := { (dev .run).mm with rideAvailable := true, rideDue := some 2 } }
    let gone (m : Mode) := { dev m with mm := { mode := m } }
    let at5 (d : Dev) := setClk d 5 0
    (stampTick (at5 ride) 158 + 2 = (at5 ride).clk.tick ∧ inputsOpen (at5 ride) = true ∧ (at5 ride).clk.tick < stampTick (at5 ride) 159 + 2 ∧ stampTick (at5 ride) 157 + 2 < (at5 ride).clk.tick ∧ inputsOpen { at5 ride with clk := { (at5 ride).clk with fretDue := true } } = false) ∧
    let boots := { gone .cold with otp := { shadow := [(0x080, { val := 1, st := .good })] } }
    (ride.mm.inputPresent = true ∧ ride.mm.mode = .run ∧ capturing ride = false ∧ ride.chg.search = none ∧ ride.mm.rideAvailable = true) ∧ ((dev .run).mm.rideAvailable = false ∧ (dev .run).seq.run = none ∧ (dev .run).mm.after = none) ∧
    (due.mm.rideDue ≠ none ∧ due.mm.mode = .run ∧ due.mm.rideAvailable = true ∧ due.seq.run = none) ∧ ((gone .ride).mm.inputPresent = false ∧ capturing (gone .ride) = false) ∧
    (arrivalBoots boots = true ∧ boots.mm.offUntil = none ∧ boots.mm.inputPresent = false ∧ boots.mm.mode = .cold) ∧ arrivalBoots (gone .cold) = false := by decide +kernel

theorem witness_SearchFindsTheInputCurrent :
    let q (dwell : Bool) : Search := { start := 0, entries := [], dwell := dwell, vRef := 4800 }
    let d (l : List (Nat × Word)) (s : Search) := { rs (setClk (dev .config) 5000 0) l with chg := { st := .search, search := some s } }
    let on : List (Nat × Word) := [(0x4000, 4), (0x4020, 40 + (10 <<< 10) + (50 <<< 16))]
    (powered (dev .config) .aux = true ∧ (dev .config).chg.search = none) ∧ ((d [] (q false)).chg.search = some (q false) ∧ (q false).dwell = false ∧ (q false).start + 50000 * (q false).step ≤ (d [] (q false)).clk.tick) ∧
    ((q true).dwell = true ∧ (q true).start + 50000 * (q true).step + 1000 * rsF (d on (q true)) 0x4020 10 6 ≤ (d on (q true)).clk.tick) ∧ rsF (d on (q true)) 0x4000 2 1 = 1 ∧ 4749 + rsF (d on (q true)) 0x4020 16 8 < (q true).vRef ∧
    ¬ 4750 + rsF (d on (q true)) 0x4020 16 8 < (q true).vRef ∧ testCurrent 0 < 50 * rsF (d on (q true)) 0x4020 0 10 ∧ 50 * rsF (d [(0x4020, 1)] (q true)) 0x4020 0 10 ≤ testCurrent 0 := by decide +kernel

/-- A pack of 14 cells at a voltage per cell, with a charger state. -/
def pack (m : Mode) (c : CState) (mv : Nat) : Dev := { rs (setClk (dev m) 5 0) [(0x4000, 14 <<< 8), (0x4004, 4200 + (4300 <<< 16)), (0x4008, 3000 + (4100 <<< 16)), (0x400C, 2800)] with chg := { st := c, vPack := 14 * mv / 10, present := true } }
theorem witness_ChargeCycleFollowsThePack :
    ((pack .config .qualify 3500).chg.restUntil ≤ 0 ∧ cellMv (pack .config .qualify 3500) = 3500) ∧ ({ st := .cv, cvCount := 60000000 } : Charger).cvCount ≥ 60000000 ∧
    ((pack .config .done 4000).chg.timedOut = false ∧ cellMv (pack .config .done 4000) < vRecharge (pack .config .done 4000)) ∧ timerOver { pack .config .fast 3500 with chg := { st := .fast, delivered := 10 ^ 18 } } = true ∧ termDue { pack .config .fast 3500 with chg := { st := .fast, delivered := 10 ^ 18 } } = false ∧
    (powered (pack .config .fast 3500) .aux = true ∧ (pack .config .fast 3500).chg.st ≠ .absent) ∧
    (let d := { pack .config .absent 2000 with chg := { st := .absent, vPack := 2800, temp := -450 } }
     d.chg.present = false ∧ -450 ≤ d.chg.temp ∧ 2000 ≤ cellMv d ∧ cellMv d ≤ vOv d ∧ d.chg.wasAbsent = false) ∧
    (let d := { pack .safe .disabled 2500 with mm := { mode := .safe } }
     d.mm.inputPresent = false ∧ d.pwr.packPath = true ∧ cellMv d + 200 < vCutoff d) ∧ vOv (pack .config .fast 4310) < cellMv (pack .config .fast 4310) ∧
    (cellMv (pack .ride .rideBoost 2700) < vCutoff (pack .ride .rideBoost 2700) ∧ rideConditions (pack .ride .rideBoost 2700) = false ∧ (pack .ride .rideBoost 2700).seq.run = none) := by decide +kernel

theorem witness_SupplyLossAndPowerUp :
    let v := { dev .cold with pwr := { on := 1, onVhold := true, flushing := true } }
    ((dev .run).mm.mode ≠ .off ∧ (dev .run).pwr.onVhold = false) ∧ (v.pwr.flushing = true ∧ v.pwr.onVhold = true ∧ captureActive v = false) ∧ supplyCode false (true && v.pwr.packPath) ≠ 0 ∧
    supplyCode true (false && v.pwr.packPath) ≠ 0 ∧ v.otp.cmd = none ∧ State.reset.dev.mm.mode = .off := by decide +kernel

theorem witness_FaultRaiseTakesReaction :
    let f (c : Nat) : FaultIn := { code := c, p0 := 3 }
    let d := dev .run
    (d.mm.mode = .run ∧ d.flt.inbox = [] ∧ (f 0x1006).injected = false ∧ (srcInfo 0x1006).isSome = true ∧ d.seq.run = none ∧ d.mm.after = none ∧ d.cap.st = .idle ∧ d.waiting = []) ∧
    ((srcInfo 0x1006).map (fun i => takenReaction d i (f 0x1006)) = some .deviceSafe ∧ (srcInfo 0x1002).map (fun i => takenReaction d i (f 0x1002)) = some .none ∧
     (srcInfo 0x1101).map (fun i => takenReaction d i (f 0x1101)) ≠ none ∧
     (srcInfo 0x1006).map (fun i => takenReaction (rs d [(fltKey (srcIndex 0x1006), 6)]) i (f 0x1006)) = some .drone) ∧
    ((srcOf d 0x1006).status = false ∧ (srcOf { d with flt := { srcs := [(srcIndex 0x1006, { status := true })] } } 0x1006).status = true) := by decide +kernel

theorem witness_FaultsAreCleared :
    let d := { dev .config with flt := { srcs := [(srcIndex 0x1006, { status := true })] } }
    let r := { axis .config with flt := { regRetired := 1 } }
    ((srcInfo 0x1006).isSome = true ∧ srcCode (srcIndex 0x1006) = 0x1006 ∧ srcIndex 0x1006 < 512 ∧ powered d .mgmt = true ∧ (srcOf d 0x1006).status = true ∧ causeGone d [] 0x1006 = true ∧ causeGone d [srcIndex 0x1006] 0x1006 = false ∧ freshNow d 0x1006 = none ∧ raiseDue d 0x1006 = false) ∧
    (let q (p : Bool) : Fresh := { prior := p }
     let h (p : Bool) := { dev .config with flt := { srcs := [(srcIndex 0x1006, { status := true, fresh := some (q p) })] } }
     freshNow (h true) 0x1006 = some (q true) ∧ freshNow (h false) 0x1006 = some (q false) ∧ raiseDue { d with flt := { d.flt with inbox := [{ code := 0x1006 }] } } 0x1006 = true) ∧
    (r.lk.length = 16 ∧ r.mm.mode = .config ∧ bit r.flt.regRetired 0 = true ∧ regionFault r 0 = false ∧ linkUsed r 0 = true ∧ (lkU r 0).st ≠ .retired) := by decide +kernel

theorem witness_NaliveAndInjectionWork :
    naliveMode .run = true ∧ (dev .run).flt.naliveFrozen = false ∧ ({ naliveFrozen := true } : Collector).naliveFrozen = true ∧ (powered (dev .config) .mgmt = true ∧ (dev .config).flt.pending = false) ∧
    (fld (0x4001 : Word) 0 4 ≠ 0 ∧ fld (0x4001 : Word) 0 4 ≠ 2 ∧ (injectMode (dev .config) (bit (0x4001 : Word) 14) && instanceOk (dev .config) 1 0) = true) ∧ (injectMode (dev .run) (bit (1 : Word) 14) = false) := by decide +kernel

theorem witness_JournalCopiesAreRebuilt :
    let d (m : List (Option Nat)) := { setClk (dev .run) 31250 0 with jr := { lastMiss := m } }
    (powered (d [none, none]) .sched = true ∧ (d [none, none]).pwr.ctlLost = false ∧ (d [none, none]).jr.frozen = false ∧ (d [none, none]).flt.pending = false ∧ (d [none, none]).jr.retired = none ∧ (d [none, none]).jr.rebuilding = none) ∧
    ((d [some 0, none]).jr.lastMiss.length = 2 ∧ (d [some 0, none]).jr.lastMiss.getD 0 none = some 0 ∧ 0 + 1000000 ≤ (d [some 0, none]).clk.tick) ∧ ((d [none, some 1]).jr.lastMiss.getD 1 none = some 1 ∧ (d [none, some 1]).clk.tick < 1 + 1000000) ∧
    ({ rebuilding := some 1 } : Journal).rebuilding = some 1 := by decide +kernel

theorem witness_RecorderKeepsTheLog :
    let q : Record := { code := 0x6000, source := 0, flags := 0, cycle := 0, second := 0, hours := 0, p0 := 0, p1 := 0, p2 := 0, p3 := 0, seq := 0 }
    let w := { dev .config with rcd := { buffer := [q], flushing := true, toFlush := 1, next := 8190 } }
    ((dev .run).pwr.pwrLost = false ∧ (dev .run).rcd.clearing = false ∧ (dev .run).rcd.flushing = false ∧ ({ want := true } : Recorder).want = true) ∧
    (w.rcd.flushing = true ∧ w.rcd.toFlush = 1 ∧ w.rcd.buffer = [q] ∧ logNext w.rcd < 8191 ∧ w.rcd.again = false) ∧ (({ drops := 1 } : Recorder).drops ≠ 0 ∧ w.rcd.buffer.length < 64) ∧ ((dev .run).mm.mode ≠ .off ∧ (dev .run).mm.mode ≠ .cold) ∧
    ({ clearing := true } : Recorder).clearing = true ∧ (({ dev .config with otp := { enable := true } } : Dev).otp.enable = true ∧ powered (dev .config) .mgmt = true) := by decide +kernel

/-- OTP open, with a word chosen. -/
def otp (w : Word) : Dev := { rw (dev .config) [(0x6818, w)] with otp := { enable := true } }
theorem witness_OtpIsProgrammed :
    let c : OtpCmd := { op := 3, word := 0x100, rest := 1, data := 0xFFFFFFFF }
    ((otp 0x90).otp.enable = true ∧ (otp 0x90).mm.inputPresent = true ∧ (otp 0x90).otp.cmd = none ∧ otpWord (otp 0x90) = 0x90 ∧ programmable 0x90 = true ∧ otpState (otp 0x90) 0x90 = .blank ∧ 0x90 ∉ (otp 0x90).otp.programmed) ∧
    (0x90 ∈ ({ programmed := [0x90] } : Otp).programmed ∧ programmable (otpWord (otp 0)) = false) ∧ (0xE4 ≤ otpWord (otp 0xEB) ∧ otpWord (otp 0xEB) < 0xEC ∧ otpState (otp 0xEB) 0xEB = .blank) ∧ (0xEC ≤ otpWord (otp 0xEC)) ∧
    ((otp 0).mm.fwValid = true ∧ rollbackValue (otp 0) + (otp 0).otp.advRoll < ({ bootRollback := 1 } : Otp).bootRollback) ∧ epochValue (otp 0) + (otp 0).otp.advEpoch < 64 ∧ 64 ≤ epochValue (otp 0) + 64 ∧
    (otpWord (otp 3) ≤ 3 ∧ otpState (otp 3) (0xC0 + 9 * 3 + 8) = .blank ∧ 3 < otpWord (otp 4)) ∧ (({ cmd := some c } : Otp).cmd = some c ∧ c.rest ≠ 0 ∧ ({ c with rest := 0 } : OtpCmd).rest = 0 ∧ c.since + 50 ≤ (setClk (otp 0) 5 0).clk.tick ∧ powered (setClk (otp 0) 5 0) .mgmt = true ∧ ({} : Otp).stopAfter = false) := by decide +kernel

theorem witness_FirmwareIsVerified :
    let r : Run := { kind := .boot, table := 1, step := 15, phase := .verify }
    let good : ImageFacts := { readable := true, magic := 0x57464D51, version := 1, rollback := 0, length := 16, reservedZero := true, digest := 0, signed := true }
    ((run { dev .boot with mm := { mode := .boot } } r).seq.run = some r ∧ r.phase = .verify ∧ (run { dev .boot with mm := { mode := .boot } } r).mm.fwValid = false) ∧
    (rejectReason (dev .boot) { good with readable := false } false 0 = some 7 ∧ rejectReason (dev .boot) { good with magic := 0 } true 0 = some 1 ∧ rejectReason (dev .boot) good false 0x400000 ≠ some 1) ∧
    (powered (dev .config) .mgmt = true ∧ (dev .config).otp.flashBusy = false ∧ flashOpen { dev .boot with mm := { mode := .boot } } = true ∧ flashOpen (dev .run) = false) ∧
    (bit ({ flashCmd := 1 <<< 18 } : Otp).flashCmd 18 = true ∧ bit ({ flashCmd := 256 <<< 9 } : Otp).flashCmd 18 = false ∧ 256 ≤ fld ({ flashCmd := 256 <<< 9 } : Otp).flashCmd 9 9 ∧ (dev .config).otp.buffer.length = 64 ∧ (List.replicate 64 (0 : Word)).length = 64) := by decide +kernel

theorem witness_RegisterAccessesWork :
    powered (dev .config) .sched = true ∧ reached { dev .config with pwr := { on := 1 } } 0x2000 = false ∧
    (reached (dev .config) 0x2000 = true ∧ rsMask 0x2000 ≠ 0) ∧ (reached (dev .config) 0x8000 = true ∧ rsMask 0x8000 ≠ 0) ∧ (reached (dev .config) 0x4004 = true ∧ rsMask 0x4004 ≠ 0) ∧
    reached (dev .config) 0x1C = true ∧ reached (dev .config) 0x38B4 = true ∧
    commitDue (dev .config) = false ∧ commitDue { dev .config with cfg := { commits := [{ fret := 0, entry := none }] } } = true := by decide +kernel

theorem witness_PortReadsAnswer :
    powered State.reset.dev .mgmt = false ∧ powered (dev .run) .mgmt = true ∧ powered (dev .run) .sched = true ∧ powered { dev .boot with pwr := { on := 3 } } .sched = false ∧ powered { dev .boot with pwr := { on := 3 } } .aux = false ∧
    (let d := { rw (dev .run) [(0x5184, 0x81)] with mm := { (dev .run).mm with event := 1 } }
     powered d .mgmt = true ∧ fld (rwOf d 0x7800) 2 1 = 1 ∧ claimOf d 3 ≠ 0) ∧ ({ slot := 8191, count := 2 } : MgmtPort).slot + 1 = 8192 ∧ (({ status := 255, tag := 255, frm := 15, dest := 15 } : MpSlot).tag < 256) := by decide +kernel

theorem witness_PortRefusesBadTransfers :
    powered (dev .run) .mgmt = true ∧ ([0x0A] : List Byte).length < 2 ∧ (([0x0A, 0x31, 0] : List Byte).getD 2 0).toNat ≠ crc8 (2 * ((dev .run).mp.address % 128) :: 0x80 :: [0x0A, 0x31]) ∧ fld (rwOf (rw (dev .run) [(0x7800, 7)]) 0x7800) 0 1 = 1 ∧ 0x0C ∉ portCodes ∧ 25000 < 25001 ∧
    (2 + 1 < ([0x0A, 0x31, BitVec.ofNat 8 (crc8 [0, 0x80, 0x0A, 0x31]), 0] : List Byte).length) ∧ (([0x0A, 0x31, BitVec.ofNat 8 (crc8 [0, 0x80, 0x0A, 0x31]), 0] : List Byte).getD 2 0).toNat = crc8 (2 * ((dev .run).mp.address % 128) :: 0x80 :: [0x0A, 0x31]) := by decide +kernel

theorem witness_PortWritesExecute :
    let d := dev .run
    (powered d .mgmt = true ∧ ([] : List Byte).length = 0 ∧ fld (rwOf d 0x7800) 0 1 = 0) ∧ (bit ({ setup := 0x2000 } : Watchdog).setup 13 = true ∧ bit d.wd.setup 13 = false) ∧ (srcInfo (leValue [0xFF, 0x10]) = none ∧ srcInfo (leValue [0x06, 0x10]) ≠ none ∧ raiseDue d (leValue [0x06, 0x10]) = false) ∧
    ((([0, 0, BitVec.ofNat 8 (crc8 [0, 0xC0, 0, 0])] : List Byte).getD 2 0).toNat = crc8 (2 * (d.mp.address % 128) :: 0xC0 :: [0, 0])) ∧
    (fld (rwOf d 0x7800) 1 1 = 1 ∧ reached { d with mp := { window := 0x14 } } 0x14 = true ∧ reached { dev .boot with pwr := { on := 3 } } 0x1000 = false) ∧ (0xFF + 256 * 0x1F = 8191 ∧ 8191 < 0 + 256 * 0x20) := by decide +kernel

theorem witness_ZeroCountsExecuteNothing :
    powered (dev .run) .mgmt = true ∧ ([0] : List Byte).head? = some 0 ∧ ([4, 0, 0, 0, 0] : List Byte).head? = some 4 ∧ ([4, 0, 0, 0, 0] : List Byte).length = 5 ∧ fld (rwOf (dev .run) 0x7800) 0 1 = 0 ∧ ([4, 0, 0, 0, 0] : List Byte).getD 3 0 = 0 := by decide +kernel

theorem witness_PortRequestsEnterTheJournal :
    (powered (dev .run) .mgmt = true ∧ fld (rwOf (dev .run) 0x7800) 0 1 = 0 ∧ (dev .run).mp.urgent.st = .none ∧ requestRoom (dev .run) = true ∧ (dev .run).cap.st = .idle ∧ (dev .run).mm.mode ≠ .boot) ∧ ({ st := .accepted } : MpSlot).st ≠ .none ∧
    requestRoom { dev .run with jr := { retired := some 1 } } = false ∧ (dev .boot).mm.mode = .boot ∧
    (({ st := .waiting, target := 10 } : MpSlot).st = .waiting ∧ urgentTarget 10 = true ∧ urgentTarget 5 = false) ∧ ((0x0A : Byte).toNat / 16 = 0 ∧ (0x0A : Byte).toNat % 16 = 10 ∧ (0x05 : Byte).toNat % 16 = 5 ∧ (0x15 : Byte).toNat / 16 ≠ 0) := by decide +kernel
end Sys2Proof.Tests
end

section
/-!
SUPPORT and SETTLEMENT. Journal entries read after they are changed, what a descriptor that runs comes to, and how the FINAL completion of an
opcode that commits no effect leaves the journal; with these, NOP (R99).
-/
namespace Sys2Proof.Machine
open Sys2Proof.Safety

/-! ### Entries of the journal (R105–R108) -/

@[simp] theorem updEntry_due (d : Dev) (e : Nat) (f : Entry → Entry) : (updEntry d e f).jr.due = d.jr.due := rfl
@[simp] theorem updEntry_tails (d : Dev) (e : Nat) (f : Entry → Entry) : (updEntry d e f).jr.tails = d.jr.tails := rfl

theorem idx_of_entryOf {d : Dev} {e : Nat} {x : Entry} (h : entryOf d e = some x) : x.idx = e := by
  simpa using List.find?_some h

/-- Both copies are changed alike, so the copy that the device reads is. -/
theorem entries_updEntry (d : Dev) (e : Nat) (f : Entry → Entry) :
    entries (updEntry d e f) = (entries d).map (fun x => if x.idx == e then f x else x) := by
  by_cases h : d.jr.retired = some 0 ∨ d.jr.rebuilding = some 0 <;> simp [entries, updEntry, mapJournal, h]

/-- A change that keeps the entry numbers keeps the place at which a number is found. -/
theorem entryOf_updEntry (d : Dev) (e k : Nat) (f : Entry → Entry) (hf : ∀ x, (f x).idx = x.idx) :
    entryOf (updEntry d e f) k = (entryOf d k).map (fun x => if x.idx == e then f x else x) := by
  have hidx : ∀ x, (if x.idx == e then f x else x).idx = x.idx := by
    intro x
    split
    · exact hf x
    · rfl
  simp only [entryOf, entries_updEntry, List.find?_map, Function.comp_def, hidx]

theorem entryOf_updEntry_same {d : Dev} {e : Nat} {x : Entry} (h : entryOf d e = some x) (f : Entry → Entry) (hf : ∀ x, (f x).idx = x.idx) :
    entryOf (updEntry d e f) e = some (f x) := by
  simp [entryOf_updEntry d e e f hf, h, idx_of_entryOf h]

theorem entryOf_updEntry_other (d : Dev) {e k : Nat} (hk : k ≠ e) (f : Entry → Entry) (hf : ∀ x, (f x).idx = x.idx) :
    entryOf (updEntry d e f) k = entryOf d k := by
  rw [entryOf_updEntry d e k f hf]
  cases h : entryOf d k with
  | none => rfl
  | some x => simp [idx_of_entryOf h, hk]

/-! ### A completion entry queued for a ring (R100, R105) -/

theorem entryOf_pushCpl_same {d : Dev} {e : Nat} {x y : Entry} (c : Cpl) (hr : x.ring ≠ 32) (hx : x.idx = e) (hy : entryOf d e = some y) :
    entryOf (pushCpl d x c) e = some { y with cpls := y.cpls ++ [c], firstCpl := true } := by
  subst hx
  rw [pushCpl, if_neg hr]
  exact entryOf_updEntry_same hy _ (fun _ => rfl)

theorem entryOf_pushCpl_other (d : Dev) {x : Entry} {k : Nat} (c : Cpl) (hr : x.ring ≠ 32) (hk : k ≠ x.idx) :
    entryOf (pushCpl d x c) k = entryOf d k := by
  rw [pushCpl, if_neg hr]
  exact entryOf_updEntry_other d hk _ (fun _ => rfl)

theorem pushCpl_due (d : Dev) {x : Entry} (c : Cpl) (hr : x.ring ≠ 32) : (pushCpl d x c).jr.due = d.jr.due ++ [x.idx] := by
  simp [pushCpl, hr]

theorem pushCpl_tails (d : Dev) (x : Entry) (c : Cpl) : (pushCpl d x c).jr.tails = d.jr.tails := by
  by_cases hr : x.ring = 32 <;> simp [pushCpl, hr]

/-! ### The FINAL completion of an opcode that commits no effect (R108, R109, R112) -/

theorem commitFinal_of_noEffect (d : Dev) {x : Entry} (st : Status) (h : noEffect x.image = true) : commitFinal d x st = d := by
  simp [commitFinal, h]

/-- An entry once its FINAL completion is fixed (R108). -/
def doneEntry (x : Entry) : Entry := { x with st := .done, deferred := false, latched := false, refuse := false }

/-- The FINAL completion entry of a descriptor that completes now (R100). -/
def finalCpl (d : Dev) (x : Entry) (st : Status) (detail : Nat) : Cpl :=
  { seq := x.seq, status := st, ring := x.ring, effect := d.clk.fret % 2 ^ 32, detail := detail % 2 ^ 32, mark := flagMark x }

section
variable {d : Dev} {e : Nat} {x : Entry} (st : Status) (detail : Nat) (hx : entryOf d e = some x) (hst : x.st ≠ .done) (hr : x.ring ≠ 32)
  (hn : noEffect x.image = true)
include hx hst hr hn

/-- An entry with no FINAL completion yet goes to DONE, and its FINAL entry is queued. -/
theorem finishNow_of_noEffect : finishNow d e st detail = pushCpl (updEntry d e doneEntry) x (finalCpl d x st detail) := by
  have hopen : (x.st == .done) = false := by simpa using hst
  simp only [finishNow, finish, finishWith, hx, hopen, commitFinal_of_noEffect d st hn, if_neg hr, Bool.false_eq_true, if_false]
  rfl

theorem entryOf_finishNow_same :
    entryOf (finishNow d e st detail) e = some { doneEntry x with cpls := x.cpls ++ [finalCpl d x st detail], firstCpl := true } := by
  have hdone := entryOf_updEntry_same hx doneEntry (fun _ => rfl)
  rw [finishNow_of_noEffect st detail hx hst hr hn, entryOf_pushCpl_same _ hr (idx_of_entryOf hx) hdone]
  rfl

theorem entryOf_finishNow_other {k : Nat} (hk : k ≠ e) : entryOf (finishNow d e st detail) k = entryOf d k := by
  have hkx : k ≠ x.idx := idx_of_entryOf hx ▸ hk
  rw [finishNow_of_noEffect st detail hx hst hr hn, entryOf_pushCpl_other _ _ hr hkx]
  exact entryOf_updEntry_other d hk _ (fun _ => rfl)

theorem finishNow_due : (finishNow d e st detail).jr.due = d.jr.due ++ [e] := by
  rw [finishNow_of_noEffect st detail hx hst hr hn, pushCpl_due _ _ hr, updEntry_due, idx_of_entryOf hx]

theorem finishNow_tails : (finishNow d e st detail).jr.tails = d.jr.tails := by
  rw [finishNow_of_noEffect st detail hx hst hr hn, pushCpl_tails, updEntry_tails]

/-- The completion of a ring's descriptor leaves the management port and the interrupts alone (R104). -/
theorem mask_finishNow_of_noEffect (qs : List Part) (hjr : Part.jr ∈ qs) (hout : Part.out ∈ qs) (hfret : Part.fretOut ∈ qs) :
    Laws.mask qs (finishNow d e st detail) = Laws.mask qs d := by
  rw [finishNow_of_noEffect st detail hx hst hr hn, Laws.mask_pushCpl qs _ _ _ hjr hout hfret, Laws.mask_updEntry qs _ _ _ hjr]

end

/-! ### A descriptor that runs (R82, R83, R108) -/

/-- The intent record marks the entry of the descriptor. -/
theorem entryOf_intent_same {d : Dev} {e : Nat} {x : Entry} (h : entryOf d e = some x) :
    entryOf (intent d e) e = some { x with st := .intent, intent := true, deferred := false } :=
  entryOf_updEntry_same h _ (fun _ => rfl)

theorem entryOf_intent_other (d : Dev) {e k : Nat} (hk : k ≠ e) : entryOf (intent d e) k = entryOf d k :=
  entryOf_updEntry_other d hk _ (fun _ => rfl)

theorem mask_intent (qs : List Part) (d : Dev) (e : Nat) (hjr : Part.jr ∈ qs) : Laws.mask qs (intent d e) = Laws.mask qs d :=
  Laws.mask_updEntry qs d e _ hjr

theorem beginDesc_of_pass {d : Dev} {x : Entry} (work : Dev → Entry → Dev) (h : checkDesc (intent d x.idx) x = none) :
    beginDesc d x work = work (intent d x.idx) x := by
  unfold intent at h ⊢
  simp only [beginDesc, h]

/-- Nothing holds the descriptor and no check refuses it: its work is done behind its intent record. -/
theorem execDesc_of_runs {d : Dev} {e : Nat} {x : Entry} {c : Class} (work : Dev → Entry → Dev) (h : runs d e x c) :
    execDesc d e c work = work (intent d e) x := by
  obtain ⟨⟨hx, hready, hclass, hlatched, hdeferred, hengine, hwaits⟩, hcheck⟩ := h
  obtain rfl := idx_of_entryOf hx
  rw [← beginDesc_of_pass work hcheck]
  simp only [execDesc, hx]
  simp [hready, hclass, hlatched, hdeferred, hengine, hwaits, -Bool.and_eq_true]

/-! ### NOP (R99) -/

/-- Opcode 0 alone is the class NOP (R81). -/
theorem opcodeOf_of_nop {i : Image} (h : classOf i = .nop) : opcodeOf i = 0 := by
  unfold classOf at h
  split at h
  case h_1 h0 => exact h0
  all_goals (repeat' split at h) <;> cases h

theorem noEffect_of_nop {i : Image} (h : classOf i = .nop) : noEffect i = true := by
  simp [noEffect, opcodeOf_of_nop h]

/-- A NOP that runs is its intent record and its FINAL completion. -/
theorem exec_nop_of_runs {s : State} {e : Nat} {x : Entry} (h : runs s.dev e x .nop) :
    exec (.nop e) s = next s (finishNow (intent s.dev e) e .ok 0) := by
  have hwork : execDesc s.dev e .nop workNop = workNop (intent s.dev e) x := execDesc_of_runs workNop h
  obtain ⟨⟨hx, -⟩, -⟩ := h
  rw [workNop, done, idx_of_entryOf hx] at hwork
  exact congrArg (next s) hwork

/-- Settles O19: behind its intent record a NOP does nothing but queue its FINAL completion. -/
theorem nopHasNoEffect : Obligations.NopHasNoEffect := by
  unfold Obligations.NopHasNoEffect
  intro s e x h hr
  have hexec := exec_nop_of_runs h
  obtain ⟨⟨hx, -, hclass, -⟩, -⟩ := h
  have hint := entryOf_intent_same hx
  have hst : EState.intent ≠ .done := by decide
  have hn := noEffect_of_nop hclass
  refine ⟨_, hexec, ⟨_, entryOf_finishNow_same .ok 0 hint hst hr hn, rfl, rfl, rfl, rfl, rfl⟩, ?others, ?due, ?tails, ?frame⟩
  case others =>
    intro k hk
    rw [entryOf_finishNow_other .ok 0 hint hst hr hn hk, entryOf_intent_other _ hk]
  case due => exact finishNow_due .ok 0 hint hst hr hn
  case tails => exact finishNow_tails .ok 0 hint hst hr hn
  case frame =>
    refine Laws.keeps_of_mask _ _ _ ?_
    rw [mask_finishNow_of_noEffect .ok 0 hint hst hr hn, mask_intent] <;> decide

end Sys2Proof.Machine
end

section
/-!
SUPPORT and SETTLEMENT. Which source a claim read returns, what the claim leaves on the stacks and in the REFIRED flags, and with these the claim
read (R317).
-/
namespace Sys2Proof.Machine
open Sys2Proof.Safety

/-! ### Sources that can be claimed lie among the routed ones (R315, R325) -/

/-- A key that does not read as the default is listed. -/
theorem Sparse.exists_key_of_get_ne {α : Type} (dflt : α) (m : Sparse α) {i : Nat} (h : m.get dflt i ≠ dflt) : ∃ e ∈ m, e.1 = i := by
  induction m with
  | nil => exact absurd rfl h
  | cons e m ih =>
    by_cases hk : i = e.1
    · exact ⟨e, List.mem_cons_self, hk.symm⟩
    · rw [Sparse.get, if_neg hk] at h
      obtain ⟨e', hmem, hkey⟩ := ih h
      exact ⟨e', List.mem_cons_of_mem e hmem, hkey⟩

/-- The routing words reset to 0 (R325). -/
theorem regReset_intSource (d : Dev) {n : Nat} (hn : n < 256) : regReset d (0x5100 + 4 * n) = 0 := by
  unfold regReset
  repeat rw [if_neg (by omega)]

/-- A source with a target has a routing word that was written, or is firmware's. -/
theorem mem_routed_of_srcTargets {d : Dev} {n t : Nat} (hn : n < 256) (h : srcTargets d n t = true) : n ∈ routed d := by
  unfold srcTargets at h
  rw [routed, List.mem_append]
  split at h
  case isTrue =>
    right
    have hset : d.int.target2 ≠ 0 := by
      intro h0
      simp [h0, bit] at h
    rw [if_neg hset]
    exact List.mem_filter.2 ⟨List.mem_range.2 hn, h⟩
  case isFalse =>
    left
    have hset : rwOf d (0x5100 + 4 * n) ≠ regReset d (0x5100 + 4 * n) := by
      intro h0
      simp [h0, regReset_intSource d hn, bit] at h
    obtain ⟨e, hmem, hkey⟩ := Sparse.exists_key_of_get_ne _ _ hset
    refine List.mem_map.2 ⟨e, List.mem_filter.2 ⟨hmem, decide_eq_true ?_⟩, ?_⟩ <;> omega

theorem lt_of_mem_routed {d : Dev} {n : Nat} (h : n ∈ routed d) : n < 256 := by
  rw [routed, List.mem_append] at h
  rcases h with h | h
  · obtain ⟨e, he, rfl⟩ := List.mem_map.1 h
    have hrange := of_decide_eq_true (List.mem_filter.1 he).2
    omega
  · split at h
    · cases h
    · exact List.mem_range.1 (List.mem_filter.1 h).1

theorem mem_routed_of_claimable {d : Dev} {t n : Nat} (hn : n < 256) (h : claimable d t n = true) : n ∈ routed d := by
  simp only [claimable, pendingFor, Bool.and_eq_true] at h
  obtain ⟨⟨-, -, htarget⟩, -⟩ := h
  exact mem_routed_of_srcTargets hn htarget

/-! ### The search for the source to claim (R317) -/

/-- Source `n` is claimed no later than `m`: a higher PRIORITY, or an equal one and no higher a number. -/
def noLater (d : Dev) (n m : Nat) : Prop := srcPriority d m < srcPriority d n ∨ (srcPriority d m = srcPriority d n ∧ n ≤ m)

theorem noLater_refl (d : Dev) (n : Nat) : noLater d n n := .inr ⟨rfl, Nat.le_refl n⟩

theorem noLater_trans {d : Dev} {a b c : Nat} (hab : noLater d a b) (hbc : noLater d b c) : noLater d a c := by
  unfold noLater at *
  omega

/-- `a` is what a target claims out of the sources `l`: a claimable one that none precedes, or 0 if none of them is claimable. -/
structure ClaimedFrom (d : Dev) (t : Nat) (l : List Nat) (a : Nat) : Prop where
  claims : a ≠ 0 → a ∈ l ∧ claimable d t a = true
  first : ∀ m ∈ l, claimable d t m = true → a ≠ 0 ∧ noLater d a m

/-- One more source is looked at: it is passed over when it cannot be claimed. -/
theorem ClaimedFrom.skip {d : Dev} {t a n : Nat} {l : List Nat} (h : ClaimedFrom d t l a) (hn : claimable d t n ≠ true) :
    ClaimedFrom d t (l ++ [n]) a where
  claims ha := by
    obtain ⟨hmem, hclaim⟩ := h.claims ha
    exact ⟨List.mem_append_left _ hmem, hclaim⟩
  first m hm hclaim := by
    rcases List.mem_append.1 hm with hm | hm
    · exact h.first m hm hclaim
    · obtain rfl := List.mem_singleton.1 hm
      exact absurd hclaim hn

/-- It is passed over too when the one held goes first. -/
theorem ClaimedFrom.hold {d : Dev} {t a n : Nat} {l : List Nat} (h : ClaimedFrom d t l a) (ha : a ≠ 0) (hlater : noLater d a n) :
    ClaimedFrom d t (l ++ [n]) a where
  claims _ := by
    obtain ⟨hmem, hclaim⟩ := h.claims ha
    exact ⟨List.mem_append_left _ hmem, hclaim⟩
  first m hm hclaim := by
    rcases List.mem_append.1 hm with hm | hm
    · exact h.first m hm hclaim
    · obtain rfl := List.mem_singleton.1 hm
      exact ⟨ha, hlater⟩

/-- It takes the place of the one held when it goes first itself, or none is held. -/
theorem ClaimedFrom.take {d : Dev} {t a n : Nat} {l : List Nat} (h : ClaimedFrom d t l a) (hn : claimable d t n = true) (hn0 : n ≠ 0)
    (hearlier : a ≠ 0 → noLater d n a) : ClaimedFrom d t (l ++ [n]) n where
  claims _ := ⟨by simp, hn⟩
  first m hm hclaim := by
    refine ⟨hn0, ?_⟩
    rcases List.mem_append.1 hm with hm | hm
    · obtain ⟨ha, ham⟩ := h.first m hm hclaim
      exact noLater_trans (hearlier ha) ham
    · obtain rfl := List.mem_singleton.1 hm
      exact noLater_refl d m

/-- One source looked at by the search, `a` being the one held. -/
def claimStep (d : Dev) (t a n : Nat) : Nat :=
  if !claimable d t n then a
  else if a = 0 ∨ srcPriority d a < srcPriority d n ∨ (srcPriority d a = srcPriority d n ∧ n < a) then n else a

theorem claimOf_eq_foldl (d : Dev) (t : Nat) : claimOf d t = (routed d).foldl (claimStep d t) 0 := rfl

section
variable {d : Dev} {t : Nat} (h0 : claimable d t 0 = false)
include h0

theorem ClaimedFrom.step {a : Nat} {l : List Nat} (h : ClaimedFrom d t l a) (n : Nat) : ClaimedFrom d t (l ++ [n]) (claimStep d t a n) := by
  unfold claimStep
  cases hn : claimable d t n with
  | false => exact h.skip (by simp [hn])
  | true =>
    have hn0 : n ≠ 0 := by
      rintro rfl
      rw [h0] at hn
      cases hn
    rw [if_neg (by decide)]
    split
    case isTrue hbefore => exact h.take hn hn0 (fun ha => by unfold noLater; omega)
    case isFalse hafter => exact h.hold (by omega) (by unfold noLater; omega)

theorem ClaimedFrom.foldl (l seen : List Nat) {a : Nat} (h : ClaimedFrom d t seen a) : ClaimedFrom d t (seen ++ l) (l.foldl (claimStep d t) a) := by
  induction l generalizing seen a with
  | nil => rwa [List.append_nil]
  | cons n l ih =>
    rw [List.foldl_cons, List.append_cons]
    exact ih _ (h.step h0 n)

/-- The search comes to the source that is claimed first, source 0 being none (R317). -/
theorem claimOf_claimedFrom : ClaimedFrom d t (routed d) (claimOf d t) := by
  have hstart : ClaimedFrom d t [] 0 := ⟨fun h => absurd rfl h, fun m hm => absurd hm List.not_mem_nil⟩
  rw [claimOf_eq_foldl]
  exact hstart.foldl h0 (routed d) []

theorem claimOf_lt : claimOf d t < 256 := by
  by_cases hn : claimOf d t = 0
  · omega
  · exact lt_of_mem_routed ((claimOf_claimedFrom h0).claims hn).1

theorem claimable_claimOf (hn : claimOf d t ≠ 0) : claimable d t (claimOf d t) = true := ((claimOf_claimedFrom h0).claims hn).2

theorem claimOf_first {m : Nat} (hm : m < 256) (hclaim : claimable d t m = true) : claimOf d t ≠ 0 ∧ noLater d (claimOf d t) m :=
  (claimOf_claimedFrom h0).first m (mem_routed_of_claimable hm hclaim) hclaim

theorem not_claimable_of_claimOf_zero (hn : claimOf d t = 0) {m : Nat} (hm : m < 256) : claimable d t m = false := by
  cases hclaim : claimable d t m with
  | false => rfl
  | true => exact absurd hn (claimOf_first h0 hm hclaim).1

end

/-! ### The claim stacks (R317, R318) -/

/-- A source that lies on some target's stack is active. -/
theorem activeSrc_of_mem_stackOf {d : Dev} {u n p : Nat} (h : (n, p) ∈ stackOf d u) : activeSrc d n = true := by
  rw [stackOf, at', List.getD_eq_getElem?_getD] at h
  cases hstack : d.int.claimStacks[u]? with
  | none =>
    rw [hstack] at h
    cases h
  | some l =>
    rw [hstack] at h
    exact List.any_eq_true.2 ⟨l, List.mem_of_getElem? hstack, List.any_eq_true.2 ⟨_, h, beq_self_eq_true n⟩⟩

/-- No target can claim an active source (R315). -/
theorem not_claimable_of_activeSrc {d : Dev} {n : Nat} (h : activeSrc d n = true) (u : Nat) : claimable d u n = false := by
  simp [claimable, pendingFor, h]

theorem bit_clear {w : Nat} (x : BitVec w) (n m : Nat) : bit (x &&& ~~~(1#w <<< n)) m = (bit x m && decide (m ≠ n)) := by
  rw [bit, bit, ← BitVec.twoPow_eq, BitVec.getLsbD_and, BitVec.getLsbD_not, BitVec.getLsbD_twoPow]
  by_cases hm : m < w
  · by_cases hnm : n = m
    · simp [hm, hnm]
    · simp [hm, hnm, Ne.symm hnm]
  · simp [BitVec.getLsbD_of_ge x m (Nat.le_of_not_lt hm)]

/-! ### What a claim read does (R317, R321) -/

@[simp] theorem retell_int_refired (d : Dev) (t : Nat) : (retell d t).int.refired = d.int.refired := by unfold retell; split <;> rfl
@[simp] theorem retell_int_claimStacks (d : Dev) (t : Nat) : (retell d t).int.claimStacks = d.int.claimStacks := by unfold retell; split <;> rfl
@[simp] theorem retell_int_spurious (d : Dev) (t : Nat) : (retell d t).int.spurious = d.int.spurious := by unfold retell; split <;> rfl
@[simp] theorem srcPriority_retell (d : Dev) (t n : Nat) : srcPriority (retell d t) n = srcPriority d n := by
  have hotp : (retell d t).otp = d.otp := by unfold retell; split <;> rfl
  have hrw : (retell d t).cfg.rw = d.cfg.rw := by unfold retell; split <;> rfl
  rw [srcPriority, rwF, rwOf_congr _ _ hotp hrw, srcPriority, rwF]

section
variable {d : Dev} {t : Nat} (hg : globalEnable d = true)
include hg

theorem claimRead_bus : (claimRead d t).bus = w32 (claimOf d t) := by
  by_cases hn : claimOf d t = 0 <;> simp [claimRead, hg, hn, answer]

section
variable (hn : claimOf d t ≠ 0)
include hn

theorem claimRead_claimStacks :
    (claimRead d t).int.claimStacks = upd d.int.claimStacks t (fun s => (claimOf d t, srcPriority d (claimOf d t)) :: s) := by
  simp [claimRead, hg, hn]

theorem refired_claimRead (m : Nat) : refired (claimRead d t) m = (refired d m && decide (m ≠ claimOf d t)) := by
  have h : (claimRead d t).int.refired = d.int.refired &&& ~~~(1#256 <<< claimOf d t) := by simp [claimRead, hg, hn]
  rw [refired, h, bit_clear, refired]

theorem claimRead_spurious : (claimRead d t).int.spurious = d.int.spurious := by
  simp [claimRead, hg, hn]

theorem stackOf_claimRead_same (ht : t < d.int.claimStacks.length) :
    stackOf (claimRead d t) t = (claimOf d t, srcPriority d (claimOf d t)) :: stackOf d t := by
  rw [stackOf, claimRead_claimStacks hg hn, at'_upd_same _ _ _ _ ht, stackOf]

theorem stackOf_claimRead_other {u : Nat} (hu : u ≠ t) : stackOf (claimRead d t) u = stackOf d u := by
  rw [stackOf, claimRead_claimStacks hg hn, at'_upd_other _ _ _ _ _ hu, stackOf]

theorem activeSrc_claimRead (ht : t < d.int.claimStacks.length) : activeSrc (claimRead d t) (claimOf d t) = true := by
  refine activeSrc_of_mem_stackOf (u := t) (p := srcPriority d (claimOf d t)) ?_
  rw [stackOf_claimRead_same hg hn ht]
  exact List.mem_cons_self

end

/-- With nothing to claim the read counts, and changes no stack and no REFIRED flag (R321). -/
theorem claimRead_int_of_none (hn : claimOf d t = 0) :
    (claimRead d t).int = { (retell d t).int with spurious := upd d.int.spurious t (fun c => sat 65535 (c + 1)) } := by
  simp [claimRead, hg, hn]

end

/-- Settles O5: the search takes the claimable source that goes first, and the claim read pushes it. -/
theorem claimReturnsHighestPriority : Obligations.ClaimReturnsHighestPriority := by
  unfold Obligations.ClaimReturnsHighestPriority
  intro s t ht hstacks hspurious hg h0
  have hstack : t < s.dev.int.claimStacks.length := by omega
  have hcount : t < s.dev.int.spurious.length := by omega
  refine ⟨claimOf s.dev t, claimRead s.dev t, claimOf_lt h0, rfl, claimRead_bus hg, ?frame, ?claimed, ?none⟩
  case frame => exact Laws.keeps_of_mask _ _ _ (Laws.mask_claimRead _ _ _ (by decide) (by decide))
  case claimed =>
    intro hn
    have hactive := activeSrc_claimRead hg hn hstack
    refine ⟨claimable_claimOf h0 hn, fun m _ hm hclaim => (claimOf_first h0 hm hclaim).2, hactive, ?_, stackOf_claimRead_same hg hn hstack,
      fun u hu => stackOf_claimRead_other hg hn hu, fun m hm => ?_, not_claimable_of_activeSrc hactive, claimRead_spurious hg hn⟩
    · simp [refired_claimRead hg hn]
    · simp [refired_claimRead hg hn, hm]
  case none =>
    intro hn
    have hint := claimRead_int_of_none hg hn
    refine ⟨fun m _ hm => not_claimable_of_claimOf_zero h0 hn hm, ?_, ?_, ?_, fun u hu => ?_⟩
    · rw [hint, retell_int_claimStacks]
    · rw [hint, retell_int_refired]
    · rw [hint]
      exact at'_upd_same 0 _ _ _ hcount
    · rw [hint]
      exact at'_upd_other 0 _ _ _ _ hu

end Sys2Proof.Machine
end

section
/-!
SUPPORT and SETTLEMENT. A write of the management port whose bytes and PEC are right executes; a byte count or a record count of 0 is
acknowledged and sets BLOCK_ZERO (R387).
-/
namespace Sys2Proof.Machine
open Sys2Proof.Safety

/-! ### Transactions and writes (R380, R382, R386) -/

theorem transact_of_powered {d : Dev} (hp : powered d .mgmt = true) (f : Dev → Dev) : transact d f = portEnd (f (portBegin d)) := if_pos hp

@[simp] theorem rwOf_portBegin (d : Dev) (off : Nat) : rwOf (portBegin d) off = rwOf d off := by
  rw [rwOf_congr (portBegin d) d rfl rfl]
@[simp] theorem writePec_portBegin (d : Dev) (code : Nat) (bs : List Byte) : writePec (portBegin d) code bs = writePec d code bs := rfl

/-- A write carries its `n` bytes: without a PEC that the policy does not require, or with a right one (R382, R386). -/
def goodWrite (d : Dev) (code n : Nat) (bs : List Byte) : Prop :=
  (bs.length = n ∧ fld (rwOf d 0x7800) 0 1 = 0) ∨ (bs.length = n + 1 ∧ (bs.getD n 0).toNat = writePec d code (bs.take n))

theorem goodWrite_portBegin {d : Dev} {code n : Nat} {bs : List Byte} (h : goodWrite d code n bs) : goodWrite (portBegin d) code n bs := by
  simpa [goodWrite] using h

theorem portWrite_of_goodWrite {d : Dev} {code n : Nat} {bs : List Byte} (h : goodWrite d code n bs) (act : Dev → List Byte → Dev) :
    portWrite d code n bs act = act d (bs.take n) := by
  rcases h with ⟨hlen, hpolicy⟩ | ⟨hlen, hpec⟩
  · simp [portWrite, hlen, rwF, hpolicy]
  · obtain ⟨hshort, hbare, hextra⟩ : ¬ bs.length < n ∧ bs.length ≠ n ∧ ¬ n + 1 < bs.length := by omega
    have hright : ¬ (bs.getD n 0).toNat ≠ writePec d code (bs.take n) := fun hne => hne hpec
    simp only [portWrite, if_neg hshort, if_neg hbare, if_neg hextra, if_neg hright]

/-! ### Counts of 0 (R387) -/

/-- BLOCK_ZERO set and BAD_COMMAND as given; every other field of the port stands. -/
def zeroCounted (d : Dev) (bad : Bool) : Dev := { d with mp := { d.mp with blockZero := true, badCommand := bad } }

theorem mask_portEnd (qs : List Part) (d : Dev) (hmp : Part.mp ∈ qs) : Laws.mask qs (portEnd d) = Laws.mask qs d :=
  Laws.mask_mp _ _ _ hmp
theorem mask_zeroCounted (qs : List Part) (d : Dev) (bad : Bool) (hmp : Part.mp ∈ qs) : Laws.mask qs (zeroCounted d bad) = Laws.mask qs d :=
  Laws.mask_mp _ _ _ hmp

theorem recordSelect_of_byteCount_zero (d : Dev) {bs : List Byte} (h : bs.head? = some 0) :
    recordSelect d bs = zeroCounted d d.mp.badCommand := by
  obtain ⟨rest, rfl⟩ := List.head?_eq_some_iff.mp h
  rfl

/-- `bad` is open: with COUNT = 0 a slot out of range or a reserved byte still sets BAD_COMMAND (R388). -/
theorem selectRecords_of_count_zero (d : Dev) {bs : List Byte} (h : bs.getD 2 0 = 0) : ∃ bad, selectRecords d bs = zeroCounted d bad := by
  have hn : (bs.getD 2 0).toNat = 0 := by simpa using congrArg BitVec.toNat h
  simp only [selectRecords, hn, beq_self_eq_true, Bool.or_true, if_true]
  split
  case isTrue => exact ⟨true, rfl⟩
  case isFalse => exact ⟨d.mp.badCommand, rfl⟩

theorem recordSelect_of_goodWrite {d : Dev} {bs : List Byte} (hfour : bs.head? = some 4) (hgood : goodWrite d 0x42 5 bs) :
    recordSelect d bs = selectRecords d ((bs.take 5).drop 1) := by
  rw [← portWrite_of_goodWrite hgood (fun d b => selectRecords d (b.drop 1))]
  obtain ⟨rest, rfl⟩ := List.head?_eq_some_iff.mp hfour
  rfl

theorem recordSelect_of_count_zero {d : Dev} {bs : List Byte} (hfour : bs.head? = some 4) (hgood : goodWrite d 0x42 5 bs)
    (hcount : bs.getD 3 0 = 0) : ∃ bad, recordSelect d bs = zeroCounted d bad := by
  rw [recordSelect_of_goodWrite hfour hgood]
  exact selectRecords_of_count_zero d (by simpa using hcount)

/-- Settles O59: in both cases the port is left with BLOCK_ZERO set, and with no other change but the transaction's own. -/
theorem zeroCountsExecuteNothing : Obligations.ZeroCountsExecuteNothing := by
  unfold Obligations.ZeroCountsExecuteNothing
  intro s bs hp zero good h
  obtain ⟨bad, hselect, hbad⟩ : ∃ bad, recordSelect (portBegin s.dev) bs = zeroCounted (portBegin s.dev) bad ∧ (zero → bad = s.dev.mp.badCommand) := by
    rcases h with hzero | ⟨hfour, hgood, hcount⟩
    · exact ⟨_, recordSelect_of_byteCount_zero _ hzero, fun _ => rfl⟩
    · obtain ⟨bad, hselect⟩ := recordSelect_of_count_zero hfour (goodWrite_portBegin hgood) hcount
      exact ⟨bad, hselect, fun hzero => absurd (hzero.symm.trans hfour) (by decide)⟩
  refine ⟨portEnd (zeroCounted (portBegin s.dev) bad), ?executed, rfl, rfl, rfl, rfl, rfl, hbad, ?frame⟩
  case executed =>
    rw [← hselect, ← transact_of_powered hp fun d => recordSelect d bs]
    rfl
  case frame =>
    refine Laws.keeps_of_mask _ _ _ ?_
    rw [mask_portEnd _ _ (by decide), mask_zeroCounted _ _ _ (by decide), Laws.mask_portBegin _ _ (by decide)]

end Sys2Proof.Machine
end

section
/-!
SUPPORT and SETTLEMENT. Every command runs one effect on the device and settles it; what a settled device satisfies; with these the step, the state
after reset, and the invariant of the block.
-/
namespace Sys2Proof.Machine
open Sys2Proof.Safety

/-! ### One command, one effect -/

/-- Every command but three is the effect of a function on the device; POLL and the replay's two act on the replay beside it. -/
theorem exec_eq_run (c : Instr) (s : State) :
    (∃ f, exec c s = run f s) ∨ (∃ a b checkin cap rs, c = .poll a b checkin cap rs) ∨ c = .modeTakesEffect ∨ c = .replayFret := by
  cases c
  case poll a b checkin cap rs => exact .inr (.inl ⟨a, b, checkin, cap, rs, rfl⟩)
  case modeTakesEffect => exact .inr (.inr (.inl rfl))
  case replayFret => exact .inr (.inr (.inr rfl))
  all_goals
    dsimp only [exec]
    exact .inl ⟨_, rfl⟩

@[simp] theorem withDev_dev (s : State) (d : Dev) : (withDev s d).dev = d := by unfold withDev; split <;> rfl
@[simp] theorem withDev_pending (s : State) (d : Dev) : (withDev s d).pending = s.pending := by unfold withDev; split <;> rfl

theorem withDev_rep (s : State) (d : Dev) :
    (withDev s d).rep = if s.dev.mm.mode = .replay ∧ d.mm.mode ≠ .replay then none else s.rep := by
  unfold withDev
  by_cases h : s.dev.mm.mode = .replay ∧ d.mm.mode ≠ .replay
  · simp [h]
  · rw [if_neg h, if_neg (by simpa using h)]

/-- Settles O1: a step takes the front command, and no word is one. -/
theorem stepRunsTheFrontCommand : Obligations.StepRunsTheFrontCommand := by
  unfold Obligations.StepRunsTheFrontCommand
  refine fun s => ⟨fun c rest h => ?_, fun h => ?_, fun nbits w => rfl⟩
  · rw [step, h]
  · rw [step, h]

/-- Settles O2: an effect on the device always has a result, and the queue is not part of the device. -/
theorem everyCommandAnswers : Obligations.EveryCommandAnswers := by
  unfold Obligations.EveryCommandAnswers
  intro c s
  rcases exec_eq_run c s with ⟨f, h⟩ | ⟨a, b, checkin, cap, rs, rfl⟩ | rfl | rfl
  · exact ⟨_, h, withDev_pending _ _⟩
  · exact ⟨_, rfl, rfl⟩
  · refine ⟨_, rfl, ?_⟩
    split
    · exact withDev_pending _ _
    · exact withDev_pending _ _
  · simp only [exec, execReplayFret]
    split
    · exact ⟨s, rfl, rfl⟩
    · exact ⟨_, rfl, withDev_pending _ _⟩

/-! ### Reads that the messages leave alone (R71, R316) -/

theorem proj_foldl {β γ : Type} (p : Dev → γ) (g : Dev → β → Dev) (h : ∀ d x, p (g d x) = p d) (l : List β) (d : Dev) : p (l.foldl g d) = p d := by
  induction l generalizing d with
  | nil => rfl
  | cons x xs ih => rw [List.foldl_cons, ih, h]

theorem proj_foldN {γ : Type} (p : Dev → γ) (n : Nat) (g : Dev → Nat → Dev) (h : ∀ d x, p (g d x) = p d) (d : Dev) : p (foldN n g d) = p d :=
  proj_foldl p g h _ d

/-- The device with what the interrupt messages write: the claim flags, the MSI-X unit and the outputs. -/
def withMessages (d : Dev) (was : List Bool) (p : Pci) (o : List Out) : Dev := { d with int := { d.int with was := was }, pci := p, out := o }

section
variable (d : Dev) (was : List Bool) (p : Pci) (o : List Out)

theorem rwOf_withMessages (off : Nat) : rwOf (withMessages d was p o) off = rwOf d off := rwOf_congr (withMessages d was p o) d rfl rfl off
theorem rwF_withMessages (off lo n : Nat) : rwF (withMessages d was p o) off lo n = rwF d off lo n := by rw [rwF, rwOf_withMessages, rwF]
theorem cplSize_withMessages (m : Nat) : cplSize (withMessages d was p o) m = cplSize d m := by simp only [cplSize, rwF_withMessages]

theorem level_withMessages (n : Nat) : level (withMessages d was p o) n = level d n := by
  have hcpl : cplU (withMessages d was p o) = cplU d := rfl
  have htmr : tmrLevel (withMessages d was p o) = tmrLevel d := rfl
  have hlk : lkU (withMessages d was p o) = lkU d := rfl
  simp only [level, cplLevel, cplSize_withMessages, hcpl, htmr, hlk]
  simp only [withMessages]

theorem claimable_withMessages (t n : Nat) : claimable (withMessages d was p o) t n = claimable d t n := by
  simp only [claimable, globalEnable, pendingFor, level_withMessages, srcPriority, srcTargets, rwOf_withMessages, rwF_withMessages]
  rfl

theorem claimOf_withMessages (t : Nat) : claimOf (withMessages d was p o) t = claimOf d t := by
  simp only [claimOf, claimable_withMessages, srcPriority, rwF_withMessages]
  rfl

end

/-- What the word of a ring shows: everything but the word last shown (R71). -/
structure SameRings (d e : Dev) : Prop where
  otp : e.otp = d.otp
  cfg : e.cfg = d.cfg
  pwr : e.pwr = d.pwr
  mm : e.mm = d.mm
  seq : e.seq = d.seq
  jr : e.jr = d.jr
  sub : ∀ n, { subU e n with shown := 0 } = { subU d n with shown := 0 }

section
variable {d e : Dev} (h : SameRings d e)
include h

theorem SameRings.rwF (off lo n : Nat) : Machine.rwF e off lo n = Machine.rwF d off lo n := by
  rw [Machine.rwF, rwOf_congr e d h.otp (by rw [h.cfg]), Machine.rwF]

theorem SameRings.engineOn : Machine.engineOn e = Machine.engineOn d := by
  simp only [Machine.engineOn, powered, h.rwF, h.pwr]

theorem SameRings.stopCode (n : Nat) : Machine.stopCode e n = Machine.stopCode d n := by
  have hacc : (subU e n).acc = (subU d n).acc := (congrArg SubRing.acc (h.sub n) :)
  have hprod : (subU e n).prod = (subU d n).prod := (congrArg SubRing.prod (h.sub n) :)
  have hbad : (subU e n).prodBad = (subU d n).prodBad := (congrArg SubRing.prodBad (h.sub n) :)
  have herr : (subU e n).fetchErr = (subU d n).fetchErr := (congrArg SubRing.fetchErr (h.sub n) :)
  have hhold : (subU e n).holdStop = (subU d n).holdStop := (congrArg SubRing.holdStop (h.sub n) :)
  have hlimit : (subU e n).limit = (subU d n).limit := (congrArg SubRing.limit (h.sub n) :)
  have hready : (subU e n).ready = (subU d n).ready := (congrArg SubRing.ready (h.sub n) :)
  have hdis : (subU e n).disabling = (subU d n).disabling := (congrArg SubRing.disabling (h.sub n) :)
  have hsize : subSize e n = subSize d n := by simp only [subSize, h.rwF]
  simp only [Machine.stopCode, ringWork, ringSize, nextSlot, subLimit, roomFor, journalFree, writing, noAccept, tailOf,
    hsize, h.engineOn, h.mm, h.seq, h.jr, hacc, hprod, hbad, herr, hhold, hlimit, hready, hdis]
  rfl

theorem SameRings.stateWord (n : Nat) : Machine.stateWord e n = Machine.stateWord d n := by
  unfold Machine.stateWord
  rw [h.stopCode, tailOf, h.jr, tailOf]

end

/-! ### The messages of the interrupts (R316) -/

/-- Only the claim flags, the MSI-X unit and the outputs of a device differ from another's. -/
def OnlyMessages (d e : Dev) : Prop := ∃ p o, e = withMessages d e.int.was p o ∧ e.int.was = d.int.was

theorem OnlyMessages.refl (d : Dev) : OnlyMessages d d := ⟨d.pci, d.out, rfl, rfl⟩

theorem OnlyMessages.trans {d e f : Dev} (hde : OnlyMessages d e) (hef : OnlyMessages e f) : OnlyMessages d f := by
  obtain ⟨p, o, he, hwas⟩ := hde
  obtain ⟨p', o', hf, hwas'⟩ := hef
  refine ⟨p', o', ?_, hwas'.trans hwas⟩
  rw [hf, he]
  rfl

theorem OnlyMessages.foldl {β : Type} (g : Dev → β → Dev) (h : ∀ d x, OnlyMessages d (g d x)) (l : List β) (d : Dev) : OnlyMessages d (l.foldl g d) := by
  induction l generalizing d with
  | nil => exact .refl d
  | cons x xs ih => exact (h d x).trans (ih _)

theorem onlyMessages_message (d : Dev) (t : Nat) (now became : Bool) : OnlyMessages d (message d t now became) := by
  unfold message
  dsimp only
  repeat' split
  all_goals exact ⟨_, _, rfl, rfl⟩

theorem onlyMessages_intLine (d : Dev) (t : Nat) (now was : Bool) : OnlyMessages d (intLine d t now was) := by
  unfold intLine
  split
  all_goals exact ⟨_, _, rfl, rfl⟩

/-- The claims at the end of a command are recorded, and nothing else that a later command reads is written. -/
theorem followInt_eq (d : Dev) : ∃ p o, followInt d = withMessages d ((List.range 4).map (fun t => claimOf d t != 0)) p o := by
  let now := (List.range 4).map (fun t => claimOf d t != 0)
  let d0 : Dev := { d with int := { d.int with was := now } }
  have h : OnlyMessages d0 (followInt d) :=
    (OnlyMessages.foldl _ (fun _ t => onlyMessages_message _ t (now.getD t false) (!d.int.was.getD t false)) [0, 1] d0).trans
      (OnlyMessages.foldl _ (fun _ t => onlyMessages_intLine _ t (now.getD t false) (d.int.was.getD t false)) [2, 3] _)
  obtain ⟨p, o, he, hwas⟩ := h
  refine ⟨p, o, ?_⟩
  rw [he, hwas]
  rfl

theorem sameRings_followInt (d : Dev) : SameRings d (followInt d) := by
  obtain ⟨p, o, h⟩ := followInt_eq d
  rw [h]
  exact ⟨rfl, rfl, rfl, rfl, rfl, rfl, fun _ => rfl⟩

/-- The targets recorded as claimable are those that are (R316). -/
theorem was_followInt (d : Dev) {t : Nat} (ht : t < 4) : (followInt d).int.was.getD t false = decide (claimOf (followInt d) t ≠ 0) := by
  obtain ⟨p, o, h⟩ := followInt_eq d
  have hwas : (followInt d).int.was = (List.range 4).map (fun t => claimOf d t != 0) := by rw [h]; rfl
  rw [hwas, h, claimOf_withMessages, List.getD_eq_getElem?_getD, List.getElem?_map, List.getElem?_range ht]
  by_cases h0 : claimOf d t = 0 <;> simp [h0]

/-! ### The state blocks (R71) -/

/-- A run of rings is changed by a function of its place; every other ring stands. -/
theorem subU_foldl_updSub (k m : Nat) (g : Nat → SubRing → SubRing) (d : Dev) {n : Nat} (hn : n < d.ring.sub.length) :
    subU ((List.range m).foldl (fun d i => updSub d (k + i) (g i)) d) n = if k ≤ n ∧ n < k + m then g (n - k) (subU d n) else subU d n := by
  induction m with
  | zero => rw [if_neg (by omega)]; rfl
  | succ m ih =>
    have hlen : ((List.range m).foldl (fun d i => updSub d (k + i) (g i)) d).ring.sub.length = d.ring.sub.length :=
      proj_foldl (fun d => d.ring.sub.length) _ (fun _ _ => updSub_length _ _ _) _ _
    rw [List.range_succ, List.foldl_append, List.foldl_cons, List.foldl_nil]
    by_cases hm : n = k + m
    · subst hm
      rw [subU_updSub_same _ _ _ (by rw [hlen]; exact hn), ih, if_neg (by omega), if_pos (by omega), Nat.add_sub_cancel_left]
    · rw [subU_updSub_other _ _ _ _ hm, ih]
      by_cases hr : k ≤ n ∧ n < k + m
      · rw [if_pos hr, if_pos (by omega)]
      · rw [if_neg hr, if_neg (by omega)]

theorem subU_congr {d e : Dev} (h : d.ring = e.ring) (n : Nat) : subU d n = subU e n := by simp only [subU, h]

/-- The rings with the words of a block shown. -/
def showBlock (d : Dev) (b : Nat) (ws : List Nat) : Dev :=
  (List.range 16).foldl (fun d i => updSub d (16 * b + i) (fun r => { r with shown := ws.getD i 0 })) d

theorem writeStateBlock_ring (d : Dev) (b : Nat) :
    (writeStateBlock d b).ring = (showBlock d b ((List.range 16).map (fun i => stateWord d (16 * b + i)))).ring := by
  rw [writeStateBlock, showBlock]

theorem subU_writeStateBlock (d : Dev) (b : Nat) {n : Nat} (hn : n < d.ring.sub.length) :
    subU (writeStateBlock d b) n = if 16 * b ≤ n ∧ n < 16 * b + 16 then { subU d n with shown := stateWord d n } else subU d n := by
  rw [subU_congr (writeStateBlock_ring d b), showBlock, subU_foldl_updSub _ _ (fun i r => { r with shown := _ }) d hn]
  split
  next h =>
    have hi : n - 16 * b < 16 := by omega
    have hback : 16 * b + (n - 16 * b) = n := by omega
    rw [List.getD_eq_getElem?_getD, List.getElem?_map, List.getElem?_range hi, Option.map_some, Option.getD_some, hback]
  next => rfl

theorem subU_of_le {d : Dev} {n : Nat} (hn : d.ring.sub.length ≤ n) : subU d n = {} := by
  rw [subU, at', List.getD_eq_getElem?_getD, List.getElem?_eq_none hn, Option.getD_none]

@[simp] theorem writeStateBlock_length (d : Dev) (b : Nat) : (writeStateBlock d b).ring.sub.length = d.ring.sub.length := by
  rw [writeStateBlock_ring, showBlock]
  exact proj_foldl (fun d => d.ring.sub.length) _ (fun _ _ => updSub_length _ _ _) _ _

theorem SameRings.of_core {d e : Dev} (h : Laws.core e = Laws.core d) (hsub : ∀ n, { subU e n with shown := 0 } = { subU d n with shown := 0 }) :
    SameRings d e :=
  ⟨(congrArg Dev.otp h :), (congrArg Dev.cfg h :), (congrArg Dev.pwr h :), (congrArg Dev.mm h :), (congrArg Dev.seq h :), (congrArg Dev.jr h :), hsub⟩

theorem sameRings_writeStateBlock (d : Dev) (b : Nat) : SameRings d (writeStateBlock d b) := by
  refine .of_core (Laws.core_writeStateBlock d b) fun n => ?_
  by_cases hn : n < d.ring.sub.length
  · rw [subU_writeStateBlock d b hn]
    split <;> rfl
  · rw [subU_of_le (by rw [writeStateBlock_length]; omega), subU_of_le (by omega)]

/-- One state block is written where a word of it changed. -/
def followBlock (d : Dev) (b : Nat) : Dev :=
  if (List.range 16).any (fun i => stateWord d (16 * b + i) != (subU d (16 * b + i)).shown) then writeStateBlock d b else d

theorem followState_eq (d : Dev) : followState d = if engineOn d then followBlock (followBlock d 0) 1 else d := by
  unfold followState
  cases engineOn d
  · rfl
  · rw [if_neg (by decide), if_pos rfl, List.foldl_cons, List.foldl_cons, List.foldl_nil, followBlock, followBlock]

theorem SameRings.refl (d : Dev) : SameRings d d := ⟨rfl, rfl, rfl, rfl, rfl, rfl, fun _ => rfl⟩

theorem sameRings_followBlock (d : Dev) (b : Nat) : SameRings d (followBlock d b) := by
  unfold followBlock
  split
  · exact sameRings_writeStateBlock d b
  · exact .refl d

/-- Behind it the block shows the present words. -/
theorem shown_followBlock_same (d : Dev) (b : Nat) {n : Nat} (hn : n < d.ring.sub.length) (hb : 16 * b ≤ n ∧ n < 16 * b + 16) :
    (subU (followBlock d b) n).shown = stateWord d n := by
  unfold followBlock
  split
  next => rw [subU_writeStateBlock d b hn, if_pos hb]
  next h =>
    have hback : 16 * b + (n - 16 * b) = n := by omega
    have hall := fun i hi => List.any_eq_false.1 (Bool.eq_false_iff.2 h) i (List.mem_range.2 hi)
    have hn := hall (n - 16 * b) (by omega)
    rw [hback, Bool.not_eq_true, bne_eq_false_iff_eq] at hn
    exact hn.symm

theorem shown_followBlock_other (d : Dev) (b : Nat) {n : Nat} (hn : n < d.ring.sub.length) (hb : ¬ (16 * b ≤ n ∧ n < 16 * b + 16)) :
    (subU (followBlock d b) n).shown = (subU d n).shown := by
  unfold followBlock
  split
  · rw [subU_writeStateBlock d b hn, if_neg hb]
  · rfl

@[simp] theorem followBlock_length (d : Dev) (b : Nat) : (followBlock d b).ring.sub.length = d.ring.sub.length := by
  unfold followBlock
  split
  · exact writeStateBlock_length d b
  · rfl

/-- While the ring engine is enabled, every state word shown is the present one (R71). -/
theorem shown_followState (d : Dev) (hon : engineOn d = true) (hlen : d.ring.sub.length = 32) {n : Nat} (hn : n < 32) :
    (subU (followState d) n).shown = stateWord (followState d) n := by
  rw [followState_eq, if_pos hon, (sameRings_followBlock _ 1).stateWord, (sameRings_followBlock d 0).stateWord]
  by_cases hb : n < 16
  · rw [shown_followBlock_other _ 1 (by simp [hlen, hn]) (by omega), shown_followBlock_same d 0 (by omega) (by omega)]
  · rw [shown_followBlock_same _ 1 (by simp [hlen, hn]) (by omega), (sameRings_followBlock d 0).stateWord]

theorem SameRings.trans {d e f : Dev} (hde : SameRings d e) (hef : SameRings e f) : SameRings d f :=
  ⟨hef.otp.trans hde.otp, hef.cfg.trans hde.cfg, hef.pwr.trans hde.pwr, hef.mm.trans hde.mm, hef.seq.trans hde.seq, hef.jr.trans hde.jr,
    fun n => (hef.sub n).trans (hde.sub n)⟩

theorem sameRings_followState (d : Dev) : SameRings d (followState d) := by
  rw [followState_eq]
  split
  · exact (sameRings_followBlock d 0).trans (sameRings_followBlock _ 1)
  · exact .refl d

@[simp] theorem followState_length (d : Dev) : (followState d).ring.sub.length = d.ring.sub.length := by
  rw [followState_eq]
  split
  · rw [followBlock_length, followBlock_length]
  · rfl

/-! ### The charger without a usable PACK string (R270) -/

theorem retired_updStr (d : Dev) (j k : Nat) (f : StringUnit → StringUnit) (hf : ∀ u, (f u).retired = u.retired) :
    (strU (updStr d j f) k).retired = (strU d k).retired := by
  by_cases hk : k = j
  · subst hk
    by_cases hlen : k < d.str.length
    · rw [strU_updStr_same _ _ _ hlen, hf]
    · simp [strU, updStr, upd, at', List.getD_eq_getElem?_getD, List.getElem?_eq_none (Nat.le_of_not_lt hlen)]
  · rw [strU_updStr_other _ _ _ _ hk]

theorem retired_clearLoops (d : Dev) (j k : Nat) : (strU (clearLoops d j) k).retired = (strU d k).retired := by
  refine (proj_foldl (fun d => (strU d k).retired) _ (fun _ _ => ?_) _ _).trans (retired_updStr d j k _ (fun _ => rfl))
  rfl

theorem retired_updStr_clearLoops (d : Dev) (j k : Nat) (f : StringUnit → StringUnit) (hf : ∀ u, (f u).retired = u.retired) :
    (strU (updStr (clearLoops d j) j f) k).retired = (strU d k).retired :=
  (retired_updStr _ _ _ f hf).trans (retired_clearLoops d j k)

theorem retired_enableString (d : Dev) (j k : Nat) : (strU (enableString d j) k).retired = (strU d k).retired := by
  unfold enableString
  split
  · rfl
  · exact retired_updStr_clearLoops d j k _ (fun _ => rfl)

theorem retired_packOff (d : Dev) (k : Nat) : (strU (packOff d) k).retired = (strU d k).retired := by
  unfold packOff
  dsimp only
  split
  · exact retired_updStr_clearLoops d _ k _ (fun _ => rfl)
  · rfl

theorem retired_packFollow (d : Dev) (k : Nat) : (strU (packFollow d) k).retired = (strU d k).retired := by
  unfold packFollow
  dsimp only
  split
  · rfl
  · split
    · split
      · rw [retired_enableString]
      · refine (retired_updStr _ _ k _ ?_).trans (retired_enableString d _ k)
        exact fun _ => rfl
    · rw [retired_packOff]

theorem retired_setCharger (d : Dev) (c : CState) (k : Nat) : (strU (setCharger d c) k).retired = (strU d k).retired :=
  retired_packFollow _ _

theorem retired_enterQualify (d : Dev) (k : Nat) : (strU (enterQualify d) k).retired = (strU d k).retired := by
  unfold enterQualify
  split
  · exact retired_setCharger _ _ _
  · exact retired_setCharger _ _ _

theorem retired_followCharger (d : Dev) (k : Nat) : (strU (followCharger d) k).retired = (strU d k).retired := by
  unfold followCharger
  repeat' split
  all_goals first | rfl | exact retired_packOff _ _ | exact retired_enterQualify _ _ | exact retired_setCharger _ _ _

/-- Whether the PACK string is usable rests on the words in force and on its retirement. -/
theorem packUsable_congr {d e : Dev} (hotp : e.otp = d.otp) (hforce : e.cfg.force = d.cfg.force)
    (hret : (strU e (packString d)).retired = (strU d (packString d)).retired) : packUsable e = packUsable d := by
  have hrs : ∀ off lo n, rsF e off lo n = rsF d off lo n := fun off lo n => by rw [rsF, inForce_congr e d hotp hforce, rsF]
  have hk : packString e = packString d := hrs _ _ _
  simp only [packUsable, packValid, kindOf, hk, hrs, hret]

theorem packUsable_chg (d : Dev) (c : Charger) : packUsable { d with chg := c } = packUsable d := by
  refine packUsable_congr ?_ ?_ ?_
  all_goals rfl

theorem packUsable_followCharger (d : Dev) : packUsable (followCharger d) = packUsable d := by
  have hcore := Laws.core_followCharger d
  refine packUsable_congr ?_ ?_ (retired_followCharger d _)
  · rw [← Laws.core_otp, hcore, Laws.core_otp]
  · rw [← Laws.core_cfg, hcore, Laws.core_cfg]

theorem packOff_chg (d : Dev) : (packOff d).chg = d.chg := by
  unfold packOff
  dsimp only
  split
  · refine proj_foldl (fun d => d.chg) _ (fun _ _ => ?_) _ _
    rfl
  · rfl

/-- Behind every command the charger without a usable PACK string rests, but for a search (R266, R270). -/
theorem rests_followCharger (d : Dev) (hp : powered d .aux = true) (hu : packUsable d = false) :
    (followCharger d).chg.st = .disabled ∨ (followCharger d).chg.st = .absent ∨ (followCharger d).chg.st = .search := by
  have hstand : ∀ d, packUsable d = false → packFollow d = d := fun d h => by rw [packFollow, h]; rfl
  unfold followCharger
  rw [hp, if_neg (by decide)]
  split
  next habsent =>
    split
    next => exact .inr (.inl (by rw [packOff_chg]; exact eq_of_beq habsent))
    next => rw [hu, if_neg (by simp)]; exact .inl rfl
  next =>
    split
    next hsearch => exact .inr (.inr (by rw [hstand d hu]; exact eq_of_beq hsearch))
    next =>
      split
      next =>
        have h := hstand { d with chg := { d.chg with st := .disabled } } ((packUsable_chg d _).trans hu)
        exact .inl (by rw [setCharger, h])
      next =>
        rw [hu, if_pos (by decide)]
        split
        next hdis => exact .inl (eq_of_beq hdis)
        next => exact .inl (by rw [packOff_chg])

/-! ### The invariant of the block -/

/-- What the invariant says of the device alone. -/
def DevInv (d : Dev) : Prop :=
  (∀ t < 4, d.int.was.getD t false = decide (claimOf d t ≠ 0)) ∧
  (engineOn d = true → d.ring.sub.length = 32 → ∀ n < 32, (subU d n).shown = stateWord d n) ∧
  (powered d .aux = true → packUsable d = false → d.chg.st = .disabled ∨ d.chg.st = .absent ∨ d.chg.st = .search)

/-- The state words and the messages leave the charger and the strings alone. -/
theorem keeps_followInt_followState (d : Dev) : keeps [.ring, .out, .int, .pci] d (followInt (followState d)) := by
  refine Laws.keeps_of_mask _ _ _ ?_
  rw [Laws.mask_followInt, Laws.mask_followState] <;> decide

/-- A settled device meets its part of the invariant, whatever the command did. -/
theorem devInv_settle (d : Dev) : DevInv (settle d) := by
  have hrings := sameRings_followInt (followState (followCharger d))
  obtain ⟨p, o, hint⟩ := followInt_eq (followState (followCharger d))
  refine ⟨fun t ht => was_followInt _ ht, fun hon hlen n hn => ?_, fun hp hu => ?_⟩
  · have hsub : ∀ n, subU (settle d) n = subU (followState (followCharger d)) n := by rw [settle, hint]; exact fun _ => rfl
    rw [settle, hrings.engineOn, (sameRings_followState _).engineOn] at hon
    have hlen' : (followCharger d).ring.sub.length = 32 := by rwa [settle, hint, withMessages, followState_length] at hlen
    rw [hsub, settle, hrings.stateWord]
    exact shown_followState _ hon hlen' hn
  · have hkeep := keeps_followInt_followState (followCharger d)
    have hchg : (settle d).chg = (followCharger d).chg := (hkeep .chg (by decide)).symm
    have hstr : (settle d).str = (followCharger d).str := (hkeep .str (by decide)).symm
    have hcfg : (settle d).cfg = (followCharger d).cfg := (hkeep .cfg (by decide)).symm
    have hotp : (settle d).otp = (followCharger d).otp := (hkeep .otp (by decide)).symm
    have husable : packUsable (settle d) = packUsable d := by
      rw [packUsable_congr hotp (by rw [hcfg]) (by rw [strU, strU, hstr]), packUsable_followCharger]
    rw [hchg]
    exact rests_followCharger d (by rwa [powered, settle_pwr] at hp) (husable ▸ hu)

theorem inv_iff (s : State) : Inv s ↔ (s.dev.mm.mode ≠ .replay → s.rep = none) ∧ DevInv s.dev := Iff.rfl

/-- A command that leaves the replay alone keeps the invariant: leaving REPLAY drops the replay's device (R375). -/
theorem inv_withDev {s : State} (d : Dev) (h : s.dev.mm.mode ≠ .replay → s.rep = none) : Inv (withDev s (settle d)) := by
  refine (inv_iff _).2 ⟨fun hmode => ?_, by rw [withDev_dev]; exact devInv_settle d⟩
  rw [withDev_dev] at hmode
  rw [withDev_rep]
  split
  next => rfl
  next hstays => exact h fun hrep => hstays ⟨hrep, hmode⟩

/-! ### A poll does not change the mode (R66, R337) -/

theorem assertHrst_mm (d : Dev) (us : Nat) : (assertHrst d us).mm = d.mm :=
  (Laws.keeps_of_mask [.pins, .out] _ _ (Laws.mask_assertHrst _ _ _ (by decide) (by decide)) .mm (by decide)).symm

/-- An expiry asks for HOLD in ARMED or RUN (R58). -/
theorem expire_mm (d : Dev) (kept : List Word) :
    (expire d kept).mm = { d.mm with wdHold := d.mm.wdHold || decide (d.mm.mode = .armed ∨ d.mm.mode = .run) } := by
  unfold expire
  dsimp only
  rw [assertHrst_mm]
  by_cases h : d.mm.mode = .armed ∨ d.mm.mode = .run
  · rw [if_pos (by simpa using h)]
    simp [h]
  · rw [if_neg (by simpa using h), assertHrst_mm]
    simp [h]

theorem mode_wdSample (d : Dev) (line : Line) : (wdSample d line).mm.mode = d.mm.mode := by
  unfold wdSample
  split
  · rfl
  · dsimp only
    split
    · split <;> rfl
    · split
      · rw [expire_mm]
      · split <;> rfl

theorem mode_dropDisabled (d : Dev) (n : Nat) : (dropDisabled d n).mm.mode = d.mm.mode := by
  unfold dropDisabled
  split <;> rfl

theorem mode_readProducer (d : Dev) (line : Line) (n : Nat) : (readProducer d line n).mm.mode = d.mm.mode := by
  unfold readProducer
  dsimp only
  repeat' split
  all_goals rfl

theorem mode_readConsumer (d : Dev) (line : Line) (m : Nat) : (readConsumer d line m).mm.mode = d.mm.mode := by
  unfold readConsumer
  dsimp only
  repeat' split
  all_goals rfl

theorem mode_readCaptureLine (d : Dev) (line : Line) : (readCaptureLine d line).mm.mode = d.mm.mode := by
  have hdrain : ∀ (d : Dev) q, (capDrain d q).mm.mode = d.mm.mode := fun d q =>
    congrArg ModeUnit.mode (Laws.keeps_of_mask [.cap, .capQueue, .out] _ _ (Laws.mask_capDrain _ _ _ (by decide) (by decide) (by decide)) .mm (by decide)).symm
  unfold readCaptureLine
  split
  · rfl
  · exact hdrain _ _

theorem mode_requestFetch (d : Dev) (n : Nat) : (requestFetch d n).mm.mode = d.mm.mode := by
  unfold requestFetch
  dsimp only
  split <;> rfl

theorem mode_poll (d : Dev) (a b checkin cap : Line) : (poll d a b checkin cap).mm.mode = d.mm.mode := by
  unfold poll
  split
  · rfl
  · dsimp only
    rw [proj_foldN (fun d => d.mm.mode) 32 requestFetch mode_requestFetch, mode_readCaptureLine]
    have hlines : ∀ d : Dev, (foldN 32 (fun d m => readConsumer d b m) (foldN 32 (fun d n => readProducer d a n) (foldN 32 dropDisabled d))).mm.mode = d.mm.mode := by
      intro d
      rw [proj_foldN (fun d => d.mm.mode) 32 _ (fun d m => mode_readConsumer d b m),
        proj_foldN (fun d => d.mm.mode) 32 _ (fun d n => mode_readProducer d a n), proj_foldN (fun d => d.mm.mode) 32 _ mode_dropDisabled]
    split
    · rw [hlines]
    · rw [mode_wdSample, hlines]

/-- Settles O3: what follows a command brings the device's part about, and every way out of REPLAY drops the replay's device. -/
theorem stepKeepsBlockInvariant : Obligations.StepKeepsBlockInvariant := by
  unfold Obligations.StepKeepsBlockInvariant
  intro s t hinv hstep
  rw [inv_iff] at hinv
  obtain ⟨hrep, hdev⟩ := hinv
  unfold step at hstep
  split at hstep
  next =>
    cases hstep
    exact (inv_iff _).2 ⟨hrep, hdev⟩
  next c rest _ =>
    rcases exec_eq_run c { s with pending := rest } with ⟨f, h⟩ | ⟨a, b, checkin, cap, rs, rfl⟩ | rfl | rfl
    · rw [h] at hstep
      cases hstep
      exact inv_withDev _ hrep
    · cases hstep
      refine (inv_iff _).2 ⟨fun hmode => hrep ?_, devInv_settle _⟩
      rwa [settle_mm, mode_poll] at hmode
    · cases hstep
      split
      next henters =>
        have hmode : (modeEffect s.repIn s.dev).mm.mode = .replay := eq_of_beq (Bool.and_eq_true_iff.1 henters).2
        refine (inv_iff _).2 ⟨fun hother => absurd ?_ hother, ?_⟩
        · exact (congrArg (fun d => d.mm.mode) (withDev_dev _ _)).trans ((congrArg ModeUnit.mode (settle_mm _)).trans hmode)
        · exact (congrArg DevInv (withDev_dev _ _)).mpr (devInv_settle _)
      next => exact inv_withDev _ hrep
    · simp only [exec, execReplayFret] at hstep
      split at hstep
      next =>
        cases hstep
        exact (inv_iff _).2 ⟨hrep, hdev⟩
      next r hr =>
        cases hstep
        refine inv_withDev _ fun hmode => ?_
        rw [hrep hmode] at hr
        cases hr

/-! ### The state after reset -/

/-- With no domain powered no source is claimable (R315). -/
theorem claimOf_of_disabled {d : Dev} (h : globalEnable d = false) (t : Nat) : claimOf d t = 0 := by
  have hnone : ∀ n, claimable d t n = false := fun n => by simp [claimable, h]
  have hskip : ∀ (l : List Nat) (a : Nat), l.foldl (claimStep d t) a = a := by
    intro l
    induction l with
    | nil => exact fun _ => rfl
    | cons n l ih => exact fun a => by rw [List.foldl_cons, ih, claimStep, hnone n]; rfl
  rw [claimOf_eq_foldl, hskip]

theorem powered_reset (x : Domain) : powered State.reset.dev x = false := by cases x <;> decide

theorem inv_reset : Inv State.reset := by
  refine ⟨fun _ => rfl, fun t ht => ?_, fun hon => ?_, fun hp => ?_⟩
  · have hoff : globalEnable State.reset.dev = false := by rw [globalEnable, powered_reset]; rfl
    rw [claimOf_of_disabled hoff]
    have hwas : ∀ t < 4, State.reset.dev.int.was.getD t false = false := by decide
    exact hwas t ht
  · rw [engineOn, powered_reset] at hon
    cases hon
  · rw [powered_reset] at hp
    cases hp

/-- Settles O4: the reset values are those of the structures' defaults and of the reset functions of the registers. -/
theorem resetStateIsAsSpecified : Obligations.ResetStateIsAsSpecified := by
  unfold Obligations.ResetStateIsAsSpecified
  have htimers : ∀ t < 8, (tmrU State.reset.dev t).compare = 0xFFFFFFFF ∧ (tmrU State.reset.dev t).ctl = 0 ∧ (tmrU State.reset.dev t).count = 0 := by decide
  refine ⟨rfl, rfl, powered_reset, rfl, rfl, htimers, ?_, ?_, ?_, ?_, ?_, ?_, ?_, ?_, ?_, rfl, rfl, rfl, inv_reset⟩
  all_goals decide

end Sys2Proof.Machine
end

section
/-!
SUPPORT and SETTLEMENT. Claims and completions as one change of the interrupt controller each; timers, their register writes and captures; the
watchdog and the core's halt.
-/
namespace Sys2Proof.Machine
open Sys2Proof.Safety

/-! ### Claims and completions (R317, R319, R321) -/

/-- The claim flags once a target is to be told again (R316). -/
def toldAgain (d : Dev) (t : Nat) : List Bool := if t < 2 then d.int.was.set t false else d.int.was

theorem retell_eq (d : Dev) (t : Nat) : retell d t = { d with int := { d.int with was := toldAgain d t } } := by
  unfold retell toldAgain
  split <;> rfl

theorem stackOf_retell (d : Dev) (t u : Nat) : stackOf (retell d t) u = stackOf d u := by rw [stackOf, retell_int_claimStacks, stackOf]

theorem claimRead_of_disabled {d : Dev} (hg : globalEnable d = false) (t : Nat) : claimRead d t = { d with bus := 0 } := by
  rw [claimRead, hg]
  rfl

theorem claimRead_of_some {d : Dev} {t : Nat} (hg : globalEnable d = true) (hn : claimOf d t ≠ 0) :
    claimRead d t = { d with bus := w32 (claimOf d t), int := { d.int with was := toldAgain d t, refired := d.int.refired &&& ~~~(1#256 <<< claimOf d t), claimStacks := upd d.int.claimStacks t (fun l => (claimOf d t, srcPriority d (claimOf d t)) :: l) } } := by
  simp only [claimRead, hg, Bool.not_true, Bool.false_eq_true, if_false, if_neg hn, srcPriority_retell]
  rw [retell_eq]
  rfl

theorem claimRead_of_none {d : Dev} {t : Nat} (hg : globalEnable d = true) (hn : claimOf d t = 0) :
    claimRead d t = { d with bus := 0, int := { d.int with was := toldAgain d t, spurious := upd d.int.spurious t (fun c => min (c + 1) 65535) } } := by
  simp only [claimRead, hg, Bool.not_true, Bool.false_eq_true, if_false, if_pos hn]
  rw [retell_eq]
  rfl

section
variable {d : Dev} {t n m p : Nat} {rest : List (Nat × Nat)} (hp : powered d .mgmt = true) (hn : n ≠ 0) (hstack : stackOf d t = (m, p) :: rest)
include hp hn hstack

theorem completeWrite_inOrder (hm : m = n) :
    completeWrite d t n = { d with int := { d.int with was := toldAgain d t, claimStacks := d.int.claimStacks.set t rest } } := by
  simp only [completeWrite, hp, Bool.not_true, Bool.false_eq_true, if_false, if_neg hn, stackOf_retell, hstack, if_pos hm]
  rw [retell_eq]

theorem completeWrite_outOfOrder (hm : m ≠ n) :
    completeWrite d t n = detect { d with int := { d.int with was := toldAgain d t, claimStacks := d.int.claimStacks.set t [] } } 0x1600 t n m := by
  simp only [completeWrite, hp, Bool.not_true, Bool.false_eq_true, if_false, if_neg hn, stackOf_retell, hstack, if_neg hm]
  rw [retell_eq]

end

/-- Settles O6: each claim and each completion is one change of the interrupt controller. -/
theorem claimAndComplete : Obligations.ClaimAndComplete := by
  unfold Obligations.ClaimAndComplete
  intro s t n hp told
  have hon : fld (rwOf s.dev 0x5000) 0 1 = 1 → globalEnable s.dev = true := fun h => by simp [globalEnable, hp, rwF, h]
  have hoff : fld (rwOf s.dev 0x5000) 0 1 = 0 → globalEnable s.dev = false := fun h => by simp [globalEnable, rwF, h]
  refine ⟨?claimed, ?none, ?disabled, ?inOrder, ?outOfOrder, ?globalEnable⟩
  case claimed =>
    rintro h rfl hn
    exact congrArg (next s) (claimRead_of_some (hon h) hn)
  case none => exact fun h hn => congrArg (next s) (claimRead_of_none (hon h) hn)
  case disabled => exact fun h => congrArg (next s) (claimRead_of_disabled (hoff h) t)
  case inOrder =>
    intro p rest hn hstack
    exact congrArg (next s) (completeWrite_inOrder hp hn hstack rfl)
  case outOfOrder =>
    intro m p rest hn hne hstack
    exact congrArg (next s) (completeWrite_outOfOrder hp hn hstack hne.symm)
  case globalEnable =>
    intro on
    have h : writeGlobal s.dev on = setRw s.dev 0x5000 (if on then 1 else 0) := by
      rw [writeGlobal, if_pos hp]
      cases on <;> rfl
    exact congrArg (next s) h

/-! ### Timers (R326–R331) -/

/-- Two changes that agree on the unit they change are the same change. -/
theorem upd_congr {α : Type} (dflt : α) (l : List α) (i : Nat) (f g : α → α) (h : f (at' dflt l i) = g (at' dflt l i)) : upd l i f = upd l i g := by
  refine List.ext_getElem? fun j => ?_
  by_cases hj : i = j
  · subst hj
    cases hl : l[i]? with
    | none => simp [upd, hl]
    | some a =>
      have ha : at' dflt l i = a := by simp [at', List.getD_eq_getElem?_getD, hl]
      rw [ha] at h
      simp [upd, hl, h]
  · simp [upd, hj]

theorem updTmr_congr (d : Dev) (t : Nat) (f g : Timer → Timer) (h : f (tmrU d t) = g (tmrU d t)) : updTmr d t f = updTmr d t g := by
  rw [updTmr, upd_congr _ d.tmr t f g h, updTmr]

/-- The count of an advance: 0 behind a match that reloads, else one more (R327). -/
def advanced (u : Timer) : Word := if u.reload && tmrRestart u then 0 else u.count + 1

/-- The timer counts in this tick (R326, R330). -/
def counts (d : Dev) (t : Nat) : Bool := powered d .mgmt && tmrEnabled (tmrU d t) && !tmrFrozen d (tmrU d t) && advanceDue d (tmrU d t)

theorem advanceTimer_eq (d : Dev) (t : Nat) :
    advanceTimer d t = if counts d t then
        (if advanced (tmrU d t) = (tmrU d t).compare then tmrMatch (updTmr d t (fun u => { u with count := advanced (tmrU d t), reload := false, next := nextAdvance d (tmrU d t) })) t
         else updTmr d t (fun u => { u with count := advanced (tmrU d t), reload := false, next := nextAdvance d (tmrU d t) }))
      else d := by
  have hupd : updTmr d t (fun u => { u with count := advanced (tmrU d t), reload := false, next := nextAdvance d u }) =
      updTmr d t (fun u => { u with count := advanced (tmrU d t), reload := false, next := nextAdvance d (tmrU d t) }) := updTmr_congr _ _ _ _ rfl
  have hif : (!powered d .mgmt || !tmrEnabled (tmrU d t) || tmrFrozen d (tmrU d t) || !advanceDue d (tmrU d t)) = !counts d t := by
    simp only [counts, Bool.not_and, Bool.not_not]
  rw [← hupd]
  unfold advanceTimer
  dsimp only
  rw [hif]
  cases counts d t <;> rfl

theorem counts_iff {d : Dev} (hp : powered d .mgmt = true) (t : Nat) :
    counts d t = true ↔ bit (tmrU d t).ctl 0 = true ∧ ¬ (bit (tmrU d t).ctl 2 = true ∧ d.pwr.coreHalted = true) ∧ (tmrU d t).next < 200 * d.clk.tick + 200 := by
  have hdue : advanceDue d (tmrU d t) = true ↔ (tmrU d t).next < 200 * d.clk.tick + 200 := decide_eq_true_iff
  simp only [counts, hp, tmrEnabled, tmrFrozen, Bool.true_and, Bool.and_eq_true, Bool.not_eq_true', Bool.and_eq_false_iff, hdue, Classical.not_and_iff_not_or_not,
    Bool.not_eq_true, and_assoc]

theorem writeTmrControl_eq {d : Dev} (hp : powered d .mgmt = true) (t : Nat) (v : Word) :
    writeTmrControl d t v = updTmr d t fun u => { u with ctl := v &&& w32 0x3FF7, next := if bit v 0 = true ∧ bit u.ctl 0 = false then 200 * d.clk.tick + 2 ^ fld v 4 4 else u.next } := by
  rw [writeTmrControl, if_pos hp]
  refine updTmr_congr _ _ _ _ ?_
  simp only [tmrEnabled, busClock, Bool.and_eq_true, Bool.not_eq_true']

theorem writeTmrCompare_eq {d : Dev} {t : Nat} (hp : powered d .mgmt = true) (ht : t < d.tmr.length) (v : Word) :
    writeTmrCompare d t v = if bit (tmrU d t).ctl 0 = true ∧ (tmrU d t).count = v then tmrMatch (updTmr d t fun u => { u with compare := v }) t
      else updTmr d t fun u => { u with compare := v } := by
  simp only [writeTmrCompare, hp, Bool.not_true, Bool.false_eq_true, if_false, tmrU_updTmr_same _ _ _ ht, tmrEnabled, Bool.and_eq_true, beq_iff_eq]

/-- A SYNC edge reaches no stream while no capture is active; what is kept of it is that it was seen (R329). -/
theorem streamSync_of_idle {d : Dev} (h : capturing d = false) (e : CapEvent) :
    ∃ c : Capture, c = { d.cap with syncTick := c.syncTick, syncs := c.syncs } ∧ ((∀ i r at', e ≠ .sync i r at') → c = d.cap) ∧ streamSync d e = { d with cap := c } := by
  cases e
  case sync i rising at' =>
    let seen := if d.cap.syncTick = d.clk.tick then d.cap.syncs else []
    by_cases hs : seen.contains (i, rising, at') = true
    · exact ⟨d.cap, rfl, fun _ => rfl, by rw [streamSync, if_pos hs]⟩
    · refine ⟨{ d.cap with syncTick := d.clk.tick, syncs := seen ++ [(i, rising, at')] }, rfl, fun hne => absurd rfl (hne i rising at'), ?_⟩
      rw [streamSync, if_neg hs, capture, captureAt, if_neg]
      exact Bool.eq_false_iff.1 h
  all_goals exact ⟨d.cap, rfl, fun _ => rfl, rfl⟩

theorem captureTimer_eq {d : Dev} {t : Nat} {e : CapEvent} (hp : powered d .mgmt = true) (he : capturesEvent (tmrU d t) t e = true) (hnow : eventNow d e = true) :
    captureTimer d t e = if 4 ≤ (tmrU d t).queue.length then occur (updTmr (streamSync d e) t (fun u => { u with overflow := true })) (224 + 3 * t + 2)
      else occur (updTmr (streamSync d e) t (fun u => { u with queue := u.queue ++ [u.count] })) (224 + 3 * t + 1) := by
  simp only [captureTimer, hp, he, hnow, Bool.not_true, Bool.or_self, Bool.false_eq_true, if_false]

/-- Settles O7: each command of a timer is one change of that timer, and a match or a capture an occurrence behind it. -/
theorem timersCountMatchAndCapture : Obligations.TimersCountMatchAndCapture := by
  unfold Obligations.TimersCountMatchAndCapture
  refine ⟨fun s t hp => ?advance, fun s t v hp => ?write, fun s t e hp hidle => ?capture⟩
  case advance =>
    intro u c go on
    have hgo : counts s.dev t = true ↔ go := counts_iff hp t
    have hc : advanced (tmrU s.dev t) = c := by simp only [advanced, tmrRestart, Bool.and_eq_true]; rfl
    have hadvance := advanceTimer_eq s.dev t
    rw [hc] at hadvance
    refine ⟨fun h hne => ?_, fun h heq => ?_, fun h => ?_⟩
    · rw [if_pos (hgo.2 h), if_neg hne] at hadvance
      exact congrArg (next s) hadvance
    · rw [if_pos (hgo.2 h), if_pos heq] at hadvance
      exact congrArg (next s) hadvance
    · rw [if_neg (fun hcounts => h (hgo.1 hcounts))] at hadvance
      exact congrArg (next s) hadvance
  case write =>
    intro u
    refine ⟨?control, ?count, ?countEnabled, ?compare, ?compareMatches, ?read, ?readEmpty⟩
    case control => exact congrArg (next s) (writeTmrControl_eq hp t v)
    case count =>
      intro h
      exact congrArg (next s) (if_pos (by rw [hp, tmrEnabled, h]; rfl))
    case countEnabled =>
      intro h
      exact congrArg (next s) (if_neg (by rw [hp, tmrEnabled, h]; decide))
    case compare =>
      intro ht h
      refine congrArg (next s) ((writeTmrCompare_eq hp ht v).trans (if_neg ?_))
      rintro ⟨hon, hv⟩
      rcases h with h | h
      · rw [hon] at h
        cases h
      · exact h hv
    case compareMatches => exact fun ht hon hv => congrArg (next s) ((writeTmrCompare_eq hp ht v).trans (if_pos ⟨hon, hv⟩))
    case read =>
      intro x rest hq
      have h : readTmrCapture s.dev t = { updTmr s.dev t (fun u => { u with queue := rest }) with bus := x } := by
        simp only [u] at hq
        rw [readTmrCapture, hq]
      exact congrArg (next s) h
    case readEmpty =>
      intro hq
      have h : readTmrCapture s.dev t = { s.dev with bus := 0 } := by
        simp only [u] at hq
        rw [readTmrCapture, hq]
        rfl
      exact congrArg (next s) h
  case capture =>
    intro u hevent
    have hcapturing : capturing s.dev = false := (Bool.or_eq_false_iff.1 hidle).1
    obtain ⟨c, hc, hcap, hsync⟩ := streamSync_of_idle hcapturing e
    have hcaptures : capturesEvent (tmrU s.dev t) t e = true ∧ eventNow s.dev e = true := by
      cases e
      case sync i rising at' =>
        obtain ⟨hi, hsel, hedge⟩ := hevent
        refine ⟨?_, rfl⟩
        simpa [capturesEvent, tmrSelect, tmrEdge, hi, hsel, u, or_assoc] using hedge
      all_goals simpa [capturesEvent, eventNow, tmrSelect, u, and_assoc] using hevent
    have hcapture := captureTimer_eq hp hcaptures.1 hcaptures.2
    rw [hsync] at hcapture
    refine ⟨c, hc, hcap, fun hroom => ?_, fun hfull => ?_⟩
    · rw [if_neg (Nat.not_le.2 hroom)] at hcapture
      exact congrArg (next s) hcapture
    · rw [if_pos hfull] at hcapture
      exact congrArg (next s) hcapture

/-! ### The watchdog (R332–R337) and the core's halt (R330, R344) -/

@[simp] theorem setHrst_pins (d : Dev) (f : Pins → Pins) : (setHrst d f).pins = f d.pins := by
  unfold setHrst
  dsimp only
  split <;> rfl

@[simp] theorem setHrst_wd (d : Dev) (f : Pins → Pins) : (setHrst d f).wd = d.wd := by
  unfold setHrst
  dsimp only
  split <;> rfl

theorem expire_pins (d : Dev) (kept : List Word) :
    (expire d kept).pins = { d.pins with hrstTimed := true, hrstUntil := max (if d.pins.hrstTimed then d.pins.hrstUntil else 0) (d.clk.tick + 10000) } := by
  unfold expire
  dsimp only
  split
  · exact setHrst_pins _ _
  · exact setHrst_pins _ _

theorem expire_wd (d : Dev) (kept : List Word) :
    (expire d kept).wd = { d.wd with waiting := true, count := 0, frac := 0, marks := 0, kept := kept, waitTicks := 0 } := by
  unfold expire assertHrst
  dsimp only
  split
  · simp only [setHrst_wd]
  · simp only [setHrst_wd]

/-- What an expiry leaves (R337, R58). -/
structure Expired (d e : Dev) : Prop where
  waiting : e.wd.waiting = true
  count : e.wd.count = 0
  waitTicks : e.wd.waitTicks = 0
  on : e.wd.on = d.wd.on
  setup : e.wd.setup = d.wd.setup
  timed : e.pins.hrstTimed = true
  until' : d.clk.tick + 10000 ≤ e.pins.hrstUntil
  mm : e.mm = { d.mm with wdHold := d.mm.wdHold || decide (d.mm.mode = .armed ∨ d.mm.mode = .run) }
  frame : keeps [.wd, .pins, .mm, .out] d e

theorem expired_expire (d : Dev) (kept : List Word) : Expired d (expire d kept) where
  waiting := by rw [expire_wd]
  count := by rw [expire_wd]
  waitTicks := by rw [expire_wd]
  on := by rw [expire_wd]
  setup := by rw [expire_wd]
  timed := by rw [expire_pins]
  until' := by rw [expire_pins]; exact Nat.le_max_right _ _
  mm := expire_mm d kept
  frame := Laws.keeps_of_mask _ _ _ (by rw [Laws.mask_expire] <;> decide)

theorem writeWdSetup_of_off {d : Dev} (hp : powered d .mgmt = true) (hoff : d.wd.on = false) (v : Word) :
    writeWdSetup d v = if d.wd.openAt < d.wd.closeAt ∧ d.wd.closeAt ≤ 0x7FFFFFFF ∧ fld v 0 8 ≠ 0 then
        { d with wd := { d.wd with setup := v &&& w32 0xFFFFF, on := true, waiting := true, count := 0, frac := 0, marks := 0, kept := d.wd.prev, waitTicks := 0 } }
      else { d with wd := { d.wd with rejected := true } } := by
  simp only [writeWdSetup, hp, hoff, Bool.not_true, Bool.or_self, Bool.false_eq_true, if_false, Bool.and_eq_true, decide_eq_true_eq, bne_iff_ne, and_assoc]

/-- A slot below 8 that is enabled and not marked is one that the sample finds unmarked (R335). -/
theorem unmarked_of_slot {d : Dev} {marks : BitVec 8} (h : ∃ k < 8, bit d.wd.setup k = true ∧ bit marks k = false) : unmarked d marks = true := by
  obtain ⟨k, hk, hon, hmark⟩ := h
  refine List.any_eq_true.2 ⟨k, List.mem_filter.2 ⟨List.mem_range.2 hk, hon⟩, ?_⟩
  rw [hmark]
  rfl

/-- Settles O8: the set-up write takes one of three ways, and every expiry leaves the same. -/
theorem watchdogTurnsOnAndExpires : Obligations.WatchdogTurnsOnAndExpires := by
  unfold Obligations.WatchdogTurnsOnAndExpires
  refine ⟨fun s v hp => ?setup, fun s hon => ?expiry, fun s hp => ⟨?halt, rfl⟩⟩
  case setup =>
    intro ok
    refine ⟨fun hoff hok => ?_, fun hoff hok => ?_, fun hon => ?_⟩
    · exact ⟨_, congrArg (next s) ((writeWdSetup_of_off hp hoff v).trans (if_pos hok)), rfl, rfl, rfl, rfl, rfl, rfl, rfl, rfl, rfl, rfl⟩
    · exact congrArg (next s) ((writeWdSetup_of_off hp hoff v).trans (if_neg hok))
    · exact congrArg (next s) (if_pos (by rw [hon, Bool.or_true]))
  case expiry =>
    intro expires
    have hexpires : ∀ kept, expires (expire s.dev kept) := fun kept =>
      let h := expired_expire s.dev kept
      ⟨h.waiting, h.count, h.waitTicks, h.on.trans hon, h.setup, h.timed, h.until', h.mm, h.frame⟩
    refine ⟨fun hwait hwindow hslot => ?_, fun hwait hlimit hlong => ?_, ?_⟩
    · have h : wdTimeout s.dev = expire s.dev s.dev.wd.prev := by
        simp only [wdTimeout, hon, hwait, unmarked_of_slot hslot, Bool.not_true, Bool.false_or, decide_eq_true_eq, if_neg (Nat.not_lt.2 hwindow), if_true]
      exact ⟨_, congrArg (next s) h, hexpires _, by rw [expire_wd]⟩
    · have hlate : wdWait s.dev ≠ 0 ∧ wdWait s.dev ≤ s.dev.wd.waitTicks := ⟨hlimit, hlong⟩
      have h : wdWaited s.dev = expire s.dev s.dev.wd.kept := by
        simp only [wdWaited, hon, hwait, Bool.true_and, Bool.and_eq_true, bne_iff_ne, decide_eq_true_eq, if_pos hlate]
      exact ⟨_, congrArg (next s) h, hexpires _, by rw [expire_wd]⟩
    · exact ⟨_, congrArg (next s) (if_pos hon), hexpires _⟩
  case halt => exact congrArg (next s) (if_pos hp)

end Sys2Proof.Machine
end

section
/-!
SUPPORT and SETTLEMENT. The ring engine: a poll, the fetches, an acceptance, a completion write, the ring registers and the function reset.
-/
namespace Sys2Proof.Machine
open Sys2Proof.Safety

/-! ### A unit behind a run over all units -/

/-- A run over the first `m` units changes one of them as its own turn does, where every other turn leaves it alone. -/
theorem unit_foldN {γ : Type} (u : Dev → γ) (P : Dev → Prop) (g : Dev → Nat → Dev) (n : Nat) (f : γ → γ) (hP : ∀ d k, P d → P (g d k))
    (hother : ∀ d k, k ≠ n → u (g d k) = u d) (hsame : ∀ d, P d → u (g d n) = f (u d)) (m : Nat) {d : Dev} (hd : P d) :
    u (foldN m g d) = if n < m then f (u d) else u d := by
  have hboth : P (foldN m g d) ∧ u (foldN m g d) = if n < m then f (u d) else u d := by
    induction m with
    | zero => exact ⟨hd, rfl⟩
    | succ m ih =>
      obtain ⟨hPm, hum⟩ := ih
      have hstep : foldN (m + 1) g d = g (foldN m g d) m := by
        rw [foldN, List.range_succ, List.foldl_append, List.foldl_cons, List.foldl_nil, foldN]
      rw [hstep]
      refine ⟨hP _ _ hPm, ?_⟩
      by_cases hm : m = n
      · subst hm
        rw [hsame _ hPm, hum, if_neg (Nat.lt_irrefl m), if_pos (Nat.lt_succ_self m)]
      · rw [hother _ _ hm, hum]
        by_cases hn : n < m
        · rw [if_pos hn, if_pos (by omega)]
        · rw [if_neg hn, if_neg (by omega)]
  exact hboth.2

theorem keeps_trans {ps : List Part} {a b c : Dev} (hab : keeps ps a b) (hbc : keeps ps b c) : keeps ps a c :=
  Laws.keeps_of_mask _ _ _ ((Laws.mask_of_keeps _ _ _ hbc).trans (Laws.mask_of_keeps _ _ _ hab))

/-! ### POLL (R66, R67, R73) -/

/-- The registers that a poll reads and the number of the rings stand. -/
def sameSetup (d e : Dev) : Prop := e.cfg = d.cfg ∧ e.otp = d.otp ∧ e.ring.sub.length = d.ring.sub.length ∧ e.ring.cpl.length = d.ring.cpl.length

theorem sameSetup.rwF {d e : Dev} (h : sameSetup d e) (off lo n : Nat) : rwF e off lo n = Machine.rwF d off lo n := by
  obtain ⟨hcfg, hotp, -⟩ := h
  rw [Machine.rwF, rwOf_congr e d hotp (by rw [hcfg]), Machine.rwF]

theorem sameSetup.subSize {d e : Dev} (h : sameSetup d e) (n : Nat) : subSize e n = Machine.subSize d n := by simp only [Machine.subSize, h.rwF]
theorem sameSetup.cplSize {d e : Dev} (h : sameSetup d e) (n : Nat) : cplSize e n = Machine.cplSize d n := by simp only [Machine.cplSize, h.rwF]

theorem sameSetup.trans {d e f : Dev} (hde : sameSetup d e) (hef : sameSetup e f) : sameSetup d f := by
  obtain ⟨hcfg, hotp, hsub, hcpl⟩ := hde
  obtain ⟨hcfg', hotp', hsub', hcpl'⟩ := hef
  exact ⟨hcfg'.trans hcfg, hotp'.trans hotp, hsub'.trans hsub, hcpl'.trans hcpl⟩

theorem sameSetup_updSub (d : Dev) (n : Nat) (f : SubRing → SubRing) : sameSetup d (updSub d n f) := ⟨rfl, rfl, updSub_length _ _ _, rfl⟩
theorem sameSetup_updCpl (d : Dev) (n : Nat) (f : CplRing → CplRing) : sameSetup d (updCpl d n f) := ⟨rfl, rfl, rfl, updCpl_length _ _ _⟩

@[simp] theorem subU_detect (d : Dev) (code p0 p1 p2 n : Nat) : subU (detect d code p0 p1 p2) n = subU d n := rfl
@[simp] theorem cplU_detect (d : Dev) (code p0 p1 p2 n : Nat) : cplU (detect d code p0 p1 p2) n = cplU d n := rfl
@[simp] theorem subU_updCpl (d : Dev) (m n : Nat) (f : CplRing → CplRing) : subU (updCpl d m f) n = subU d n := rfl
@[simp] theorem cplU_updSub (d : Dev) (m n : Nat) (f : SubRing → SubRing) : cplU (updSub d m f) n = cplU d n := rfl

theorem dropDisabled_eq (d : Dev) (n : Nat) : dropDisabled d n = d ∨ (subSize d n = 0 ∧ ∃ f, dropDisabled d n = updSub d n f) := by
  unfold dropDisabled
  split
  next => exact .inl rfl
  next h => exact .inr ⟨Classical.byContradiction fun hn => h (.inl hn), _, rfl⟩

/-- What a producer index makes of its ring (R67, R73). -/
def produced (d : Dev) (line : Line) (n : Nat) (r : SubRing) : SubRing :=
  if leAt line (2 * n) 2 < subSize d n then { r with cls := rwF d (subBase n + 8) 8 2, limit := rwF d (subBase n + 0xC) 0 13, prod := leAt line (2 * n) 2, prodBad := false }
  else { r with cls := rwF d (subBase n + 8) 8 2, limit := rwF d (subBase n + 0xC) 0 13, prodBad := true, fetchDue := false }

/-- What a consumer index makes of its ring (R67). -/
def consumed (d : Dev) (line : Line) (m : Nat) (r : CplRing) : CplRing :=
  if leAt line (2 * m) 2 < cplSize d m then { r with cons := leAt line (2 * m) 2, consBad := false } else { r with consBad := true }

theorem updSub_updSub (d : Dev) (n : Nat) (f g : SubRing → SubRing) : updSub (updSub d n f) n g = updSub d n (fun r => g (f r)) := by
  simp only [updSub, upd, List.modify_modify_eq, Function.comp_def]

/-- A producer index changes its ring, and may be a fault input. -/
theorem readProducer_eq (d : Dev) (line : Line) (n : Nat) (h : subSize d n ≠ 0) :
    ∃ c, readProducer d line n = { updSub d n (produced d line n) with flt := c } := by
  have hsize : subSize (updSub d n fun r => { r with cls := rwF d (subBase n + 8) 8 2, limit := rwF d (subBase n + 0xC) 0 13 }) n = subSize d n :=
    (sameSetup_updSub d n _).subSize n
  unfold readProducer
  dsimp only
  rw [if_neg h, hsize]
  by_cases hv : leAt line (2 * n) 2 < subSize d n
  · have hp : produced d line n = fun r => { r with cls := rwF d (subBase n + 8) 8 2, limit := rwF d (subBase n + 0xC) 0 13, prod := leAt line (2 * n) 2, prodBad := false } := by
      funext r
      rw [produced, if_pos hv]
    rw [if_pos hv, updSub_updSub, hp]
    exact ⟨_, rfl⟩
  · have hp : produced d line n = fun r => { r with cls := rwF d (subBase n + 8) 8 2, limit := rwF d (subBase n + 0xC) 0 13, prodBad := true, fetchDue := false } := by
      funext r
      rw [produced, if_neg hv]
    rw [if_neg hv, updSub_updSub, hp]
    split
    · exact ⟨_, rfl⟩
    · exact ⟨_, rfl⟩

theorem readConsumer_eq (d : Dev) (line : Line) (m : Nat) (h : cplSize d m ≠ 0) :
    ∃ c, readConsumer d line m = { updCpl d m (consumed d line m) with flt := c } := by
  unfold readConsumer
  dsimp only
  rw [if_neg h]
  by_cases hv : leAt line (2 * m) 2 < cplSize d m
  · have hp : consumed d line m = fun r => { r with cons := leAt line (2 * m) 2, consBad := false } := by
      funext r
      rw [consumed, if_pos hv]
    rw [if_pos hv, hp]
    exact ⟨_, rfl⟩
  · have hp : consumed d line m = fun r => { r with consBad := true } := by
      funext r
      rw [consumed, if_neg hv]
    rw [if_neg hv, hp]
    split
    · exact ⟨_, rfl⟩
    · exact ⟨_, rfl⟩

theorem readProducer_of_disabled {d : Dev} {n : Nat} (line : Line) (h : subSize d n = 0) : readProducer d line n = d := if_pos h
theorem readConsumer_of_disabled {d : Dev} {m : Nat} (line : Line) (h : cplSize d m = 0) : readConsumer d line m = d := if_pos h

/-! #### The doorbell lines -/

theorem sameSetup.refl (d : Dev) : sameSetup d d := ⟨rfl, rfl, rfl, rfl⟩

theorem sameSetup_dropDisabled (d : Dev) (n : Nat) : sameSetup d (dropDisabled d n) := by
  rcases dropDisabled_eq d n with h | ⟨-, f, h⟩
  · rw [h]; exact .refl d
  · rw [h]; exact sameSetup_updSub d n f

theorem sameSetup_readProducer (d : Dev) (line : Line) (n : Nat) : sameSetup d (readProducer d line n) := by
  by_cases h : subSize d n = 0
  · rw [readProducer_of_disabled line h]; exact .refl d
  · obtain ⟨c, hc⟩ := readProducer_eq d line n h
    rw [hc]
    exact ⟨rfl, rfl, updSub_length _ _ _, rfl⟩

theorem sameSetup_readConsumer (d : Dev) (line : Line) (m : Nat) : sameSetup d (readConsumer d line m) := by
  by_cases h : cplSize d m = 0
  · rw [readConsumer_of_disabled line h]; exact .refl d
  · obtain ⟨c, hc⟩ := readConsumer_eq d line m h
    rw [hc]
    exact ⟨rfl, rfl, rfl, updCpl_length _ _ _⟩

theorem sameSetup_foldN {d : Dev} (m : Nat) (g : Dev → Nat → Dev) (h : ∀ d n, sameSetup d (g d n)) : sameSetup d (foldN m g d) := by
  have hl : ∀ l : List Nat, ∀ d, sameSetup d (l.foldl g d) := by
    intro l
    induction l with
    | nil => exact .refl
    | cons n l ih => exact fun d => (h d n).trans (ih _)
  exact hl _ _

/-- The rings behind the two doorbell lines of a poll. -/
def pollLines (d : Dev) (a b : Line) : Dev :=
  foldN 32 (fun d m => readConsumer d b m) (foldN 32 (fun d n => readProducer d a n) (foldN 32 dropDisabled d))

theorem sameSetup_pollLines (d : Dev) (a b : Line) : sameSetup d (pollLines d a b) :=
  (sameSetup_foldN 32 _ sameSetup_dropDisabled).trans
    ((sameSetup_foldN 32 _ fun d n => sameSetup_readProducer d a n).trans (sameSetup_foldN 32 _ fun d m => sameSetup_readConsumer d b m))

theorem subU_readConsumer (d : Dev) (line : Line) (m n : Nat) : subU (readConsumer d line m) n = subU d n := by
  by_cases h : cplSize d m = 0
  · rw [readConsumer_of_disabled line h]
  · obtain ⟨c, hc⟩ := readConsumer_eq d line m h
    rw [hc]
    rfl

theorem cplU_readProducer (d : Dev) (line : Line) (n m : Nat) : cplU (readProducer d line n) m = cplU d m := by
  by_cases h : subSize d n = 0
  · rw [readProducer_of_disabled line h]
  · obtain ⟨c, hc⟩ := readProducer_eq d line n h
    rw [hc]
    rfl

theorem cplU_dropDisabled (d : Dev) (n m : Nat) : cplU (dropDisabled d n) m = cplU d m := by
  rcases dropDisabled_eq d n with h | ⟨-, f, h⟩
  · rw [h]
  · rw [h, cplU_updSub]

theorem subU_dropDisabled_other (d : Dev) {k n : Nat} (hk : k ≠ n) : subU (dropDisabled d k) n = subU d n := by
  rcases dropDisabled_eq d k with h | ⟨-, f, h⟩
  · rw [h]
  · rw [h, subU_updSub_other _ _ _ _ (Ne.symm hk)]

theorem subU_readProducer_other (d : Dev) (line : Line) {k n : Nat} (hk : k ≠ n) : subU (readProducer d line k) n = subU d n := by
  by_cases h : subSize d k = 0
  · rw [readProducer_of_disabled line h]
  · obtain ⟨c, hc⟩ := readProducer_eq d line k h
    rw [hc]
    exact subU_updSub_other d n k _ (Ne.symm hk)

theorem subU_readProducer_same {d : Dev} (line : Line) {n : Nat} (hn : n < d.ring.sub.length) (h : subSize d n ≠ 0) :
    subU (readProducer d line n) n = produced d line n (subU d n) := by
  obtain ⟨c, hc⟩ := readProducer_eq d line n h
  rw [hc]
  exact subU_updSub_same d n _ hn

theorem cplU_readConsumer_other (d : Dev) (line : Line) {k m : Nat} (hk : k ≠ m) : cplU (readConsumer d line k) m = cplU d m := by
  by_cases h : cplSize d k = 0
  · rw [readConsumer_of_disabled line h]
  · obtain ⟨c, hc⟩ := readConsumer_eq d line k h
    rw [hc]
    exact cplU_updCpl_other d m k _ (Ne.symm hk)

theorem cplU_readConsumer_same {d : Dev} (line : Line) {m : Nat} (hm : m < d.ring.cpl.length) (h : cplSize d m ≠ 0) :
    cplU (readConsumer d line m) m = consumed d line m (cplU d m) := by
  obtain ⟨c, hc⟩ := readConsumer_eq d line m h
  rw [hc]
  exact cplU_updCpl_same d m _ hm

/-- An enabled submission ring takes its producer index, its class and its limit (R67, R73). -/
theorem subU_pollLines {d : Dev} (a b : Line) (hlen : d.ring.sub.length = 32) {n : Nat} (hn : n < 32) (h : subSize d n ≠ 0) :
    subU (pollLines d a b) n = produced d a n (subU d n) := by
  have hdrop : sameSetup d (foldN 32 dropDisabled d) := sameSetup_foldN 32 _ sameSetup_dropDisabled
  have hproduced : ∀ e r, sameSetup d e → produced e a n r = produced d a n r := fun e r he => by simp only [produced, he.subSize, he.rwF]
  rw [pollLines, proj_foldN (fun d => subU d n) 32 _ (fun d m => subU_readConsumer d b m n),
    unit_foldN (fun d => subU d n) (sameSetup d) _ n (produced d a n) (fun e k he => he.trans (sameSetup_readProducer e a k))
      (fun e k hk => subU_readProducer_other e a hk) (fun e he => ?_) 32 hdrop, if_pos hn,
    unit_foldN (fun d => subU d n) (sameSetup d) _ n id (fun e k he => he.trans (sameSetup_dropDisabled e k))
      (fun e k hk => subU_dropDisabled_other e hk) (fun e he => ?_) 32 (.refl d), if_pos hn, id]
  · rcases dropDisabled_eq e n with heq | ⟨hzero, -⟩
    · rw [heq, id]
    · exact absurd ((he.subSize n).symm.trans hzero) h
  · rw [subU_readProducer_same a (by rw [he.2.2.1, hlen]; exact hn) (by rw [he.subSize]; exact h), hproduced e _ he]

/-- An enabled completion ring takes its consumer index (R67). -/
theorem cplU_pollLines {d : Dev} (a b : Line) (hlen : d.ring.cpl.length = 32) {m : Nat} (hm : m < 32) (h : cplSize d m ≠ 0) :
    cplU (pollLines d a b) m = consumed d b m (cplU d m) := by
  have hsub : sameSetup d (foldN 32 (fun d n => readProducer d a n) (foldN 32 dropDisabled d)) :=
    (sameSetup_foldN 32 _ sameSetup_dropDisabled).trans (sameSetup_foldN 32 _ fun d n => sameSetup_readProducer d a n)
  have hconsumed : ∀ e r, sameSetup d e → consumed e b m r = consumed d b m r := fun e r he => by simp only [consumed, he.cplSize]
  rw [pollLines, unit_foldN (fun d => cplU d m) (sameSetup d) _ m (consumed d b m) (fun e k he => he.trans (sameSetup_readConsumer e b k))
      (fun e k hk => cplU_readConsumer_other e b hk) (fun e he => ?_) 32 hsub, if_pos hm,
    proj_foldN (fun d => cplU d m) 32 _ (fun d n => cplU_readProducer d a n m), proj_foldN (fun d => cplU d m) 32 _ (fun d n => cplU_dropDisabled d n m)]
  rw [cplU_readConsumer_same b (by rw [he.2.2.2, hlen]; exact hm) (by rw [he.cplSize]; exact h), hconsumed e _ he]

theorem mask_pollLines (qs : List Part) (d : Dev) (a b : Line) (hring : Part.ring ∈ qs) (hflt : Part.flt ∈ qs) :
    Laws.mask qs (pollLines d a b) = Laws.mask qs d := by
  have hdrop : ∀ d n, Laws.mask qs (dropDisabled d n) = Laws.mask qs d := fun d n => by
    rcases dropDisabled_eq d n with h | ⟨-, f, h⟩
    · rw [h]
    · rw [h, Laws.mask_updSub _ _ _ _ hring]
  have hproducer : ∀ d n, Laws.mask qs (readProducer d a n) = Laws.mask qs d := fun d n => by
    by_cases h : subSize d n = 0
    · rw [readProducer_of_disabled a h]
    · obtain ⟨c, hc⟩ := readProducer_eq d a n h
      rw [hc, Laws.mask_flt _ _ _ hflt, Laws.mask_updSub _ _ _ _ hring]
  have hconsumer : ∀ d m, Laws.mask qs (readConsumer d b m) = Laws.mask qs d := fun d m => by
    by_cases h : cplSize d m = 0
    · rw [readConsumer_of_disabled b h]
    · obtain ⟨c, hc⟩ := readConsumer_eq d b m h
      rw [hc, Laws.mask_flt _ _ _ hflt, Laws.mask_updCpl _ _ _ _ hring]
  rw [pollLines, Laws.mask_foldN _ _ _ hconsumer, Laws.mask_foldN _ _ _ hproducer, Laws.mask_foldN _ _ _ hdrop]

/-! #### The whole poll -/

theorem mask_wdSample (qs : List Part) (d : Dev) (line : Line) (hwd : Part.wd ∈ qs) (hmm : Part.mm ∈ qs) (hpins : Part.pins ∈ qs) (hout : Part.out ∈ qs) :
    Laws.mask qs (wdSample d line) = Laws.mask qs d := by
  unfold wdSample
  dsimp only
  repeat' split
  all_goals simp only [Laws.mask_expire, Laws.mask_wd, *]

theorem mask_readCaptureLine (qs : List Part) (d : Dev) (line : Line) (hcap : Part.cap ∈ qs) (hqueue : Part.capQueue ∈ qs) (hout : Part.out ∈ qs) :
    Laws.mask qs (readCaptureLine d line) = Laws.mask qs d := by
  unfold readCaptureLine
  dsimp only
  split
  · rfl
  · rw [Laws.mask_capDrain _ _ _ hcap hqueue hout, Laws.mask_cap _ _ _ hcap]

theorem mask_requestFetch (qs : List Part) (d : Dev) (n : Nat) (hring : Part.ring ∈ qs) : Laws.mask qs (requestFetch d n) = Laws.mask qs d := by
  unfold requestFetch
  dsimp only
  rw [Laws.mask_updSub _ _ _ _ hring]
  split
  · rfl
  · rw [Laws.mask_updSub _ _ _ _ hring]

/-- What no update of one ring changes stands in every ring. -/
theorem subU_updSub_stands {γ : Type} (p : SubRing → γ) (d : Dev) (k n : Nat) (f : SubRing → SubRing) (hp : ∀ r, p (f r) = p r) :
    p (subU (updSub d k f) n) = p (subU d n) := by
  by_cases hn : n = k
  · subst hn
    by_cases hlen : n < d.ring.sub.length
    · rw [subU_updSub_same _ _ _ hlen, hp]
    · rw [subU_of_le (by rw [updSub_length]; omega), subU_of_le (by omega)]
  · rw [subU_updSub_other _ _ _ _ hn]

/-- A ring's request changes nothing of its indexes and its limits (R75). -/
theorem requestFetch_stands {γ : Type} (p : SubRing → γ) (hp : ∀ r x y, p { r with holdStop := x, fetchDue := y } = p r) (d : Dev) (k n : Nat) :
    p (subU (requestFetch d k) n) = p (subU d n) := by
  unfold requestFetch
  dsimp only
  rw [subU_updSub_stands p _ _ _ _ fun r => hp r r.holdStop _]
  split
  · rfl
  · exact subU_updSub_stands p _ _ _ _ fun r => hp r _ r.fetchDue

/-- A ring that is stopped for its producer index has no request (R67). -/
theorem fetchDue_requestFetch_of_prodBad {d : Dev} {n : Nat} (h : (subU d n).prodBad = true) : (subU (requestFetch d n) n).fetchDue = false := by
  have hn : n < d.ring.sub.length := Nat.lt_of_not_le fun hle => by simp [subU_of_le hle] at h
  have hwork : ∀ e : Dev, (subU e n).prodBad = true → ringWork e n = false := fun e he => by rw [ringWork, he]; simp
  unfold requestFetch
  dsimp only
  split
  · rw [subU_updSub_same _ _ _ hn, hwork d h]; rfl
  · rw [subU_updSub_same _ _ _ (by rw [updSub_length]; exact hn), hwork _ (by rw [subU_updSub_same _ _ _ hn]; exact h)]; rfl

theorem subU_requestFetch_other (d : Dev) {k n : Nat} (hk : k ≠ n) : subU (requestFetch d k) n = subU d n := by
  unfold requestFetch
  dsimp only
  rw [subU_updSub_other _ _ _ _ hk.symm]
  split
  · rfl
  · rw [subU_updSub_other _ _ _ _ hk.symm]

/-- What the requests of all rings make of one. -/
theorem requests_stands {γ : Type} (p : SubRing → γ) (hp : ∀ r x y, p { r with holdStop := x, fetchDue := y } = p r) (d : Dev) (n : Nat) :
    p (subU (foldN 32 requestFetch d) n) = p (subU d n) :=
  proj_foldN (fun d => p (subU d n)) 32 _ (fun d k => requestFetch_stands p hp d k n) d

theorem fetchDue_requests_of_prodBad {d : Dev} {n : Nat} (hn : n < 32) (h : (subU d n).prodBad = true) : (subU (foldN 32 requestFetch d) n).fetchDue = false := by
  rw [unit_foldN (fun d => (subU d n).fetchDue) (fun d => (subU d n).prodBad = true) _ n (fun _ => false)
    (fun e k he => (requestFetch_stands (·.prodBad) (fun _ _ _ => rfl) e k n).trans he)
    (fun e k hk => by rw [subU_requestFetch_other e hk]) (fun e he => fetchDue_requestFetch_of_prodBad he) 32 h, if_pos hn]

theorem cplU_requests (d : Dev) (m : Nat) : cplU (foldN 32 requestFetch d) m = cplU d m :=
  proj_foldN (fun d => cplU d m) 32 _ (fun d k => by unfold requestFetch; dsimp only; split <;> rfl) d

/-- The device with the poll's tick and the period that it takes (R66, R73). -/
def startPoll (d : Dev) : Dev := { d with ring := { d.ring with lastPoll := some d.clk.tick, period := rwF d 0x0400 8 6 } }

/-- The device as a poll leaves it before the fetches are asked for (R66). -/
def polled (d : Dev) (a b checkin cap : Line) : Dev :=
  let d := pollLines (startPoll d) a b
  readCaptureLine (if rwOf d 0x0418 = 0 ∧ rwOf d 0x041C = 0 then d else wdSample d checkin) cap

theorem poll_of_due {d : Dev} (a b checkin cap : Line) (h : pollDue d = true) : poll d a b checkin cap = foldN 32 requestFetch (polled d a b checkin cap) := by
  rw [poll, if_neg (by simp [h])]
  rfl

theorem ring_polled (d : Dev) (a b checkin cap : Line) :
    (polled d a b checkin cap).ring = (pollLines (startPoll d) a b).ring := by
  unfold polled
  dsimp only
  generalize pollLines _ a b = e
  refine ((Laws.keeps_of_mask [.cap, .capQueue, .out] _ _ (mask_readCaptureLine _ _ cap (by decide) (by decide) (by decide)) .ring (by decide)).symm :).trans ?_
  split
  · rfl
  · exact (Laws.keeps_of_mask [.wd, .mm, .pins, .out] _ _ (mask_wdSample _ e checkin (by decide) (by decide) (by decide) (by decide)) .ring (by decide)).symm

theorem subU_ring {d e : Dev} (h : d.ring = e.ring) (n : Nat) : subU d n = subU e n := by rw [subU, h, subU]
theorem cplU_ring {d e : Dev} (h : d.ring = e.ring) (n : Nat) : cplU d n = cplU e n := by rw [cplU, h, cplU]

theorem lastPoll_requests {γ : Type} (p : RingEngine → γ) (hp : ∀ r l, p { r with sub := l } = p r) (d : Dev) : p (foldN 32 requestFetch d).ring = p d.ring :=
  proj_foldN (fun d => p d.ring) 32 _ (fun d k => by
    unfold requestFetch
    dsimp only
    split
    · exact hp _ _
    · exact (hp _ _).trans (hp _ _)) d

theorem sameSetup.produced {d e : Dev} (h : sameSetup d e) (line : Line) (n : Nat) : Machine.produced e line n = Machine.produced d line n := by
  funext r
  simp only [Machine.produced, h.subSize, h.rwF]

theorem sameSetup.consumed {d e : Dev} (h : sameSetup d e) (line : Line) (n : Nat) : Machine.consumed e line n = Machine.consumed d line n := by
  funext r
  simp only [Machine.consumed, h.cplSize]

/-- The rings that a poll leaves before the fetches are asked for: the enabled ones with their doorbell indexes (R67, R73). -/
theorem subU_polled {d : Dev} (a b checkin cap : Line) (hlen : d.ring.sub.length = 32) {n : Nat} (hn : n < 32) (h : subSize d n ≠ 0) :
    subU (polled d a b checkin cap) n = produced d a n (subU d n) := by
  have hstart : sameSetup d (startPoll d) := ⟨rfl, rfl, rfl, rfl⟩
  rw [subU_ring (ring_polled d a b checkin cap), subU_pollLines (d := startPoll d) a b hlen hn (by rw [hstart.subSize]; exact h), hstart.produced]
  rfl

theorem cplU_polled {d : Dev} (a b checkin cap : Line) (hlen : d.ring.cpl.length = 32) {m : Nat} (hm : m < 32) (h : cplSize d m ≠ 0) :
    cplU (polled d a b checkin cap) m = consumed d b m (cplU d m) := by
  have hstart : sameSetup d (startPoll d) := ⟨rfl, rfl, rfl, rfl⟩
  rw [cplU_ring (ring_polled d a b checkin cap), cplU_pollLines (d := startPoll d) a b hlen hm (by rw [hstart.cplSize]; exact h), hstart.consumed]
  rfl

theorem produced_stands (d : Dev) (line : Line) (n : Nat) (r : SubRing) :
    (produced d line n r).limit = rwF d (subBase n + 0xC) 0 13 ∧ (produced d line n r).cls = rwF d (subBase n + 8) 8 2 := by
  unfold produced
  split
  · exact ⟨rfl, rfl⟩
  · exact ⟨rfl, rfl⟩

theorem ring_pollLines (p : RingEngine → Option Nat × Nat) (hsub : ∀ r l, p { r with sub := l } = p r) (hcpl : ∀ r l, p { r with cpl := l } = p r) (d : Dev) (a b : Line) :
    p (pollLines d a b).ring = p d.ring := by
  unfold pollLines
  rw [proj_foldN (fun d => p d.ring) 32 _ fun d m => ?_, proj_foldN (fun d => p d.ring) 32 _ fun d n => ?_, proj_foldN (fun d => p d.ring) 32 _ fun d n => ?_]
  · rcases dropDisabled_eq d n with h | ⟨-, f, h⟩
    · rw [h]
    · rw [h]; exact hsub _ _
  · by_cases h : subSize d n = 0
    · rw [readProducer_of_disabled a h]
    · obtain ⟨c, hc⟩ := readProducer_eq d a n h
      rw [hc]
      exact hsub _ _
  · by_cases h : cplSize d m = 0
    · rw [readConsumer_of_disabled b h]
    · obtain ⟨c, hc⟩ := readConsumer_eq d b m h
      rw [hc]
      exact hcpl _ _

/-- A poll takes its tick as the last one and the period in force (R66, R73). -/
theorem pollTimes {d : Dev} (a b checkin cap : Line) (h : pollDue d = true) :
    (poll d a b checkin cap).ring.lastPoll = some d.clk.tick ∧ (poll d a b checkin cap).ring.period = rwF d 0x0400 8 6 := by
  have hboth : ((poll d a b checkin cap).ring.lastPoll, (poll d a b checkin cap).ring.period) = (some d.clk.tick, rwF d 0x0400 8 6) := by
    rw [poll_of_due a b checkin cap h]
    refine (lastPoll_requests (fun r => (r.lastPoll, r.period)) (fun _ _ => rfl) _).trans ?_
    rw [ring_polled]
    exact ring_pollLines (fun r => (r.lastPoll, r.period)) (fun _ _ => rfl) (fun _ _ => rfl) (startPoll d) a b
  exact Prod.mk.inj hboth

theorem mask_polled (qs : List Part) (d : Dev) (a b checkin cap : Line) (h : ∀ p ∈ [Part.ring, .flt, .cap, .capQueue, .out], p ∈ qs)
    (hwd : (rwOf d 0x0418 = 0 ∧ rwOf d 0x041C = 0) ∨ ∀ p ∈ [Part.wd, .mm, .pins], p ∈ qs) :
    Laws.mask qs (polled d a b checkin cap) = Laws.mask qs d := by
  have hlines : Laws.mask qs (pollLines (startPoll d) a b) = Laws.mask qs d := by
    rw [mask_pollLines _ _ _ _ (h _ (by decide)) (h _ (by decide)), startPoll, Laws.mask_ring _ _ _ (h _ (by decide))]
  have hreg : ∀ off, rwOf (pollLines (startPoll d) a b) off = rwOf d off := fun off =>
    rwOf_congr _ d (sameSetup_pollLines (startPoll d) a b).2.1 (congrArg (·.rw) (sameSetup_pollLines (startPoll d) a b).1) off
  unfold polled
  rw [mask_readCaptureLine _ _ _ (h _ (by decide)) (h _ (by decide)) (h _ (by decide))]
  rw [startPoll] at *
  dsimp only
  split
  next => exact hlines
  next hon =>
    rw [hreg, hreg] at hon
    have hin := hwd.resolve_left hon
    rw [mask_wdSample _ _ _ (hin _ (by decide)) (hin _ (by decide)) (hin _ (by decide)) (h _ (by decide))]
    exact hlines

theorem mask_poll (qs : List Part) {d : Dev} (a b checkin cap : Line) (hdue : pollDue d = true) (h : ∀ p ∈ [Part.ring, .flt, .cap, .capQueue, .out], p ∈ qs)
    (hwd : (rwOf d 0x0418 = 0 ∧ rwOf d 0x041C = 0) ∨ ∀ p ∈ [Part.wd, .mm, .pins], p ∈ qs) :
    Laws.mask qs (poll d a b checkin cap) = Laws.mask qs d := by
  rw [poll_of_due a b checkin cap hdue, Laws.mask_foldN _ _ _ fun d n => mask_requestFetch qs d n (h _ (by decide)), mask_polled _ _ _ _ _ _ h hwd]

/-- Settles O9: the doorbell lines by ring, and that the requests that follow leave the indexes. -/
theorem pollReadsDoorbells : Obligations.PollReadsDoorbells := by
  unfold Obligations.PollReadsDoorbells
  intro s a b checkin cap rs hon hlost hsub hcpl hlast
  have hdue : pollDue s.dev = true := by
    rw [pollDue, hon, hlost]
    cases ht : s.dev.ring.lastPoll with
    | none => rfl
    | some t => exact decide_eq_true (hlast t ht)
  refine ⟨_, poll s.dev a b checkin cap, rfl, rfl, rfl, rfl, ?_, fun n hn hsize => ?_, fun m hm hsize => ?_, (pollTimes a b checkin cap hdue).1,
    (pollTimes a b checkin cap hdue).2, fun h0 h1 => ?_, Laws.keeps_of_mask _ _ _ (mask_poll _ a b checkin cap hdue (by decide) (.inr (by decide)))⟩
  · change takeReplay s.dev s.repIn rs = _
    rw [takeReplay, hdue]
    by_cases h : rwF s.dev 0x7210 0 6 = 0
    · rw [if_pos h, if_neg (by simp [h])]
    · rw [if_neg h, if_pos (by simp [h])]
  · obtain ⟨hlimit, hcls⟩ := produced_stands s.dev a n (subU s.dev n)
    have hpolled := subU_polled a b checkin cap hsub hn hsize
    rw [poll_of_due a b checkin cap hdue]
    refine ⟨?_, ?_, fun hv => ?_, fun hv => ?_⟩
    · rw [requests_stands (·.limit) (fun _ _ _ => rfl), hpolled, hlimit]
    · rw [requests_stands (·.cls) (fun _ _ _ => rfl), hpolled, hcls]
    · rw [requests_stands (·.prod) (fun _ _ _ => rfl), requests_stands (·.prodBad) (fun _ _ _ => rfl), hpolled, produced, if_pos hv]
      exact ⟨rfl, rfl⟩
    · have hbad : subU (polled s.dev a b checkin cap) n = { subU s.dev n with cls := rwF s.dev (subBase n + 8) 8 2, limit := rwF s.dev (subBase n + 0xC) 0 13, prodBad := true, fetchDue := false } := by
        rw [hpolled, produced, if_neg (by omega)]
      rw [requests_stands (·.prod) (fun _ _ _ => rfl), requests_stands (·.prodBad) (fun _ _ _ => rfl), hbad]
      exact ⟨rfl, rfl, fetchDue_requests_of_prodBad hn (by rw [hbad])⟩
  · rw [poll_of_due a b checkin cap hdue, cplU_requests, cplU_polled a b checkin cap hcpl hm hsize, consumed]
    refine ⟨fun hv => ?_, fun hv => ?_⟩
    · rw [if_pos hv]; exact ⟨rfl, rfl⟩
    · rw [if_neg (by omega)]; exact ⟨rfl, rfl⟩
  · have hkeeps := Laws.keeps_of_mask _ _ _ (mask_poll [.ring, .flt, .cap, .capQueue, .out] a b checkin cap hdue (by decide) (.inl ⟨h0, h1⟩))
    exact ⟨(hkeeps .wd (by decide)).symm, (hkeeps .mm (by decide)).symm, (hkeeps .pins (by decide)).symm⟩

/-! ### DESCRIPTOR_FETCH_RETURN and LIST_FETCH_RETURN (R76–R78) -/

/-- Of the rings only the `n`th may differ, and nothing else does. -/
def onlySub (n : Nat) (d e : Dev) : Prop := (∀ m, m ≠ n → subU e m = subU d m) ∧ keeps [.ring] d e

theorem onlySub_updSub (d : Dev) (n : Nat) (f : SubRing → SubRing) : onlySub n d (updSub d n f) :=
  ⟨fun _ hm => subU_updSub_other _ _ _ _ hm, Laws.keeps_of_mask _ _ _ (Laws.mask_updSub _ _ _ _ (by decide))⟩

theorem onlySub.trans {n : Nat} {d e f : Dev} (hde : onlySub n d e) (hef : onlySub n e f) : onlySub n d f :=
  ⟨fun m hm => (hef.1 m hm).trans (hde.1 m hm), keeps_trans hde.2 hef.2⟩

theorem onlySub_makeReady (d : Dev) (n : Nat) (i : Image) (segs : List Word) (adds : List Image) (fixed : Option (Status × Nat)) :
    onlySub n d (makeReady d n i segs adds fixed) := onlySub_updSub _ _ _

/-- The ring that has its descriptor ready. -/
theorem subU_makeReady {d : Dev} {n : Nat} (hn : n < d.ring.sub.length) (i : Image) (segs : List Word) (adds : List Image) (fixed : Option (Status × Nat)) :
    subU (makeReady d n i segs adds fixed) n =
      { subU d n with fetchDue := false, listWait := none, ready := some { slot := nextSlot d n, image := i, segs := segs, adds := adds, fixed := fixed } } :=
  subU_updSub_same _ _ _ hn

theorem onlySub_fetchAgain (d : Dev) (n : Nat) (i : Image) (fixed : Status × Nat) : onlySub n d (fetchAgain d n i fixed) := by
  unfold fetchAgain
  split
  · exact onlySub_makeReady _ _ _ _ _ _
  · exact onlySub_updSub _ _ _

/-- The device at a good read of a descriptor or a list (R71). -/
def fetchGood (d : Dev) (n : Nat) : Dev := updSub d n fun r => { r with fetchErr := false }

theorem subU_fetchGood {d : Dev} {n : Nat} (hn : n < d.ring.sub.length) : subU (fetchGood d n) n = { subU d n with fetchErr := false } :=
  subU_updSub_same _ _ _ hn

theorem fetchGood_length (d : Dev) (n : Nat) : (fetchGood d n).ring.sub.length = d.ring.sub.length := updSub_length _ _ _

theorem nextSlot_fetchGood {d : Dev} {n : Nat} (hn : n < d.ring.sub.length) : nextSlot (fetchGood d n) n = nextSlot d n := by
  have hsize : subSize (fetchGood d n) n = subSize d n := (sameSetup_updSub d n _).subSize n
  rw [nextSlot, ringSize, subU_fetchGood hn, hsize, nextSlot, ringSize]

/-- A descriptor that is awaited returns: its CRC, its SEQUENCE, HOLD, its list, in this order (R76–R78, R37). -/
theorem descriptorReturn_some {d : Dev} {n : Nat} (i : Image) (hon : engineOn d = true) (hlost : d.pwr.ctlLost = false) (hdue : (subU d n).fetchDue = true)
    (hwait : (subU d n).listWait = none) (hready : (subU d n).ready = none) (hwork : ringWork d n = true) :
    descriptorReturn d n (some i) =
      if !imageGood i then fetchAgain (fetchGood d n) n i (.badCheck, 0)
      else if leAt i 4 4 ≠ (subU d n).next then fetchAgain (fetchGood d n) n i (.badField, badDetail 4 0xFF 1)
      else if d.mm.mode == .hold && !holdAccepts i then updSub (fetchGood d n) n (fun r => { r with holdStop := true, fetchDue := false })
      else if needsList i then updSub (fetchGood d n) n (fun r => { r with listWait := some i })
      else makeReady (fetchGood d n) n i [] [] none := by
  refine if_neg ?_
  simp [hon, hlost, hdue, hwait, hready, hwork]

theorem onlySub_descriptorReturn {d : Dev} {n : Nat} (i : Image) (hon : engineOn d = true) (hlost : d.pwr.ctlLost = false) (hdue : (subU d n).fetchDue = true)
    (hwait : (subU d n).listWait = none) (hready : (subU d n).ready = none) (hwork : ringWork d n = true) : onlySub n d (descriptorReturn d n (some i)) := by
  have hgood : onlySub n d (fetchGood d n) := onlySub_updSub _ _ _
  rw [descriptorReturn_some i hon hlost hdue hwait hready hwork]
  repeat' split
  · exact hgood.trans (onlySub_fetchAgain _ _ _ _)
  · exact hgood.trans (onlySub_fetchAgain _ _ _ _)
  · exact hgood.trans (onlySub_updSub _ _ _)
  · exact hgood.trans (onlySub_updSub _ _ _)
  · exact hgood.trans (onlySub_makeReady _ _ _ _ _ _)

theorem imageGood_iff (i : Image) : imageGood i = true ↔ crc32c (bytesOf i 60) = leAt i 60 4 := beq_iff_eq

theorem fetchErr_descriptorReturn {d : Dev} {n : Nat} (i : Image) (hn : n < d.ring.sub.length) (hon : engineOn d = true) (hlost : d.pwr.ctlLost = false)
    (hdue : (subU d n).fetchDue = true) (hwait : (subU d n).listWait = none) (hready : (subU d n).ready = none) (hwork : ringWork d n = true) :
    (subU (descriptorReturn d n (some i)) n).fetchErr = false := by
  have hgood : n < (fetchGood d n).ring.sub.length := by rw [fetchGood_length]; exact hn
  have hagain : ∀ fixed, (subU (fetchAgain (fetchGood d n) n i fixed) n).fetchErr = false := fun fixed => by
    unfold fetchAgain
    split
    · rw [subU_makeReady hgood, subU_fetchGood hn]
    · rw [subU_updSub_same _ _ _ hgood, subU_fetchGood hn]
  rw [descriptorReturn_some i hon hlost hdue hwait hready hwork]
  repeat' split
  · exact hagain _
  · exact hagain _
  · rw [subU_updSub_same _ _ _ hgood, subU_fetchGood hn]
  · rw [subU_updSub_same _ _ _ hgood, subU_fetchGood hn]
  · rw [subU_makeReady hgood, subU_fetchGood hn]

/-- A list that is awaited returns: the segments of a PROFILE, or the add records of a REPLAN (R78). -/
theorem listReturn_segs {d : Dev} {n : Nat} {i : Image} (bytes : List Nat) (hon : engineOn d = true) (hlost : d.pwr.ctlLost = false)
    (hdue : (subU d n).fetchDue = true) (hwait : (subU d n).listWait = some i) (hop : opcodeOf i = 1) :
    listReturn d n (.segs bytes) = makeReady (fetchGood d n) n i ((leWords bytes).take (leAt i 34 2)) [] none := by
  simp only [listReturn, hwait, hon, hlost, hdue, hop, fetchGood, if_true, Bool.not_true, Bool.or_false, Bool.false_eq_true, if_false]

theorem listReturn_adds {d : Dev} {n : Nat} {i : Image} (rs : List Image) (hon : engineOn d = true) (hlost : d.pwr.ctlLost = false)
    (hdue : (subU d n).fetchDue = true) (hwait : (subU d n).listWait = some i) (hop : opcodeOf i = 2) (hgood : ∀ r ∈ rs.take (byteAt i 15), imageGood r = true) :
    listReturn d n (.adds rs) = makeReady (fetchGood d n) n i [] (rs.take (byteAt i 15)) none := by
  have hnone : (rs.take (byteAt i 15)).findIdx? (fun a => !imageGood a) = none := List.findIdx?_eq_none_iff.2 fun r hr => by rw [hgood r hr]; rfl
  simp only [listReturn, hwait, hon, hlost, hdue, hop, hnone, fetchGood, Bool.not_true, Bool.or_false, Bool.false_eq_true, if_false, ne_eq, not_true]

/-- The ring whose list has returned. -/
theorem subU_listReady {d : Dev} {n : Nat} (hn : n < d.ring.sub.length) (i : Image) (segs : List Word) (adds : List Image) :
    (subU (makeReady (fetchGood d n) n i segs adds none) n).ready = some { slot := nextSlot d n, image := i, segs := segs, adds := adds } ∧
      (subU (makeReady (fetchGood d n) n i segs adds none) n).listWait = none := by
  rw [subU_makeReady (by rw [fetchGood_length]; exact hn), nextSlot_fetchGood hn]
  exact ⟨rfl, rfl⟩

/-- Settles O10: by the checks of a returned descriptor in their order. -/
theorem fetchesMakeDescriptorsReady : Obligations.FetchesMakeDescriptorsReady := by
  unfold Obligations.FetchesMakeDescriptorsReady
  refine ⟨fun s n i hon hlost hn hwork hdue hwait hready => ?_, fun s n i bytes adds hon hlost hn hdue hwait => ⟨fun hop => ?_, fun hop hadds => ?_⟩⟩
  · intro good
    have hreturn := descriptorReturn_some i hon hlost hdue hwait hready hwork
    have honly := onlySub_descriptorReturn i hon hlost hdue hwait hready hwork
    have hlen : n < (fetchGood s.dev n).ring.sub.length := by rw [fetchGood_length]; exact hn
    refine ⟨descriptorReturn s.dev n (some i), rfl, fetchErr_descriptorReturn i hn hon hlost hdue hwait hready hwork, fun hg hseq hmode hlist => ?_,
      fun hg hseq hmode hlist => ?_, fun hg htries => ?_, fun hg htries => ?_, honly⟩
    · rw [hreturn, if_neg (by simp [(imageGood_iff i).2 hg]), if_neg (by simp [hseq]), if_neg (by simp [hmode]), if_neg (by simp [hlist])]
      exact (subU_listReady hn i [] []).1
    · rw [hreturn, if_neg (by simp [(imageGood_iff i).2 hg]), if_neg (by simp [hseq]), if_neg (by simp [hmode]), if_pos hlist,
        subU_updSub_same _ _ _ hlen, subU_fetchGood hn]
      exact ⟨rfl, hready⟩
    · have hbad : imageGood i = false := by rw [← Bool.not_eq_true, imageGood_iff]; exact hg
      rw [hreturn, if_pos (by rw [hbad]; rfl), fetchAgain, if_neg (by rw [subU_fetchGood hn]; exact Nat.not_le.2 htries), subU_updSub_same _ _ _ hlen, subU_fetchGood hn]
      exact ⟨rfl, hready, rfl⟩
    · have hbad : imageGood i = false := by rw [← Bool.not_eq_true, imageGood_iff]; exact hg
      rw [hreturn, if_pos (by rw [hbad]; rfl), fetchAgain, if_pos (by rw [subU_fetchGood hn]; exact htries), subU_makeReady hlen, nextSlot_fetchGood hn]
  · refine ⟨_, congrArg (next s) (listReturn_segs bytes hon hlost hdue hwait hop), (subU_listReady hn i _ _).1, (subU_listReady hn i _ _).2, ?_⟩
    exact (onlySub_updSub s.dev n _ : onlySub n s.dev (fetchGood s.dev n)).trans (onlySub_makeReady _ _ _ _ _ _)
  · refine ⟨_, congrArg (next s) (listReturn_adds adds hon hlost hdue hwait hop fun r hr => (imageGood_iff r).2 (hadds r hr)), (subU_listReady hn i _ _).1,
      (subU_listReady hn i _ _).2, ?_⟩
    exact (onlySub_updSub s.dev n _ : onlySub n s.dev (fetchGood s.dev n)).trans (onlySub_makeReady _ _ _ _ _ _)

/-! ### ACCEPTANCE (R70, R75, R79, R107, R108) -/

theorem captureAt_of_not_capturing {d : Dev} (h : capturing d = false) (due : Nat) (r : CapRec) : captureAt d due r = d := by
  rw [captureAt, if_neg (by rw [h]; exact Bool.false_ne_true)]

theorem foldl_captureAt_of_not_capturing {β : Type} {d : Dev} (h : capturing d = false) (due : Nat) (r : β → CapRec) (l : List β) :
    l.foldl (fun d i => captureAt d due (r i)) d = d := by
  induction l with
  | nil => rfl
  | cons i l ih => rw [List.foldl_cons, captureAt_of_not_capturing h, ih]

theorem captureEntry_of_not_capturing {d : Dev} (h : capturing d = false) (x : Entry) : captureEntry d x = d := by
  unfold captureEntry
  dsimp only
  rw [captureAt_of_not_capturing h, foldl_captureAt_of_not_capturing h, foldl_captureAt_of_not_capturing h]

/-- What follows the rings keeps what a ring holds, but for the word shown. -/
theorem subU_showRings {γ : Type} (p : SubRing → γ) (hp : ∀ r x, p { r with shown := x } = p r) (d : Dev) (b n : Nat) :
    p (subU (writeAcceptBlock (followState d) b) n) = p (subU d n) := by
  have hshown : { subU (followState d) n with shown := 0 } = { subU d n with shown := 0 } := (sameRings_followState d).sub n
  calc p (subU (writeAcceptBlock (followState d) b) n)
      = p (subU (followState d) n) := rfl
    _ = p { subU (followState d) n with shown := 0 } := (hp _ _).symm
    _ = p { subU d n with shown := 0 } := by rw [hshown]
    _ = p (subU d n) := hp _ _

theorem jr_showRings (d : Dev) (b : Nat) : (writeAcceptBlock (followState d) b).jr = d.jr := (sameRings_followState d).jr

/-- The device with the accepted descriptor's entry, tail record and ring, before the words that follow are shown (R70). -/
def acceptEntry (d : Dev) (n : Nat) (q : Ready) : Dev :=
  let d := dropWriting d n
  let r := subU d n
  let x := newEntry d n q
  let d := mapJournal d (fun l => placeEntry d.clk.tick l x)
  let d := updTail d n (fun t => { seq := x.seq, slot := q.slot, bind := x.bind, outstanding := t.outstanding + 1 })
  let d := { d with ring := { d.ring with accTick := d.clk.tick, accCount := acceptedNow d + 1, last := d.ring.last.set r.cls n } }
  let d := updSub d n (fun r => { r with acc := q.slot, next := if r.next = 0xFFFFFFFF then 1 else r.next + 1, accWord := q.slot + ((r.next % 65536) <<< 16), tries := 0, listTries := 0, fetchErr := false, ready := none })
  updSub d n (fun r => { r with fetchDue := ringWork d n })

theorem acceptReady_of_not_capturing {d : Dev} (h : capturing d = false) (n : Nat) (q : Ready) :
    acceptReady d n q = writeAcceptBlock (followState (acceptEntry d n q)) (n / 16) := by
  unfold acceptReady
  dsimp only
  rw [captureEntry_of_not_capturing]
  · rfl
  · exact h

theorem mask_acceptEntry (qs : List Part) (d : Dev) (n : Nat) (q : Ready) (hring : Part.ring ∈ qs) (hjr : Part.jr ∈ qs) :
    Laws.mask qs (acceptEntry d n q) = Laws.mask qs d := by
  unfold acceptEntry
  dsimp only
  rw [Laws.mask_updSub _ _ _ _ hring, Laws.mask_updSub _ _ _ _ hring, Laws.mask_ring _ _ _ hring, Laws.mask_updTail _ _ _ _ hjr,
    Laws.mask_mapJournal _ _ _ hjr, dropWriting, Laws.mask_mapJournal _ _ _ hjr]

/-- The entries of a copy without what a ring has in WRITING. -/
def withoutWriting (n : Nat) (l : List Entry) : List Entry := l.filter (fun y => !(y.st == .writing && y.ring == n))

theorem newEntry_dropWriting (d : Dev) (n : Nat) (q : Ready) :
    newEntry (dropWriting d n) n q =
      { idx := freeIdx (withoutWriting n d.jr.primary ++ (withoutWriting n d.jr.secondary).filter (fun y => y.st == .writing)), ring := n, slot := q.slot, seq := (subU d n).next, bind := subBinding d n, image := q.image, segs := q.segs, adds := q.adds, cost := readyCost q, accTick := d.clk.tick, accFret := d.clk.fret, fixed := q.fixed } := by
  have hbind : subBinding (dropWriting d n) n = subBinding d n := by
    rw [subBinding, rwF, rwOf_congr (dropWriting d n) d rfl rfl, subBinding, rwF]
  rw [newEntry, hbind]
  rfl

/-- Both copies take the entry, and the ring's tail record shows it (R70, R108). -/
theorem jr_acceptEntry (d : Dev) (n : Nat) (q : Ready) :
    (acceptEntry d n q).jr.primary = placeEntry d.clk.tick (withoutWriting n d.jr.primary) (newEntry (dropWriting d n) n q) ∧
      (acceptEntry d n q).jr.secondary = placeEntry d.clk.tick (withoutWriting n d.jr.secondary) (newEntry (dropWriting d n) n q) ∧
      (acceptEntry d n q).jr.tails = upd d.jr.tails n (fun t => { seq := (newEntry (dropWriting d n) n q).seq, slot := q.slot, bind := (newEntry (dropWriting d n) n q).bind, outstanding := t.outstanding + 1 }) :=
  ⟨rfl, rfl, rfl⟩

/-- The accepted descriptor's ring (R70, R77). -/
theorem subU_acceptEntry {d : Dev} {n : Nat} (q : Ready) (hn : n < d.ring.sub.length) :
    ∃ due, subU (acceptEntry d n q) n = { subU d n with acc := q.slot, next := if (subU d n).next = 0xFFFFFFFF then 1 else (subU d n).next + 1, accWord := q.slot + (((subU d n).next % 65536) <<< 16), tries := 0, listTries := 0, fetchErr := false, ready := none, fetchDue := due } := by
  unfold acceptEntry
  dsimp only
  rw [subU_updSub_same _ _ _ (by rw [updSub_length]; exact hn), subU_updSub_same _ _ _ (by exact hn)]
  exact ⟨_, rfl⟩

/-- A descriptor whose turn has come, and that HOLD does not send back: its entry waits for the power die, or stands (R107, R108). -/
theorem accept_of_turn {d : Dev} {n : Nat} {q : Ready} (hq : (subU d n).ready = some q) (hacc : acceptable d n = true) (hturn : itsTurn d n = true) (hmode : d.mm.mode ≠ .hold) :
    accept d n = if ackWaits d then claimEntry d n q else acceptReady d n q := by
  simp [accept, hq, hacc, hturn, hmode]

theorem ackWaits_iff (d : Dev) : ackWaits d = true ↔ d.pwr.pwrLost = true ∨ d.pwr.resendC = true ∨ d.pwr.resendP = true := by
  simp [ackWaits, or_assoc]

/-- An entry waits in WRITING, in the secondary copy alone (R107, R108). -/
theorem claimEntry_waits (d : Dev) (n : Nat) (q : Ready) :
    (claimEntry d n q).jr.primary = d.jr.primary ∧ (∃ y ∈ (claimEntry d n q).jr.secondary, y.st = .writing ∧ y.ring = n) ∧
      (∀ y ∈ d.jr.secondary, y ∈ (claimEntry d n q).jr.secondary) ∧ keeps [.jr] d (claimEntry d n q) := by
  unfold claimEntry
  split
  next h =>
    obtain ⟨y, hy, hring⟩ := List.any_eq_true.1 h
    obtain ⟨hmem, hst⟩ := List.mem_filter.1 hy
    exact ⟨rfl, ⟨y, hmem, beq_iff_eq.1 hst, beq_iff_eq.1 hring⟩, fun _ h => h, Laws.keeps_of_mask _ _ _ rfl⟩
  next =>
    exact ⟨rfl, ⟨_, List.mem_append_right _ (List.mem_singleton_self _), rfl, rfl⟩, fun _ h => List.mem_append_left _ h,
      Laws.keeps_of_mask _ _ _ (Laws.mask_jr _ _ _ (by decide))⟩

/-- Settles O11: the entry, the tail record and the ring of an acceptance stand through the words that are shown after it. -/
theorem acceptanceTakesDescriptor : Obligations.AcceptanceTakesDescriptor := by
  unfold Obligations.AcceptanceTakesDescriptor
  intro s n q hq hacc hturn hmode hcap hn htail r waits others x
  have haccept := accept_of_turn hq hacc hturn hmode
  refine ⟨fun hwaits => ⟨_, congrArg (next s) (haccept.trans (if_neg fun h => hwaits ((ackWaits_iff _).1 h))), ?_⟩,
    fun hwaits => ⟨_, congrArg (next s) (haccept.trans (if_pos ((ackWaits_iff _).2 hwaits))), claimEntry_waits s.dev n q⟩⟩
  obtain ⟨due, hsub⟩ := subU_acceptEntry q hn
  obtain ⟨hprimary, hsecondary, htails⟩ := jr_acceptEntry s.dev n q
  rw [acceptReady_of_not_capturing hcap]
  refine ⟨?_, ?_, ?_, ?_, ?_, ?_, ?_, ?_⟩
  · rw [jr_showRings, hprimary, newEntry_dropWriting]; rfl
  · rw [jr_showRings, hsecondary, newEntry_dropWriting]; rfl
  · rw [tailOf, jr_showRings, htails, newEntry_dropWriting]
    exact at'_upd_same _ _ _ _ htail
  · rw [subU_showRings (·.acc) (fun _ _ => rfl), hsub]
  · rw [subU_showRings (·.next) (fun _ _ => rfl), hsub]
  · rw [subU_showRings (·.accWord) (fun _ _ => rfl), hsub]
  · rw [subU_showRings (·.ready) (fun _ _ => rfl), hsub]
  · exact Laws.keeps_of_mask _ _ _ (by
      rw [Laws.mask_writeAcceptBlock _ _ _ (by decide) (by decide), Laws.mask_followState _ _ (by decide) (by decide), mask_acceptEntry _ _ _ _ (by decide) (by decide)])

/-! ### COMPLETION_WRITE (R101, R102) -/

theorem int_occur (d : Dev) (n : Nat) :
    (occur d n).int = if d.int.claimStacks.any (fun s => s.any (fun e => e.1 == n)) then { d.int with refired := d.int.refired ||| (1#256 <<< n) } else d.int := by
  unfold occur activeSrc
  split
  · rfl
  · rfl

theorem int_occur_congr {d e : Dev} (h : d.int = e.int) (n : Nat) : (occur d n).int = (occur e n).int := by
  simp only [int_occur, h]

/-- The device with a completion entry in its slot and off its journal entry (R102). -/
def placeCpl (d : Dev) (m : Nat) (x : Entry) (c : Cpl) : Dev :=
  let r := cplU d m
  let d := emit d (.completion m r.prod r.phase c)
  let p := (r.prod + 1) % max 1 (cplSize d m)
  let d := updCpl d m (fun r => { r with prod := p, phase := if p = 0 then !r.phase else r.phase })
  updEntry { d with jr := { d.jr with due := d.jr.due.erase x.idx } } x.idx (fun y => { y with cpls := y.cpls.drop 1 })

/-- A FINAL entry returns the ring's credit, and the entry retires where no fret of its work is to come (R101, R108, R111). -/
def retireEntry (d : Dev) (x : Entry) : Dev :=
  let d := updTail d x.ring (fun t => { t with outstanding := t.outstanding - 1 })
  if x.endFret == 0 || decide (x.endFret < d.clk.fret) then dropEntry d x.idx else d

theorem writeCpl_of_final (d : Dev) (m : Nat) (x : Entry) {c : Cpl} (h : c.final = true) :
    writeCpl d m x c = occur (retireEntry (placeCpl d m x c) x) (1 + m) := by
  rw [writeCpl, h]
  rfl

theorem writeCpl_of_not_final (d : Dev) (m : Nat) (x : Entry) {c : Cpl} (h : c.final = false) : writeCpl d m x c = occur (placeCpl d m x c) (1 + m) := by
  rw [writeCpl, h]
  rfl

theorem sameSetup_emit (d : Dev) (o : Out) : sameSetup d (emit d o) := ⟨rfl, rfl, rfl, rfl⟩

theorem placeCpl_ring (d : Dev) (m : Nat) (x : Entry) (c : Cpl) :
    (placeCpl d m x c).ring = (updCpl d m (fun r => { r with prod := ((cplU d m).prod + 1) % max 1 (cplSize d m), phase := if ((cplU d m).prod + 1) % max 1 (cplSize d m) = 0 then !r.phase else r.phase })).ring := by
  have hsize : ∀ o, cplSize (emit d o) m = cplSize d m := fun o => sameSetup.cplSize (sameSetup_emit d o) m
  unfold placeCpl
  dsimp only
  rw [hsize]
  rfl

theorem retireEntry_stands (d : Dev) (x : Entry) :
    (retireEntry d x).ring = d.ring ∧ (retireEntry d x).out = d.out ∧ (retireEntry d x).int = d.int ∧ (retireEntry d x).jr.due = d.jr.due ∧
      (retireEntry d x).jr.tails = upd d.jr.tails x.ring (fun t => { t with outstanding := t.outstanding - 1 }) := by
  unfold retireEntry
  dsimp only
  split
  · exact ⟨rfl, rfl, rfl, rfl, rfl⟩
  · exact ⟨rfl, rfl, rfl, rfl, rfl⟩

/-- What every completion write does, FINAL or not. -/
theorem writeCpl_stands (d : Dev) (m : Nat) (x : Entry) (c : Cpl) :
    (writeCpl d m x c).ring = (placeCpl d m x c).ring ∧ (writeCpl d m x c).out = d.out ++ [.completion m (cplU d m).prod (cplU d m).phase c] ∧
      (writeCpl d m x c).int = (occur d (1 + m)).int ∧ (writeCpl d m x c).jr.due = d.jr.due.erase x.idx := by
  cases h : c.final with
  | true =>
    obtain ⟨hring, hout, hint, hdue, -⟩ := retireEntry_stands (placeCpl d m x c) x
    rw [writeCpl_of_final d m x h]
    refine ⟨(occur_ring _ _).trans hring, (occur_out _ _).trans hout, int_occur_congr (hint.trans ?_) _, (congrArg (·.due) (occur_jr _ _) :).trans hdue⟩
    rfl
  | false =>
    rw [writeCpl_of_not_final d m x h]
    refine ⟨occur_ring _ _, occur_out _ _, int_occur_congr ?_ _, (congrArg (·.due) (occur_jr _ _) :)⟩
    rfl

/-- The completion that is due first is written where the host and the journal stand and the ring has a free slot (R101). -/
theorem completionWrite_of_due {d : Dev} {m : Nat} {x : Entry} {c : Cpl} {cs : List Cpl} (hhost : powered d .host = true) (hlost : d.pwr.ctlLost = false)
    (hfrozen : d.jr.frozen = false) (hsize : cplSize d m ≠ 0) (hfree : ((cplU d m).prod + 1) % max 1 (cplSize d m) ≠ (cplU d m).cons)
    (hx : ((d.jr.due.filterMap (entryOf d)).find? (fun y => y.bind == m)) = some x) (hc : x.cpls = c :: cs) : completionWrite d m = writeCpl d m x c := by
  have hfull : cplFull d m = false := decide_eq_false hfree
  simp only [completionWrite, hhost, hlost, hfrozen, hsize, hfull, hx, hc, Bool.not_true, decide_false, Bool.or_false, Bool.false_eq_true, if_false]

/-- Settles O12: by whether the entry is FINAL, behind what every write does. -/
theorem completionWriteAdvancesRing : Obligations.CompletionWriteAdvancesRing := by
  unfold Obligations.CompletionWriteAdvancesRing
  intro s m x c cs hhost hlost hfrozen hsize hm hfree hx hc p
  have hmax : max 1 (cplSize s.dev m) = cplSize s.dev m := Nat.max_eq_right (Nat.one_le_iff_ne_zero.2 hsize)
  have hwrite : completionWrite s.dev m = writeCpl s.dev m x c := completionWrite_of_due hhost hlost hfrozen hsize (by rw [hmax]; exact hfree) hx hc
  obtain ⟨hring, hout, hint, hdue⟩ := writeCpl_stands s.dev m x c
  rw [placeCpl_ring, hmax] at hring
  have hcpl : ∀ k, cplU (writeCpl s.dev m x c) k = cplU (updCpl s.dev m _) k := fun k => cplU_ring hring k
  refine ⟨_, congrArg (next s) hwrite, hout, ?_, ?_, fun k hk => ?_, congrArg (·.sub) hring, hdue, fun hfinal htail => ?_, fun hfinal => ⟨?_, fun hentry => ?_⟩, hint, ?_⟩
  · rw [hcpl, cplU_updCpl_same _ _ _ hm]
  · rw [hcpl, cplU_updCpl_same _ _ _ hm]
  · rw [hcpl, cplU_updCpl_other _ _ _ _ hk]
  · obtain ⟨-, -, -, -, htails⟩ := retireEntry_stands (placeCpl s.dev m x c) x
    rw [writeCpl_of_final _ _ _ hfinal, tailOf, occur_jr, htails]
    exact (congrArg Tail.outstanding (at'_upd_same _ _ _ _ htail) :)
  · rw [writeCpl_of_not_final _ _ _ hfinal, occur_jr]; rfl
  · have hplaced : entryOf (placeCpl s.dev m x c) x.idx = some { x with cpls := x.cpls.drop 1 } := entryOf_updEntry_same (d := { s.dev with jr := { s.dev.jr with due := s.dev.jr.due.erase x.idx } }) hentry _ (fun _ => rfl)
    rw [writeCpl_of_not_final _ _ _ hfinal, entryOf, entries, occur_jr, ← entries, ← entryOf, hplaced, Option.map_some, hc]
    rfl
  · exact Laws.keeps_of_mask _ _ _ (Laws.mask_writeCpl _ _ _ _ _ (by decide) (by decide) (by decide) (by decide))

/-! ### The registers behind a write -/

theorem Sparse.get_set_other {α : Type} [DecidableEq α] (dflt dflt' : α) (m : Sparse α) {i j : Nat} (x : α) (h : j ≠ i) : (m.set dflt i x).get dflt' j = m.get dflt' j := by
  unfold Sparse.set
  split
  · rw [Sparse.get_erase, if_neg h]
  · rw [Sparse.get_insert, if_neg h]

theorem Sparse.get_filter {α : Type} (dflt : α) (keep : Nat → Bool) (m : Sparse α) (i : Nat) :
    Sparse.get dflt (m.filter (fun e => keep e.1)) i = if keep i then m.get dflt i else dflt := by
  induction m with
  | nil => simp [Sparse.get]
  | cons e m ih =>
    obtain ⟨k, v⟩ := e
    by_cases hk : keep k = true
    · rw [List.filter_cons_of_pos (p := fun e : Nat × α => keep e.1) hk, Sparse.get, ih, Sparse.get]
      by_cases hi : i = k
      · subst hi; simp [hk]
      · simp [hi]
    · rw [List.filter_cons_of_neg (p := fun e : Nat × α => keep e.1) hk, ih, Sparse.get]
      by_cases hi : i = k
      · subst hi; simp [hk]
      · simp [hi]

@[simp] theorem regReset_setRw (d : Dev) (off : Nat) (v : Word) (o : Nat) : regReset (setRw d off v) o = regReset d o := by rw [regReset_congr (setRw d off v) d rfl]

theorem rwOf_setRw_same (d : Dev) (off : Nat) (v : Word) : rwOf (setRw d off v) off = v := by
  rw [rwOf, regReset_setRw]
  exact (Sparse.get_set _ _ _ _ _).trans (if_pos rfl)

theorem rwOf_setRw_other (d : Dev) {off o : Nat} (v : Word) (h : o ≠ off) : rwOf (setRw d off v) o = rwOf d o := by
  rw [rwOf, regReset_setRw]
  exact Sparse.get_set_other _ _ _ _ h

theorem rwF_setRw_other (d : Dev) {off o : Nat} (v : Word) (h : o ≠ off) (lo n : Nat) : rwF (setRw d off v) o lo n = rwF d o lo n := by
  rw [rwF, rwOf_setRw_other d v h, rwF]

theorem rwMask_subControl : ∀ n < 32, rwMask (subBase n + 8) = w32 0x1F031F := by decide

/-- SIZE is within the mask of RING_SUB_CONTROL (R73). -/
theorem fld_size_masked (v : Word) : fld (v &&& w32 0x1F031F) 0 5 = fld v 0 5 := by
  have hmask : (0x1F031F : Nat) &&& (2 ^ 5 - 1) = 2 ^ 5 - 1 := by decide
  have hand : (v &&& w32 0x1F031F).toNat = v.toNat &&& 0x1F031F := by rw [BitVec.toNat_and]; rfl
  simp only [fld, Nat.shiftRight_zero]
  rw [hand, ← Nat.and_two_pow_sub_one_eq_mod, Nat.and_assoc, hmask, Nat.and_two_pow_sub_one_eq_mod]

/-! ### RING_CONTROL (R71, R72) -/

theorem beforeAccept_zero (os : List Out) (o : Out) : beforeAccept 0 os o = os ++ [o] := by
  simp only [beforeAccept, Nat.sub_zero, List.getElem?_eq_none (Nat.le_refl _)]

theorem writeStateBlock_out (d : Dev) (b : Nat) :
    (writeStateBlock d b).out =
      beforeAccept ((showBlock d b ((List.range 16).map (fun i => stateWord d (16 * b + i)))).ring.accWrote.filter
          (fun q => q.1 == (showBlock d b ((List.range 16).map (fun i => stateWord d (16 * b + i)))).clk.tick)).length
        (showBlock d b ((List.range 16).map (fun i => stateWord d (16 * b + i)))).out (.stateBlock b ((List.range 16).map (fun i => stateWord d (16 * b + i)))) := by
  rw [writeStateBlock, showBlock]

theorem showBlock_stands (d : Dev) (b : Nat) (ws : List Nat) : (showBlock d b ws).ring.accWrote = d.ring.accWrote ∧ (showBlock d b ws).out = d.out := by
  unfold showBlock
  constructor
  · refine proj_foldl (fun d => d.ring.accWrote) _ (fun _ _ => ?_) _ _
    rfl
  · refine proj_foldl (fun d => d.out) _ (fun _ _ => ?_) _ _
    rfl

/-- A state block issued in a tick that has written no acceptance block stands last (R71). -/
theorem writeStateBlock_last {d : Dev} (h : d.ring.accWrote = []) (b : Nat) :
    (∃ ws, (writeStateBlock d b).out = d.out ++ [.stateBlock b ws]) ∧ (writeStateBlock d b).ring.accWrote = [] := by
  rw [writeStateBlock_out, writeStateBlock_ring]
  generalize (List.range 16).map (fun i => stateWord d (16 * b + i)) = ws
  obtain ⟨hring, hout⟩ := showBlock_stands d b ws
  rw [hring, hout, h]
  exact ⟨⟨ws, beforeAccept_zero _ _⟩, rfl⟩

/-- The first acceptance block of its half in a tick stands last (R70). -/
theorem writeAcceptBlock_last {d : Dev} {b : Nat} (h : (d.clk.tick, b) ∉ d.ring.accWrote) :
    (∃ ws, (writeAcceptBlock d b).out = d.out ++ [.acceptBlock b ws]) ∧
      (writeAcceptBlock d b).ring.accWrote = (d.clk.tick, b) :: d.ring.accWrote.filter (fun q => q.1 == d.clk.tick && q.2 != b) := by
  have hseen : d.ring.accWrote.contains (d.clk.tick, b) = false := by simpa using h
  unfold writeAcceptBlock
  dsimp only
  rw [if_neg (by rw [hseen]; exact Bool.false_ne_true)]
  exact ⟨⟨_, rfl⟩, rfl⟩

/-- What the engine writes as it is enabled: both state blocks, then both acceptance blocks (R72). -/
def showAll (d : Dev) : Dev := writeAcceptBlock (writeAcceptBlock (writeStateBlock (writeStateBlock d 0) 1) 0) 1

theorem out_showAll {d : Dev} (h : d.ring.accWrote = []) :
    ∃ w0 w1 a0 a1, (showAll d).out = d.out ++ [.stateBlock 0 w0, .stateBlock 1 w1, .acceptBlock 0 a0, .acceptBlock 1 a1] := by
  obtain ⟨⟨w0, hw0⟩, h0⟩ := writeStateBlock_last h 0
  obtain ⟨⟨w1, hw1⟩, h1⟩ := writeStateBlock_last h0 1
  obtain ⟨⟨a0, ha0⟩, h2⟩ := writeAcceptBlock_last (d := writeStateBlock (writeStateBlock d 0) 1) (b := 0) (by rw [h1]; exact List.not_mem_nil)
  obtain ⟨⟨a1, ha1⟩, -⟩ := writeAcceptBlock_last (d := writeAcceptBlock (writeStateBlock (writeStateBlock d 0) 1) 0) (b := 1) (by rw [h2, h1]; simp)
  exact ⟨w0, w1, a0, a1, by rw [showAll, ha1, ha0, hw1, hw0]; simp⟩

theorem sameRings_writeAcceptBlock (d : Dev) (b : Nat) : SameRings d (writeAcceptBlock d b) := ⟨rfl, rfl, rfl, rfl, rfl, rfl, fun _ => rfl⟩

theorem sameRings_showAll (d : Dev) : SameRings d (showAll d) :=
  ((sameRings_writeStateBlock d 0).trans (sameRings_writeStateBlock _ 1)).trans ((sameRings_writeAcceptBlock _ 0).trans (sameRings_writeAcceptBlock _ 1))

/-- What the engine lets go of as it is disabled (R72, R108). -/
def dropAll (d : Dev) : Dev :=
  foldN 32 (fun d n => let p := nextSlot d n; updSub d n (fun r => { r with fetchDue := false, listWait := none, ready := none, prod := p, prodBad := false }))
    (mapJournal { d with ring := { d.ring with lastPoll := none } } (fun l => l.filter (fun x => x.st != .writing)))

theorem writeRingControl_eq {d : Dev} (h : powered d .host = true) (v : Word) :
    writeRingControl d v =
      let e := setRw d 0x0400 (v &&& w32 0x3F01)
      if engineOn e && !engineOn d then showAll e else if engineOn d && !engineOn e then dropAll e else e := by
  rw [writeRingControl, if_neg (by rw [h]; exact Bool.false_ne_true)]
  rfl

theorem engineOn_congr {d e : Dev} (hotp : e.otp = d.otp) (hcfg : e.cfg = d.cfg) (hpwr : e.pwr = d.pwr) : engineOn e = engineOn d := by
  unfold engineOn powered rwF
  rw [rwOf_congr e d hotp (by rw [hcfg]), hpwr]

theorem cfg_dropAll (d : Dev) : (dropAll d).cfg = d.cfg ∧ (dropAll d).otp = d.otp ∧ (dropAll d).pwr = d.pwr := by
  unfold dropAll
  refine ⟨?_, ?_, ?_⟩
  · refine proj_foldN (fun d => d.cfg) 32 _ (fun _ _ => ?_) _
    rfl
  · refine proj_foldN (fun d => d.otp) 32 _ (fun _ _ => ?_) _
    rfl
  · refine proj_foldN (fun d => d.pwr) 32 _ (fun _ _ => ?_) _
    rfl

theorem jr_dropAll (d : Dev) :
    (dropAll d).jr = { d.jr with primary := d.jr.primary.filter (fun x => x.st != .writing), secondary := d.jr.secondary.filter (fun x => x.st != .writing) } := by
  unfold dropAll
  refine proj_foldN (fun d => d.jr) 32 _ (fun _ _ => ?_) _
  rfl

theorem subU_dropAll {d : Dev} (hlen : d.ring.sub.length = 32) {k : Nat} (hk : k < 32) :
    (subU (dropAll d) k).ready = none ∧ (subU (dropAll d) k).fetchDue = false ∧ (subU (dropAll d) k).listWait = none := by
  have hall : ((subU (dropAll d) k).ready, (subU (dropAll d) k).fetchDue, (subU (dropAll d) k).listWait) = (none, false, none) := by
    unfold dropAll
    refine (unit_foldN (fun d => ((subU d k).ready, (subU d k).fetchDue, (subU d k).listWait)) (fun d => d.ring.sub.length = 32) _ k
      (fun _ => (none, false, none)) (fun e j he => ?_) (fun e j hj => ?_) (fun e he => ?_) 32 ?_).trans (if_pos hk)
    · exact (updSub_length _ _ _).trans he
    · dsimp only; rw [subU_updSub_other _ _ _ _ hj.symm]
    · dsimp only; rw [subU_updSub_same _ _ _ (by rw [he]; exact hk)]
    · exact hlen
  obtain ⟨hready, hrest⟩ := Prod.mk.inj hall
  obtain ⟨hfetch, hwait⟩ := Prod.mk.inj hrest
  exact ⟨hready, hfetch, hwait⟩

/-- RING_CONTROL, behind a write. -/
theorem ringControl_written {d : Dev} (v : Word) (hhost : powered d .host = true) (hlen : d.ring.sub.length = 32) :
    let e := writeRingControl d v
    e.cfg = (setRw d 0x0400 (v &&& w32 0x3F01)).cfg ∧
      (engineOn d = false → engineOn e = true → d.ring.accWrote = [] → ∃ w0 w1 a0 a1, e.out = d.out ++ [.stateBlock 0 w0, .stateBlock 1 w1, .acceptBlock 0 a0, .acceptBlock 1 a1]) ∧
      (engineOn d = true → engineOn e = false → ∀ k < 32, (subU e k).ready = none ∧ (subU e k).fetchDue = false ∧ (subU e k).listWait = none) ∧
      e.jr = (if engineOn d = true ∧ engineOn e = false then { d.jr with primary := d.jr.primary.filter (fun x => x.st != .writing), secondary := d.jr.secondary.filter (fun x => x.st != .writing) } else d.jr) := by
  intro e
  have he : e = _ := writeRingControl_eq hhost v
  dsimp only at he
  generalize hf : setRw d 0x0400 (v &&& w32 0x3F01) = f at he ⊢
  have hfjr : f.jr = d.jr := by rw [← hf]; rfl
  have hfout : f.out = d.out := by rw [← hf]; rfl
  have hfring : f.ring = d.ring := by rw [← hf]; rfl
  cases hon : engineOn d with
  | true =>
    cases hstays : engineOn f with
    | true =>
      have hef : e = f := by rw [he, hon, hstays]; rfl
      rw [hef, hstays]
      exact ⟨rfl, fun h => Bool.noConfusion h, fun _ h => Bool.noConfusion h, by rw [if_neg fun h => Bool.noConfusion h.2]; exact hfjr⟩
    | false =>
      have hef : e = dropAll f := by rw [he, hon, hstays]; rfl
      obtain ⟨hcfg, hotp, hpwr⟩ := cfg_dropAll f
      have hoff : engineOn (dropAll f) = false := (engineOn_congr hotp hcfg hpwr).trans hstays
      rw [hef, hoff, if_pos ⟨rfl, rfl⟩, jr_dropAll, hfjr]
      exact ⟨hcfg, fun h => Bool.noConfusion h, fun _ _ k hk => subU_dropAll (by rw [hfring]; exact hlen) hk, rfl⟩
  | false =>
    cases hstays : engineOn f with
    | true =>
      have hef : e = showAll f := by rw [he, hon, hstays]; rfl
      have hsame := sameRings_showAll f
      rw [hef, if_neg fun h => Bool.noConfusion h.1]
      refine ⟨hsame.cfg, fun _ _ hw => ?_, fun h => Bool.noConfusion h, hsame.jr.trans hfjr⟩
      rw [← hfout]
      exact out_showAll (by rw [hfring]; exact hw)
    | false =>
      have hef : e = f := by rw [he, hon, hstays]; rfl
      rw [hef, hstays]
      exact ⟨rfl, fun _ h => Bool.noConfusion h, fun h => Bool.noConfusion h, by rw [if_neg fun h => Bool.noConfusion h.1]; exact hfjr⟩

/-! ### RING_SUB_CONTROL and RING_CPL_CONTROL (R69, R73, R74) -/

theorem sizeOk_of_range {z : Nat} (hlo : 4 ≤ z) (hhi : z ≤ 16) : sizeOk z = true := by simp [sizeOk, hlo, hhi]

theorem sizeOk_of_not_range {z : Nat} (h0 : z ≠ 0) (h : z < 4 ∨ 16 < z) : sizeOk z = false := by
  rw [sizeOk, beq_eq_false_iff_ne.2 h0, Bool.false_or, decide_eq_false_iff_not]
  omega

theorem subSize_enabled (d : Dev) {n : Nat} (hn : n < 32) {v : Word} (h : fld v 0 5 ≠ 0) :
    subSize (setRw d (subBase n + 8) (v &&& rwMask (subBase n + 8))) n = 2 ^ fld v 0 5 := by
  rw [subSize, rwF, rwOf_setRw_same, rwMask_subControl n hn, fld_size_masked]
  exact if_neg h

/-- The ring that is enabled: its last accepted slot stands before its start (R69). -/
theorem enableSub_ring {γ : Type} (p : SubRing → γ) (hp : ∀ r x, p { r with shown := x } = p r) (d : Dev) {n : Nat} (hn : n < d.ring.sub.length) :
    let z := max 1 (subSize d n)
    let acc := (rwF d (subBase n + 0x10) 0 16 % z + z - 1) % z
    p (subU (enableSub d n) n) =
      p { subU d n with acc := acc, accWord := acc + ((((subU d n).next + 0xFFFF) % 65536) <<< 16), prod := (acc + 1) % z, prodBad := false, tries := 0, listTries := 0, fetchErr := false, holdStop := false, fetchDue := false, listWait := none, ready := none, disabling := 0 } := by
  intro z acc
  unfold enableSub
  dsimp only
  split
  · rw [subU_showRings p hp, subU_updSub_same _ _ _ hn]
  · rw [subU_updSub_same _ _ _ hn]

theorem cfg_enableSub (d : Dev) (n : Nat) : (enableSub d n).cfg = d.cfg :=
  (Laws.keeps_of_mask [.ring, .out] d _ (Laws.mask_enableSub _ _ _ (by decide) (by decide)) .cfg (by decide)).symm

/-- A disabled submission ring takes a legal SIZE (R73, R74). -/
theorem writeSubControl_enables {d : Dev} {n : Nat} {v : Word} (hhost : powered d .host = true) (hn : n < 32) (hcur : fld (rwOf d (subBase n + 8)) 0 5 = 0)
    (hlo : 4 ≤ fld v 0 5) (hhi : fld v 0 5 ≤ 16) :
    writeSubControl d n v = enableSub (setRw d (subBase n + 8) (v &&& rwMask (subBase n + 8))) n := by
  have hsize : fld v 0 5 ≠ 0 := by omega
  simp only [writeSubControl, hhost, decide_eq_false (Nat.not_le.2 hn), sizeOk_of_range hlo hhi, hcur, hsize, Bool.not_true, Bool.or_false, Bool.false_eq_true, if_false, if_true]

theorem writeSubControl_ignores {d : Dev} {n : Nat} {v : Word} (hhost : powered d .host = true) (hn : n < 32) (h0 : fld v 0 5 ≠ 0) (h : fld v 0 5 < 4 ∨ 16 < fld v 0 5) :
    writeSubControl d n v = ignoreWrite d := by
  simp only [writeSubControl, hhost, decide_eq_false (Nat.not_le.2 hn), sizeOk_of_not_range h0 h, Bool.not_true, Bool.not_false, Bool.or_false, Bool.false_eq_true, if_false, if_true]

/-- A disabled completion ring takes a legal SIZE (R73, R74). -/
theorem writeCplControl_enables {d : Dev} {m : Nat} {v : Word} (hhost : powered d .host = true) (hm : m < 32) (hcur : rwF d (cplBase m + 8) 0 5 = 0)
    (hlo : 4 ≤ fld v 0 5) (hhi : fld v 0 5 ≤ 16) : writeCplControl d m v = updCpl (setRw d (cplBase m + 8) (w32 (fld v 0 5))) m (fun _ => {}) := by
  have hsize : fld v 0 5 ≠ 0 := by omega
  simp only [writeCplControl, hhost, decide_eq_false (Nat.not_le.2 hm), sizeOk_of_range hlo hhi, hcur, hsize, Bool.not_true, Bool.or_false, Bool.false_eq_true, if_false, if_true]

theorem writeCplControl_ignores {d : Dev} {m : Nat} {v : Word} (hhost : powered d .host = true) (hm : m < 32) (h0 : fld v 0 5 ≠ 0) (h : fld v 0 5 < 4 ∨ 16 < fld v 0 5) :
    writeCplControl d m v = ignoreWrite d := by
  simp only [writeCplControl, hhost, decide_eq_false (Nat.not_le.2 hm), sizeOk_of_not_range h0 h, Bool.not_true, Bool.not_false, Bool.or_false, Bool.false_eq_true, if_false, if_true]

/-! ### FUNCTION_RESET (R63) -/

theorem endCapture_of_inactive {d : Dev} (h : captureActive d = false) {r : Nat} (hr : r ≠ 3) : endCapture d r = d := by
  obtain ⟨hcap, hawait⟩ := Bool.or_eq_false_iff.1 h
  rw [endCapture, if_neg hr, if_neg (by rw [hcap]; exact Bool.false_ne_true), dropAwaiting, if_pos (by rw [bne, hawait]; rfl)]

/-- The ring registers that a function reset takes back. -/
def offRing (off : Nat) : Bool := !(decide (0x0400 ≤ off ∧ off < 0x1000))

/-- The device behind a function reset. -/
def resetFunction (d : Dev) : Dev :=
  mapJournal { d with pci := {}, ring := {}, cfg := { d.cfg with rw := d.cfg.rw.filter (fun e => offRing e.1) } } (fun l => l.filter (fun x => x.st != .writing))

theorem functionReset_of_inactive {d : Dev} (hhost : powered d .host = true) (hcap : captureActive d = false) : functionReset d = resetFunction d := by
  rw [functionReset, if_neg (by rw [hhost]; exact Bool.false_ne_true)]
  dsimp only
  rw [endCapture_of_inactive hcap (by decide)]
  rfl

theorem regReset_resetFunction (d : Dev) (off : Nat) : regReset (resetFunction d) off = regReset d off := by
  rw [regReset_congr (resetFunction d) d rfl]

theorem rwOf_resetFunction (d : Dev) (off : Nat) : rwOf (resetFunction d) off = if offRing off then rwOf d off else regReset d off := by
  rw [rwOf, regReset_resetFunction]
  exact Sparse.get_filter _ offRing _ _

theorem mask_resetFunction (qs : List Part) (d : Dev) (hring : Part.ring ∈ qs) (hcfg : Part.cfg ∈ qs) (hpci : Part.pci ∈ qs) (hjr : Part.jr ∈ qs) :
    Laws.mask qs (resetFunction d) = Laws.mask qs d := by
  rw [resetFunction, Laws.mask_mapJournal _ _ _ hjr]
  simp [Laws.mask, hring, hcfg, hpci]

/-- Settles O13: register by register, the engine's own first. -/
theorem ringRegistersWork : Obligations.RingRegistersWork := by
  unfold Obligations.RingRegistersWork
  refine ⟨fun s n v hhost hn hsub hcpl => ⟨?_, ⟨?_, ?_⟩, ?_, ?_⟩, fun s hhost hcap => ?_⟩
  · obtain ⟨hcfg, hout, hdrop, hjr⟩ := ringControl_written v hhost hsub
    exact ⟨_, rfl, hcfg, hout, hdrop, hjr, Laws.keeps_of_mask _ _ _ (Laws.mask_writeRingControl _ _ _ (by decide) (by decide) (by decide) (by decide))⟩
  · intro hcur hlo hhi
    have hz : max 1 (2 ^ fld v 0 5) = 2 ^ fld v 0 5 := Nat.max_eq_right Nat.one_le_two_pow
    have hlen : n < (setRw s.dev (subBase n + 8) (v &&& rwMask (subBase n + 8))).ring.sub.length := by rw [setRw_ring, hsub]; exact hn
    have hstart : rwF (setRw s.dev (subBase n + 8) (v &&& rwMask (subBase n + 8))) (subBase n + 0x10) 0 16 = rwF s.dev (subBase n + 0x10) 0 16 := rwF_setRw_other _ _ (by omega) _ _
    have hring : ∀ {γ : Type} (p : SubRing → γ) (_ : ∀ r x, p { r with shown := x } = p r), _ := fun p hp => enableSub_ring p hp (setRw s.dev (subBase n + 8) (v &&& rwMask (subBase n + 8))) hlen
    rw [subSize_enabled s.dev hn (by omega), hz, hstart] at hring
    refine ⟨_, congrArg (next s) (writeSubControl_enables hhost hn hcur hlo hhi), cfg_enableSub _ _, hring (·.acc) fun _ _ => rfl, hring (·.accWord) fun _ _ => rfl,
      hring (·.next) fun _ _ => rfl, hring (·.ready) fun _ _ => rfl, hring (·.fetchDue) fun _ _ => rfl, Laws.keeps_of_mask _ _ _ ?_⟩
    rw [Laws.mask_enableSub _ _ _ (by decide) (by decide), Laws.mask_setRw _ _ _ _ (by decide)]
  · exact fun h0 h => congrArg (next s) (writeSubControl_ignores hhost hn h0 h)
  · intro hcur hlo hhi
    refine ⟨_, congrArg (next s) (writeCplControl_enables hhost hn hcur hlo hhi), cplU_updCpl_same _ _ _ (by rw [setRw_ring, hcpl]; exact hn), rfl,
      fun k hk => cplU_updCpl_other _ _ _ _ hk, Laws.keeps_of_mask _ _ _ ?_⟩
    rw [Laws.mask_updCpl _ _ _ _ (by decide), Laws.mask_setRw _ _ _ _ (by decide)]
  · exact fun h0 h => congrArg (next s) (writeCplControl_ignores hhost hn h0 h)
  · refine ⟨_, congrArg (next s) (functionReset_of_inactive hhost hcap), rfl, fun off hlo hhi => ?_, fun off hoff => ?_, rfl, rfl,
      Laws.keeps_of_mask _ _ _ (mask_resetFunction _ _ (by decide) (by decide) (by decide) (by decide)), rfl⟩
    · rw [rwOf_resetFunction, offRing, if_neg (by simp [hlo, hhi]), regReset_resetFunction]
    · rw [rwOf_resetFunction, offRing, if_pos (by rw [decide_eq_false hoff]; rfl)]

end Sys2Proof.Machine
end

section
/-!
SUPPORT and SETTLEMENT. Descriptors: the check that fails, queries, the charger, timed work, reservations, long and waiting work.
-/
namespace Sys2Proof.Machine
open Sys2Proof.Safety

/-! ### A descriptor that executes (R82, R83) -/

/-- Nothing holds the descriptor: its intent record is written and its checks are run. -/
theorem execDesc_of_executes {d : Dev} {e : Nat} {x : Entry} {c : Class} (work : Dev → Entry → Dev) (h : executes d e x c) : execDesc d e c work = beginDesc d x work := by
  obtain ⟨hx, hready, hclass, hlatched, hdeferred, hengine, hwaits⟩ := h
  simp only [execDesc, hx]
  simp [hready, hclass, hlatched, hdeferred, hengine, hwaits, -Bool.and_eq_true]

theorem beginDesc_of_fail {d : Dev} {x : Entry} (work : Dev → Entry → Dev) {st : Status} {detail : Nat} (h : checkDesc (intent d x.idx) x = some (st, detail)) :
    beginDesc d x work = finishNow (intent d x.idx) x.idx st detail := by
  unfold intent at h ⊢
  simp only [beginDesc, h]

theorem execDesc_of_fail {d : Dev} {e : Nat} {x : Entry} {c : Class} (work : Dev → Entry → Dev) {st : Status} {detail : Nat} (h : executes d e x c)
    (hcheck : checkDesc (intent d e) x = some (st, detail)) : execDesc d e c work = finishNow (intent d e) e st detail := by
  obtain rfl := idx_of_entryOf h.1
  rw [execDesc_of_executes work h, beginDesc_of_fail work hcheck]

/-- A MODE descriptor that is no ON request executes like any other (R52). -/
theorem modeRow_of_not_on {d : Dev} {e : Nat} {x : Entry} (rs : List RepRec) (hx : entryOf d e = some x) (hon : isOn d x = false) :
    modeRow rs d e = execDesc d e .mode (workMode rs) := by
  simp only [modeRow, hx, hon, Bool.and_false, Bool.false_eq_true, if_false]

theorem exec_rowOf (s : State) (e : Nat) {c : Class} (hc : c ≠ .mode) : ∃ work, exec (rowOf e c) s = run (fun d => execDesc d e c work) s := by
  cases c
  case mode => exact absurd rfl hc
  all_goals exact ⟨_, rfl⟩

theorem firstBad_cons_some (q : Status × Nat) (cs : List Check) : firstBad (some q :: cs) = some q := rfl

/-- Settles O20: the first check that fails ends the descriptor, whatever its class; an undefined opcode fails the first. -/
theorem failedCheckCompletes : Obligations.FailedCheckCompletes := by
  unfold Obligations.FailedCheckCompletes
  have hfail : ∀ (s : State) (e : Nat) (x : Entry) (c : Class) (st : Status) (detail : Nat), executes s.dev e x c → isOn s.dev x = false →
      checkDesc (intent s.dev e) x = some (st, detail) → exec (rowOf e c) s = .next (withDev s (settle (finishNow (intent s.dev e) e st detail))) := by
    intro s e x c st detail hexec hon hcheck
    by_cases hc : c = .mode
    · subst hc
      exact congrArg (next s) ((modeRow_of_not_on s.repIn hexec.1 hon).trans (execDesc_of_fail _ hexec hcheck))
    · obtain ⟨work, hwork⟩ := exec_rowOf s e hc
      rw [hwork]
      exact congrArg (next s) (execDesc_of_fail work hexec hcheck)
  refine ⟨hfail, fun s e x hexec hfixed hop => ?_⟩
  have hcheck : checkDesc (intent s.dev e) x = some (.badOpcode, badDetail 0 0xFF 0) := by
    simp only [checkDesc, hfixed, if_pos hop]
    rfl
  exact congrArg (next s) (execDesc_of_fail workBad hexec hcheck)

/-! ### QUERY (R96) -/

/-- A descriptor that runs does its class's work behind its intent record. -/
theorem exec_of_runs {c : Instr} {s : State} {e : Nat} {x : Entry} {k : Class} {work : Dev → Entry → Dev} (hexec : exec c s = run (fun d => execDesc d e k work) s)
    (h : runs s.dev e x k) : exec c s = next s (work (intent s.dev e) x) :=
  hexec.trans (congrArg (next s) (execDesc_of_runs work h))

theorem idx_of_runs {d : Dev} {e : Nat} {x : Entry} {k : Class} (h : runs d e x k) : x.idx = e := idx_of_entryOf h.1.1

/-- Settles O21: each item is the work of its class. -/
theorem queriesAnswer : Obligations.QueriesAnswer := by
  unfold Obligations.QueriesAnswer
  intro s e x k d ok
  refine ⟨fun h => ?_, fun h => ?_, fun h => ?_, fun h => ?_, fun h => ?_, fun h => ?_⟩
  all_goals obtain rfl := idx_of_runs h
  · exact exec_of_runs (work := workQFree) rfl h
  · exact exec_of_runs (work := workQFret) rfl h
  · exact exec_of_runs (work := workQString) rfl h
  · exact exec_of_runs (work := workQUnreserved) rfl h
  · exact exec_of_runs (work := workQBank) rfl h
  · exact exec_of_runs (work := workQTag) rfl h

/-! ### CHARGER (R94, R134, R267–R269, R280) -/

theorem workStop_of_stays {d : Dev} (x : Entry) (h : d.chg.st = .timeout ∨ d.chg.st = .absent ∨ d.chg.st = .search) : workStop d x = finishNow d x.idx .ok 0 := by
  have hstays : (d.chg.st == .timeout || d.chg.st == .absent || d.chg.st == .search) = true := by simpa [or_assoc] using h
  rw [workStop]
  exact congrArg (fun e => finishNow e x.idx .ok 0) (if_pos hstays)

theorem workStop_of_stops {d : Dev} (x : Entry) (h : ¬ (d.chg.st = .timeout ∨ d.chg.st = .absent ∨ d.chg.st = .search)) :
    workStop d x = finishNow (setCharger d .stopped) x.idx .ok 0 := by
  have hstays : ¬ (d.chg.st == .timeout || d.chg.st == .absent || d.chg.st == .search) = true := by simpa [or_assoc] using h
  rw [workStop]
  exact congrArg (fun e => finishNow e x.idx .ok 0) (if_neg hstays)

/-- CHARGE leaves a charger that is not at rest as it is (R280). -/
theorem workCharge_of_runs {d : Dev} (x : Entry) (h : ¬ (d.chg.st = .stopped ∨ d.chg.st = .done)) :
    workCharge d x = finishNow { d with chg := { d.chg with limit := chValue x.image } } x.idx
      (if d.chg.st = .timeout ∨ d.chg.st = .absent ∨ d.chg.st = .disabled then .partialDone else .ok) 0 := by
  have hrest : (d.chg.st == .stopped || d.chg.st == .done) = false := by simpa [not_or] using h
  simp only [workCharge, hrest, Bool.false_and, Bool.or_false, Bool.or_eq_true, beq_iff_eq, or_assoc, Bool.false_eq_true, if_false]

/-- CHARGE starts one that is at rest (R280). -/
theorem workCharge_of_rest {d : Dev} (x : Entry) (h : d.chg.st = .stopped ∨ d.chg.st = .done) :
    workCharge d x = finishNow (enterQualify { d with chg := { d.chg with limit := chValue x.image } }) x.idx (if d.chg.timedOut = true then .partialDone else .ok) 0 := by
  rcases h with h | h
  · simp [workCharge, h]
  · simp [workCharge, h]

theorem workSearch_of_noShunt {d : Dev} (x : Entry) (h : rsF d 0x4028 0 16 = 0) :
    workSearch d x = finishNow (recomputePin d) x.idx .partialDone (d.chg.iFound % 65536 + ((recomputePin d).fb.pin <<< 16)) := if_pos h

theorem workSearch_of_join {d : Dev} (x : Entry) {q : Search} (h : rsF d 0x4028 0 16 ≠ 0) (hq : d.chg.search = some q) :
    workSearch d x = commitEntry { d with chg := { d.chg with search := some { q with entries := q.entries ++ [x.idx] } } } x.idx := by
  rw [workSearch, if_neg h, hq]

theorem workSearch_of_begin {d : Dev} (x : Entry) (h : rsF d 0x4028 0 16 ≠ 0) (hq : d.chg.search = none) :
    workSearch d x = commitEntry (setCharger { d with chg := { d.chg with search := some { start := d.clk.tick, entries := [x.idx], back := d.chg.st } } } .search) x.idx := by
  rw [workSearch, if_neg h, hq]

theorem workClearTimeout_of_timeout {d : Dev} (x : Entry) (h : d.chg.st = .timeout) :
    workClearTimeout d x = finishNow (setCharger { d with chg := { d.chg with timedOut := false } } .stopped) x.idx .ok 0 := by
  simp [workClearTimeout, done, h]

theorem workClearTimeout_of_other {d : Dev} (x : Entry) (h : ¬ d.chg.st = .timeout) :
    workClearTimeout d x = finishNow { d with chg := { d.chg with timedOut := false } } x.idx .ok 0 := by
  simp [workClearTimeout, done, h]

/-- Settles O22: the six works, case by case. -/
theorem chargerDescriptorsWork : Obligations.ChargerDescriptorsWork := by
  unfold Obligations.ChargerDescriptorsWork
  intro s e x d v is
  refine ⟨fun h => ?_, fun h => ?_, fun h => ?_, fun h => ?_, fun h => ?_, fun h => ?_⟩
  all_goals obtain rfl := idx_of_runs h
  · exact ⟨fun hst => (exec_of_runs (work := workStop) rfl h).trans (congrArg (next s) (workStop_of_stays x hst)),
      fun hst => (exec_of_runs (work := workStop) rfl h).trans (congrArg (next s) (workStop_of_stops x hst))⟩
  · intro d'
    exact ⟨fun hst => (exec_of_runs (work := workCharge) rfl h).trans (congrArg (next s) (workCharge_of_runs x hst)),
      fun hst => (exec_of_runs (work := workCharge) rfl h).trans (congrArg (next s) (workCharge_of_rest x hst))⟩
  · intro d0
    exact ⟨fun hshunt => (exec_of_runs (work := workSearch) rfl h).trans (congrArg (next s) (workSearch_of_noShunt x hshunt)),
      fun hshunt q hq => (exec_of_runs (work := workSearch) rfl h).trans (congrArg (next s) (workSearch_of_join x hshunt hq)),
      fun hshunt hq => (exec_of_runs (work := workSearch) rfl h).trans (congrArg (next s) (workSearch_of_begin x hshunt hq))⟩
  · exact exec_of_runs (work := workRideLevel) rfl h
  · intro d'
    exact ⟨fun hst => (exec_of_runs (work := workClearTimeout) rfl h).trans (congrArg (next s) (workClearTimeout_of_timeout x hst)),
      fun hst => (exec_of_runs (work := workClearTimeout) rfl h).trans (congrArg (next s) (workClearTimeout_of_other x hst))⟩
  · intro top d'
    exact exec_of_runs (work := workInputLimit) rfl h

/-! ### Timed work (R89, R90, R93, R97, R98, R110, R369) -/

theorem workCapStart_of_active {d : Dev} (wrap : Bool) (x : Entry) (h : captureActive d = true) : workCapStart wrap d x = finishNow d x.idx .ok 0 := if_pos h

/-- The device in which a capture awaits its start fret (R369, R370). -/
def awaitCapture (d : Dev) (wrap : Bool) (x : Entry) : Dev :=
  statusLine { d with cap := { d.cap with st := .awaiting, wrap := wrap, startFret := if caFret x.image = 0 then boundary d else caFret x.image, startEntry := some x.idx } }

theorem workCapStart_of_ready {d : Dev} (wrap : Bool) (x : Entry) (h : captureActive d = false) (hring : rwF d 0x7108 0 6 ≠ 0) :
    workCapStart wrap d x = if caFret x.image = 0 then awaitCapture d wrap x else schedule (awaitCapture d wrap x) x (caFret x.image + 1) := by
  rw [workCapStart, if_neg (by rw [h]; exact Bool.false_ne_true), if_neg hring]
  rfl

/-- Settles O23: each timed opcode's work, at once or scheduled. -/
theorem timedDescriptorsSchedule : Obligations.TimedDescriptorsSchedule := by
  unfold Obligations.TimedDescriptorsSchedule
  intro s e x d f
  refine ⟨fun h hrun => ?_, fun h hrun => ?_, fun h hrun => ?_, fun h hrun => ?_, fun h => ?_, fun wrap h => ?_, fun h => ?_, fun h => ?_⟩
  all_goals obtain rfl := idx_of_runs h
  · exact (exec_of_runs (work := workProfile) rfl h).trans (congrArg (next s) (if_neg (by rw [hrun]; exact Bool.false_ne_true)))
  · exact (exec_of_runs (work := workSetpoint) rfl h).trans (congrArg (next s) (if_neg (by rw [hrun]; exact Bool.false_ne_true)))
  · exact (exec_of_runs (work := workProfile) rfl h).trans (congrArg (next s) (if_pos hrun))
  · exact (exec_of_runs (work := workSetpoint) rfl h).trans (congrArg (next s) (if_pos hrun))
  · exact ⟨fun hf => (exec_of_runs (work := workCommit) rfl h).trans (congrArg (next s) (if_pos hf)),
      fun hf => (exec_of_runs (work := workCommit) rfl h).trans (congrArg (next s) (if_neg hf))⟩
  · intro i d'
    have hexec : exec i s = next s (workCapStart wrap d x) := by
      cases wrap with
      | false => exact exec_of_runs (work := workCapStart false) rfl h
      | true => exact exec_of_runs (work := workCapStart true) rfl h
    exact ⟨fun hactive => hexec.trans (congrArg (next s) (workCapStart_of_active wrap x hactive)),
      fun hactive hring hf => hexec.trans (congrArg (next s) ((workCapStart_of_ready wrap x hactive hring).trans (if_pos hf))),
      fun hactive hring hf => hexec.trans (congrArg (next s) ((workCapStart_of_ready wrap x hactive hring).trans (if_neg hf)))⟩
  · exact ⟨fun hf => (exec_of_runs (work := workCapStop) rfl h).trans (congrArg (next s) (if_pos hf)),
      fun hf => (exec_of_runs (work := workCapStop) rfl h).trans (congrArg (next s) (if_neg hf))⟩
  · intro i d'
    exact exec_of_runs (work := workMark) rfl h

/-! ### REPLAN and SEQUENCE (R156, R159, R245) -/

/-- Settles O25: the decision point ahead or behind, and the direction of the run. -/
theorem longWorkBegins : Obligations.LongWorkBegins := by
  unfold Obligations.LongWorkBegins
  refine ⟨fun s e x h => ?_, fun s e x h => ?_⟩
  all_goals obtain rfl := idx_of_runs h
  · intro d p d' past
    exact ⟨fun hpast => (exec_of_runs (work := workReplan) rfl h).trans (congrArg (next s) (if_neg hpast)),
      fun hpast => (exec_of_runs (work := workReplan) rfl h).trans (congrArg (next s) (if_pos hpast))⟩
  · intro d
    refine ⟨fun hdown => (exec_of_runs (work := workSequence) rfl h).trans (congrArg (next s) ?_), fun hdown => (exec_of_runs (work := workSequence) rfl h).trans (congrArg (next s) ?_)⟩
    · simp only [workSequence, hdown, if_true]; rfl
    · simp only [workSequence, hdown, Bool.false_eq_true, if_false]; rfl

/-! ### Fences and requests that waited (R52, R82, R95, R420) -/

/-- Settles O26: the fence open or not, and the request that no run holds. -/
theorem waitingWorkExecutes : Obligations.WaitingWorkExecutes := by
  unfold Obligations.WaitingWorkExecutes
  refine ⟨fun s e x => ?_, fun s e x => ⟨fun hx hdeferred hlatched hready hwaits _ hcheck => ?_, fun q hq hmode huntil => ?_⟩⟩
  · intro d
    refine ⟨fun h hopen => ?_, fun h hopen => ?_, fun hx hst hclass hlost => ?_, fun h hfence hmode => ?_⟩
    · obtain rfl := idx_of_runs h
      exact (exec_of_runs (work := workFence) rfl h).trans (congrArg (next s) (if_pos hopen))
    · obtain rfl := idx_of_runs h
      exact (exec_of_runs (work := workFence) rfl h).trans (congrArg (next s) (if_neg (by rw [hopen]; exact Bool.false_ne_true)))
    · obtain rfl := idx_of_entryOf hx
      have hend : fenceEnd s.dev x.idx = if fenceOpen s.dev x then done s.dev x 0 else s.dev := by
        simp [fenceEnd, hx, hst, hclass, hlost]
      exact ⟨fun hopen => congrArg (next s) (hend.trans (if_pos hopen)), fun hopen => congrArg (next s) (hend.trans (if_neg (by rw [hopen]; exact Bool.false_ne_true)))⟩
    · have hrelease : fenceRelease s.repIn s.dev e = execDesc s.dev e (classOf x.image) (workOf s.repIn x) := by
        simp [fenceRelease, h.1.1, hfence, hmode]
      exact congrArg (next s) (hrelease.trans (execDesc_of_runs _ h))
  · obtain rfl := idx_of_entryOf hx
    have hdef : deferredExecute s.repIn s.dev x.idx = beginDesc s.dev x (workOf s.repIn x) := by
      simp [deferredExecute, hx, hdeferred, hlatched, hready, hwaits]
    exact congrArg (next s) (hdef.trans (beginDesc_of_pass _ hcheck))
  · have hboot : latchedOn s.repIn s.dev = startBoot s.dev .latchedOn := by
      cases ht : s.dev.mm.offUntil with
      | none => simp [latchedOn, hq, hmode, ht]
      | some t => simp [latchedOn, hq, hmode, ht, Nat.not_lt.2 (huntil t ht)]
    exact congrArg (next s) hboot

/-! ### RESERVE (R143, R144, R148) -/

/-- The books of the fingerboard that the cells of a reservation do not touch, and the journal. -/
def sameBooks (d e : Dev) : Prop :=
  e.fb.resv = d.fb.resv ∧ e.fb.admitted = d.fb.admitted ∧ e.fb.rejected = d.fb.rejected ∧ e.fb.replan = d.fb.replan ∧ e.jr = d.jr

theorem sameBooks.trans {d e f : Dev} (hde : sameBooks d e) (hef : sameBooks e f) : sameBooks d f := by
  obtain ⟨h1, h2, h3, h4, h5⟩ := hde
  obtain ⟨g1, g2, g3, g4, g5⟩ := hef
  exact ⟨g1.trans h1, g2.trans h2, g3.trans h3, g4.trans h4, g5.trans h5⟩

theorem sameBooks_setShadow (d : Dev) (b : Bank) : sameBooks d (setShadow d b) := by
  unfold setShadow
  split
  · exact ⟨rfl, rfl, rfl, rfl, rfl⟩
  · exact ⟨rfl, rfl, rfl, rfl, rfl⟩

theorem sameBooks_setLive (d : Dev) (b : Bank) : sameBooks d (setLive d b) := by
  unfold setLive
  split
  · exact ⟨rfl, rfl, rfl, rfl, rfl⟩
  · exact ⟨rfl, rfl, rfl, rfl, rfl⟩

theorem sameBooks_writeTested (d : Dev) (ts : List Tested) : sameBooks d (writeTested d ts) := by
  unfold writeTested
  induction ts generalizing d with
  | nil => exact ⟨rfl, rfl, rfl, rfl, rfl⟩
  | cons t ts ih =>
    rw [List.foldl_cons]
    refine .trans ?_ (ih _)
    split
    · exact sameBooks_setShadow _ _
    · exact sameBooks_setLive _ _

theorem sameBooks_keepPlan (d : Dev) (plan : List (Nat × Nat)) : sameBooks d (keepPlan d plan) := ⟨rfl, rfl, rfl, rfl, rfl⟩

theorem sameBooks_mirror (d : Dev) : sameBooks d (mirror d) := by
  unfold mirror
  split
  · exact ⟨rfl, rfl, rfl, rfl, rfl⟩
  · exact sameBooks_setShadow _ _

theorem shadowReady_congr {d e : Dev} (h : e.fb.replan = d.fb.replan) : shadowReady e = shadowReady d := by rw [shadowReady, h, shadowReady]

theorem entryOf_congr {d e : Dev} (h : e.jr = d.jr) (k : Nat) : entryOf e k = entryOf d k := by rw [entryOf, entries, h, entryOf, entries]

/-- The ADMISSION entry is issued, and leaves the state and the end fret of its entry (R112). -/
theorem entryOf_admission {d : Dev} {e : Nat} {y : Entry} (hy : entryOf d e = some y) (st : Status) (effect detail : Nat) (pre retry : Bool) :
    ∃ z, entryOf (admission d e st effect detail pre retry) e = some z ∧ z.st = y.st ∧ z.endFret = y.endFret ∧ z.admIssued = true := by
  simp only [admission, hy]
  by_cases hissued : y.admIssued = true
  · rw [if_pos hissued]
    exact ⟨y, hy, rfl, rfl, hissued⟩
  · rw [if_neg hissued]
    have hmark : entryOf (updEntry d e fun z => { z with admIssued := true }) e = some { y with admIssued := true } := entryOf_updEntry_same hy _ fun _ => rfl
    by_cases hring : y.ring = 32
    · refine ⟨{ y with admIssued := true }, ?_, rfl, rfl, rfl⟩
      rw [pushCpl, if_pos hring]
      exact hmark
    · exact ⟨_, entryOf_pushCpl_same _ hring (idx_of_entryOf hy) hmark, rfl, rfl, rfl⟩

theorem fb_admission (d : Dev) (e : Nat) (st : Status) (effect detail : Nat) (pre retry : Bool) : (admission d e st effect detail pre retry).fb = d.fb :=
  (Laws.keeps_of_mask [.jr, .out, .fretOut] d _ (Laws.mask_admission _ _ _ _ _ _ _ _ (by decide) (by decide) (by decide)) .fb (by decide)).symm

theorem fb_intent (d : Dev) (e : Nat) : (intent d e).fb = d.fb := rfl

/-- The reservation that an admitted descriptor brings (R144). -/
def admittedResv (d : Dev) (x : Entry) : Resv :=
  let r := reserveOf x
  { entry := x.idx, ring := x.ring, string := r.string, tag := r.tag, start := r.start, stop := r.stop, pStart := r.pStart, segs := r.segs, rideSafe := r.rideSafe, shadowFrom := (shadowReady d).getD 0 }

/-- The device with an admitted reservation's cells, plan and counts, before its entry is scheduled (R144, R148). -/
def bookResv (d : Dev) (x : Entry) (plan : List (Nat × Nat)) (ts : List Tested) : Dev :=
  let d := keepPlan (writeTested d ts) plan
  mirror { d with fb := { d.fb with resv := d.fb.resv ++ [admittedResv d x], admitted := sat (2 ^ 32 - 1) (d.fb.admitted + 1) } }

theorem admitReserve_eq (d : Dev) (x : Entry) (room : Nat) (plan : List (Nat × Nat)) (ts : List Tested) :
    ∃ effect, admitReserve d x (reserveOf x) room plan ts =
      admission (schedule (bookResv d x plan ts) x (reserveOf x).stop) x.idx .ok effect room (!plan.isEmpty) false := ⟨_, rfl⟩

theorem bookResv_books (d : Dev) (x : Entry) (plan : List (Nat × Nat)) (ts : List Tested) :
    (bookResv d x plan ts).fb.resv = d.fb.resv ++ [admittedResv d x] ∧ (bookResv d x plan ts).fb.admitted = sat (2 ^ 32 - 1) (d.fb.admitted + 1) ∧
      (bookResv d x plan ts).fb.rejected = d.fb.rejected ∧ (bookResv d x plan ts).jr = d.jr := by
  obtain ⟨hresv, hadmitted, hrejected, hreplan, hjr⟩ := (sameBooks_writeTested d ts).trans (sameBooks_keepPlan _ plan)
  unfold bookResv
  dsimp only
  generalize keepPlan (writeTested d ts) plan = e at *
  obtain ⟨gresv, gadmitted, grejected, -, gjr⟩ := sameBooks_mirror { e with fb := { e.fb with resv := e.fb.resv ++ [admittedResv e x], admitted := sat (2 ^ 32 - 1) (e.fb.admitted + 1) } }
  have hshadow : admittedResv e x = admittedResv d x := by unfold admittedResv; rw [shadowReady_congr hreplan]
  refine ⟨gresv.trans ?_, gadmitted.trans ?_, grejected.trans hrejected, gjr.trans hjr⟩
  · rw [hresv, hshadow]
  · rw [hadmitted]

theorem mask_bookResv (qs : List Part) (d : Dev) (x : Entry) (plan : List (Nat × Nat)) (ts : List Tested) (hfb : Part.fb ∈ qs) :
    Laws.mask qs (bookResv d x plan ts) = Laws.mask qs d := by
  unfold bookResv
  dsimp only
  rw [Laws.mask_mirror _ _ hfb, Laws.mask_fb _ _ _ hfb, keepPlan, Laws.mask_fb _ _ _ hfb, Laws.mask_writeTested _ _ _ hfb]

/-- Settles O24: a failed test counts alone; a passed one books the reservation and schedules its entry. -/
theorem reserveIsAllOrNothing : Obligations.ReserveIsAllOrNothing := by
  unfold Obligations.ReserveIsAllOrNothing
  intro s e x h
  obtain rfl := idx_of_runs h
  intro d r
  have hexec : exec (.reserve x.idx) s = next s (workReserve d x) := exec_of_runs (work := workReserve) rfl h
  refine ⟨fun f t htry => ?_, fun room plan ts htry => ?_⟩
  · have hwork : workReserve d x = rejectReserve d x f t := by simp only [workReserve]; rw [htry]
    have hmask : ∀ qs : List Part, (∀ p ∈ [Part.jr, .int, .mp, .out, .fretOut], p ∈ qs) →
        Laws.mask qs (rejectReserve d x f t) = Laws.mask qs { d with fb := { d.fb with rejected := sat (2 ^ 32 - 1) (d.fb.rejected + 1) } } := fun qs hqs =>
      Laws.mask_finishNow _ _ _ _ _ (hqs _ (by decide)) (hqs _ (by decide)) (hqs _ (by decide)) (hqs _ (by decide)) (hqs _ (by decide))
    have hfb : (rejectReserve d x f t).fb = { s.dev.fb with rejected := sat (2 ^ 32 - 1) (s.dev.fb.rejected + 1) } :=
      (Laws.keeps_of_mask _ _ _ (hmask [.jr, .int, .mp, .out, .fretOut] (by decide)) .fb (by decide)).symm
    refine ⟨_, hexec.trans (congrArg (next s) hwork), rfl, ?_, ?_, ?_, ?_, ?_, Laws.keeps_of_mask _ _ _ ?_⟩
    · rw [hfb]
    · rw [hfb]
    · rw [hfb]
    · rw [hfb]
    · rw [hfb]
    · rw [hmask _ (by decide), Laws.mask_fb _ _ _ (by decide), mask_intent _ _ _ (by decide)]
  · have hwork : workReserve d x = admitReserve d x r room plan ts := by simp only [workReserve]; rw [htry]
    obtain ⟨effect, hadmit⟩ := admitReserve_eq d x room plan ts
    obtain ⟨hresv, hadmitted, hrejected, hjr⟩ := bookResv_books d x plan ts
    have hfb : ∀ k, (admission (schedule (bookResv d x plan ts) x r.stop) x.idx .ok k room (!plan.isEmpty) false).fb = (bookResv d x plan ts).fb := fun k => fb_admission _ _ _ _ _ _ _
    have hentry : entryOf (bookResv d x plan ts) x.idx = some { x with st := .intent, intent := true, deferred := false } :=
      (entryOf_congr hjr _).trans (entryOf_intent_same h.1.1)
    have hscheduled : entryOf (schedule (bookResv d x plan ts) x r.stop) x.idx = some { x with st := .scheduled, intent := true, deferred := false, commit := true, endFret := r.stop } :=
      entryOf_updEntry_same hentry _ fun _ => rfl
    obtain ⟨z, hz, hst, hend, hissued⟩ := entryOf_admission hscheduled .ok effect room (!plan.isEmpty) false
    refine ⟨_, hexec.trans (congrArg (next s) (hwork.trans hadmit)), ?_, ?_, ?_, ⟨z, hz, hst, hend, hissued⟩, Laws.keeps_of_mask _ _ _ ?_⟩
    · rw [hfb, hresv]; rfl
    · rw [hfb, hadmitted]; rfl
    · rw [hfb, hrejected]; rfl
    · rw [Laws.mask_admission _ _ _ _ _ _ _ _ (by decide) (by decide) (by decide), Laws.mask_schedule _ _ _ _ (by decide), mask_bookResv _ _ _ _ _ (by decide),
        mask_intent _ _ _ (by decide)]

end Sys2Proof.Machine
end

section
/-!
SUPPORT. Entry to a mode: the mode registers that it leaves, and the parts of the device that it touches.
-/
namespace Sys2Proof.Machine
open Sys2Proof.Safety

/-! ### The charger at a mode change (R266, R279, R283) -/

/-- Parts that the charger drives at a mode change. -/
def chargerParts : List Part := [.jr, .fb, .str, .ph, .chg, .int, .rcd, .mp, .out, .fretOut]

/-- The charger behind a mode change: a search under way has ended (R283). -/
def leaveSearch (d : Dev) (m : Mode) : Dev :=
  match d.chg.search with
  | none => d
  | some _ => stopSearch d (if m == .safe || m == .drone then .abortedSafe else if m == .shutdown || m == .off then .preempted else .partialDone)

/-- Its cycle follows the mode entered (R266, R279); RIDE apart. -/
def chargerFollows (d : Dev) (frm m : Mode) : Dev :=
  let d :=
    if frm == .ride && (m == .run || m == .hold) then
      let drawn := (d.mm.rideE - d.chg.ep) / 1000
      let d := chargerRecord d 0x2011 ((d.clk.tick - d.mm.rideStart) / 1000) drawn 0
      if d.chg.st == .absent then d else { d with chg := { d.chg with st := .disabled } }
    else d
  if cycleMode m then followCharger d
  else if d.chg.st == .absent then packOff d
  else packOff { d with chg := { d.chg with st := .disabled } }

theorem chargerMode_eq (d : Dev) (frm : Mode) {m : Mode} (hm : m ≠ .ride) : chargerMode d frm m = chargerFollows (leaveSearch d m) frm m := by
  have hride : ¬ (m == .ride) = true := by simpa using hm
  unfold chargerMode
  exact if_neg hride

section
variable (qs : List Part) (d : Dev) (h : ∀ p ∈ chargerParts, p ∈ qs)
include h

theorem mask_endSearch (o : SearchEnd) (i : Nat) (st : Status) : Laws.mask qs (endSearch d o i st) = Laws.mask qs d := by
  have hjr := h .jr (by decide)
  have hfb := h .fb (by decide)
  have hstr := h .str (by decide)
  have hph := h .ph (by decide)
  have hchg := h .chg (by decide)
  have hint := h .int (by decide)
  have hrcd := h .rcd (by decide)
  have hmp := h .mp (by decide)
  have hout := h .out (by decide)
  have hfret := h .fretOut (by decide)
  unfold endSearch
  split
  · rfl
  · simp only [Laws.mask_foldl, Laws.mask_finishNow, Laws.mask_setChgEvent, Laws.mask_chargerRecord, Laws.mask_ite, Laws.mask_setCharger, Laws.mask_recomputePin,
      Laws.mask_chg, ite_self, implies_true, *]

theorem mask_leaveSearch (m : Mode) : Laws.mask qs (leaveSearch d m) = Laws.mask qs d := by
  unfold leaveSearch
  split
  · rfl
  · exact mask_endSearch qs d h _ _ _

theorem mask_chargerFollows (frm m : Mode) : Laws.mask qs (chargerFollows d frm m) = Laws.mask qs d := by
  have hstr := h .str (by decide)
  have hph := h .ph (by decide)
  have hchg := h .chg (by decide)
  have hint := h .int (by decide)
  have hrcd := h .rcd (by decide)
  simp only [chargerFollows, Laws.mask_ite, Laws.mask_followCharger, Laws.mask_packOff, Laws.mask_chargerRecord, Laws.mask_chg, ite_self, *]

theorem mask_chargerMode (frm : Mode) {m : Mode} (hm : m ≠ .ride) : Laws.mask qs (chargerMode d frm m) = Laws.mask qs d := by
  rw [chargerMode_eq d frm hm, mask_chargerFollows qs _ h, mask_leaveSearch qs _ h]

end

/-! ### The mode registers (R59) -/

theorem mask_linksMode (qs : List Part) (old d : Dev) (frm m : Mode) (hlk : Part.lk ∈ qs) : Laws.mask qs (linksMode old d frm m) = Laws.mask qs d := by
  simp only [linksMode, Laws.mask_ite, Laws.mask_trainLinks, ite_self, hlk]

/-- Parts that every mode change touches (R59). -/
def noteParts : List Part := [.mm, .int, .rcd, .flt, .out, .fretOut]

theorem mask_cancelInjection (qs : List Part) (d : Dev) (hflt : Part.flt ∈ qs) : Laws.mask qs (cancelInjection d) = Laws.mask qs d := by
  simp only [cancelInjection, Laws.mask_ite, Laws.mask_flt, ite_self, hflt]

/-- The mode, its event, its record and the end of an injection (R59, R309, R358). -/
def changeMode (d : Dev) (m : Mode) (c : Cause) (detail : Nat) (rec' : Bool) : Dev :=
  let frm := d.mm.mode
  let d := setModeEvent { d with mm := { d.mm with mode := m, target := m, causeFrom := frm, causeTo := m, cause := c, causeDetail := detail, changedAt := some d.clk.tick } } 0
  let d := emitFast d (.mode frm.code m.code c.code)
  let d := if rec' then record d 0x0001 srcModes false (frm.code + (m.code <<< 4)) c.code detail (fretLow d) else d
  cancelInjection { d with flt := { d.flt with naliveTest := false } }

/-- The OTP commands end with CONFIG (R350). -/
def leaveConfig (d : Dev) (frm : Mode) : Dev := if frm == .config then { d with otp := { d.otp with enable := false, keyOne := false, stopAfter := d.otp.cmd.isSome } } else d

theorem noteMode_eq (d : Dev) (m : Mode) (c : Cause) (detail : Nat) (rec' : Bool) :
    noteMode d m c detail rec' = followNalive (leaveConfig (changeMode d m c detail rec') d.mm.mode) := rfl

theorem mask_changeMode (qs : List Part) (d : Dev) (m : Mode) (c : Cause) (detail : Nat) (rec' : Bool) (h : ∀ p ∈ noteParts, p ∈ qs) :
    Laws.mask qs (changeMode d m c detail rec') = Laws.mask qs d := by
  have hmm := h .mm (by decide)
  have hint := h .int (by decide)
  have hrcd := h .rcd (by decide)
  have hflt := h .flt (by decide)
  have hout := h .out (by decide)
  have hfret := h .fretOut (by decide)
  simp only [changeMode, mask_cancelInjection, Laws.mask_flt, Laws.mask_ite, Laws.mask_record, Laws.mask_emitFast, Laws.mask_setModeEvent, Laws.mask_mm, ite_self, *]

theorem mask_noteMode (qs : List Part) (d : Dev) (m : Mode) (c : Cause) (detail : Nat) (rec' : Bool) (h : ∀ p ∈ noteParts, p ∈ qs) (hotp : Part.otp ∈ qs ∨ d.mm.mode ≠ .config) :
    Laws.mask qs (noteMode d m c detail rec') = Laws.mask qs d := by
  rw [noteMode_eq, Laws.mask_followNalive _ _ (h .flt (by decide)) (h .out (by decide)), leaveConfig]
  split
  next hconfig => rw [Laws.mask_otp _ _ _ (hotp.resolve_right fun hne => hne (beq_iff_eq.1 hconfig)), mask_changeMode _ _ _ _ _ _ h]
  next => exact mask_changeMode _ _ _ _ _ _ h

/-- The mode machine behind the entry to a mode, but for a transition that it overtakes. -/
def enteredMm (d : Dev) (m : Mode) (c : Cause) (detail : Nat) : ModeUnit :=
  { d.mm with mode := m, target := m, causeFrom := d.mm.mode, causeTo := m, cause := c, causeDetail := detail, changedAt := some d.clk.tick, event := withBit d.mm.event 0 }

theorem mm_of_mask {qs : List Part} {d e : Dev} (h : Laws.mask qs e = Laws.mask qs d) (hmm : Part.mm ∉ qs) : e.mm = d.mm :=
  (Laws.keeps_of_mask qs d e h .mm hmm).symm

theorem mm_noteMode (d : Dev) (m : Mode) (c : Cause) (detail : Nat) (rec' : Bool) : (noteMode d m c detail rec').mm = enteredMm d m c detail := by
  have hnalive : ∀ e : Dev, (followNalive e).mm = e.mm := fun e => mm_of_mask (qs := [.flt, .out]) (Laws.mask_followNalive _ _ (by decide) (by decide)) (by decide)
  have hcancel : ∀ e : Dev, (cancelInjection e).mm = e.mm := fun e => mm_of_mask (qs := [.flt]) (mask_cancelInjection _ _ (by decide)) (by decide)
  have hconfig : ∀ (e : Dev) frm, (leaveConfig e frm).mm = e.mm := fun e frm => by unfold leaveConfig; split <;> rfl
  have hevent : ∀ e : Dev, (setModeEvent e 0).mm = { e.mm with event := withBit e.mm.event 0 } := fun e => by unfold setModeEvent; rw [occur_mm]
  rw [noteMode_eq, hnalive, hconfig, changeMode]
  dsimp only
  rw [hcancel]
  dsimp only
  split
  · rw [mm_of_mask (qs := [.int, .rcd]) (Laws.mask_record _ _ _ _ _ _ _ _ _ (by decide) (by decide)) (by decide)]
    exact hevent _
  · exact hevent _

theorem mm_endPending (d : Dev) (st : Status) (frm : Mode) : (endPending d st frm).mm = { d.mm with pend := none } := by
  unfold endPending
  split
  next h => rw [← h]
  next => exact mm_of_mask (qs := [.jr, .int, .mp, .out, .fretOut]) (Laws.mask_finishNow _ _ _ _ _ (by decide) (by decide) (by decide) (by decide) (by decide)) (by decide)

/-! ### Entry to a mode (R39, R55) -/

theorem leaveReplay_of_other {d : Dev} (h : d.mm.mode ≠ .replay) (m : Mode) : leaveReplay d m = d := by
  rw [leaveReplay, if_pos]
  simp [h]

/-- The device in the mode entered, before what the mode itself attaches. -/
def inMode (d : Dev) (m : Mode) (c : Cause) (detail : Nat) (rec' : Bool) : Dev :=
  let e := linksMode d (noteMode d m c detail rec') d.mm.mode m
  if m == .ride || d.mm.mode == .ride then recomputePin e else e

theorem mm_inMode (d : Dev) (m : Mode) (c : Cause) (detail : Nat) (rec' : Bool) : (inMode d m c detail rec').mm = enteredMm d m c detail := by
  have hlinks : (linksMode d (noteMode d m c detail rec') d.mm.mode m).mm = enteredMm d m c detail :=
    (mm_of_mask (qs := [.lk]) (mask_linksMode _ _ _ _ _ (by decide)) (by decide)).trans (mm_noteMode _ _ _ _ _)
  unfold inMode
  dsimp only
  split
  · exact (mm_of_mask (qs := [.fb]) (Laws.mask_recomputePin _ _ (by decide)) (by decide)).trans hlinks
  · exact hlinks

/-- Parts of every mode change with its links and its input power. -/
def inModeParts : List Part := [.mm, .fb, .lk, .int, .rcd, .flt, .out, .fretOut]

theorem mask_inMode (qs : List Part) (d : Dev) (m : Mode) (c : Cause) (detail : Nat) (rec' : Bool) (h : ∀ p ∈ inModeParts, p ∈ qs) (hotp : Part.otp ∈ qs ∨ d.mm.mode ≠ .config) :
    Laws.mask qs (inMode d m c detail rec') = Laws.mask qs d := by
  have hnote : ∀ p ∈ noteParts, p ∈ qs := fun p hp => h p (by revert hp; revert p; decide)
  have hlinks := (mask_linksMode qs d (noteMode d m c detail rec') d.mm.mode m (h .lk (by decide))).trans (mask_noteMode qs d m c detail rec' hnote hotp)
  unfold inMode
  dsimp only
  split
  · rw [Laws.mask_recomputePin _ _ (h .fb (by decide)), hlinks]
  · exact hlinks

/-- Parts of an entry to SAFE or DRONE. -/
def safeParts : List Part := [.mm, .cfg, .jr, .fb, .str, .ph, .lk, .chg, .flt, .int, .rcd, .cap, .mp, .out, .fretOut]

section
variable {d : Dev} (h : d.mm.mode ≠ .replay) (c : Cause) (detail : Nat) (rec' : Bool)
include h

theorem enterModeWith_safe :
    enterModeWith d .safe c detail rec' = endAllTimed (chargerMode (allSafe (endPending (inMode d .safe c detail rec') .abortedSafe d.mm.mode) false) d.mm.mode .safe) .abortedSafe := by
  rw [enterModeWith, leaveReplay_of_other h]
  rfl

theorem enterModeWith_drone :
    enterModeWith d .drone c detail rec' =
      if (inMode d .drone c detail rec').pwr.ctlLost then lostDrone (chargerMode (inMode d .drone c detail rec') d.mm.mode .drone)
      else dropDischarges (droneAllot (endAllTimed (chargerMode (allSafe (endPending (inMode d .drone c detail rec') .abortedSafe d.mm.mode) true) d.mm.mode .drone) .abortedSafe)) := by
  rw [enterModeWith, leaveReplay_of_other h]
  rfl

/-- Modes whose entry attaches nothing but the charger's part. -/
theorem enterModeWith_plain {m : Mode} (hm : m = .config ∨ m = .run ∨ m = .hold ∨ m = .replay) :
    enterModeWith d m c detail rec' = chargerMode (inMode d m c detail rec') d.mm.mode m := by
  rcases hm with rfl | rfl | rfl | rfl
  all_goals
    unfold enterModeWith
    rw [leaveReplay_of_other h]
    rfl

theorem enterModeWith_shutdown :
    enterModeWith d .shutdown c detail rec' =
      (let e := preemptAccepted (endAllTimed (chargerMode (endPending (inMode d .shutdown c detail rec') .preempted d.mm.mode) d.mm.mode .shutdown) .preempted)
       { e with rcd := { e.rcd with want := true } }) := by
  rw [enterModeWith, leaveReplay_of_other h]
  rfl

theorem enterModeWith_boot :
    enterModeWith d .boot c detail rec' = setHrst (inMode d .boot c detail rec') (fun p => { p with hrstMode := true }) := by
  rw [enterModeWith, leaveReplay_of_other h]
  rfl

theorem enterModeWith_ride :
    enterModeWith d .ride c detail rec' =
      (let e := inMode d .ride c detail rec'
       chargerMode { e with mm := { e.mm with rideFret := some (e.clk.fret + 2), rideDue := none } } d.mm.mode .ride) := by
  rw [enterModeWith, leaveReplay_of_other h]
  rfl

theorem mask_enterModeWith_safe (qs : List Part) (hqs : ∀ p ∈ safeParts, p ∈ qs) (hotp : Part.otp ∈ qs ∨ d.mm.mode ≠ .config) :
    Laws.mask qs (enterModeWith d .safe c detail rec') = Laws.mask qs d := by
  have hin : ∀ p ∈ inModeParts, p ∈ qs := fun p hp => hqs p (by revert hp; revert p; decide)
  have hcharger : ∀ p ∈ chargerParts, p ∈ qs := fun p hp => hqs p (by revert hp; revert p; decide)
  rw [enterModeWith_safe h, Laws.mask_endAllTimed _ _ _ (hqs _ (by decide)) (hqs _ (by decide)) (hqs _ (by decide)) (hqs _ (by decide)) (hqs _ (by decide)) (hqs _ (by decide)) (hqs _ (by decide)) (hqs _ (by decide)) (hqs _ (by decide)),
    mask_chargerMode _ _ hcharger _ (by decide),
    Laws.mask_allSafe _ _ _ (hqs _ (by decide)) (hqs _ (by decide)) (hqs _ (by decide)) (hqs _ (by decide)) (hqs _ (by decide)) (hqs _ (by decide)),
    Laws.mask_endPending _ _ _ _ (hqs _ (by decide)) (hqs _ (by decide)) (hqs _ (by decide)) (hqs _ (by decide)) (hqs _ (by decide)) (hqs _ (by decide)),
    mask_inMode _ _ _ _ _ _ hin hotp]

/-- The mode machine behind an entry to SAFE: a transition that waited is gone (R55, R59). -/
theorem mm_enterModeWith_safe : (enterModeWith d .safe c detail rec').mm = { enteredMm d .safe c detail with pend := none } := by
  have htimed : ∀ e : Dev, (endAllTimed e .abortedSafe).mm = e.mm := fun e =>
    mm_of_mask (qs := [.cfg, .jr, .fb, .str, .int, .cap, .mp, .out, .fretOut]) (Laws.mask_endAllTimed _ _ _ (by decide) (by decide) (by decide) (by decide) (by decide) (by decide) (by decide) (by decide) (by decide)) (by decide)
  have hcharger : ∀ (e : Dev) frm, (chargerMode e frm .safe).mm = e.mm := fun e frm => mm_of_mask (qs := chargerParts) (mask_chargerMode _ _ (fun _ h => h) _ (by decide)) (by decide)
  have hsafe : ∀ (e : Dev) k, (allSafe e k).mm = e.mm := fun e k =>
    mm_of_mask (qs := [.fb, .str, .ph, .flt, .int, .rcd]) (Laws.mask_allSafe _ _ _ (by decide) (by decide) (by decide) (by decide) (by decide) (by decide)) (by decide)
  rw [enterModeWith_safe h, htimed, hcharger, hsafe, mm_endPending, mm_inMode]

/-- The mode machine behind an entry to CONFIG, RUN, HOLD or REPLAY (R59). -/
theorem mm_enterModeWith_plain {m : Mode} (hm : m = .config ∨ m = .run ∨ m = .hold ∨ m = .replay) : (enterModeWith d m c detail rec').mm = enteredMm d m c detail := by
  have hride : m ≠ .ride := by rcases hm with rfl | rfl | rfl | rfl <;> decide
  rw [enterModeWith_plain h c detail rec' hm, mm_of_mask (qs := chargerParts) (mask_chargerMode _ _ (fun _ h => h) _ hride) (by decide), mm_inMode]

theorem mask_enterModeWith_plain {m : Mode} (hm : m = .config ∨ m = .run ∨ m = .hold ∨ m = .replay) (qs : List Part) (hqs : ∀ p ∈ inModeParts ++ chargerParts, p ∈ qs)
    (hotp : Part.otp ∈ qs ∨ d.mm.mode ≠ .config) : Laws.mask qs (enterModeWith d m c detail rec') = Laws.mask qs d := by
  have hride : m ≠ .ride := by rcases hm with rfl | rfl | rfl | rfl <;> decide
  rw [enterModeWith_plain h c detail rec' hm, mask_chargerMode _ _ (fun p hp => hqs p (List.mem_append_right _ hp)) _ hride,
    mask_inMode _ _ _ _ _ _ (fun p hp => hqs p (List.mem_append_left _ hp)) hotp]

end

end Sys2Proof.Machine
end

section
/-!
SETTLEMENT. A mode request that a search names as its own.
-/
namespace Sys2Proof.Machine
open Sys2Proof.Safety

/-! ### The device behind a step -/

theorem dev_of_next {s t : State} {d : Dev} (h : (Host.Outcome.next t : Host.Outcome State Fault Refusal) = next s d) : t.dev = settle d := by
  rw [Host.Outcome.next.inj h, withDev_dev]

theorem dev_of_modeTakesEffect {s t : State} (h : exec .modeTakesEffect s = .next t) : t.dev = settle (modeEffect s.repIn s.dev) := by
  rw [← Host.Outcome.next.inj (h : execModeTakesEffect s = .next t)]
  split
  · exact withDev_dev _ _
  · exact withDev_dev _ _

/-- The journal reads alike before and after what follows a command. -/
theorem entryOf_settle (d : Dev) (e : Nat) : entryOf (settle d) e = entryOf d e := entryOf_congr (settle_jr d) e

/-! ### MODE_TAKES_EFFECT with a search that names the request -/

/-- A MODE request of ring 0 for RUN. -/
def runRequest : Entry := { idx := 1, ring := 0, slot := 0, seq := 1, bind := 0, image := 5#512 }

/-- A device in ARMED at a boundary whose request for RUN is also the one that the charger's search reports to. -/
def searchedRequest : Dev :=
  let d := State.reset.dev
  { d with
    mm := { d.mm with mode := .armed, pend := some { entry := 1, target := .run, atFret := 0 } }
    jr := { d.jr with primary := [runRequest] }
    chg := { d.chg with search := some { start := 0, entries := [1] } } }

/-- The state around it. -/
def searchedState : State := { State.reset with dev := searchedRequest }

/-- The entry to RUN ends the search first, and its PARTIAL completion is then the request's only one (R283). -/
theorem searchedRequest_partial :
    ((entryOf (modeEffect searchedState.repIn searchedState.dev) 1).map fun y => y.cpls.getLast?.map fun c => c.status) = some (some .partialDone) := by decide +kernel

/-- Refutes O27: the clause on RUN and HOLD asks for an OK completion of the request, which a search that holds the request among its entries has
completed PARTIAL as the mode changed. -/
theorem not_modeDescriptorsAct : ¬ Obligations.ModeDescriptorsAct := by
  unfold Obligations.ModeDescriptorsAct
  intro h
  obtain ⟨-, henter⟩ := h
  obtain ⟨-, hboundary⟩ := henter searchedState 1 runRequest
  obtain ⟨d, hexec, -, -, -, -, -, ⟨y, hy, -, hlast⟩, -⟩ := hboundary .armed .run { entry := 1, target := .run, atFret := 0 }
    rfl rfl rfl (by decide +kernel) (by decide +kernel) rfl (.inl ⟨rfl, rfl⟩) (Nat.zero_le _) rfl rfl rfl (by decide +kernel) (by decide +kernel)
  have hdev : settle d = settle (modeEffect searchedState.repIn searchedState.dev) := by rw [← dev_of_modeTakesEffect hexec, withDev_dev]
  have hentry : entryOf (modeEffect searchedState.repIn searchedState.dev) 1 = some y := by rw [← entryOf_settle, ← hdev, entryOf_settle, hy]
  have hpartial := searchedRequest_partial
  rw [hentry, Option.map_some, hlast] at hpartial
  exact absurd hpartial (by decide)

/-! ### PROFILE_POINT (R89, R178) -/

theorem strU_updStr_stands {γ : Type} (p : StringUnit → γ) (d : Dev) (j k : Nat) (f : StringUnit → StringUnit) (hp : ∀ u, p (f u) = p u) :
    p (strU (updStr d j f) k) = p (strU d k) := by
  by_cases hk : k = j
  · subst hk
    by_cases hlen : k < d.str.length
    · rw [strU_updStr_same _ _ _ hlen, hp]
    · rw [updStr, upd, List.modify_eq_self (Nat.le_of_not_lt hlen)]
  · rw [strU_updStr_other _ _ _ _ hk]

theorem str_finishNow (d : Dev) (e : Nat) (st : Status) (detail : Nat) : (finishNow d e st detail).str = d.str :=
  (Laws.keeps_of_mask [.jr, .int, .mp, .out, .fretOut] d _ (Laws.mask_finishNow _ _ _ _ _ (by decide) (by decide) (by decide) (by decide) (by decide)) .str (by decide)).symm

theorem strU_finishNow (d : Dev) (e : Nat) (st : Status) (detail k : Nat) : strU (finishNow d e st detail) k = strU d k := by rw [strU, str_finishNow, strU]

/-- A running PROFILE whose fret has not been taken, and before which nothing is due, is stepped (R89). -/
theorem profilePoint_of_running {d : Dev} {k : Nat} {p : Prof} (hsched : powered d .sched = true) (hlost : d.pwr.ctlLost = false) (htick : d.clk.tickInFret = 0)
    (hprof : (strU d k).prof = some p) (hdone : p.done ≠ d.clk.fret + 1) (hset : dueSetpoints d k = []) (hpro : duePro d k = []) : profilePoint d k = stepProfile d k p := by
  simp [profilePoint, hsched, hlost, htick, hset, hpro, hprof, hdone]

/-- The PROFILE's entry, marked where its string lags behind a point (R178). -/
def markLimited (d : Dev) (k : Nat) (p : Prof) : Dev :=
  match p.points.findIdx? (fun q => decide (p.start + q.1 = d.clk.fret)) with
  | some j => if (strU d k).st.enabled && (strU d k).vRamp != 1000 * (strU d k).vCmd && j != 0 then updEntry d p.entry (fun x => { x with limited := some (x.limited.getD j) }) else d
  | none => d

theorem str_markLimited (d : Dev) (k : Nat) (p : Prof) : (markLimited d k p).str = d.str := by
  unfold markLimited
  split
  · split <;> rfl
  · rfl

/-- The string with its fret's voltage (R89). -/
def pointString (d : Dev) (k : Nat) (p : Prof) : Dev :=
  updStr (setTarget (markLimited d k p) k (profVolts p.start d.clk.fret p.points)) k (fun u => { u with prof := some { p with done := d.clk.fret + 1 } })

theorem stepProfile_cases (d : Dev) (k : Nat) (p : Prof) :
    stepProfile d k p = pointString d k p ∨
      ∃ st detail, stepProfile d k p = finishNow (updStr (pointString d k p) k (fun u => { u with prof := none })) p.entry st detail := by
  by_cases hlast : d.clk.fret < (match p.points.getLast? with | some q => p.start + q.1 | none => p.start)
  · exact .inl (if_pos hlast)
  · exact .inr ⟨_, _, if_neg hlast⟩

/-- The step of a PROFILE gives its string its line's voltage (R89, R178). -/
theorem vCmd_stepProfile {d : Dev} {k : Nat} (p : Prof) (hk : k < d.str.length) : (strU (stepProfile d k p) k).vCmd = profVolts p.start d.clk.fret p.points := by
  have hpoint : (strU (pointString d k p) k).vCmd = profVolts p.start d.clk.fret p.points := by
    refine (strU_updStr_stands (·.vCmd) _ _ _ _ fun u => ?_).trans ?_
    · rfl
    · rw [setTarget, strU_updStr_same _ _ _ (by rw [str_markLimited]; exact hk)]
  rcases stepProfile_cases d k p with h | ⟨st, detail, h⟩
  · rw [h, hpoint]
  · rw [h, strU_finishNow]
    refine (strU_updStr_stands (·.vCmd) _ _ _ _ fun u => ?_).trans hpoint
    rfl

/-! ### SETPOINT_EFFECT (R90, R194) -/

theorem overtaken_congr {d e : Dev} (hclk : e.clk = d.clk) (hjr : e.jr = d.jr) (by' : Option (Nat × Option Nat)) (x : Option Nat) : overtaken e by' x = overtaken d by' x := by
  have hbefore : ∀ a, before e a = before d a := fun a => by rw [before, entries, hjr, before, entries]
  simp only [overtaken, hclk, hbefore]

/-- The string behind a SETPOINT's effect, with no PROFILE running (R90, R194). -/
def setpointString (d : Dev) (x : Entry) (u : StringUnit) : StringUnit :=
  let volts := spSel x.image % 2 = 1
  let idles := spSel x.image / 2 % 2 = 1 ∧ overtaken d u.idleBy (some x.idx) = false
  let slews := spSel x.image / 4 = 1 ∧ overtaken d u.slewBy (some x.idx) = false
  { u with
    vCmd := if volts then spVolts x.image else u.vCmd,
    allot := if volts then { u.allot with vTarget := spVolts x.image } else u.allot,
    idle := if idles then spIdle x.image else u.idle, idleBy := if idles then some (d.clk.tick, some x.idx) else u.idleBy,
    slew := if slews then spSlew x.image else u.slew, slewBy := if slews then some (d.clk.tick, some x.idx) else u.slewBy }

theorem supersede_of_none {d : Dev} {k : Nat} (h : (strU d k).prof = none) : supersede d k = d := by rw [supersede, h]

/-- Of the device only one string may differ, and it is given. -/
structure OneString (k : Nat) (d e : Dev) (u : StringUnit) : Prop where
  same : strU e k = u
  other : ∀ j, j ≠ k → strU e j = strU d j
  length : e.str.length = d.str.length
  rest : e = { d with str := e.str }

theorem OneString.refl (d : Dev) (k : Nat) : OneString k d d (strU d k) := ⟨rfl, fun _ _ => rfl, rfl, rfl⟩

theorem OneString.update {k : Nat} {d e : Dev} {u : StringUnit} (h : OneString k d e u) (hk : k < d.str.length) (f : StringUnit → StringUnit) : OneString k d (updStr e k f) (f u) :=
  ⟨by rw [strU_updStr_same _ _ _ (by rw [h.length]; exact hk), h.same], fun j hj => by rw [strU_updStr_other _ _ _ _ hj, h.other j hj],
    (upd_length _ _ _).trans h.length, by rw [h.rest]; rfl⟩

theorem OneString.overtaken {k : Nat} {d e : Dev} {u : StringUnit} (h : OneString k d e u) (by' : Option (Nat × Option Nat)) (x : Option Nat) :
    Machine.overtaken e by' x = Machine.overtaken d by' x := overtaken_congr (by rw [h.rest]) (by rw [h.rest]) by' x

theorem OneString.clk {k : Nat} {d e : Dev} {u : StringUnit} (h : OneString k d e u) : e.clk = d.clk := by rw [h.rest]

theorem OneString.setVoltsIf {k : Nat} {d : Dev} (c : Prop) [Decidable c] (hprof : (strU d k).prof = none) (hk : k < d.str.length) (v : Nat) :
    OneString k d (if c then setTarget (supersede d k) k v else d)
      { strU d k with vCmd := if c then v else (strU d k).vCmd, allot := if c then { (strU d k).allot with vTarget := v } else (strU d k).allot } := by
  split
  · rw [supersede_of_none hprof]
    exact (OneString.refl d k).update hk _
  · exact .refl d k

theorem OneString.setIdleIf {k : Nat} {d e : Dev} {u : StringUnit} (h : OneString k d e u) (hk : k < d.str.length) (c : Prop) [Decidable c] (x : Option Nat) (v : Nat) :
    OneString k d (if c then setIdle e k x v else e)
      { u with idle := if c ∧ Machine.overtaken d u.idleBy x = false then v else u.idle, idleBy := if c ∧ Machine.overtaken d u.idleBy x = false then some (d.clk.tick, x) else u.idleBy } := by
  by_cases hc : c
  · rw [if_pos hc, setIdle, h.same, h.overtaken]
    cases hover : Machine.overtaken d u.idleBy x with
    | true => simpa using h
    | false => simpa [hc, h.clk] using h.update hk _
  · simpa [hc] using h

theorem OneString.setSlewIf {k : Nat} {d e : Dev} {u : StringUnit} (h : OneString k d e u) (hk : k < d.str.length) (c : Prop) [Decidable c] (x : Option Nat) (v : Nat) :
    OneString k d (if c then setSlew e k x v else e)
      { u with slew := if c ∧ Machine.overtaken d u.slewBy x = false then v else u.slew, slewBy := if c ∧ Machine.overtaken d u.slewBy x = false then some (d.clk.tick, x) else u.slewBy } := by
  by_cases hc : c
  · rw [if_pos hc, setSlew, h.same, h.overtaken]
    cases hover : Machine.overtaken d u.slewBy x with
    | true => simpa using h
    | false => simpa [hc, h.clk] using h.update hk _
  · simpa [hc] using h

/-- The selected values of a SETPOINT, one after the other (R90, R178). -/
theorem oneString_applySetpoint {d : Dev} (x : Entry) (hprof : (strU d (spString x.image)).prof = none) (hk : spString x.image < d.str.length) :
    OneString (spString x.image) d (applySetpoint d x) (setpointString d x (strU d (spString x.image))) :=
  ((OneString.setVoltsIf _ hprof hk _).setIdleIf hk _ _ _).setSlewIf hk _ _ _

/-- A SETPOINT whose fret has come, behind nothing that is due on its string, takes effect and completes (R90). -/
theorem setpointEffect_of_due {d : Dev} {x : Entry} (hx : entryOf d x.idx = some x) (hst : x.st = .scheduled) (hrestored : x.restored = false)
    (hclass : classOf x.image = .setpoint) (hfret : spFret x.image ≤ d.clk.fret) (htick : d.clk.tickInFret = 0) (hlost : d.pwr.ctlLost = false)
    (hfirst : ∀ y ∈ before d x.idx, ∀ z ∈ dueSetpoints d (spString x.image) ++ duePro d (spString x.image), z.idx ≠ y.idx) :
    setpointEffect d x.idx = finishNow (applySetpoint d x) x.idx .ok 0 := by
  have hnone : ((before d x.idx).any fun y => (dueSetpoints d (spString x.image)).any (fun z => z.idx == y.idx) || (duePro d (spString x.image)).any (fun z => z.idx == y.idx)) = false := by
    rw [List.any_eq_false]
    intro y hy hdue
    rw [Bool.or_eq_true, List.any_eq_true, List.any_eq_true] at hdue
    rcases hdue with ⟨z, hz, hzy⟩ | ⟨z, hz, hzy⟩
    · exact hfirst y hy z (List.mem_append_left _ hz) (beq_iff_eq.1 hzy)
    · exact hfirst y hy z (List.mem_append_right _ hz) (beq_iff_eq.1 hzy)
  simp [setpointEffect, hx, hst, hrestored, hclass, Nat.not_lt.2 hfret, htick, hlost, hnone, done]

/-- Settles O28: the step of a PROFILE, the three values of a SETPOINT, and the one reservation that ends. -/
theorem timedWorkTakesEffect : Obligations.TimedWorkTakesEffect := by
  unfold Obligations.TimedWorkTakesEffect
  refine ⟨fun s k p hsched hlost htick hprof hdone hset hpro => ⟨congrArg (next s) (profilePoint_of_running hsched hlost htick hprof hdone hset hpro), vCmd_stepProfile p⟩,
    fun s e x hx hst hrestored hclass hfret htick hlost hfirst hprof hk => ?_, fun s e r hlost hresv hentry hlive hstop => ?_⟩
  · obtain rfl := idx_of_entryOf hx
    intro u volts idles slews
    have hone := oneString_applySetpoint x hprof hk
    refine ⟨_, congrArg (next s) (setpointEffect_of_due hx hst hrestored hclass hfret htick hlost hfirst), ?_, fun j hj => ?_, Laws.keeps_of_mask _ _ _ ?_⟩
    · rw [strU_finishNow, hone.same]; rfl
    · rw [strU_finishNow, hone.other j hj]
    · rw [Laws.mask_finishNow _ _ _ _ _ (by decide) (by decide) (by decide) (by decide) (by decide), Laws.mask_applySetpoint _ _ _ (by decide) (by decide) (by decide) (by decide) (by decide) (by decide)]
  · have hend : timedEnd s.dev e = endAtFret s.dev r := by simp [timedEnd, hlost, hresv, hentry, hlive, hstop]
    exact congrArg (next s) hend

end Sys2Proof.Machine
end

section
/-!
SUPPORT and SETTLEMENT. The fingerboard: the build and the swap of a re-plan, the overdraw clamp and the ride fret.
-/
namespace Sys2Proof.Machine
open Sys2Proof.Safety

theorem fb_of_mask {qs : List Part} {d e : Dev} (h : Laws.mask qs e = Laws.mask qs d) (hfb : Part.fb ∉ qs) : e.fb = d.fb :=
  (Laws.keeps_of_mask qs d e h .fb hfb).symm

/-- Parts that a completion touches. -/
def finishParts : List Part := [.jr, .int, .mp, .out, .fretOut]

theorem mask_finishWith_parts (d : Dev) (e : Nat) (st : Status) (effect detail : Nat) (f : Cpl → Cpl) :
    Laws.mask finishParts (finishWith d e st effect detail f) = Laws.mask finishParts d :=
  Laws.mask_finishWith _ _ _ _ _ _ _ (by decide) (by decide) (by decide) (by decide) (by decide)

theorem fb_finishWith (d : Dev) (e : Nat) (st : Status) (effect detail : Nat) (f : Cpl → Cpl) : (finishWith d e st effect detail f).fb = d.fb :=
  fb_of_mask (mask_finishWith_parts d e st effect detail f) (by decide)

/-! ### The banks -/

theorem liveBank_setShadow (d : Dev) (b : Bank) : liveBank (setShadow d b) = liveBank d := by
  unfold setShadow liveBank
  cases h : d.fb.liveB <;> simp [h]

theorem shadowBank_setShadow (d : Dev) (b : Bank) : shadowBank (setShadow d b) = b := by
  unfold setShadow shadowBank
  cases h : d.fb.liveB <;> simp [h]

/-- The fingerboard but for its two banks. -/
def sansBanks (f : Fingerboard) : Fingerboard := { f with bankA := [], bankB := [] }

theorem sansBanks_setShadow (d : Dev) (b : Bank) : sansBanks (setShadow d b).fb = sansBanks d.fb := by
  unfold setShadow
  split <;> rfl

theorem sansBanks_setLive (d : Dev) (b : Bank) : sansBanks (setLive d b).fb = sansBanks d.fb := by
  unfold setLive
  split <;> rfl

theorem liveBank_congr {d e : Dev} (h : e.fb = d.fb) : liveBank e = liveBank d := by rw [liveBank, h, liveBank]
theorem shadowBank_congr {d e : Dev} (h : e.fb = d.fb) : shadowBank e = shadowBank d := by rw [shadowBank, h, shadowBank]

/-! ### REPLAN_BUILD_DONE (R156, R157) -/

/-- The shadow predicted again, and the re-plan ready (R157). -/
def readyReplan (e : Dev) (x : Entry) : Dev :=
  let e := setShadow e (writePred (shadowBank e) (predict e (modelOf e) (shadowBank e)))
  schedule { e with fb := { e.fb with replan := e.fb.replan.map (fun q => { q with ready := true, st := if q.retrying then 4 else 2 }) } } x (endOf x)

theorem buildDone_of_noAdds {d : Dev} {p : Replan} {x : Entry} (hp : d.fb.replan = some p) (hready : p.ready = false) (hlost : d.pwr.ctlLost = false)
    (hx : entryOf d p.entry = some x) (hadds : x.adds = []) : buildDone d = readyReplan (copyShadow d p x) x := by
  simp [buildDone, hp, hready, hlost, hx, hadds, buildAdds, readyReplan]

theorem liveBank_copyShadow (d : Dev) (p : Replan) (x : Entry) : liveBank (copyShadow d p x) = liveBank d := liveBank_setShadow _ _

theorem replan_copyShadow (d : Dev) (p : Replan) (x : Entry) : ∃ l, (copyShadow d p x).fb.replan = some { p with removed := l } := ⟨_, rfl⟩

theorem mask_copyShadow (qs : List Part) (d : Dev) (p : Replan) (x : Entry) (hfb : Part.fb ∈ qs) : Laws.mask qs (copyShadow d p x) = Laws.mask qs d := by
  unfold copyShadow
  dsimp only
  rw [Laws.mask_fb _ _ _ hfb, Laws.mask_setShadow _ _ _ hfb]

theorem liveBank_readyReplan (e : Dev) (x : Entry) : liveBank (readyReplan e x) = liveBank e := liveBank_setShadow _ _

theorem replan_readyReplan (e : Dev) (x : Entry) : (readyReplan e x).fb.replan = e.fb.replan.map (fun q => { q with ready := true, st := if q.retrying then 4 else 2 }) := by
  have hreplan : ∀ b, (setShadow e b).fb.replan = e.fb.replan := fun b => (congrArg (·.replan) (sansBanks_setShadow e b) :)
  unfold readyReplan
  dsimp only
  rw [← hreplan (writePred (shadowBank e) (predict e (modelOf e) (shadowBank e)))]
  rfl

theorem mask_readyReplan (qs : List Part) (e : Dev) (x : Entry) (hfb : Part.fb ∈ qs) (hjr : Part.jr ∈ qs) : Laws.mask qs (readyReplan e x) = Laws.mask qs e := by
  unfold readyReplan
  dsimp only
  rw [Laws.mask_schedule _ _ _ _ hjr, Laws.mask_fb _ _ _ hfb, Laws.mask_setShadow _ _ _ hfb]

/-! ### DECISION_POINT and BANK_SWAP (R158, R159, R161) -/

/-- The fingerboard but for the list of reservations and the admission counts. -/
def sansResv (f : Fingerboard) : Fingerboard := { f with resv := [], admitted := 0, precharge := 0 }

/-- A reservation that ends leaves the list, and the rest of the fingerboard stands. -/
theorem fb_endResv (d : Dev) (r : Resv) (st : Status) (effect : Nat) (replaced : Bool) :
    (endResv d r st effect replaced).fb = { d.fb with resv := d.fb.resv.filter (fun q => !sameKey r q) } := by
  refine fb_of_mask (qs := finishParts) (d := { d with fb := { d.fb with resv := d.fb.resv.filter (fun q => !sameKey r q) } }) ?_ (by decide)
  unfold endResv
  dsimp only
  generalize { d with fb := { d.fb with resv := d.fb.resv.filter (fun q => !sameKey r q) } } = e
  have hmark : ∀ i, Laws.mask finishParts (if st = .ok then e else updEntry e r.entry (fun x => { x with addResults := x.addResults ++ [(i, st)] })) = Laws.mask finishParts e := fun i => by
    split
    · rfl
    · exact Laws.mask_updEntry _ _ _ _ (by decide)
  cases r.add with
  | none => exact mask_finishWith_parts _ _ _ _ _ _
  | some i =>
    dsimp only
    refine Eq.trans ?_ (hmark i)
    generalize (if st = .ok then e else updEntry e r.entry (fun x => { x with addResults := x.addResults ++ [(i, st)] })) = f
    generalize (f.fb.resv.any (fun q => q.entry == r.entry) || _) = c
    split
    · rfl
    · split
      · rfl
      · exact mask_finishWith_parts _ _ _ _ _ _

theorem sansResv_reportSwap (d : Dev) (p : Replan) (n : Nat) : sansResv (reportSwap d p n).fb = sansResv d.fb := by
  unfold reportSwap
  dsimp only
  by_cases hadds : p.nAdded = 0
  · rw [if_pos hadds, fb_finishWith]; rfl
  · rw [if_neg hadds]
    generalize hadmission : admission _ _ _ _ _ _ _ = e
    have he : sansResv e.fb = sansResv d.fb := by rw [← hadmission, fb_admission]; rfl
    split
    · exact he
    · split
      · exact he
      · rw [fb_finishWith, he]

/-- The banks change places, and the shadow is written from the live one (R132, R161). -/
def turnBanks (d : Dev) (p : Replan) : Dev :=
  let rs := d.fb.resv.map (fun r => { r with inLive := r.inLive || r.entry == p.entry, inShadow := true, shadowFrom := 0 })
  mirror { d with fb := { d.fb with liveB := !d.fb.liveB, swaps := d.fb.swaps + 1, planLive := d.fb.planShadow, replan := none, resv := rs } }

theorem sansResv_swapBanks (d : Dev) (p : Replan) : sansResv (swapBanks d p).fb = sansResv (turnBanks d p).fb := by
  unfold swapBanks
  dsimp only
  refine (sansResv_reportSwap _ _ _).trans ?_
  refine (proj_foldl (fun d => sansResv d.fb) _ (fun d r => ?_) _ _).trans ?_
  · rw [fb_endResv]; rfl
  · rfl

theorem turnBanks_eq (d : Dev) (p : Replan) :
    (turnBanks d p).fb.liveB = !d.fb.liveB ∧ (turnBanks d p).fb.swaps = d.fb.swaps + 1 ∧ (turnBanks d p).fb.replan = none ∧
      (turnBanks d p).fb.planLive = d.fb.planShadow ∧ liveBank (turnBanks d p) = shadowBank d ∧ shadowBank (turnBanks d p) = shadowBank d := by
  unfold turnBanks mirror setShadow liveBank shadowBank
  cases h : d.fb.liveB <;> simp

/-- Settles O30: each of the four commands by its guards, and the swap by what no ended reservation touches. -/
theorem replanSwapsBanks : Obligations.ReplanSwapsBanks := by
  unfold Obligations.ReplanSwapsBanks
  intro s p hp hlost
  refine ⟨fun x hx hadds hready => ?_, fun htick hst hready hfret => congrArg (next s) ?_, fun htick hst hfret hmiss => congrArg (next s) ?_, fun htick hst hfret => ?_⟩
  · obtain ⟨l, hl⟩ := replan_copyShadow s.dev p x
    refine ⟨_, { p with removed := l, ready := true, st := if p.retrying then 4 else 2 }, congrArg (next s) (buildDone_of_noAdds hp hready hlost hx hadds), ?_, rfl, rfl, rfl, rfl, ?_,
      Laws.keeps_of_mask _ _ _ ?_⟩
    · rw [replan_readyReplan, hl, Option.map_some]
    · rw [liveBank_readyReplan, liveBank_copyShadow]
    · rw [mask_readyReplan _ _ _ (by decide) (by decide), mask_copyShadow _ _ _ _ (by decide)]
  · have hahead : ¬ s.dev.clk.fret + 2 < p.switch := by omega
    simp [decisionPoint, hp, htick, hlost, hst, hready, hfret]
  · have hahead : ¬ s.dev.clk.fret + 2 < p.switch := by omega
    have hnot : (p.ready && decide (s.dev.clk.fret + 2 = p.switch)) = false := by
      rcases hmiss with h | h
      · rw [h, Bool.false_and]
      · rw [decide_eq_false (by omega), Bool.and_false]
    simp [decisionPoint, hp, htick, hlost, hst, hahead, hnot]
  · have hswap : bankSwap s.dev = swapBanks s.dev p := by simp [bankSwap, hp, hst, htick, hlost, Nat.not_lt.2 hfret]
    obtain ⟨hlive, hswaps, hreplan, hplan, hliveBank, hshadowBank⟩ := turnBanks_eq s.dev p
    have hfb := sansResv_swapBanks s.dev p
    have hb : (swapBanks s.dev p).fb.liveB = (turnBanks s.dev p).fb.liveB := (congrArg (·.liveB) hfb :)
    have hA : (swapBanks s.dev p).fb.bankA = (turnBanks s.dev p).fb.bankA := (congrArg (·.bankA) hfb :)
    have hB : (swapBanks s.dev p).fb.bankB = (turnBanks s.dev p).fb.bankB := (congrArg (·.bankB) hfb :)
    refine ⟨_, congrArg (next s) hswap, hb.trans hlive, (congrArg (·.swaps) hfb :).trans hswaps, (congrArg (·.replan) hfb :).trans hreplan, (congrArg (·.planLive) hfb :).trans hplan, ?_, ?_,
      Laws.keeps_of_mask _ _ _ (Laws.mask_swapBanks _ _ _ (by decide) (by decide) (by decide) (by decide) (by decide) (by decide))⟩
    · rw [liveBank, hb, hA, hB, ← liveBank, hliveBank]
    · rw [shadowBank, hb, hA, hB, ← shadowBank, hshadowBank]

/-! ### OVERDRAW_CLAMP (R151, R152) -/

theorem str_of_mask {qs : List Part} {d e : Dev} (h : Laws.mask qs e = Laws.mask qs d) (hstr : Part.str ∉ qs) : e.str = d.str :=
  (Laws.keeps_of_mask qs d e h .str hstr).symm

theorem fb_setFbEvent (d : Dev) (b : Nat) : (setFbEvent d b).fb = { d.fb with event := withBit d.fb.event b } := by
  unfold setFbEvent
  rw [occur_fb]

theorem strU_setFbEvent (d : Dev) (b j : Nat) : strU (setFbEvent d b) j = strU d j := by
  unfold setFbEvent strU
  rw [occur_str]

theorem strU_record (d : Dev) (code source : Nat) (mark : Bool) (p0 p1 p2 p3 j : Nat) : strU (record d code source mark p0 p1 p2 p3) j = strU d j := by
  have hstr := str_of_mask (qs := [.int, .rcd]) (Laws.mask_record _ d code source mark p0 p1 p2 p3 (by decide) (by decide)) (by decide)
  rw [strU, hstr, strU]

theorem fb_record (d : Dev) (code source : Nat) (mark : Bool) (p0 p1 p2 p3 : Nat) : (record d code source mark p0 p1 p2 p3).fb = d.fb :=
  fb_of_mask (qs := [.int, .rcd]) (Laws.mask_record _ d code source mark p0 p1 p2 p3 (by decide) (by decide)) (by decide)

/-- The note of an overdraw stands beside the string's clamp (R152). -/
theorem strU_noteOverdraw {γ : Type} (p : StringUnit → γ) (hp : ∀ u x, p { u with lastOver := x } = p u) (d : Dev) (k j : Nat) : p (strU (noteOverdraw d k) j) = p (strU d j) := by
  unfold noteOverdraw
  dsimp only
  split
  · rw [strU_setFbEvent]; rfl
  · rw [strU_record]
    refine (strU_updStr_stands p _ _ _ _ fun u => hp u _).trans ?_
    rw [strU_setFbEvent]
    rfl

theorem strU_noteOverdraw_other (d : Dev) {k j : Nat} (hj : j ≠ k) : strU (noteOverdraw d k) j = strU d j := by
  unfold noteOverdraw
  dsimp only
  split
  · rw [strU_setFbEvent]; rfl
  · rw [strU_record, strU_updStr_other _ _ _ _ hj, strU_setFbEvent]; rfl

theorem overdrawn_noteOverdraw (d : Dev) (k : Nat) : (noteOverdraw d k).fb.overdrawn = d.fb.overdrawn ||| (1#64 <<< k) := by
  unfold noteOverdraw
  dsimp only
  split
  · rw [fb_setFbEvent]
  · rw [fb_record]
    exact (congrArg (·.overdrawn) (fb_setFbEvent _ _) :)

/-- The clamp of a string after its fourth fret over the ceiling (R151). -/
def clampString (d : Dev) (k : Nat) : Dev :=
  let u := strU d k
  let stop := latestEnd d k u.overFret
  let on := if u.overIdle then powerIn d k d.clk.fret == 0 else decide (d.clk.fret < stop)
  updStr d k (fun u => { u with overRun := 0, overClamp := on, overUntil := if u.overIdle then none else some stop, allot := if on then { u.allot with iLimit := min u.allot.iLimit u.allot.iDraw, clamped := true } else u.allot })

theorem overdraw_of_fourth {d : Dev} {k : Nat} (hk : k < 64) (hrun : 4 ≤ (strU d k).overRun) (hclamp : (strU d k).overClamp = false) : overdraw d k = noteOverdraw (clampString d k) k := by
  rw [overdraw, if_neg (by rw [hclamp]; simp; omega)]
  rfl

/-! ### RIDE_FRET (R163) -/

/-- What a reservation may be once the ride fret has cut the others. -/
def cutFor (g : Nat) (x : Resv) : Prop := x.rideSafe = true ∨ x.stop ≤ g ∨ x.cutFret = some g

theorem sameKey_refl (r : Resv) : sameKey r r = true := by simp [sameKey]

theorem resv_setLive (d : Dev) (b : Bank) : (setLive d b).fb.resv = d.fb.resv := (congrArg (·.resv) (sansBanks_setLive d b) :)
theorem resv_setShadow (d : Dev) (b : Bank) : (setShadow d b).fb.resv = d.fb.resv := (congrArg (·.resv) (sansBanks_setShadow d b) :)

/-- A cut tail marks every reservation of its key. -/
theorem resv_cutTail (d : Dev) (r : Resv) (g : Nat) :
    (cutTail d r g).fb.resv = d.fb.resv.map (fun x => if sameKey x r then { r with cutFret := some g, clamped := r.clamped + heavyFrets (resvCells r) (fun f => decide (g ≤ f)) } else x) := rfl

/-- The cut of every reservation without RIDE_SAFE that reaches beyond the ride fret. -/
theorem cutFor_foldl_cutTail (g : Nat) (l : List Resv) (d : Dev) (h : ∀ x ∈ d.fb.resv, cutFor g x ∨ ∃ r ∈ l, sameKey x r = true) :
    ∀ x ∈ (l.foldl (fun d r => cutTail d r g) d).fb.resv, cutFor g x := by
  induction l generalizing d with
  | nil => exact fun x hx => (h x hx).resolve_right fun ⟨r, hr, _⟩ => List.not_mem_nil hr
  | cons r l ih =>
    refine ih _ fun x hx => ?_
    rw [resv_cutTail, List.mem_map] at hx
    obtain ⟨y, hy, rfl⟩ := hx
    by_cases hkey : sameKey y r = true
    · rw [if_pos hkey]
      exact .inl (.inr (.inr rfl))
    · rw [if_neg hkey]
      refine (h y hy).imp_right fun ⟨q, hq, hyq⟩ => ⟨q, (List.mem_cons.1 hq).resolve_left fun heq => hkey (heq ▸ hyq), hyq⟩

theorem resv_repredict (d : Dev) : (repredict d).fb.resv = d.fb.resv := (resv_setShadow _ _).trans (resv_setLive _ _)

theorem resv_clearPlans (d : Dev) (g : Nat) : (clearPlans d g).fb.resv = d.fb.resv := (resv_setShadow _ _).trans (resv_setLive _ _)

theorem rideSafe_of_rideFailures {d : Dev} {shadow : Bool} {g : Nat} {q : Nat × Resv} (h : q ∈ rideFailures d shadow g) : q.2.rideSafe = true := by
  unfold rideFailures at h
  obtain ⟨r, -, hr⟩ := List.mem_filterMap.1 h
  split at hr
  · exact absurd hr (by simp)
  · split at hr
    next =>
      obtain ⟨w, hw, rfl⟩ := Option.map_eq_some_iff.1 hr
      have hmem := List.mem_of_getLast? hw
      obtain ⟨-, hsafe⟩ := List.mem_filter.1 hmem
      exact (Bool.and_eq_true_iff.1 (Bool.and_eq_true_iff.1 hsafe).1).1
    next => exact absurd hr (by simp)

/-- A choice that takes an element or keeps what it has ends with an element. -/
theorem mem_of_foldl_choice {β : Type} (f : Option β → β → Option β) (hf : ∀ a q, f a q = some q ∨ f a q = a) (l : List β) (o : Option β) {q : β}
    (h : l.foldl f o = some q) : q ∈ l ∨ o = some q := by
  induction l generalizing o with
  | nil => exact .inr h
  | cons r l ih =>
    rcases ih _ h with hmem | hq
    · exact .inl (List.mem_cons_of_mem _ hmem)
    · rcases hf o r with htake | hkeep
      · exact .inl (List.mem_cons.2 (.inl (Option.some.inj (htake.symm.trans hq)).symm))
      · exact .inr (hkeep.symm.trans hq)

theorem cutFor_clampSafe (g n : Nat) (d : Dev) (h : ∀ x ∈ d.fb.resv, cutFor g x) : ∀ x ∈ (clampSafe g n d).fb.resv, cutFor g x := by
  induction n generalizing d with
  | zero => exact h
  | succ n ih =>
    unfold clampSafe
    dsimp only
    split
    next => exact h
    next f r hfirst =>
      refine ih _ fun x hx => ?_
      have hsafe : r.rideSafe = true := by
        have hmem := (mem_of_foldl_choice _ (fun a q => by cases a with | none => exact .inl rfl | some b => dsimp only; split <;> simp) _ none hfirst).resolve_right (by simp)
        rcases List.mem_append.1 hmem with hlive | hshadow
        · exact rideSafe_of_rideFailures hlive
        · split at hshadow
          · exact rideSafe_of_rideFailures hshadow
          · exact absurd hshadow List.not_mem_nil
      rw [resv_cutTail, List.mem_map] at hx
      obtain ⟨y, hy, rfl⟩ := hx
      split
      · exact .inl hsafe
      · exact h y hy

/-- The engine's work for the ride fret leaves no other reservation beyond it uncut (R163). -/
theorem cutFor_rideCut {d : Dev} (g : Nat) (h : ∀ r ∈ d.fb.resv, r.cutFret = none) : ∀ x ∈ (rideCut d g).fb.resv, cutFor g x := by
  have hcut : ∀ x ∈ ((d.fb.resv.filter (fun r => !r.rideSafe && decide (g < r.stop) && r.cutFret.isNone)).foldl (fun d r => cutTail d r g) d).fb.resv, cutFor g x := by
    refine cutFor_foldl_cutTail g _ d fun x hx => ?_
    by_cases hstays : x.rideSafe = true ∨ x.stop ≤ g
    · exact .inl (hstays.imp_right .inl)
    · rw [not_or, Bool.not_eq_true, Nat.not_le] at hstays
      exact .inr ⟨x, List.mem_filter.2 ⟨hx, by simp [hstays.1, hstays.2, h x hx]⟩, sameKey_refl x⟩
  have hclamp := fun n => cutFor_clampSafe g n (repredict (clearPlans ((d.fb.resv.filter (fun r => !r.rideSafe && decide (g < r.stop) && r.cutFret.isNone)).foldl (fun d r => cutTail d r g) d) g))
    (by rw [resv_repredict, resv_clearPlans]; exact hcut)
  unfold rideCut
  dsimp only
  split
  · rw [fb_setFbEvent]
    dsimp only
    rw [resv_repredict]
    exact hclamp _
  · rw [resv_repredict]
    exact hclamp _

theorem resv_foldl_endResv (l : List Resv) (g : Nat) (d : Dev) :
    ∀ x ∈ (l.foldl (fun d r => endResv d r .partialDone g false) d).fb.resv, x ∈ d.fb.resv ∧ ∀ r ∈ l, sameKey r x = false := by
  induction l generalizing d with
  | nil => exact fun x hx => ⟨hx, fun r hr => absurd hr List.not_mem_nil⟩
  | cons r l ih =>
    intro x hx
    obtain ⟨hmem, hrest⟩ := ih _ x hx
    rw [fb_endResv] at hmem
    obtain ⟨hmem, hkey⟩ := List.mem_filter.1 hmem
    refine ⟨hmem, fun q hq => ?_⟩
    rcases List.mem_cons.1 hq with rfl | hq
    · simpa using hkey
    · exact hrest q hq

/-- What the ride fret leaves (R163). -/
theorem resv_rideEnd {d : Dev} (g : Nat) (h : ∀ x ∈ d.fb.resv, cutFor g x) : ∀ x ∈ (rideEnd d g).fb.resv, x.rideSafe = true ∨ x.stop ≤ g := by
  intro x hx
  obtain ⟨hmem, hgone⟩ := resv_foldl_endResv _ g d x hx
  rcases h x hmem with hsafe | hstop | hcut
  · exact .inl hsafe
  · exact .inr hstop
  · refine Classical.byContradiction fun hno => ?_
    rw [not_or, Bool.not_eq_true] at hno
    have := hgone x (List.mem_filter.2 ⟨hmem, by simp [hno.1, hcut]⟩)
    rw [sameKey_refl] at this
    exact Bool.noConfusion this

theorem mask_clampSafe (qs : List Part) (hfb : Part.fb ∈ qs) (g n : Nat) (d : Dev) : Laws.mask qs (clampSafe g n d) = Laws.mask qs d := by
  induction n generalizing d with
  | zero => rfl
  | succ n ih =>
    unfold clampSafe
    dsimp only
    split
    · rfl
    · rw [ih, Laws.mask_cutTail _ _ _ _ hfb]

theorem mask_rideCut (qs : List Part) (d : Dev) (g : Nat) (hfb : Part.fb ∈ qs) (hint : Part.int ∈ qs) : Laws.mask qs (rideCut d g) = Laws.mask qs d := by
  unfold rideCut
  dsimp only
  split
  · rw [Laws.mask_setFbEvent _ _ _ hfb hint, Laws.mask_repredict _ _ hfb, mask_clampSafe _ hfb, Laws.mask_repredict _ _ hfb, Laws.mask_clearPlans _ _ _ hfb,
      Laws.mask_foldl _ _ fun d r => Laws.mask_cutTail qs d r g hfb]
  · rw [Laws.mask_repredict _ _ hfb, mask_clampSafe _ hfb, Laws.mask_repredict _ _ hfb, Laws.mask_clearPlans _ _ _ hfb,
      Laws.mask_foldl _ _ fun d r => Laws.mask_cutTail qs d r g hfb]

theorem mask_rideEnd (qs : List Part) (d : Dev) (g : Nat) (h : ∀ p ∈ [Part.jr, .fb, .int, .mp, .out, .fretOut], p ∈ qs) (hmm : Part.mm ∈ qs) :
    Laws.mask qs (rideEnd d g) = Laws.mask qs d := by
  unfold rideEnd
  dsimp only
  rw [Laws.mask_mm _ _ _ hmm, Laws.mask_foldl _ _ fun d r => Laws.mask_endResv qs d r _ _ _ (h _ (by decide)) (h _ (by decide)) (h _ (by decide)) (h _ (by decide)) (h _ (by decide)) (h _ (by decide))]

theorem mm_rideEnd (d : Dev) (g : Nat) : (rideEnd d g).mm = { d.mm with rideFret := none } := by
  unfold rideEnd
  dsimp only
  rw [mm_of_mask (qs := [.jr, .fb, .int, .mp, .out, .fretOut]) (Laws.mask_foldl _ _ (fun d r => Laws.mask_endResv _ d r _ _ _ (by decide) (by decide) (by decide) (by decide) (by decide) (by decide)) _ _) (by decide)]

theorem clk_rideCut (d : Dev) (g : Nat) : (rideCut d g).clk = d.clk :=
  (Laws.keeps_of_mask [.fb, .int] d _ (mask_rideCut _ _ _ (by decide) (by decide)) .clk (by decide)).symm

/-- Settles O31: the clamp stands under its note; the ride fret's cut marks what its end removes. -/
theorem overdrawAndRideClamp : Obligations.OverdrawAndRideClamp := by
  unfold Obligations.OverdrawAndRideClamp
  intro s
  refine ⟨fun k hk hlen hrun hclamp => ?_, fun g hg hlost hfret hcut => ?_⟩
  · intro u on
    have hstr : strU (clampString s.dev k) k = _ := strU_updStr_same _ _ _ hlen
    refine ⟨_, congrArg (next s) (overdraw_of_fourth hk hrun hclamp), ?_, ?_, ?_, fun j hj => ?_, overdrawn_noteOverdraw _ _, Laws.keeps_of_mask _ _ _ ?_⟩
    · rw [strU_noteOverdraw (·.overRun) fun _ _ => rfl, hstr]
    · rw [strU_noteOverdraw (·.overClamp) fun _ _ => rfl, hstr]
    · rw [strU_noteOverdraw (·.allot) fun _ _ => rfl, hstr]
    · rw [strU_noteOverdraw_other _ hj, clampString, strU_updStr_other _ _ _ _ hj]
    · rw [Laws.mask_noteOverdraw _ _ _ (by decide) (by decide) (by decide) (by decide), clampString, Laws.mask_updStr _ _ _ _ (by decide)]
  · have hevent : rideFretEvent s.dev = rideEnd (rideCut s.dev g) g := by simp [rideFretEvent, hg, hlost, clk_rideCut, hfret]
    refine ⟨_, congrArg (next s) hevent, ?_, resv_rideEnd g (cutFor_rideCut g hcut), Laws.keeps_of_mask _ _ _ ?_⟩
    · rw [mm_rideEnd, mm_of_mask (qs := [.fb, .int]) (mask_rideCut _ _ _ (by decide) (by decide)) (by decide)]
    · rw [mask_rideEnd _ _ _ (by decide) (by decide), mask_rideCut _ _ _ (by decide) (by decide)]

end Sys2Proof.Machine
end

section
/-!
SUPPORT and SETTLEMENT. The capture stream, its snapshots and its end, and a replay fret.
-/
namespace Sys2Proof.Machine
open Sys2Proof.Safety

/-! ### The stream (R366–R370) -/

theorem cap_of_mask {qs : List Part} {d e : Dev} (h : Laws.mask qs e = Laws.mask qs d) (hcap : Part.cap ∉ qs) : e.cap = d.cap :=
  (Laws.keeps_of_mask qs d e h .cap hcap).symm

theorem mask_of_subset {ps qs : List Part} {d e : Dev} (hsub : ∀ p ∈ ps, p ∈ qs) (h : Laws.mask ps e = Laws.mask ps d) : Laws.mask qs e = Laws.mask qs d :=
  Laws.mask_of_keeps _ _ _ fun p hp => Laws.keeps_of_mask _ _ _ h p fun hps => hp (hsub p hps)

/-- What the stream leaves of the capture: the entry that began it, and its state and start fret, unless it ends. -/
def StreamKeeps (d e : Dev) : Prop :=
  e.cap.startEntry = d.cap.startEntry ∧ (e.cap.startFret = d.cap.startFret ∨ e.cap.startFret = 0) ∧ (e.cap.st = d.cap.st ∨ e.cap.st = .ended)

theorem StreamKeeps.refl (d : Dev) : StreamKeeps d d := ⟨rfl, .inl rfl, .inl rfl⟩

theorem StreamKeeps.trans {d e f : Dev} (hde : StreamKeeps d e) (hef : StreamKeeps e f) : StreamKeeps d f := by
  obtain ⟨hentry, hfret, hst⟩ := hde
  obtain ⟨hentry', hfret', hst'⟩ := hef
  refine ⟨hentry'.trans hentry, ?_, ?_⟩
  · rcases hfret' with h | h
    · rw [h]; exact hfret
    · exact .inr h
  · rcases hst' with h | h
    · rw [h]; exact hst
    · exact .inr h

theorem streamKeeps_of_cap {d e : Dev} (h : e.cap = d.cap) : StreamKeeps d e := ⟨by rw [h], .inl (by rw [h]), .inl (by rw [h])⟩

theorem streamKeeps_capDrain (l : List (Nat × CapRec)) (d : Dev) : StreamKeeps d (capDrain d l) := by
  induction l generalizing d with
  | nil => exact .refl d
  | cons r l ih =>
    unfold capDrain
    split
    · exact StreamKeeps.trans ⟨rfl, .inl rfl, .inl rfl⟩ (ih _)
    · exact .refl d

/-- The end of a capture (R369). -/
theorem cap_captureEnd (d : Dev) (reason : Nat) :
    (captureEnd d reason).cap.st = .ended ∧ (captureEnd d reason).cap.reason = reason ∧ (captureEnd d reason).cap.startFret = 0 ∧
      (captureEnd d reason).cap.startEntry = d.cap.startEntry ∧ (captureEnd d reason).capQueue = {} := by
  have hfollow : ∀ e : Dev, (statusLine (recordN (setRecEvent e 2) 0x4011 srcCapture [reason])).cap = e.cap ∧
      (statusLine (recordN (setRecEvent e 2) 0x4011 srcCapture [reason])).capQueue = e.capQueue := fun e => by
    have hmask : Laws.mask [.clk, .out, .int, .rcd] (statusLine (recordN (setRecEvent e 2) 0x4011 srcCapture [reason])) = Laws.mask [.clk, .out, .int, .rcd] e := by
      rw [Laws.mask_statusLine _ _ (by decide), Laws.mask_recordN _ _ _ _ _ (by decide) (by decide) (by decide), Laws.mask_setRecEvent _ _ _ (by decide) (by decide)]
    exact ⟨cap_of_mask hmask (by decide), (Laws.keeps_of_mask _ _ _ hmask .capQueue (by decide)).symm⟩
  unfold captureEnd
  dsimp only
  rw [(hfollow _).1, (hfollow _).2]
  refine ⟨rfl, rfl, rfl, ?_, rfl⟩
  dsimp only
  split <;> rfl

theorem streamKeeps_captureEnd (d : Dev) (reason : Nat) : StreamKeeps d (captureEnd d reason) := by
  obtain ⟨hst, -, hfret, hentry, -⟩ := cap_captureEnd d reason
  exact ⟨hentry, .inr hfret, .inr hst⟩

theorem streamKeeps_stream (d : Dev) (stamp : Nat) (r : CapRec) : StreamKeeps d (stream d stamp r) := by
  unfold stream
  split
  · exact .refl d
  · dsimp only
    have hdrain : StreamKeeps d (capDrain { d with cap := { d.cap with fretRecords := d.cap.fretRecords + 1 } } (d.capQueue.queue ++ [(stamp, r)])) :=
      StreamKeeps.trans ⟨rfl, .inl rfl, .inl rfl⟩ (streamKeeps_capDrain _ _)
    refine hdrain.trans ?_
    generalize capDrain _ _ = e
    split
    · exact streamKeeps_captureEnd _ _
    · split
      · refine StreamKeeps.trans ?_ (.trans (streamKeeps_captureEnd { e with capQueue := {}, cap := { e.cap with producer := if e.cap.consumer ≤ e.cap.fretPos then e.cap.fretPos else e.cap.producer } } 2) (streamKeeps_of_cap rfl))
        exact ⟨rfl, .inl rfl, .inl rfl⟩
      · exact .refl _

theorem streamKeeps_captureSnapshot (d : Dev) : StreamKeeps d (captureSnapshot d) :=
  StreamKeeps.trans ⟨rfl, .inl rfl, .inl rfl⟩ ((streamKeeps_stream (nextFree d) _ _).trans ⟨rfl, .inl rfl, .inl rfl⟩)

theorem streamKeeps_captureFret (d : Dev) : StreamKeeps d (captureFret d) := (streamKeeps_stream d _ _).trans ⟨rfl, .inl rfl, .inl rfl⟩


/-! ### The clock behind the stream: it only draws free values (log 7) -/

/-- The clock stands but for the free values drawn. -/
def FreeOnly (d e : Dev) : Prop := e.clk = { d.clk with free := e.clk.free }

theorem FreeOnly.refl (d : Dev) : FreeOnly d d := rfl

theorem FreeOnly.trans {d e f : Dev} (hde : FreeOnly d e) (hef : FreeOnly e f) : FreeOnly d f := by
  unfold FreeOnly at *
  rw [hef, hde]

theorem freeOnly_of_mask {qs : List Part} {d e : Dev} (h : Laws.mask qs e = Laws.mask qs d) (hclk : Part.clk ∉ qs) : FreeOnly d e := by
  have hkept : e.clk = d.clk := (Laws.keeps_of_mask qs d e h .clk hclk).symm
  unfold FreeOnly
  rw [hkept]

theorem FreeOnly.fret {d e : Dev} (h : FreeOnly d e) : e.clk.fret = d.clk.fret := by rw [show e.clk = { d.clk with free := e.clk.free } from h]

theorem freeOnly_recordN (d : Dev) (code source : Nat) (ps : List Nat) : FreeOnly d (recordN d code source ps) := by
  have hdraw : ∀ a b c e : Nat, FreeOnly d (nextFree (record d code source false a b c e)) := fun a b c e =>
    FreeOnly.trans (e := record d code source false a b c e)
      (freeOnly_of_mask (qs := [.int, .rcd]) (Laws.mask_record _ _ _ _ _ _ _ _ _ (by decide) (by decide)) (by decide)) rfl
  exact hdraw _ _ _ _

/-- The parts that a record of the stream writes. -/
def capParts : List Part := [.cap, .capQueue, .out]

theorem freeOnly_captureEnd (d : Dev) (reason : Nat) : FreeOnly d (captureEnd d reason) := by
  have hend : ∀ e : Dev, FreeOnly e (statusLine (recordN (setRecEvent e 2) 0x4011 srcCapture [reason])) := fun e =>
    have hevent : FreeOnly e (setRecEvent e 2) := freeOnly_of_mask (qs := [.int, .rcd]) (Laws.mask_setRecEvent _ _ _ (by decide) (by decide)) (by decide)
    hevent.trans (freeOnly_recordN (setRecEvent e 2) _ _ _ : FreeOnly _ (recordN (setRecEvent e 2) 0x4011 srcCapture [reason]))
  unfold captureEnd
  dsimp only
  refine FreeOnly.trans ?_ (hend _)
  split
  · rfl
  · exact freeOnly_of_mask (qs := capParts) (Laws.mask_capPut _ d d.clk.tick (.ended reason (sat (2 ^ 32 - 1) (d.cap.written + 1))) (by decide) (by decide)) (by decide)

theorem freeOnly_stream (d : Dev) (stamp : Nat) (r : CapRec) : FreeOnly d (stream d stamp r) := by
  unfold stream
  split
  · rfl
  · dsimp only
    refine FreeOnly.trans (freeOnly_of_mask (qs := capParts) (e := capDrain { d with cap := { d.cap with fretRecords := d.cap.fretRecords + 1 } } (d.capQueue.queue ++ [(stamp, r)])) ?_ (by decide)) ?_
    · rw [Laws.mask_capDrain _ _ _ (by decide) (by decide) (by decide)]; rfl
    generalize capDrain _ _ = e
    split
    · exact freeOnly_captureEnd _ _
    · split
      · exact freeOnly_captureEnd { e with capQueue := {}, cap := { e.cap with producer := if e.cap.consumer ≤ e.cap.fretPos then e.cap.fretPos else e.cap.producer } } 2
      · exact .refl _

theorem freeOnly_captureSnapshot (d : Dev) : FreeOnly d (captureSnapshot d) := (freeOnly_stream (nextFree d) _ _ : FreeOnly (nextFree d) _)

theorem freeOnly_captureFret (d : Dev) : FreeOnly d (captureFret d) := freeOnly_stream d _ _

/-! ### The start of the stream (R367, R369) -/

/-- The state of a stream that has begun. -/
def begunState (d : Dev) : CapState := if d.cap.wrap then .wrap else .running

/-- The parts of the device that the stream and its records write. -/
def streamParts : List Part := [.cap, .capQueue, .clk, .flt, .int, .out, .rcd]

theorem mask_captureSnapshot (d : Dev) : Laws.mask streamParts (captureSnapshot d) = Laws.mask streamParts d :=
  (Laws.mask_stream streamParts _ _ _ (by decide) (by decide) (by decide) (by decide) (by decide) (by decide) (by decide)).trans (Laws.mask_nextFree _ _ (by decide))

theorem mask_captureFret (d : Dev) : Laws.mask streamParts (captureFret d) = Laws.mask streamParts d :=
  Laws.mask_stream streamParts _ _ _ (by decide) (by decide) (by decide) (by decide) (by decide) (by decide) (by decide)

/-- The stream that begins, up to its first records. -/
def opened (d : Dev) : Dev :=
  recordN (setCapState { d with cap := { d.cap with written := 0, reason := 0, fretRecords := 0, startFret := 0, starts := [] } } (begunState d)) 0x4010 srcCapture []

theorem beginStream_eq (d : Dev) : beginStream d = captureFret (captureSnapshot (opened d)) := rfl

theorem cap_opened (d : Dev) : (opened d).cap = { d.cap with written := 0, reason := 0, fretRecords := 0, startFret := 0, starts := [], st := begunState d } := by
  refine (cap_of_mask (qs := [.clk, .int, .rcd]) (Laws.mask_recordN _ _ _ _ _ (by decide) (by decide) (by decide)) (by decide)).trans ?_
  rfl

theorem mask_opened (d : Dev) : Laws.mask streamParts (opened d) = Laws.mask streamParts d :=
  (Laws.mask_recordN _ _ _ _ _ (by decide) (by decide) (by decide)).trans (Laws.mask_setCapState _ _ _ (by decide) (by decide))

theorem streamKeeps_beginStream (d : Dev) : StreamKeeps (opened d) (beginStream d) :=
  (streamKeeps_captureSnapshot _).trans (streamKeeps_captureFret _)

theorem freeOnly_beginStream (d : Dev) : FreeOnly d (beginStream d) :=
  FreeOnly.trans (d := d) (e := opened d) (freeOnly_recordN _ _ _ _) ((freeOnly_captureSnapshot _).trans (freeOnly_captureFret _))

theorem mask_beginStream (d : Dev) : Laws.mask streamParts (beginStream d) = Laws.mask streamParts d :=
  (mask_captureFret _).trans ((mask_captureSnapshot _).trans (mask_opened d))

/-- The START descriptor that began the stream completes (R369). -/
def startDone (d : Dev) : Dev := match d.cap.startEntry with
  | some e => finishNow { d with cap := { d.cap with startEntry := none } } e .ok 0
  | none => d

theorem startDone_spec (d : Dev) : (startDone d).cap = { d.cap with startEntry := none } ∧ (startDone d).clk = d.clk ∧
    Laws.mask (.cap :: finishParts) (startDone d) = Laws.mask (.cap :: finishParts) d := by
  unfold startDone
  split
  next e he =>
    have hmask : Laws.mask finishParts (finishNow { d with cap := { d.cap with startEntry := none } } e .ok 0) = Laws.mask finishParts { d with cap := { d.cap with startEntry := none } } :=
      Laws.mask_finishNow _ _ _ _ _ (by decide) (by decide) (by decide) (by decide) (by decide)
    refine ⟨cap_of_mask hmask (by decide), (Laws.keeps_of_mask _ _ _ hmask .clk (by decide)).symm, ?_⟩
    exact (Laws.mask_finishNow _ _ _ _ _ (by decide) (by decide) (by decide) (by decide) (by decide)).trans (Laws.mask_cap _ _ _ (by decide))
  next he => exact ⟨by rw [← he], rfl, rfl⟩

theorem captureBegin_of_due (d : Dev) (hst : d.cap.st = .awaiting) (hdue : d.cap.startFret ≤ d.clk.fret) : captureBegin d = startDone (beginStream d) := by
  unfold captureBegin
  rw [if_pos (by simp [hst, hdue])]
  rfl

/-! ### A replay fret (R373) -/

/-- The replay's own digest of the fret before. -/
def ownDigest (d r : Dev) (digest : Nat) : Nat := if d.cap.replayed = 0 then digest else r.cap.digest

/-- The FRET output record of a fret, and the divergence that it shows. -/
def headed (d : Dev) (tick f digest mine : Nat) : Dev :=
  let d := replayPut d tick 0x47 0 (leBytes 8 f ++ leBytes 4 mine ++ leBytes 4 digest)
  if mine = digest ∨ d.cap.diverged = true then d
  else statusLine { d with cap := { d.cap with diverged := true, divFret := (f - 1) % 2 ^ 32 } }

theorem replayHead_eq (d r : Dev) (f digest : Nat) : replayHead d r f digest = headed d r.clk.tick f digest (ownDigest d r digest) := rfl

theorem mask_headed (d : Dev) (tick f digest mine : Nat) : Laws.mask [.cap, .out] (headed d tick f digest mine) = Laws.mask [.cap, .out] d := by
  refine Eq.trans ?_ (Laws.mask_replayPut [.cap, .out] d tick 0x47 0 (leBytes 8 f ++ leBytes 4 mine ++ leBytes 4 digest) (by decide) (by decide))
  unfold headed
  generalize replayPut d tick 0x47 0 (leBytes 8 f ++ leBytes 4 mine ++ leBytes 4 digest) = e
  dsimp only
  split
  · rfl
  · rw [Laws.mask_statusLine _ _ (by decide), Laws.mask_cap _ _ _ (by decide)]

theorem headed_spec (d : Dev) (tick f digest mine : Nat) : (headed d tick f digest mine).cap.replayed = d.cap.replayed ∧ (headed d tick f digest mine).cap.rst = d.cap.rst ∧
    (mine ≠ digest → (headed d tick f digest mine).cap.diverged = true) := by
  unfold headed
  dsimp only
  split
  next h => exact ⟨rfl, rfl, fun hne => h.resolve_left hne⟩
  next h => exact ⟨rfl, rfl, fun _ => rfl⟩

theorem mask_replayOutputs (d r : Dev) : Laws.mask [.cap, .out] (replayOutputs d r) = Laws.mask [.cap, .out] d := by
  unfold replayOutputs
  exact Laws.mask_foldl _ _ (fun _ _ => Laws.mask_replayPut _ _ _ _ _ _ (by decide) (by decide)) _ _

/-- What an output record leaves of the capture: all but the place of the next one. -/
def RepKeeps (d e : Dev) : Prop := e.cap.replayed = d.cap.replayed ∧ e.cap.rst = d.cap.rst ∧ e.cap.diverged = d.cap.diverged

theorem repKeeps_replayOutputs (d r : Dev) : RepKeeps d (replayOutputs d r) := by
  unfold replayOutputs
  generalize sortedOut (fretOuts r) = l
  induction l generalizing d with
  | nil => exact ⟨rfl, rfl, rfl⟩
  | cons q l ih =>
    rw [List.foldl_cons]
    exact ih (replayPut d q.1 q.2.type q.2.info q.2.payload)

theorem cap_setReplay_running (d : Dev) : (setReplay d .running).cap = { d.cap with rst := .running } := by
  unfold setReplay
  split
  next h => rw [← beq_iff_eq.mp h]
  next h => rfl

/-- The records of a fret: its FRET record and its inputs. -/
def fretRecords (st f digest n : Nat) (rest : List RepRec) : List RepRec := .input st (.fret f digest n) :: rest.takeWhile (fun q => !closes q)

/-- The device behind a replay fret whose own device is `e`. -/
def replayed (d r e : Dev) (st f digest n : Nat) (rest : List RepRec) : Dev :=
  let d := replayOutputs (headed (setReplay d .running) r.clk.tick f digest (ownDigest (setReplay d .running) r digest)) e
  { d with cap := { d.cap with replayed := d.cap.replayed + 1, repAt := some d.clk.fret, inConsumer := d.cap.inConsumer + ((fretRecords st f digest n rest).map inSize).sum } }

/-- The replay's own device over the fret that these inputs make. -/
def ownRun (r : Dev) (rest : List RepRec) : Dev :=
  replayRun r (without r.capQueue.due (fretInputs (rest.takeWhile (fun q => !closes q))) ++ aheadOf r.clk.tick (rest.dropWhile (fun q => !closes q)))

theorem replayFret_of_fret (d r : Dev) (st f digest n : Nat) (rest : List RepRec) (hact : replayActive d = true) (hpow : powered d .host = true) (hctl : d.pwr.ctlLost = false)
    (hclosed : rest.any closes = true) (hroom : outRoom d = true) (hat : d.cap.repAt ≠ some d.clk.fret) :
    replayFret d r (.input st (.fret f digest n) :: rest) =
      (replayed d r (ownRun r rest) st f digest n rest,
        { fretEffects (openFret (closeFret (ownRun r rest))) with out := [], capQueue := { due := aheadOf r.clk.tick (rest.dropWhile (fun q => !closes q)) } },
        rest.dropWhile (fun q => !closes q)) := by
  unfold replayFret
  rw [if_neg (by simp [hact, hpow, hctl])]
  have htake : (RepRec.input st (.fret f digest n) :: rest).takeWhile passes = [] := rfl
  have hdrop : (RepRec.input st (.fret f digest n) :: rest).dropWhile passes = .input st (.fret f digest n) :: rest := rfl
  rw [htake, hdrop]
  dsimp only
  rw [if_neg (by rw [hclosed]; decide)]
  refine (if_neg ?_).trans ((if_neg hat).trans rfl)
  change ¬ (!outRoom d) = true
  rw [hroom]
  decide

theorem replayed_spec (d r e : Dev) (st f digest n : Nat) (rest : List RepRec) :
    (replayed d r e st f digest n rest).cap.replayed = d.cap.replayed + 1 ∧ (replayed d r e st f digest n rest).cap.rst = .running ∧
      (ownDigest d r digest ≠ digest → (replayed d r e st f digest n rest).cap.diverged = true) ∧
      Laws.mask [.cap, .out] (replayed d r e st f digest n rest) = Laws.mask [.cap, .out] d := by
  have hcap := cap_setReplay_running d
  have hown : ownDigest (setReplay d .running) r digest = ownDigest d r digest := by unfold ownDigest; rw [hcap]
  obtain ⟨hcount, hrst, hdiv⟩ := headed_spec (setReplay d .running) r.clk.tick f digest (ownDigest d r digest)
  obtain ⟨hcount', hrst', hdiv'⟩ := repKeeps_replayOutputs (headed (setReplay d .running) r.clk.tick f digest (ownDigest d r digest)) e
  unfold replayed
  rw [hown]
  dsimp only
  refine ⟨?_, ?_, fun hne => ?_, ?_⟩
  · rw [hcount', hcount, hcap]
  · rw [hrst', hrst, hcap]
  · rw [hdiv', hdiv hne]
  · rw [Laws.mask_cap _ _ _ (by decide), mask_replayOutputs, mask_headed, Laws.mask_setReplay _ _ _ (by decide) (by decide)]

/-! ### O32 -/

theorem captureBegin_begins (s : State) (hst : s.dev.cap.st = .awaiting) (hdue : s.dev.cap.startFret ≤ s.dev.clk.fret) :
    ∃ d, exec .captureBegin s = next s d ∧ (d.cap.st = (if s.dev.cap.wrap then .wrap else .running) ∨ d.cap.st = .ended) ∧ d.cap.startFret = 0 ∧ d.cap.startEntry = none ∧
      keeps [.cap, .capQueue, .clk, .flt, .int, .out, .fretOut, .rcd, .jr, .mp] s.dev d ∧ d.clk = { s.dev.clk with free := d.clk.free } := by
  obtain ⟨hentry, hfret, hstate⟩ := streamKeeps_beginStream s.dev
  obtain ⟨hcap, hclk, hmask⟩ := startDone_spec (beginStream s.dev)
  rw [cap_opened] at hfret hstate
  refine ⟨startDone (beginStream s.dev), congrArg (next s) (captureBegin_of_due _ hst hdue), ?_, ?_, by rw [hcap], ?_, ?_⟩
  · rw [hcap]
    exact hstate
  · rw [hcap]
    exact hfret.elim id id
  · refine Laws.keeps_of_mask _ _ _ ?_
    exact (mask_of_subset (by decide) hmask).trans (mask_of_subset (by decide) (mask_beginStream s.dev))
  · rw [hclk]
    exact freeOnly_beginStream s.dev

theorem keyframe_takesSnapshot (s : State) (hst : s.dev.cap.st = .wrap ∨ s.dev.cap.st = .post) (hwrap : s.dev.cap.wrap = true) (hn : rwF s.dev 0x7108 24 8 ≠ 0)
    (hdue : s.dev.cap.keyFret + 4096 * rwF s.dev 0x7108 24 8 ≤ s.dev.clk.fret) :
    ∃ d, exec .keyframeSnapshot s = next s d ∧ d.cap.keyFret = s.dev.clk.fret ∧ keeps [.cap, .capQueue, .clk, .flt, .int, .out, .rcd] s.dev d := by
  refine ⟨captureSnapshot s.dev, congrArg (next s) ?_, ?_, Laws.keeps_of_mask _ _ _ (mask_captureSnapshot s.dev)⟩
  · unfold keyframe
    exact if_pos (by rcases hst with h | h <;> simp [h, hwrap, hn, hdue])
  · exact (freeOnly_stream (nextFree s.dev) _ _).fret

theorem capturePost_ends (s : State) (hst : s.dev.cap.st = .post) (hdue : s.dev.cap.postUntil ≤ s.dev.clk.fret) :
    ∃ d, exec .capturePostEnd s = next s d ∧ d.cap.st = .ended ∧ d.cap.reason = 1 ∧ d.capQueue = {} ∧ keeps [.cap, .capQueue, .clk, .int, .out, .rcd] s.dev d := by
  obtain ⟨hended, hreason, -, -, hqueue⟩ := cap_captureEnd s.dev 1
  refine ⟨captureEnd s.dev 1, congrArg (next s) ?_, hended, hreason, hqueue, Laws.keeps_of_mask _ _ _ (Laws.mask_captureEnd _ _ _ (by decide) (by decide) (by decide) (by decide) (by decide) (by decide))⟩
  unfold capturePost
  exact if_pos (by simp [hst, hdue])

theorem replayFret_runs (s : State) (r : Dev) (st f digest n : Nat) (rest : List RepRec) (hrep : s.rep = some r) (hmode : s.dev.mm.mode = .replay)
    (hact : replayActive s.dev = true) (hpow : powered s.dev .host = true) (hctl : s.dev.pwr.ctlLost = false) (hring : rwF s.dev 0x7210 0 6 ≠ 0)
    (hin : s.repIn = .input st (.fret f digest n) :: rest) (hclosed : rest.any closes = true) (hroom : outRoom s.dev = true) (hat : s.dev.cap.repAt ≠ some s.dev.clk.fret) :
    exec .replayFret s = .next { s with
      dev := settle (replayed s.dev r (ownRun r rest) st f digest n rest)
      rep := some { fretEffects (openFret (closeFret (ownRun r rest))) with out := [], capQueue := { due := aheadOf r.clk.tick (rest.dropWhile (fun q => !closes q)) } }
      repIn := rest.dropWhile (fun q => !closes q) } := by
  obtain ⟨-, -, -, hmask⟩ := replayed_spec s.dev r (ownRun r rest) st f digest n rest
  have hkeeps := Laws.keeps_of_mask _ _ _ hmask
  have hmm : (replayed s.dev r (ownRun r rest) st f digest n rest).mm = s.dev.mm := (hkeeps .mm (by decide)).symm
  have hcfg : (settle (replayed s.dev r (ownRun r rest) st f digest n rest)).cfg = s.dev.cfg := (settle_cfg _).trans (hkeeps .cfg (by decide)).symm
  change execReplayFret s = _
  unfold execReplayFret
  rw [hrep, hin]
  dsimp only
  rw [replayFret_of_fret _ _ _ _ _ _ _ hact hpow hctl hclosed hroom hat]
  unfold withDev
  rw [if_neg (by rw [settle_mm, hmm, hmode]; decide)]
  dsimp only
  rw [if_neg (by unfold rwF rwOf; rw [hcfg]; exact hring)]

/-- Settles O32: the stream's start, its key frames and its end by what a record of the stream keeps of the capture and of the clock; the replay fret by its one branch, which touches the capture and the outputs alone. -/
theorem captureAndReplayRun : Obligations.CaptureAndReplayRun := by
  unfold Obligations.CaptureAndReplayRun
  refine ⟨fun s => ⟨captureBegin_begins s, keyframe_takesSnapshot s, capturePost_ends s⟩, ?_⟩
  intro s r st f digest n rest hrep hmode hact hpow hctl hring hin hclosed hroom hat ahead e
  obtain ⟨hcount, hrst, hdiv, hmask⟩ := replayed_spec s.dev r (ownRun r rest) st f digest n rest
  exact ⟨_, replayed s.dev r (ownRun r rest) st f digest n rest, replayFret_runs s r st f digest n rest hrep hmode hact hpow hctl hring hin hclosed hroom hat,
    rfl, rfl, rfl, rfl, hcount, hrst, hdiv, Laws.keeps_of_mask _ _ _ hmask⟩

end Sys2Proof.Machine
end

section
/-!
SUPPORT. What the operations on strings and links leave of each phase and of each string: the fates of units.
-/
namespace Sys2Proof.Machine
open Sys2Proof.Safety

/-! ### A unit beyond the list reads as the default -/

theorem getD_beyond {α : Type} {l : List α} {n : Nat} {a : α} (h : l.length ≤ n) : l.getD n a = a := by
  rw [List.getD_eq_getElem?_getD, List.getElem?_eq_none h, Option.getD_none]

/-! ### The course of a string is configuration -/

/-- The registers in force and the OTP are those of `d`. -/
def SameForce (d e : Dev) : Prop := e.cfg.force = d.cfg.force ∧ e.otp = d.otp

theorem sameForce_of_mask {qs : List Part} {d e : Dev} (h : Laws.mask qs e = Laws.mask qs d) (hcfg : Part.cfg ∉ qs) (hotp : Part.otp ∉ qs) : SameForce d e := by
  have hkeeps := Laws.keeps_of_mask qs d e h
  have hc : e.cfg = d.cfg := (hkeeps .cfg hcfg).symm
  exact ⟨by rw [hc], (hkeeps .otp hotp).symm⟩

theorem SameForce.rsF {d e : Dev} (h : SameForce d e) (off lo n : Nat) : rsF e off lo n = Machine.rsF d off lo n := by
  unfold Machine.rsF
  rw [inForce_congr e d h.2 h.1]

theorem SameForce.kindOf {d e : Dev} (h : SameForce d e) (k : Nat) : kindOf e k = Machine.kindOf d k := by
  unfold Machine.kindOf
  rw [h.rsF]

theorem SameForce.course {d e : Dev} (h : SameForce d e) (k : Nat) : course e k = Machine.course d k := by
  unfold Machine.course nPhases firstPhase
  rw [h.kindOf, h.rsF, h.rsF]

theorem SameForce.stringOf {d e : Dev} (h : SameForce d e) (p : Nat) : stringOf e p = Machine.stringOf d p := by
  unfold Machine.stringOf
  rw [funext h.course]

/-! ### Phases (R188–R194) -/

/-- What a phase keeps when its string or link acts: its current; its retirement with cause and fault; a follower stays one or retires; and a phase outside `C` stays as it is. -/
def PhFate (C : Nat → Prop) (d e : Dev) : Prop := ∀ p, (phU e p).current = (phU d p).current ∧ (¬ C p → phU e p = phU d p) ∧
  ((phU d p).retired = true → (phU e p).retired = true ∧ (phU e p).cause = (phU d p).cause ∧ (phU e p).fault = (phU d p).fault) ∧
  ((phU d p).follower = true → (phU e p).follower = true ∨ (phU e p).retired = true)

theorem PhFate.refl (C : Nat → Prop) (d : Dev) : PhFate C d d := fun _ => ⟨rfl, fun _ => rfl, fun h => ⟨h, rfl, rfl⟩, .inl⟩

theorem phFate_of_ph (C : Nat → Prop) {d e : Dev} (h : e.ph = d.ph) : PhFate C d e := fun p => by
  rw [show phU e p = phU d p by unfold phU; rw [h]]
  exact PhFate.refl C d p

theorem phFate_of_mask {qs : List Part} (C : Nat → Prop) {d e : Dev} (h : Laws.mask qs e = Laws.mask qs d) (hph : Part.ph ∉ qs) : PhFate C d e :=
  phFate_of_ph C (Laws.keeps_of_mask qs d e h .ph hph).symm

theorem PhFate.trans {C : Nat → Prop} {d e f : Dev} (hde : PhFate C d e) (hef : PhFate C e f) : PhFate C d f := fun p => by
  obtain ⟨hcur, hout, hret, hfol⟩ := hde p
  obtain ⟨hcur', hout', hret', hfol'⟩ := hef p
  refine ⟨hcur'.trans hcur, fun hp => (hout' hp).trans (hout hp), fun h => ?_, fun h => ?_⟩
  · obtain ⟨hr, hc, hf⟩ := hret h
    obtain ⟨hr', hc', hf'⟩ := hret' hr
    exact ⟨hr', hc'.trans hc, hf'.trans hf⟩
  · rcases hfol h with h | h
    · exact hfol' h
    · exact .inr (hret' h).1

theorem PhFate.mono {C D : Nat → Prop} {d e : Dev} (h : PhFate C d e) (hsub : ∀ p, C p → D p) : PhFate D d e := fun p =>
  ⟨(h p).1, fun hp => (h p).2.1 fun hc => hp (hsub p hc), (h p).2.2⟩

/-- An update of one phase that keeps what a fate keeps. -/
theorem phFate_updPh {C : Nat → Prop} (d : Dev) (p : Nat) (f : PhaseUnit → PhaseUnit) (hp : C p) (hcur : (f (phU d p)).current = (phU d p).current)
    (hret : (phU d p).retired = true → (f (phU d p)).retired = true ∧ (f (phU d p)).cause = (phU d p).cause ∧ (f (phU d p)).fault = (phU d p).fault)
    (hfol : (phU d p).follower = true → (f (phU d p)).follower = true ∨ (f (phU d p)).retired = true) : PhFate C d (updPh d p f) := fun q => by
  by_cases hq : q = p
  · subst hq
    by_cases hlen : q < d.ph.length
    · rw [phU_updPh_same _ _ _ hlen]
      exact ⟨hcur, fun h => absurd hp h, hret, hfol⟩
    · have hstand : phU (updPh d q f) q = phU d q := by
        unfold phU updPh at' upd
        rw [getD_beyond (by rw [List.length_modify]; omega), getD_beyond (by omega)]
      rw [hstand]
      exact PhFate.refl C d q
  · rw [phU_updPh_other _ _ _ _ hq]
    exact PhFate.refl C d q

theorem phFate_foldl {α : Type} {C : Nat → Prop} (f : Dev → α → Dev) (l : List α) (hf : ∀ d, ∀ a ∈ l, PhFate C d (f d a)) (d : Dev) : PhFate C d (l.foldl f d) := by
  induction l generalizing d with
  | nil => exact .refl C d
  | cons a l ih => exact (hf d a List.mem_cons_self).trans (ih (fun d b hb => hf d b (List.mem_cons_of_mem a hb)) _)

theorem phFate_clearLoops (d : Dev) (k : Nat) : PhFate (· ∈ course d k) d (clearLoops d k) := by
  unfold clearLoops
  dsimp only
  have hforce : SameForce d (updStr d k (fun u => { u with u1 := 0, u2 := 0, e1 := 0, e2 := 0 })) := ⟨rfl, rfl⟩
  rw [hforce.course]
  exact PhFate.trans (phFate_of_ph _ rfl)
    (phFate_foldl (fun (d : Dev) p => updPh d p (fun q => { q with x := 0, limRun := 0, openRun := 0, stuckRun := 0, duties := [], rangeRun := 0, disRun := 0 })) _
      (fun _ _ hp => phFate_updPh _ _ _ hp rfl (fun h => ⟨h, rfl, rfl⟩) .inl) _)

theorem phFate_recapo (C : Nat → Prop) (d : Dev) (k : Nat) : PhFate C d (recapo d k) :=
  phFate_of_mask (qs := [.fb, .str, .flt, .int, .rcd]) C (Laws.mask_recapo _ _ _ (by decide) (by decide) (by decide) (by decide) (by decide)) (by decide)

theorem phFate_endStringResv (C : Nat → Prop) (d : Dev) (k : Nat) (st : Status) : PhFate C d (endStringResv d k st) :=
  phFate_of_mask (qs := [.jr, .fb, .int, .mp, .out, .fretOut]) C (Laws.mask_endStringResv _ _ _ _ (by decide) (by decide) (by decide) (by decide) (by decide) (by decide)) (by decide)

/-- The phases of a course that are not retired yet are retired with their string (R192). -/
theorem phFate_retireUnretired (C : Nat → Prop) (d : Dev) (fault : Nat) (l : List Nat) (hl : ∀ p ∈ l, C p) (hun : ∀ p ∈ l, (phU d p).retired = false) (hnd : l.Nodup) :
    PhFate C d (l.foldl (fun d p => updPh d p (fun q => { q with retired := true, follower := false, cause := 5, fault := fault })) d) := by
  induction l generalizing d with
  | nil => exact .refl C d
  | cons a l ih =>
    have hold : (phU d a).retired = false := hun a List.mem_cons_self
    refine PhFate.trans (phFate_updPh d a (fun q => { q with retired := true, follower := false, cause := 5, fault := fault }) (hl a List.mem_cons_self) rfl (fun h => absurd (hold.symm.trans h) (by decide)) (fun _ => .inr rfl)) ?_
    refine ih _ (fun p hp => hl p (List.mem_cons_of_mem a hp)) (fun p hp => ?_) (List.nodup_cons.1 hnd).2
    have hne : p ≠ a := fun h => (List.nodup_cons.1 hnd).1 (h ▸ hp)
    rw [phU_updPh_other _ _ _ _ hne]
    exact hun p (List.mem_cons_of_mem a hp)

theorem course_nodup (d : Dev) (k : Nat) : (course d k).Nodup := by
  unfold course
  split
  · exact List.nodup_nil
  · exact List.Pairwise.filter _ (List.Pairwise.map _ (fun a b hne h => hne (Nat.add_right_cancel h)) List.nodup_range)

theorem unretired_nodup (d : Dev) (k : Nat) : (unretired d k).Nodup := (course_nodup d k).filter _

theorem mem_unretired {d : Dev} {k p : Nat} (hp : p ∈ unretired d k) : p ∈ course d k ∧ (phU d p).retired = false := by
  unfold unretired at hp
  obtain ⟨hc, hr⟩ := List.mem_filter.1 hp
  exact ⟨hc, by simpa using hr⟩

/-- The phases of a retired course, and its capo. -/
def retireCourse (d : Dev) (k fault : Nat) : Dev :=
  recapo ((unretired d k).foldl (fun d p => updPh d p (fun q => { q with retired := true, follower := false, cause := 5, fault := fault })) d) k

theorem phFate_retireCourse (d : Dev) (k fault : Nat) : PhFate (· ∈ course d k) d (retireCourse d k fault) :=
  (phFate_retireUnretired _ d fault _ (fun _ hp => (mem_unretired hp).1) (fun _ hp => (mem_unretired hp).2) (unretired_nodup d k)).trans (phFate_recapo _ _ _)

/-- A string shows that it is retired, and that phases of it are. -/
def showRetired (d : Dev) (k : Nat) : Dev :=
  let d := updStr d k (fun u => { u with st := .retired })
  if (unretired d k).isEmpty then d else setStrEvent d k 1

theorem restPhases_of_retired {d : Dev} {k : Nat} (h : (strU d k).retired = true) : restPhases d k = retireCourse (showRetired d k) k (strU d k).retireCode := by
  unfold restPhases
  dsimp only
  rw [if_pos h]
  rfl

theorem restPhases_of_usable {d : Dev} {k : Nat} (h : (strU d k).retired = false) : restPhases d k = updStr d k (fun u => { u with st := .safeOff }) := by
  unfold restPhases
  dsimp only
  rw [if_neg (by rw [h]; decide)]

theorem mask_showRetired (d : Dev) (k : Nat) : Laws.mask [.str] (showRetired d k) = Laws.mask [.str] d := by
  unfold showRetired
  dsimp only
  rw [Laws.mask_ite, Laws.mask_setStrEvent _ _ _ _ (by decide), Laws.mask_updStr _ _ _ _ (by decide), ite_self]

theorem phFate_restPhases (d : Dev) (k : Nat) : PhFate (· ∈ course d k) d (restPhases d k) := by
  cases h : (strU d k).retired with
  | true =>
    have hforce : SameForce d (showRetired d k) := sameForce_of_mask (mask_showRetired d k) (by decide) (by decide)
    have hrest := phFate_retireCourse (showRetired d k) k (strU d k).retireCode
    rw [hforce.course] at hrest
    rw [restPhases_of_retired h]
    exact (phFate_of_mask _ (mask_showRetired d k) (by decide)).trans hrest
  | false =>
    rw [restPhases_of_usable h]
    exact phFate_of_ph _ rfl

/-- The parts that the safe state of a string writes. -/
def restParts : List Part := [.fb, .str, .ph, .flt, .int, .rcd]

theorem mask_restPhases_parts (d : Dev) (k : Nat) : Laws.mask restParts (restPhases d k) = Laws.mask restParts d :=
  Laws.mask_restPhases _ _ _ (by decide) (by decide) (by decide) (by decide) (by decide) (by decide)

theorem mask_clearLoops_parts (d : Dev) (k : Nat) : Laws.mask restParts (clearLoops d k) = Laws.mask restParts d := Laws.mask_clearLoops _ _ _ (by decide) (by decide)

theorem mask_safeString_parts (d : Dev) (k : Nat) : Laws.mask restParts (safeString d k) = Laws.mask restParts d :=
  Laws.mask_safeString _ _ _ (by decide) (by decide) (by decide) (by decide) (by decide) (by decide)

/-- What follows in the course of one string, when the courses are as they were. -/
theorem PhFate.inCourse {d e f : Dev} {k : Nat} (hde : PhFate (· ∈ course d k) d e) (hforce : SameForce d e) (hef : PhFate (· ∈ course e k) e f) : PhFate (· ∈ course d k) d f := by
  rw [hforce.course] at hef
  exact hde.trans hef

theorem phFate_dropDischarge (d : Dev) (k : Nat) : PhFate (· ∈ course d k) d (dropDischarge d k) := by
  unfold dropDischarge
  split
  · exact phFate_restPhases d k
  · exact .refl _ d

theorem phFate_dropDischarges (d : Dev) : PhFate (fun _ => True) d (dropDischarges d) :=
  phFate_foldl _ _ (fun d k _ => (phFate_dropDischarge d k).mono fun _ _ => trivial) d

/-- A string's loops are cleared, and it stands ready for its safe state. -/
def unloaded (d : Dev) (k ref now by' : Nat) : Dev :=
  updStr (clearLoops d k) k (fun u => { u with pgood := false, uvArmed := false, offInFret := true, dischRef := ref, downRef := now, prof := none, dischBy := by' })

theorem sameForce_unloaded (d : Dev) (k ref now by' : Nat) : SameForce d (unloaded d k ref now by') :=
  have h : SameForce d (clearLoops d k) := sameForce_of_mask (mask_clearLoops_parts d k) (by decide) (by decide)
  ⟨h.1, h.2⟩

theorem safeString_cases (d : Dev) (k : Nat) : safeString d k = d ∧ (strU d k).st.enabled = false ∨
    (strU d k).st.enabled = true ∧ ∃ ref now by', safeString d k = updStr (unloaded d k ref now by') k (fun u => { u with st := .safeDischarge }) ∨ safeString d k = restPhases (unloaded d k ref now by') k := by
  unfold safeString
  dsimp only
  cases h : (strU d k).st.enabled with
  | false => exact .inl ⟨if_pos rfl, rfl⟩
  | true =>
    refine .inr ⟨rfl, if kindOf d k = .store then vDefault d k else (strU d k).vCmd, if kindOf d k = .store then vDefault d k else (strU d k).vRamp / 1000,
      (clearLoops d k).clk.tick + 100000 * safeTimeout (clearLoops d k) k, ?_⟩
    rw [if_neg (by decide)]
    split
    · exact .inl rfl
    · exact .inr rfl

theorem phFate_safeString (d : Dev) (k : Nat) : PhFate (· ∈ course d k) d (safeString d k) := by
  rcases safeString_cases d k with ⟨h, -⟩ | ⟨-, ref, now, by', h | h⟩
  · rw [h]
    exact .refl _ d
  · rw [h]
    exact (phFate_clearLoops d k).trans (phFate_of_ph _ rfl)
  · rw [h]
    exact PhFate.inCourse (e := unloaded d k ref now by') ((phFate_clearLoops d k).trans (phFate_of_ph _ rfl)) (sameForce_unloaded ..) (phFate_restPhases _ k)

/-- A string is marked retired (R192). -/
def markRetired (d : Dev) (k code : Nat) : Dev := setStrEvent (updStr d k (fun u => { u with retired := true, retireCode := code })) k 4

theorem retireString_cases (d : Dev) (k code : Nat) : (strU d k).retired = true ∧ retireString d k code = d ∨
    (strU d k).retired = false ∧ ∃ e, retireString d k code = endStringResv e k .stringRetired ∧
      (e = safeString (markRetired d k code) k ∨ e = markRetired d k code ∨ e = restPhases (markRetired d k code) k) := by
  unfold retireString
  cases h : (strU d k).retired with
  | true => exact .inl ⟨rfl, if_pos rfl⟩
  | false =>
    refine .inr ⟨rfl, _, if_neg (by decide), ?_⟩
    split
    · exact .inl rfl
    · split
      · exact .inr (.inl rfl)
      · exact .inr (.inr rfl)

theorem phFate_retireString (d : Dev) (k code : Nat) : PhFate (· ∈ course d k) d (retireString d k code) := by
  rcases retireString_cases d k code with ⟨-, h⟩ | ⟨-, e, h, he⟩
  · rw [h]
    exact .refl _ d
  · rw [h]
    have hforce : SameForce d (markRetired d k code) := ⟨rfl, rfl⟩
    have hmark : PhFate (· ∈ course d k) d (markRetired d k code) := phFate_of_ph _ rfl
    refine PhFate.trans ?_ (phFate_endStringResv _ e k _)
    rcases he with rfl | rfl | rfl
    · exact hmark.inCourse hforce (phFate_safeString _ k)
    · exact hmark
    · exact hmark.inCourse hforce (phFate_restPhases _ k)

theorem phFate_courseLost (d : Dev) (k p : Nat) : PhFate (· ∈ course d k) d (courseLost d k p) :=
  (phFate_retireString d k 0x1104).trans (phFate_of_ph _ rfl)

/-! ### Strings -/

/-- What a string keeps when strings in `C` act: outside `C` all, and a retired one its retirement and its code. -/
def StrFate (C : Nat → Prop) (d e : Dev) : Prop := e.str.length = d.str.length ∧ ∀ j, (¬ C j → strU e j = strU d j) ∧
  ((strU d j).retired = true → (strU e j).retired = true ∧ (strU e j).retireCode = (strU d j).retireCode)

theorem StrFate.refl (C : Nat → Prop) (d : Dev) : StrFate C d d := ⟨rfl, fun _ => ⟨fun _ => rfl, fun h => ⟨h, rfl⟩⟩⟩

theorem strFate_of_str (C : Nat → Prop) {d e : Dev} (h : e.str = d.str) : StrFate C d e :=
  ⟨by rw [h], fun j => by
    rw [show strU e j = strU d j by unfold strU; rw [h]]
    exact (StrFate.refl C d).2 j⟩

theorem strFate_of_mask {qs : List Part} (C : Nat → Prop) {d e : Dev} (h : Laws.mask qs e = Laws.mask qs d) (hstr : Part.str ∉ qs) : StrFate C d e :=
  strFate_of_str C (Laws.keeps_of_mask qs d e h .str hstr).symm

theorem StrFate.trans {C : Nat → Prop} {d e f : Dev} (hde : StrFate C d e) (hef : StrFate C e f) : StrFate C d f :=
  ⟨hef.1.trans hde.1, fun j => ⟨fun hj => ((hef.2 j).1 hj).trans ((hde.2 j).1 hj), fun h => by
    obtain ⟨hr, hc⟩ := (hde.2 j).2 h
    obtain ⟨hr', hc'⟩ := (hef.2 j).2 hr
    exact ⟨hr', hc'.trans hc⟩⟩⟩

theorem StrFate.mono {C D : Nat → Prop} {d e : Dev} (h : StrFate C d e) (hsub : ∀ j, C j → D j) : StrFate D d e :=
  ⟨h.1, fun j => ⟨fun hj => (h.2 j).1 fun hc => hj (hsub j hc), (h.2 j).2⟩⟩

theorem strU_updStr_beyond (d : Dev) (k : Nat) (f : StringUnit → StringUnit) (hlen : d.str.length ≤ k) : strU (updStr d k f) k = strU d k := by
  unfold strU updStr at' upd
  rw [getD_beyond (by rw [List.length_modify]; omega), getD_beyond (by omega)]

theorem strFate_updStr {C : Nat → Prop} (d : Dev) (k : Nat) (f : StringUnit → StringUnit) (hk : C k)
    (hret : (strU d k).retired = true → (f (strU d k)).retired = true ∧ (f (strU d k)).retireCode = (strU d k).retireCode) : StrFate C d (updStr d k f) :=
  ⟨updStr_length _ _ _, fun j => by
    by_cases hj : j = k
    · subst hj
      rcases Nat.lt_or_ge j d.str.length with hlen | hlen
      · rw [strU_updStr_same _ _ _ hlen]
        exact ⟨fun h => absurd hk h, hret⟩
      · rw [strU_updStr_beyond _ _ _ hlen]
        exact (StrFate.refl C d).2 j
    · rw [strU_updStr_other _ _ _ _ hj]
      exact (StrFate.refl C d).2 j⟩

/-- An update of one string that leaves its retirement. -/
theorem strFate_update (d : Dev) (k : Nat) (f : StringUnit → StringUnit) (hret : ∀ u, (f u).retired = u.retired) (hcode : ∀ u, (f u).retireCode = u.retireCode) : StrFate (· = k) d (updStr d k f) :=
  strFate_updStr d k f rfl fun h => ⟨(hret _).trans h, hcode _⟩

theorem strFate_foldl {α : Type} {C : Nat → Prop} (f : Dev → α → Dev) (l : List α) (hf : ∀ d, ∀ a ∈ l, StrFate C d (f d a)) (d : Dev) : StrFate C d (l.foldl f d) := by
  induction l generalizing d with
  | nil => exact .refl C d
  | cons a l ih => exact (hf d a List.mem_cons_self).trans (ih (fun d b hb => hf d b (List.mem_cons_of_mem a hb)) _)

theorem strFate_setStrEvent (d : Dev) (k b : Nat) : StrFate (· = k) d (setStrEvent d k b) := strFate_update d k _ (fun _ => rfl) (fun _ => rfl)

/-! ### The capo of a string (R150, R153, R190) -/

/-- Of the strings only `k` differs, and `g` of it stands. -/
def StrKeep {α : Type} (k : Nat) (g : StringUnit → α) (d e : Dev) : Prop :=
  (∀ j, j ≠ k → strU e j = strU d j) ∧ e.str.length = d.str.length ∧ g (strU e k) = g (strU d k)

theorem StrKeep.refl {α : Type} (k : Nat) (g : StringUnit → α) (d : Dev) : StrKeep k g d d := ⟨fun _ _ => rfl, rfl, rfl⟩

theorem StrKeep.trans {α : Type} {k : Nat} {g : StringUnit → α} {d e f : Dev} (hde : StrKeep k g d e) (hef : StrKeep k g e f) : StrKeep k g d f :=
  ⟨fun j hj => (hef.1 j hj).trans (hde.1 j hj), hef.2.1.trans hde.2.1, hef.2.2.trans hde.2.2⟩

theorem strKeep_of_mask {α : Type} {qs : List Part} (k : Nat) (g : StringUnit → α) {d e : Dev} (h : Laws.mask qs e = Laws.mask qs d) (hstr : Part.str ∉ qs) : StrKeep k g d e := by
  have hs : e.str = d.str := (Laws.keeps_of_mask qs d e h .str hstr).symm
  have hu : ∀ j, strU e j = strU d j := fun j => by unfold strU; rw [hs]
  exact ⟨fun j _ => hu j, by rw [hs], by rw [hu]⟩

theorem strKeep_updStr {α : Type} (d : Dev) (k : Nat) (g : StringUnit → α) (f : StringUnit → StringUnit) (hf : ∀ u, g (f u) = g u) : StrKeep k g d (updStr d k f) :=
  ⟨fun j hj => strU_updStr_other _ _ _ _ hj, updStr_length _ _ _, by
    rcases Nat.lt_or_ge k d.str.length with hlen | hlen
    · rw [strU_updStr_same _ _ _ hlen, hf]
    · rw [strU_updStr_beyond _ _ _ hlen]⟩

/-- A string without its capo and what follows it: the allotments, the clamp, the events. -/
def capless (u : StringUnit) : StringUnit :=
  { u with capo := 0, capoClamp := false, lastClamp := none, allot := {}, next := none, nextTop := 0, derated := false, event := 0 }

theorem strKeep_clampBegins (d : Dev) (k first : Nat) : StrKeep k capless d (clampBegins d k first) := by
  have hmark : StrKeep k capless d (setFbEvent (updStr d k (fun u => { u with capoClamp := true })) 2) :=
    (strKeep_updStr d k capless (fun u => { u with capoClamp := true }) (fun _ => rfl)).trans
      (strKeep_of_mask (qs := [.fb, .int]) _ _ (Laws.mask_setFbEvent _ _ _ (by decide) (by decide)) (by decide))
  have hrecord : ∀ e m a b, StrKeep k capless e (record (updStr e k (fun u => { u with lastClamp := some m })) 0x0043 0x03 false k a b first) := fun e m _ _ =>
    (strKeep_updStr e k capless (fun u => { u with lastClamp := some m }) (fun _ => rfl)).trans
      (strKeep_of_mask (qs := [.int, .rcd]) _ _ (Laws.mask_record _ _ _ _ _ _ _ _ _ (by decide) (by decide)) (by decide))
  unfold clampBegins
  dsimp only
  split
  · exact .refl _ _ d
  · split
    · exact hmark
    · refine hmark.trans ?_
      exact hrecord _ _ _ _

theorem strKeep_moveCapo (d : Dev) (k capo : Nat) : StrKeep k capless d (moveCapo d k capo) := by
  have hcapNext : ∀ e i ovr, StrKeep k capless e (capNext e k i ovr) := fun e i ovr => strKeep_updStr e k capless _ (fun _ => rfl)
  have hcapped : ∀ f g : StringUnit → StringUnit, (∀ u, capless (f u) = capless u) → (∀ u, capless (g u) = capless u) → ∀ i ovr,
      StrKeep k capless d (setStrEvent (capNext (updStr (updStr d k f) k g) k i ovr) k 3) := fun f g hf hg i ovr =>
    ((strKeep_updStr d k capless f hf).trans (strKeep_updStr _ k capless g hg)).trans ((hcapNext _ i ovr).trans (strKeep_updStr _ k capless _ (fun _ => rfl)))
  unfold moveCapo
  dsimp only
  split
  · exact .refl _ _ d
  · split
    · exact strKeep_updStr d k capless _ (fun _ => rfl)
    · split
      · refine StrKeep.trans ?_ (strKeep_clampBegins _ _ _)
        refine hcapped _ _ ?_ ?_ _ _ <;> exact fun _ => rfl
      · split
        · refine StrKeep.trans ?_ (strKeep_clampBegins _ _ _)
          refine hcapped _ _ ?_ ?_ _ _ <;> exact fun _ => rfl
        · refine hcapped _ _ ?_ ?_ _ _ <;> exact fun _ => rfl

theorem strKeep_noteDerated (d : Dev) (k : Nat) : StrKeep k capless d (noteDerated d k) := by
  have hmark : ∀ low, StrKeep k capless d (updStr d k (fun u => { u with derated := low })) := fun low => strKeep_updStr d k capless _ (fun _ => rfl)
  unfold noteDerated
  dsimp only
  split
  · exact .refl _ _ d
  · split
    · exact (hmark _).trans (strKeep_of_mask (qs := [.flt]) _ _ (Laws.mask_detect _ _ _ _ _ _ (by decide)) (by decide))
    · exact hmark _

theorem strKeep_recapo (d : Dev) (k : Nat) : StrKeep k capless d (recapo d k) := (strKeep_moveCapo d k _).trans (strKeep_noteDerated _ k)

theorem strFate_recapo (d : Dev) (k : Nat) : StrFate (· = k) d (recapo d k) := by
  obtain ⟨hother, hlen, hself⟩ := strKeep_recapo d k
  refine ⟨hlen, fun j => ⟨hother j, fun h => ?_⟩⟩
  by_cases hj : j = k
  · subst hj
    have hret := congrArg StringUnit.retired hself
    have hcode := congrArg StringUnit.retireCode hself
    exact ⟨hret.trans h, hcode⟩
  · rw [hother j hj]
    exact ⟨h, rfl⟩

theorem strFate_foldl_updPh (C : Nat → Prop) (l : List Nat) (f : Nat → PhaseUnit → PhaseUnit) (d : Dev) : StrFate C d (l.foldl (fun d p => updPh d p (f p)) d) :=
  strFate_foldl (fun (d : Dev) p => updPh d p (f p)) _ (fun _ _ _ => strFate_of_str _ rfl) d

theorem strFate_clearLoops (d : Dev) (k : Nat) : StrFate (· = k) d (clearLoops d k) :=
  (strFate_update d k (fun u => { u with u1 := 0, u2 := 0, e1 := 0, e2 := 0 }) (fun _ => rfl) (fun _ => rfl)).trans (strFate_foldl_updPh _ _ _ _)

theorem strFate_restPhases (d : Dev) (k : Nat) : StrFate (· = k) d (restPhases d k) := by
  cases h : (strU d k).retired with
  | true =>
    rw [restPhases_of_retired h]
    have hshow : StrFate (· = k) d (showRetired d k) := by
      have hst : StrFate (· = k) d (updStr d k (fun u => { u with st := .retired })) := strFate_update d k _ (fun _ => rfl) (fun _ => rfl)
      unfold showRetired
      dsimp only
      split
      · exact hst
      · exact hst.trans (strFate_setStrEvent _ _ _)
    exact hshow.trans ((strFate_foldl_updPh _ _ _ _).trans (strFate_recapo _ _))
  | false =>
    rw [restPhases_of_usable h]
    exact strFate_update d k _ (fun _ => rfl) (fun _ => rfl)

theorem strFate_safeString (d : Dev) (k : Nat) : StrFate (· = k) d (safeString d k) := by
  have hunload : ∀ ref now by', StrFate (· = k) d (unloaded d k ref now by') := fun ref now by' =>
    (strFate_clearLoops d k).trans (strFate_update _ k _ (fun _ => rfl) (fun _ => rfl))
  rcases safeString_cases d k with ⟨h, -⟩ | ⟨-, ref, now, by', h | h⟩
  · rw [h]
    exact .refl _ d
  · rw [h]
    exact (hunload ref now by').trans (strFate_update _ k _ (fun _ => rfl) (fun _ => rfl))
  · rw [h]
    exact (hunload ref now by').trans (strFate_restPhases _ k)

theorem strFate_markRetired (d : Dev) (k code : Nat) (h : (strU d k).retired = false) : StrFate (· = k) d (markRetired d k code) :=
  (strFate_updStr (C := (· = k)) d k (fun u => { u with retired := true, retireCode := code }) rfl fun ht => absurd (h.symm.trans ht) (by decide)).trans (strFate_setStrEvent _ _ _)

theorem strFate_behindMark (d : Dev) (k code : Nat) (h : (strU d k).retired = false) : StrFate (· = k) (markRetired d k code) (retireString d k code) := by
  rcases retireString_cases d k code with ⟨ht, -⟩ | ⟨-, e, he, hcase⟩
  · exact absurd (h.symm.trans ht) (by decide)
  · rw [he]
    refine StrFate.trans ?_ (strFate_of_mask (qs := [.jr, .fb, .int, .mp, .out, .fretOut]) _ (Laws.mask_endStringResv _ _ _ _ (by decide) (by decide) (by decide) (by decide) (by decide) (by decide)) (by decide))
    rcases hcase with rfl | rfl | rfl
    · exact strFate_safeString _ _
    · exact .refl _ _
    · exact strFate_restPhases _ _

theorem strFate_retireString (d : Dev) (k code : Nat) : StrFate (· = k) d (retireString d k code) := by
  cases h : (strU d k).retired with
  | true =>
    rw [show retireString d k code = d by unfold retireString; rw [if_pos h]]
    exact .refl _ d
  | false => exact (strFate_markRetired d k code h).trans (strFate_behindMark d k code h)

/-- A string that is not retired yet is retired with the code given. -/
theorem retireString_retires (d : Dev) (k code : Nat) (hk : k < d.str.length) :
    (strU (retireString d k code) k).retired = true ∧ ((strU d k).retired = false → (strU (retireString d k code) k).retireCode = code) := by
  cases h : (strU d k).retired with
  | true => exact ⟨(((strFate_retireString d k code).2 k).2 h).1, fun hf => absurd hf (by decide)⟩
  | false =>
    have hmark : strU (markRetired d k code) k = { strU d k with retired := true, retireCode := code, event := withBit (strU d k).event 4 } := by
      unfold markRetired setStrEvent
      rw [strU_updStr_same _ _ _ (by rw [updStr_length]; exact hk), strU_updStr_same _ _ _ hk]
    obtain ⟨hr, hc⟩ := ((strFate_behindMark d k code h).2 k).2 (by rw [hmark])
    exact ⟨hr, fun _ => by rw [hc, hmark]⟩

theorem strFate_courseLost (d : Dev) (k p : Nat) : StrFate (· = k) d (courseLost d k p) := (strFate_retireString d k _).trans (strFate_of_str _ rfl)

theorem strFate_dropDischarge (d : Dev) (k : Nat) : StrFate (· = k) d (dropDischarge d k) := by
  unfold dropDischarge
  split
  · exact strFate_restPhases d k
  · exact .refl _ d

theorem strFate_dropDischarges (d : Dev) : StrFate (fun _ => True) d (dropDischarges d) :=
  strFate_foldl _ _ (fun d k _ => (strFate_dropDischarge d k).mono fun _ _ => trivial) d

/-! ### One phase is retired (R192) -/

/-- A phase is marked retired. -/
def markPhase (d : Dev) (p cause code : Nat) : Dev :=
  updPh d p (fun q => { q with retired := true, follower := false, cause := cause, fault := code, limRun := 0, openRun := 0, stuckRun := 0, duties := [], rangeRun := 0, disRun := 0, fCycles := 0 })

theorem sameForce_markPhase (d : Dev) (p cause code : Nat) : SameForce d (markPhase d p cause code) := ⟨rfl, rfl⟩

/-- The phase's string follows: its capo falls, and its course may be lost. -/
def phaseGone (d : Dev) (k p : Nat) : Dev :=
  let d := setStrEvent (recapo d k) k 1
  if (strU d k).retired then d
  else if (strU d k).st == .safeDischarge then dropDischarge d k
  else if courseGone d k then courseLost d k p else d

theorem retirePhase_of_stringOf {d : Dev} {p k : Nat} (hret : (phU d p).retired = false) (hk : stringOf d p = some k) (cause code : Nat) :
    retirePhase d p cause code = phaseGone (markPhase d p cause code) k p := by
  have hk' : stringOf (markPhase d p cause code) p = some k := ((sameForce_markPhase d p cause code).stringOf p).trans hk
  unfold retirePhase
  rw [if_neg (by rw [hret]; decide)]
  dsimp only
  change (match stringOf (markPhase d p cause code) p with | none => _ | some k => _) = _
  rw [hk']
  rfl

theorem retirePhase_of_none {d : Dev} {p : Nat} (hret : (phU d p).retired = false) (hk : stringOf d p = none) (cause code : Nat) :
    retirePhase d p cause code = markPhase d p cause code := by
  have hk' : stringOf (markPhase d p cause code) p = none := ((sameForce_markPhase d p cause code).stringOf p).trans hk
  unfold retirePhase
  rw [if_neg (by rw [hret]; decide)]
  dsimp only
  change (match stringOf (markPhase d p cause code) p with | none => _ | some k => _) = _
  rw [hk']
  rfl

theorem retirePhase_of_retired {d : Dev} {p : Nat} (hret : (phU d p).retired = true) (cause code : Nat) : retirePhase d p cause code = d := by
  unfold retirePhase
  rw [if_pos hret]

theorem phFate_phaseGone (d : Dev) (k p : Nat) : PhFate (· ∈ course d k) d (phaseGone d k p) := by
  have hcapo : PhFate (· ∈ course d k) d (setStrEvent (recapo d k) k 1) := (phFate_recapo _ d k).trans (phFate_of_ph _ rfl)
  have hforce : SameForce d (setStrEvent (recapo d k) k 1) :=
    sameForce_of_mask (qs := [.fb, .str, .flt, .int, .rcd]) ((Laws.mask_setStrEvent _ _ _ _ (by decide)).trans (Laws.mask_recapo _ _ _ (by decide) (by decide) (by decide) (by decide) (by decide))) (by decide) (by decide)
  unfold phaseGone
  dsimp only
  split
  · exact hcapo
  · split
    · exact hcapo.inCourse hforce (phFate_dropDischarge _ k)
    · split
      · exact hcapo.inCourse hforce (phFate_courseLost _ k p)
      · exact hcapo

theorem strFate_phaseGone (d : Dev) (k p : Nat) : StrFate (· = k) d (phaseGone d k p) := by
  have hcapo : StrFate (· = k) d (setStrEvent (recapo d k) k 1) := (strFate_recapo d k).trans (strFate_setStrEvent _ _ _)
  unfold phaseGone
  dsimp only
  split
  · exact hcapo
  · split
    · exact hcapo.trans (strFate_dropDischarge _ k)
    · split
      · exact hcapo.trans (strFate_courseLost _ k p)
      · exact hcapo

/-- The phases that the retirement of one phase can change: itself, and those of its course. -/
def courseAround (d : Dev) (p q : Nat) : Prop := q = p ∨ ∃ k, stringOf d p = some k ∧ q ∈ course d k

theorem phFate_markPhase {C : Nat → Prop} (d : Dev) (p cause code : Nat) (hp : C p) (hret : (phU d p).retired = false) : PhFate C d (markPhase d p cause code) :=
  phFate_updPh d p (fun q => { q with retired := true, follower := false, cause := cause, fault := code, limRun := 0, openRun := 0, stuckRun := 0, duties := [], rangeRun := 0, disRun := 0, fCycles := 0 }) hp rfl
    (fun h => absurd (hret.symm.trans h) (by decide)) (fun _ => .inr rfl)

theorem phFate_retirePhase (d : Dev) (p cause code : Nat) : PhFate (courseAround d p) d (retirePhase d p cause code) := by
  cases hret : (phU d p).retired with
  | true =>
    rw [retirePhase_of_retired hret]
    exact .refl _ d
  | false =>
    have hmark := phFate_markPhase (C := courseAround d p) d p cause code (.inl rfl) hret
    cases hk : stringOf d p with
    | none =>
      rw [retirePhase_of_none hret hk]
      exact hmark
    | some k =>
      have hgone := phFate_phaseGone (markPhase d p cause code) k p
      rw [(sameForce_markPhase d p cause code).course] at hgone
      rw [retirePhase_of_stringOf hret hk]
      exact hmark.trans (hgone.mono fun q hq => .inr ⟨k, hk, hq⟩)

/-- A phase in service is retired with the cause and the code given. -/
theorem retirePhase_retires (d : Dev) (p cause code : Nat) (hp : p < d.ph.length) (hret : (phU d p).retired = false) :
    (phU (retirePhase d p cause code) p).retired = true ∧ (phU (retirePhase d p cause code) p).cause = cause ∧ (phU (retirePhase d p cause code) p).fault = code := by
  have hmark : (phU (markPhase d p cause code) p).retired = true ∧ (phU (markPhase d p cause code) p).cause = cause ∧ (phU (markPhase d p cause code) p).fault = code := by
    unfold markPhase
    rw [phU_updPh_same _ _ _ hp]
    exact ⟨rfl, rfl, rfl⟩
  cases hk : stringOf d p with
  | none =>
    rw [retirePhase_of_none hret hk]
    exact hmark
  | some k =>
    rw [retirePhase_of_stringOf hret hk]
    obtain ⟨hr, hc, hf⟩ := (phFate_phaseGone (markPhase d p cause code) k p p).2.2.1 hmark.1
    exact ⟨hr, hc.trans hmark.2.1, hf.trans hmark.2.2⟩

end Sys2Proof.Machine
end

section
/-!
SUPPORT and SETTLEMENT. Stage links: uplink blocks, lost slots, the second downlink slot.
-/
namespace Sys2Proof.Machine
open Sys2Proof.Safety

/-! ### One link -/

/-- Of the links only `k` differs, and `g` of it stands. -/
def LkKeep {α : Type} (k : Nat) (g : LinkUnit → α) (d e : Dev) : Prop :=
  (∀ j, j ≠ k → lkU e j = lkU d j) ∧ e.lk.length = d.lk.length ∧ g (lkU e k) = g (lkU d k)

theorem LkKeep.refl {α : Type} (k : Nat) (g : LinkUnit → α) (d : Dev) : LkKeep k g d d := ⟨fun _ _ => rfl, rfl, rfl⟩

theorem LkKeep.trans {α : Type} {k : Nat} {g : LinkUnit → α} {d e f : Dev} (hde : LkKeep k g d e) (hef : LkKeep k g e f) : LkKeep k g d f :=
  ⟨fun j hj => (hef.1 j hj).trans (hde.1 j hj), hef.2.1.trans hde.2.1, hef.2.2.trans hde.2.2⟩

theorem lkKeep_of_lk {α : Type} (k : Nat) (g : LinkUnit → α) {d e : Dev} (h : e.lk = d.lk) : LkKeep k g d e := by
  have hu : ∀ j, lkU e j = lkU d j := fun j => by unfold lkU; rw [h]
  exact ⟨fun j _ => hu j, by rw [h], by rw [hu]⟩

theorem lkKeep_of_mask {α : Type} {qs : List Part} (k : Nat) (g : LinkUnit → α) {d e : Dev} (h : Laws.mask qs e = Laws.mask qs d) (hlk : Part.lk ∉ qs) : LkKeep k g d e :=
  lkKeep_of_lk k g (Laws.keeps_of_mask qs d e h .lk hlk).symm

theorem lkU_updLk_beyond (d : Dev) (k : Nat) (f : LinkUnit → LinkUnit) (hlen : d.lk.length ≤ k) : lkU (updLk d k f) k = lkU d k := by
  unfold lkU updLk at' upd
  rw [getD_beyond (by rw [List.length_modify]; omega), getD_beyond (by omega)]

theorem lkKeep_updLk {α : Type} (d : Dev) (k : Nat) (g : LinkUnit → α) (f : LinkUnit → LinkUnit) (hf : ∀ l, g (f l) = g l) : LkKeep k g d (updLk d k f) :=
  ⟨fun j hj => lkU_updLk_other _ _ _ _ hj, updLk_length _ _ _, by
    rcases Nat.lt_or_ge k d.lk.length with hlen | hlen
    · rw [lkU_updLk_same _ _ _ hlen, hf]
    · rw [lkU_updLk_beyond _ _ _ hlen]⟩

theorem lkKeep_foldl {α β : Type} (k : Nat) (g : LinkUnit → α) (f : Dev → β → Dev) (l : List β) (hf : ∀ d b, LkKeep k g d (f d b)) (d : Dev) : LkKeep k g d (l.foldl f d) := by
  induction l generalizing d with
  | nil => exact .refl k g d
  | cons b l ih => exact (hf d b).trans (ih _)

theorem lkKeep_detect {α : Type} (k : Nat) (g : LinkUnit → α) (d : Dev) (code p0 p1 p2 : Nat) : LkKeep k g d (detect d code p0 p1 p2) := lkKeep_of_lk k g rfl

theorem lkKeep_detectInj {α : Type} (k : Nat) (g : LinkUnit → α) (d : Dev) (code p0 p1 p2 : Nat) (inj obs : Bool) : LkKeep k g d (detectInj d code p0 p1 p2 inj obs) := lkKeep_of_lk k g rfl

/-- A link without what a status word or a recovery changes. -/
def lasting (l : LinkUnit) : LinkUnit := { l with st := .unused, recoverAt := 0, event := 0 }

/-- A link without what the verdict on a downlink slot changes. -/
def unjudged (l : LinkUnit) : LinkUnit := { l with flight := [], judged := 0, goodDown := 0, down := 0, up := 0, lostNow := 0, lostJudged := 0 }

theorem lkKeep_setLinkEvent (d : Dev) (k b : Nat) : LkKeep k lasting d (setLinkEvent d k b) := by
  refine (lkKeep_updLk d k lasting (fun l => { l with event := withBit l.event b }) (fun _ => rfl)).trans ?_
  exact lkKeep_of_mask (qs := [.int]) k _ (Laws.mask_occur _ _ _ (by decide)) (by decide)

theorem lkKeep_retirePhase {α : Type} (d : Dev) (k p cause code : Nat) (g : LinkUnit → α) : LkKeep k g d (retirePhase d p cause code) :=
  lkKeep_of_mask (qs := [.jr, .fb, .str, .ph, .flt, .int, .rcd, .mp, .out, .fretOut]) k g
    (Laws.mask_retirePhase _ _ _ _ _ (by decide) (by decide) (by decide) (by decide) (by decide) (by decide) (by decide) (by decide) (by decide) (by decide)) (by decide)

theorem lkKeep_recoverLink (d : Dev) (k value : Nat) : LkKeep k lasting d (recoverLink d k value) := by
  have hdrop : ∀ e : Dev, LkKeep k lasting e (dropDischarges (suspendTests e k)) := fun e =>
    lkKeep_of_mask (qs := restParts) k _ ((Laws.mask_dropDischarges _ _ (by decide) (by decide) (by decide) (by decide) (by decide) (by decide)).trans (Laws.mask_suspendTests _ _ _ (by decide))) (by decide)
  unfold recoverLink
  dsimp only
  refine LkKeep.trans (lkKeep_updLk d k lasting (fun l => { l with st := .recovering, recoverAt := d.clk.tick }) (fun _ => rfl)) ((hdrop _).trans ((lkKeep_setLinkEvent _ k 0).trans (lkKeep_detect _ _ _ _ _ _ _)))

theorem lkKeep_lostSlot (d : Dev) (k : Nat) (down inj : Bool) : LkKeep k unjudged d (lostSlot d k down inj) := by
  unfold lostSlot
  dsimp only
  refine LkKeep.trans ?_ (lkKeep_detectInj _ _ _ _ _ _ _ _ _)
  exact lkKeep_updLk d k unjudged _ (fun _ => rfl)

theorem lkKeep_takeAck (d : Dev) (k : Nat) (b : Block) (second : Bool) : LkKeep k unjudged d (takeAck d k b second) := by
  have hcredit : LkKeep k unjudged d (if creditHeld (lkU d k) b second then d else creditBack d k second) := by
    split
    · exact .refl _ _ d
    · exact lkKeep_updLk d k unjudged _ (fun _ => rfl)
  unfold takeAck
  dsimp only
  split
  · exact .refl _ _ d
  · have hjudge := hcredit.trans (lkKeep_updLk _ k unjudged (fun l => { l with judged := ackJudged b }) (fun _ => rfl))
    split
    · exact hjudge.trans ((lkKeep_updLk _ k unjudged (fun l => { l with goodDown := 0 }) (fun _ => rfl)).trans (lkKeep_lostSlot _ k true false))
    · exact hjudge.trans (lkKeep_updLk _ k unjudged _ (fun _ => rfl))

/-! ### The stage status word (R214, R224, R225) -/

/-- One lane fault of a status word. -/
def laneFault (k old st : Nat) (d : Dev) (i : Nat) : Dev :=
  if st / 2 ^ i % 2 = 1 && (old / 2 ^ i % 2 = 0 || !(phU d (4 * k + i)).retired) then detect (setLinkEvent (retirePhase d (4 * k + i) 6 0x1204) k 3) 0x1204 k i st else d

/-- What the status word does to the lanes, then the over-temperature report. -/
def laneFaults (d : Dev) (k old st : Nat) : Dev :=
  let d := (List.range 4).foldl (laneFault k old st) d
  if st / 32 % 2 = 1 ∧ old / 32 % 2 = 0 then detect (setLinkEvent d k 4) 0x1205 k 0xFFFFFFFF st else d

/-- The stage acknowledged RUN before the stamp (R224). -/
def ranBefore (l : LinkUnit) (stamp : Nat) : Bool := match l.runSince with | some m => decide (m + 1 ≤ stamp) | none => false

/-- The STAGE_SAFE report. -/
def followSafe (d : Dev) (k stamp st : Nat) : Dev :=
  let safe := decide (st / 16 % 2 = 1)
  let l := lkU d k
  if l.st == .up && safe && ranBefore l stamp then recoverLink d k st
  else if l.st == .recovering && !safe && !l.hold then updLk d k (fun l => { l with st := .up })
  else d

/-- The link takes its status word. -/
def noteStatus (d : Dev) (k st : Nat) : Dev := updLk d k (fun l => { l with status := st, stageSafe := decide (st / 16 % 2 = 1) })

theorem takeStatus_eq (d : Dev) (k stamp st : Nat) : takeStatus d k stamp st = followSafe (laneFaults (noteStatus d k st) k (lkU d k).status st) k stamp st := rfl

theorem lkKeep_laneFault (k old st : Nat) (d : Dev) (i : Nat) : LkKeep k lasting d (laneFault k old st d i) := by
  unfold laneFault
  split
  · exact (lkKeep_retirePhase d k _ 6 0x1204 lasting).trans ((lkKeep_setLinkEvent _ k 3).trans (lkKeep_detect _ _ _ _ _ _ _))
  · exact .refl _ _ d

theorem lkKeep_laneFaults (d : Dev) (k old st : Nat) : LkKeep k lasting d (laneFaults d k old st) := by
  unfold laneFaults
  dsimp only
  split
  · exact (lkKeep_foldl k lasting _ _ (lkKeep_laneFault k old st) d).trans ((lkKeep_setLinkEvent _ k 4).trans (lkKeep_detect _ _ _ _ _ _ _))
  · exact lkKeep_foldl k lasting _ _ (lkKeep_laneFault k old st) d

theorem followSafe_cases (d : Dev) (k stamp st : Nat) :
    followSafe d k stamp st = recoverLink d k st ∨ followSafe d k stamp st = updLk d k (fun l => { l with st := .up }) ∨ followSafe d k stamp st = d := by
  unfold followSafe
  dsimp only
  split
  · exact .inl rfl
  · split
    · exact .inr (.inl rfl)
    · exact .inr (.inr rfl)

theorem lkKeep_followSafe (d : Dev) (k stamp st : Nat) : LkKeep k lasting d (followSafe d k stamp st) := by
  rcases followSafe_cases d k stamp st with h | h | h <;> rw [h]
  · exact lkKeep_recoverLink d k st
  · exact lkKeep_updLk d k lasting _ (fun _ => rfl)
  · exact .refl _ _ d

/-- The parts that a status word can change. -/
def statusParts : List Part := [.jr, .fb, .str, .ph, .lk, .flt, .int, .rcd, .mp, .out, .fretOut]

theorem mask_laneFault (k old st : Nat) (d : Dev) (i : Nat) : Laws.mask statusParts (laneFault k old st d i) = Laws.mask statusParts d := by
  unfold laneFault
  split
  · rw [Laws.mask_detect _ _ _ _ _ _ (by decide), Laws.mask_setLinkEvent _ _ _ _ (by decide) (by decide),
      Laws.mask_retirePhase _ _ _ _ _ (by decide) (by decide) (by decide) (by decide) (by decide) (by decide) (by decide) (by decide) (by decide) (by decide)]
  · rfl

theorem mask_takeStatus (d : Dev) (k stamp st : Nat) : Laws.mask statusParts (takeStatus d k stamp st) = Laws.mask statusParts d := by
  have hlanes : ∀ e old, Laws.mask statusParts (laneFaults e k old st) = Laws.mask statusParts e := fun e old => by
    unfold laneFaults
    dsimp only
    rw [Laws.mask_ite, Laws.mask_detect _ _ _ _ _ _ (by decide), Laws.mask_setLinkEvent _ _ _ _ (by decide) (by decide), ite_self]
    exact Laws.mask_foldl _ _ (fun e i => mask_laneFault k old st e i) _ _
  have hsafe : ∀ e, Laws.mask statusParts (followSafe e k stamp st) = Laws.mask statusParts e := fun e => by
    unfold followSafe
    dsimp only
    rw [Laws.mask_ite, Laws.mask_ite, Laws.mask_recoverLink _ _ _ _ (by decide) (by decide) (by decide) (by decide) (by decide) (by decide) (by decide), Laws.mask_updLk _ _ _ _ (by decide), ite_self, ite_self]
  rw [takeStatus_eq, hsafe, hlanes]
  exact Laws.mask_updLk _ _ _ _ (by decide)

theorem phFate_detectLink (C : Nat → Prop) (d : Dev) (k b code p0 p1 p2 : Nat) : PhFate C d (detect (setLinkEvent d k b) code p0 p1 p2) :=
  phFate_of_mask (qs := [.lk, .int, .flt]) C ((Laws.mask_detect _ _ _ _ _ _ (by decide)).trans (Laws.mask_setLinkEvent _ _ _ _ (by decide) (by decide))) (by decide)

theorem phFate_suspendTests (d : Dev) (k : Nat) : PhFate (fun _ => True) d (suspendTests d k) := by
  unfold suspendTests
  exact phFate_foldl _ _ (fun _ _ _ => phFate_updPh _ _ _ trivial rfl (fun h => ⟨h, rfl, rfl⟩) .inl) _

theorem phFate_recoverLink (d : Dev) (k value : Nat) : PhFate (fun _ => True) d (recoverLink d k value) := by
  unfold recoverLink
  dsimp only
  refine PhFate.trans (phFate_of_ph _ (e := updLk d k (fun l => { l with st := .recovering, recoverAt := d.clk.tick })) rfl) ?_
  exact (phFate_suspendTests _ k).trans ((phFate_dropDischarges _).trans (phFate_detectLink _ _ k 0 0x1201 k 0xFFFFFFFF value))

theorem phFate_takeStatus (d : Dev) (k stamp st : Nat) : PhFate (fun _ => True) d (takeStatus d k stamp st) := by
  have hlane : ∀ e old i, PhFate (fun _ => True) e (laneFault k old st e i) := fun e old i => by
    unfold laneFault
    split
    · exact ((phFate_retirePhase e _ 6 0x1204).mono fun _ _ => trivial).trans (phFate_detectLink _ _ _ _ _ _ _ _)
    · exact .refl _ e
  have hlanes : ∀ e old, PhFate (fun _ => True) e (laneFaults e k old st) := fun e old => by
    unfold laneFaults
    dsimp only
    split
    · exact (phFate_foldl _ _ (fun e i _ => hlane e old i) e).trans (phFate_detectLink _ _ _ _ _ _ _ _)
    · exact phFate_foldl _ _ (fun e i _ => hlane e old i) e
  rw [takeStatus_eq]
  refine PhFate.trans (phFate_of_ph _ (e := noteStatus d k st) rfl) ((hlanes _ (lkU d k).status).trans ?_)
  generalize laneFaults (noteStatus d k st) k (lkU d k).status st = e
  rcases followSafe_cases e k stamp st with h | h | h <;> rw [h]
  · exact phFate_recoverLink _ k st
  · exact phFate_of_ph _ rfl
  · exact .refl _ _

/-- The link behind a status word: it shows the word, and its traffic stands. -/
theorem lkU_takeStatus (d : Dev) (k stamp st : Nat) (hk : k < d.lk.length) :
    lasting (lkU (takeStatus d k stamp st) k) = lasting { lkU d k with status := st, stageSafe := decide (st / 16 % 2 = 1) } ∧ ∀ j, j ≠ k → lkU (takeStatus d k stamp st) j = lkU d j := by
  have hkeep := (lkKeep_laneFaults (noteStatus d k st) k (lkU d k).status st).trans (lkKeep_followSafe _ k stamp st)
  have hnote : lkU (noteStatus d k st) k = { lkU d k with status := st, stageSafe := decide (st / 16 % 2 = 1) } := lkU_updLk_same _ _ _ hk
  rw [takeStatus_eq]
  exact ⟨by rw [hkeep.2.2, hnote], fun j hj => (hkeep.1 j hj).trans (lkU_updLk_other _ _ _ _ hj)⟩

/-! ### The four lanes of a block -/

theorem phU_lanes (f : Nat → PhaseUnit → PhaseUnit) (k : Nat) (d : Dev) (hlen : 4 * k + 4 ≤ d.ph.length) :
    ∀ i < 4, phU ((List.range 4).foldl (fun d i => updPh d (4 * k + i) (f i)) d) (4 * k + i) = f i (phU d (4 * k + i)) := by
  change ∀ i < 4, phU (updPh (updPh (updPh (updPh d (4 * k + 0) (f 0)) (4 * k + 1) (f 1)) (4 * k + 2) (f 2)) (4 * k + 3) (f 3)) (4 * k + i) = _
  intro i hi
  have hsame : ∀ (e : Dev) (j : Nat), j < 4 → e.ph.length = d.ph.length → phU (updPh e (4 * k + j) (f j)) (4 * k + j) = f j (phU e (4 * k + j)) := fun e j hj he =>
    phU_updPh_same _ _ _ (by omega)
  have hother : ∀ (e : Dev) (j : Nat), j ≠ i → phU (updPh e (4 * k + j) (f j)) (4 * k + i) = phU e (4 * k + i) := fun e j hj => phU_updPh_other _ _ _ _ (by omega)
  match i, hi with
  | 0, _ => rw [hother _ 3 (by decide), hother _ 2 (by decide), hother _ 1 (by decide), hsame _ 0 (by decide) rfl]
  | 1, _ => rw [hother _ 3 (by decide), hother _ 2 (by decide), hsame _ 1 (by decide) (by simp), hother _ 0 (by decide)]
  | 2, _ => rw [hother _ 3 (by decide), hsame _ 2 (by decide) (by simp), hother _ 1 (by decide), hother _ 0 (by decide)]
  | 3, _ => rw [hsame _ 3 (by decide) (by simp), hother _ 2 (by decide), hother _ 1 (by decide), hother _ 0 (by decide)]

theorem mask_captureAt (d : Dev) (due : Nat) (r : CapRec) : Laws.mask [.capQueue] (captureAt d due r) = Laws.mask [.capQueue] d := by
  unfold captureAt
  rw [Laws.mask_ite, Laws.mask_capQueue _ _ _ (by decide), ite_self]

theorem mask_captureUplink (d : Dev) (k slot : Nat) (b : Block) : Laws.mask [.capQueue] (captureUplink d k slot b) = Laws.mask [.capQueue] d := mask_captureAt _ _ _

theorem sampleOf_congr {d e : Dev} (h : e.clk = d.clk) (b : Block) : sampleOf e b = sampleOf d b := by
  unfold sampleOf
  rw [h]

/-! ### A block of the first slot (R214) -/

/-- A good block of the first slot ends the run of lost slots, and its verdict is noted. -/
def heardLink (b : Block) (l : LinkUnit) : LinkUnit :=
  { l with nak := if ackValid b then some (ackNak b) else l.nak, upRun := 0, goodUp := l.goodUp + 1, hold := l.hold && decide (l.goodUp + 1 < 8) }

/-- The link behind a good block of the first slot, before its status word. -/
def telemetryLink (d : Dev) (k : Nat) (b : Block) : Dev :=
  takeAck (goodSlot (updLk (captureUplink d k 0 b) k (fun l => { l with nak := if ackValid b then some (ackNak b) else l.nak })) k) k b false

/-- The sample enters the link's inbox. -/
def queueSample (d : Dev) (k : Nat) (q : Sample) : Dev := updLk d k (fun l => { l with inbox := l.inbox ++ [q] })

theorem captureUplink_clk (d : Dev) (k slot : Nat) (b : Block) : (captureUplink d k slot b).clk = d.clk := (Laws.keeps_of_mask _ _ _ (mask_captureUplink d k slot b) .clk (by decide)).symm

theorem takeTelemetry_eq (d : Dev) (k : Nat) (b : Block) :
    takeTelemetry d k b = takeStatus (showSample (queueSample (telemetryLink d k b) k (sampleOf d b)) k (sampleOf d b)) k (sampleOf d b).stamp (pf b 27 2) := by
  have hq : sampleOf (goodSlot (updLk (captureUplink d k 0 b) k (fun l => { l with nak := if ackValid b then some (ackNak b) else l.nak })) k) b = sampleOf d b :=
    sampleOf_congr (captureUplink_clk d k 0 b) b
  unfold takeTelemetry
  dsimp only
  rw [hq]
  rfl

theorem telemetryLink_spec (d : Dev) (k : Nat) (b : Block) (hk : k < d.lk.length) :
    unjudged (lkU (telemetryLink d k b) k) = unjudged (heardLink b (lkU d k)) ∧ (telemetryLink d k b).lk.length = d.lk.length ∧ ∀ j, j ≠ k → lkU (telemetryLink d k b) j = lkU d j := by
  have hcap : (captureUplink d k 0 b).lk = d.lk := (Laws.keeps_of_mask _ _ _ (mask_captureUplink d k 0 b) .lk (by decide)).symm
  have hack := lkKeep_takeAck (goodSlot (updLk (captureUplink d k 0 b) k (fun l => { l with nak := if ackValid b then some (ackNak b) else l.nak })) k) k b false
  have hlen : k < (captureUplink d k 0 b).lk.length := by rw [hcap]; exact hk
  have hheard : lkU (goodSlot (updLk (captureUplink d k 0 b) k (fun l => { l with nak := if ackValid b then some (ackNak b) else l.nak })) k) k = heardLink b (lkU d k) := by
    unfold goodSlot
    rw [lkU_updLk_same _ _ _ (by rw [updLk_length]; exact hlen), lkU_updLk_same _ _ _ hlen]
    unfold lkU
    rw [hcap]
    rfl
  refine ⟨by rw [← hheard]; exact hack.2.2, hack.2.1.trans ((updLk_length _ _ _).trans ((updLk_length _ _ _).trans (by rw [hcap]))), fun j hj => (hack.1 j hj).trans ?_⟩
  unfold goodSlot
  rw [lkU_updLk_other _ _ _ _ hj, lkU_updLk_other _ _ _ _ hj]
  unfold lkU
  rw [hcap]

/-- The parts that an uplink block can change. -/
def uplinkParts : List Part := .capQueue :: statusParts

theorem mask_telemetryLink (d : Dev) (k : Nat) (b : Block) : Laws.mask [.capQueue, .lk, .flt] (telemetryLink d k b) = Laws.mask [.capQueue, .lk, .flt] d := by
  unfold telemetryLink
  rw [Laws.mask_takeAck _ _ _ _ _ (by decide) (by decide), Laws.mask_goodSlot _ _ _ (by decide), Laws.mask_updLk _ _ _ _ (by decide)]
  exact mask_of_subset (by decide) (mask_captureUplink d k 0 b)

theorem mask_shownStatus (d : Dev) (k stamp st : Nat) (q : Sample) : Laws.mask statusParts (takeStatus (showSample d k q) k stamp st) = Laws.mask statusParts d :=
  (mask_takeStatus _ k stamp st).trans (Laws.mask_showSample _ _ _ _ (by decide))

theorem mask_takeTelemetry (d : Dev) (k : Nat) (b : Block) : Laws.mask uplinkParts (takeTelemetry d k b) = Laws.mask uplinkParts d := by
  rw [takeTelemetry_eq]
  refine (mask_of_subset (by decide) (mask_shownStatus _ k _ _ _)).trans ?_
  refine (Laws.mask_updLk _ _ _ _ (by decide)).trans ?_
  exact mask_of_subset (by decide) (mask_telemetryLink d k b)

theorem phU_showSample (d : Dev) (k : Nat) (q : Sample) (hlen : 4 * k + 4 ≤ d.ph.length) : ∀ i < 4, (phU (showSample d k q) (4 * k + i)).current = q.cur.getD i 0 := by
  intro i hi
  have h := phU_lanes (fun i p => { p with current := q.cur.getD i 0 }) k d hlen i hi
  unfold showSample
  rw [h]

theorem showSample_lk (d : Dev) (k : Nat) (q : Sample) : (showSample d k q).lk = d.lk :=
  (Laws.keeps_of_mask _ _ _ (Laws.mask_showSample [.ph] d k q (by decide)) .lk (by decide)).symm

/-- A status word behind a sample: the currents are shown, the word too, and the link's traffic stands. -/
theorem shownStatus_spec (d : Dev) (k stamp st : Nat) (q : Sample) (hk : k < d.lk.length) (hlen : 4 * k + 4 ≤ d.ph.length) :
    lasting (lkU (takeStatus (showSample d k q) k stamp st) k) = lasting { lkU d k with status := st, stageSafe := decide (st / 16 % 2 = 1) } ∧
      (∀ j, j ≠ k → lkU (takeStatus (showSample d k q) k stamp st) j = lkU d j) ∧ ∀ i < 4, (phU (takeStatus (showSample d k q) k stamp st) (4 * k + i)).current = q.cur.getD i 0 := by
  have hlk := showSample_lk d k q
  have hu : ∀ j, lkU (showSample d k q) j = lkU d j := fun j => by unfold lkU; rw [hlk]
  obtain ⟨hself, hother⟩ := lkU_takeStatus (showSample d k q) k stamp st (by rw [hlk]; exact hk)
  exact ⟨by rw [hself, hu], fun j hj => (hother j hj).trans (hu j), fun i hi => ((phFate_takeStatus _ k stamp st (4 * k + i)).1).trans (phU_showSample d k q hlen i hi)⟩

theorem takeTelemetry_spec (d : Dev) (k : Nat) (b : Block) (hlk : d.lk.length = 16) (hph : d.ph.length = 64) (hk : k < 16) :
    (lkU (takeTelemetry d k b) k).inbox = (lkU d k).inbox ++ [sampleOf d b] ∧ (lkU (takeTelemetry d k b) k).upRun = 0 ∧
      (lkU (takeTelemetry d k b) k).goodUp = (lkU d k).goodUp + 1 ∧ (lkU (takeTelemetry d k b) k).status = pf b 27 2 ∧
      (lkU (takeTelemetry d k b) k).nak = (if ackValid b then some (ackNak b) else (lkU d k).nak) ∧
      (∀ i < 4, (phU (takeTelemetry d k b) (4 * k + i)).current = (sampleOf d b).cur.getD i 0) ∧ (∀ j, j ≠ k → lkU (takeTelemetry d k b) j = lkU d j) := by
  obtain ⟨hheard, hlen, hother⟩ := telemetryLink_spec d k b (by omega)
  have hph' : (telemetryLink d k b).ph = d.ph := (Laws.keeps_of_mask _ _ _ (mask_telemetryLink d k b) .ph (by decide)).symm
  have hin : k < (telemetryLink d k b).lk.length := by omega
  obtain ⟨hself, hrest, hcur⟩ := shownStatus_spec (queueSample (telemetryLink d k b) k (sampleOf d b)) k (sampleOf d b).stamp (pf b 27 2) (sampleOf d b)
    ((updLk_length _ _ _).symm ▸ hin) (by change _ ≤ (telemetryLink d k b).ph.length; rw [hph']; omega)
  have hqueue : lkU (queueSample (telemetryLink d k b) k (sampleOf d b)) k = { lkU (telemetryLink d k b) k with inbox := (lkU (telemetryLink d k b) k).inbox ++ [sampleOf d b] } := lkU_updLk_same _ _ _ hin
  rw [hqueue] at hself
  rw [takeTelemetry_eq]
  refine ⟨?_, ?_, ?_, ?_, ?_, hcur, fun j hj => (hrest j hj).trans ((lkU_updLk_other _ _ _ _ hj).trans (hother j hj))⟩
  · have hinbox : (lkU (telemetryLink d k b) k).inbox = (lkU d k).inbox := by
      have h := congrArg LinkUnit.inbox hheard
      exact h
    rw [← hinbox]
    have h := congrArg LinkUnit.inbox hself
    exact h
  · exact (congrArg LinkUnit.upRun hself).trans (congrArg LinkUnit.upRun hheard)
  · exact (congrArg LinkUnit.goodUp hself).trans (congrArg LinkUnit.goodUp hheard)
  · exact congrArg LinkUnit.status hself
  · exact (congrArg LinkUnit.nak hself).trans (congrArg LinkUnit.nak hheard)

/-! ### STATUS blocks (R215) and re-sends (R218) -/

/-- What a second-slot block does to the link before its own contents. -/
def verdictLink (d : Dev) (k : Nat) (b : Block) : Dev := takeAck (ackRun (goodSlot d k) k b) k b true

/-- A link without what a good second slot and its verdict change. -/
def unheard (l : LinkUnit) : LinkUnit := { unjudged l with goodUp := 0, hold := false, runSince := none }

theorem lkKeep_ackRun (d : Dev) (k : Nat) (b : Block) : LkKeep k unheard d (ackRun d k b) := by
  unfold ackRun
  exact lkKeep_updLk _ _ _ _ (fun _ => rfl)

theorem verdictLink_spec (d : Dev) (k : Nat) (b : Block) (hk : k < d.lk.length) :
    unheard (lkU (verdictLink d k b) k) = unheard { lkU d k with upRun := 0 } ∧ (verdictLink d k b).lk.length = d.lk.length ∧ ∀ j, j ≠ k → lkU (verdictLink d k b) j = lkU d j := by
  have hack := lkKeep_takeAck (ackRun (goodSlot d k) k b) k b true
  have hrun := lkKeep_ackRun (goodSlot d k) k b
  have hgood : lkU (goodSlot d k) k = { lkU d k with upRun := 0, goodUp := (lkU d k).goodUp + 1, hold := (lkU d k).hold && decide ((lkU d k).goodUp + 1 < 8) } := lkU_updLk_same _ _ _ hk
  refine ⟨?_, hack.2.1.trans (hrun.2.1.trans (updLk_length _ _ _)), fun j hj => (hack.1 j hj).trans ((hrun.1 j hj).trans (lkU_updLk_other _ _ _ _ hj))⟩
  have hverdict : unheard (lkU (verdictLink d k b) k) = unheard (lkU (ackRun (goodSlot d k) k b) k) := congrArg (fun l => ({ l with goodUp := 0, hold := false, runSince := none } : LinkUnit)) hack.2.2
  rw [hverdict, hrun.2.2, hgood]
  rfl

theorem mask_verdictLink (d : Dev) (k : Nat) (b : Block) : Laws.mask [.lk, .flt] (verdictLink d k b) = Laws.mask [.lk, .flt] d := by
  unfold verdictLink
  rw [Laws.mask_takeAck _ _ _ _ _ (by decide) (by decide), Laws.mask_ackRun _ _ _ _ (by decide), Laws.mask_goodSlot _ _ _ (by decide)]

/-- The stage's temperatures (R215). -/
def showTemps (d : Dev) (k : Nat) (b : Block) : Dev :=
  (List.range 4).foldl (fun d i => updPh d (4 * k + i) (fun p => { p with temp := signed 16 (pf b (1 + 2 * i) 2), tSum := p.tSum + signed 16 (pf b (1 + 2 * i) 2), tCnt := p.tCnt + 1 })) d

/-- The stage's identity (R215). -/
def noteStage (d : Dev) (k : Nat) (b : Block) : Dev := updLk d k (fun l => { l with stageId := pf b 9 2, caps := pf b 11 1, stageLost := pf b 12 2, idSeen := true })

theorem takeStageStatus_cases (d : Dev) (k : Nat) (b : Block) :
    takeStageStatus d k b = noteStage (showTemps (verdictLink (captureUplink d k 1 b) k b) k b) k b ∨
    takeStageStatus d k b = detect (setLinkEvent (noteStage (showTemps (verdictLink (captureUplink d k 1 b) k b) k b) k b) k 5) 0x1206 k 0xFFFFFFFF (pf b 9 2) := by
  unfold takeStageStatus
  dsimp only
  split
  · exact .inr rfl
  · exact .inl rfl

theorem showTemps_lk (d : Dev) (k : Nat) (b : Block) : (showTemps d k b).lk = d.lk := by
  have h : Laws.mask [.ph] (showTemps d k b) = Laws.mask [.ph] d := by
    unfold showTemps
    exact Laws.mask_foldl _ _ (fun _ _ => Laws.mask_updPh _ _ _ _ (by decide)) _ _
  exact (Laws.keeps_of_mask _ _ _ h .lk (by decide)).symm

theorem mask_showTemps (d : Dev) (k : Nat) (b : Block) : Laws.mask [.ph] (showTemps d k b) = Laws.mask [.ph] d := by
  unfold showTemps
  exact Laws.mask_foldl _ _ (fun _ _ => Laws.mask_updPh _ _ _ _ (by decide)) _ _

theorem phU_showTemps (d : Dev) (k : Nat) (b : Block) (hlen : 4 * k + 4 ≤ d.ph.length) : ∀ i < 4, (phU (showTemps d k b) (4 * k + i)).temp = signed 16 (pf b (1 + 2 * i) 2) := by
  intro i hi
  have h := phU_lanes (fun i p => { p with temp := signed 16 (pf b (1 + 2 * i) 2), tSum := p.tSum + signed 16 (pf b (1 + 2 * i) 2), tCnt := p.tCnt + 1 }) k d hlen i hi
  unfold showTemps
  rw [h]

theorem phU_noteStage (d : Dev) (k : Nat) (b : Block) (p : Nat) : phU (noteStage d k b) p = phU d p := rfl

/-- What a STATUS block shows of its link and its phases. -/
def StageShown (k : Nat) (b : Block) (d e : Dev) : Prop :=
  (lkU e k).stageId = pf b 9 2 ∧ (lkU e k).caps = pf b 11 1 ∧ (lkU e k).stageLost = pf b 12 2 ∧ (lkU e k).idSeen = true ∧ (lkU e k).upRun = 0 ∧
    (∀ i < 4, (phU e (4 * k + i)).temp = signed 16 (pf b (1 + 2 * i) 2)) ∧ ∀ j, j ≠ k → lkU e j = lkU d j

theorem stageShown_noteStage (d : Dev) (k : Nat) (b : Block) (hlk : d.lk.length = 16) (hph : d.ph.length = 64) (hk : k < 16) :
    StageShown k b d (noteStage (showTemps (verdictLink (captureUplink d k 1 b) k b) k b) k b) := by
  have hkept := Laws.keeps_of_mask _ _ _ (mask_captureUplink d k 1 b)
  have hlk' : (captureUplink d k 1 b).lk = d.lk := (hkept .lk (by decide)).symm
  have hu : ∀ j, lkU (captureUplink d k 1 b) j = lkU d j := fun j => by unfold lkU; rw [hlk']
  obtain ⟨hverdict, hlen, hother⟩ := verdictLink_spec (captureUplink d k 1 b) k b (by rw [hlk']; omega)
  generalize hv : verdictLink (captureUplink d k 1 b) k b = v at *
  have hvph : v.ph = d.ph := by
    rw [← hv]
    exact ((Laws.keeps_of_mask _ _ _ (mask_verdictLink (captureUplink d k 1 b) k b) .ph (by decide)).symm).trans (hkept .ph (by decide)).symm
  have hshow : ∀ j, lkU (showTemps v k b) j = lkU v j := fun j => by unfold lkU; rw [showTemps_lk]
  have hnote : lkU (noteStage (showTemps v k b) k b) k = { lkU v k with stageId := pf b 9 2, caps := pf b 11 1, stageLost := pf b 12 2, idSeen := true } := by
    unfold noteStage
    rw [lkU_updLk_same _ _ _ (by rw [showTemps_lk, hlen, hlk']; omega), hshow]
  refine ⟨by rw [hnote], by rw [hnote], by rw [hnote], by rw [hnote], ?_, fun i hi => ?_, fun j hj => ?_⟩
  · rw [hnote]
    have h := congrArg LinkUnit.upRun hverdict
    exact h
  · rw [phU_noteStage]
    exact phU_showTemps v k b (by rw [hvph]; omega) i hi
  · exact (lkU_updLk_other _ _ _ _ hj).trans ((hshow j).trans ((hother j hj).trans (hu j)))

theorem stageShown_takeStageStatus (d : Dev) (k : Nat) (b : Block) (hlk : d.lk.length = 16) (hph : d.ph.length = 64) (hk : k < 16) : StageShown k b d (takeStageStatus d k b) := by
  have hnote := stageShown_noteStage d k b hlk hph hk
  rcases takeStageStatus_cases d k b with h | h <;> rw [h]
  · exact hnote
  · generalize noteStage (showTemps (verdictLink (captureUplink d k 1 b) k b) k b) k b = e at *
    obtain ⟨hid, hcaps, hlost, hseen, hrun, htemp, hother⟩ := hnote
    have hkeep := (lkKeep_setLinkEvent e k 5).trans (lkKeep_detect k lasting _ 0x1206 k 0xFFFFFFFF (pf b 9 2))
    have hself := hkeep.2.2
    have hph' : (detect (setLinkEvent e k 5) 0x1206 k 0xFFFFFFFF (pf b 9 2)).ph = e.ph :=
      (Laws.keeps_of_mask [.lk, .int, .flt] _ _ ((Laws.mask_detect _ _ _ _ _ _ (by decide)).trans (Laws.mask_setLinkEvent _ _ _ _ (by decide) (by decide))) .ph (by decide)).symm
    refine ⟨(congrArg LinkUnit.stageId hself).trans hid, (congrArg LinkUnit.caps hself).trans hcaps, (congrArg LinkUnit.stageLost hself).trans hlost, (congrArg LinkUnit.idSeen hself).trans hseen,
      (congrArg LinkUnit.upRun hself).trans hrun, fun i hi => ?_, fun j hj => (hkeep.1 j hj).trans (hother j hj)⟩
    unfold phU
    rw [hph']
    exact htemp i hi

/-- The parts that a STATUS block can change. -/
def stageParts : List Part := [.lk, .ph, .flt, .int, .capQueue]

theorem mask_takeStageStatus (d : Dev) (k : Nat) (b : Block) : Laws.mask stageParts (takeStageStatus d k b) = Laws.mask stageParts d := by
  have hnote : Laws.mask stageParts (noteStage (showTemps (verdictLink (captureUplink d k 1 b) k b) k b) k b) = Laws.mask stageParts d := by
    unfold noteStage
    rw [Laws.mask_updLk _ _ _ _ (by decide)]
    refine (mask_of_subset (by decide) (mask_showTemps _ k b)).trans ?_
    exact (mask_of_subset (by decide) (mask_verdictLink _ k b)).trans (mask_of_subset (by decide) (mask_captureUplink d k 1 b))
  rcases takeStageStatus_cases d k b with h | h <;> rw [h]
  · exact hnote
  · rw [Laws.mask_detect _ _ _ _ _ _ (by decide), Laws.mask_setLinkEvent _ _ _ _ (by decide) (by decide), hnote]

/-- The re-send of a refused block counts as late, and is refused no longer (R218). -/
def noteLate (d : Dev) (k : Nat) (b : Block) : Dev := updLk d k (fun l => { l with late := sat 65535 (l.late + 1), refused := l.refused.filter (fun q => q.1 != byteAt b 0) })

/-- The re-send enters the capture stream. -/
def captureResend (d : Dev) (k : Nat) (b : Block) : Dev := capture d (.uplink k 1 true (byteAt b 0) (payload b))

theorem mask_captureResend (d : Dev) (k : Nat) (b : Block) : Laws.mask [.capQueue] (captureResend d k b) = Laws.mask [.capQueue] d := mask_captureAt _ _ _

theorem takeResend_eq (d : Dev) (k : Nat) (b : Block) :
    takeResend d k b = takeStatus (showSample (noteLate (verdictLink (captureResend d k b) k b) k b) k (sampleOf (noteLate (verdictLink (captureResend d k b) k b) k b) b)) k
      (sampleOf (noteLate (verdictLink (captureResend d k b) k b) k b) b).stamp (pf b 27 2) := rfl

theorem mask_takeResend (d : Dev) (k : Nat) (b : Block) : Laws.mask uplinkParts (takeResend d k b) = Laws.mask uplinkParts d := by
  rw [takeResend_eq]
  refine (mask_of_subset (by decide) (mask_shownStatus _ k _ _ _)).trans ((Laws.mask_updLk _ _ _ _ (by decide)).trans ?_)
  exact (mask_of_subset (by decide) (mask_verdictLink _ k b)).trans (mask_of_subset (by decide) (mask_captureResend d k b))

theorem takeResend_spec (d : Dev) (k : Nat) (b : Block) (hlk : d.lk.length = 16) (hph : d.ph.length = 64) (hk : k < 16) :
    (lkU (takeResend d k b) k).late = min ((lkU d k).late + 1) 65535 ∧ (lkU (takeResend d k b) k).refused = (lkU d k).refused.filter (fun q => q.1 != byteAt b 0) ∧
      (lkU (takeResend d k b) k).inbox = (lkU d k).inbox ∧ ∀ j, j ≠ k → lkU (takeResend d k b) j = lkU d j := by
  have hkept := Laws.keeps_of_mask _ _ _ (mask_captureResend d k b)
  have hlk' : (captureResend d k b).lk = d.lk := (hkept .lk (by decide)).symm
  have hu : ∀ j, lkU (captureResend d k b) j = lkU d j := fun j => by unfold lkU; rw [hlk']
  obtain ⟨hverdict, hlen, hother⟩ := verdictLink_spec (captureResend d k b) k b (by rw [hlk']; omega)
  rw [takeResend_eq]
  have hvph : (verdictLink (captureResend d k b) k b).ph = d.ph :=
    ((Laws.keeps_of_mask _ _ _ (mask_verdictLink (captureResend d k b) k b) .ph (by decide)).symm).trans (hkept .ph (by decide)).symm
  generalize verdictLink (captureResend d k b) k b = v at *
  have hin : k < v.lk.length := by rw [hlen, hlk']; omega
  have hnote : lkU (noteLate v k b) k = { lkU v k with late := sat 65535 ((lkU v k).late + 1), refused := (lkU v k).refused.filter (fun q => q.1 != byteAt b 0) } := lkU_updLk_same _ _ _ hin
  obtain ⟨hself, hrest, -⟩ := shownStatus_spec (noteLate v k b) k (sampleOf (noteLate v k b) b).stamp (pf b 27 2) (sampleOf (noteLate v k b) b)
    ((updLk_length _ _ _).symm ▸ hin) (by change _ ≤ v.ph.length; rw [hvph]; omega)
  rw [hnote] at hself
  rw [hu] at hverdict
  have hlate : (lkU v k).late = (lkU d k).late := by
    have h := congrArg LinkUnit.late hverdict
    exact h
  have hrefused : (lkU v k).refused = (lkU d k).refused := by
    have h := congrArg LinkUnit.refused hverdict
    exact h
  have hinbox : (lkU v k).inbox = (lkU d k).inbox := by
    have h := congrArg LinkUnit.inbox hverdict
    exact h
  refine ⟨?_, ?_, ?_, fun j hj => (hrest j hj).trans ((lkU_updLk_other _ _ _ _ hj).trans ((hother j hj).trans (hu j)))⟩
  · rw [← hlate]
    have h := congrArg LinkUnit.late hself
    exact h
  · rw [← hrefused]
    have h := congrArg LinkUnit.refused hself
    exact h
  · rw [← hinbox]
    have h := congrArg LinkUnit.inbox hself
    exact h

/-! ### O33 -/

/-- Settles O33: a block of each kind is its capture, the verdict on the link, what it shows and, but for STATUS, the status word, and each of these leaves what the others wrote. -/
theorem uplinksAreTaken : Obligations.UplinksAreTaken := by
  unfold Obligations.UplinksAreTaken
  refine ⟨fun s k b hlk hph hk hlisten hinj hslot htype hcrc => ?_, fun s k b hlk hph hk hlisten hcrc => ⟨fun hslot htype => ?_, fun hslot htype hrefused => ?_⟩⟩
  · obtain ⟨hinbox, hrun, hgood, hst, hnak, hcur, hother⟩ := takeTelemetry_spec s.dev k b hlk hph hk
    refine ⟨takeTelemetry s.dev k b, congrArg (next s) ?_, hinbox, hrun, hgood, hst, hnak, hcur, hother, Laws.keeps_of_mask _ _ _ (mask_of_subset (by decide) (mask_takeTelemetry s.dev k b))⟩
    unfold uplinkA
    simp [hlisten, hinj, hslot, htype, hcrc]
  · obtain ⟨hid, hcaps, hlost, hseen, hrun, htemp, hother⟩ := stageShown_takeStageStatus s.dev k b hlk hph hk
    refine ⟨takeStageStatus s.dev k b, congrArg (next s) ?_, hid, hcaps, hlost, hseen, hrun, htemp, hother, Laws.keeps_of_mask _ _ _ (mask_of_subset (by decide) (mask_takeStageStatus s.dev k b))⟩
    simp [hlisten, hslot, htype, hcrc]
  · obtain ⟨hlate, hrefs, hinbox, hother⟩ := takeResend_spec s.dev k b hlk hph hk
    refine ⟨takeResend s.dev k b, congrArg (next s) ?_, hlate, hrefs, hinbox, hother, Laws.keeps_of_mask _ _ _ (mask_of_subset (by decide) (mask_takeResend s.dev k b))⟩
    have hany : ((lkU s.dev k).refused.any fun q => q.1 == byteAt b 0) = true := by
      obtain ⟨q, hq, hqb⟩ := hrefused
      exact List.any_eq_true.2 ⟨q, hq, beq_iff_eq.2 hqb⟩
    simp [hlisten, hany, hslot, htype, hcrc]

end Sys2Proof.Machine
end

section
/-!
SETTLEMENT. Lost uplink slots, the second downlink slot, and how links train and retire.
-/
namespace Sys2Proof.Machine
open Sys2Proof.Safety

/-! ### A lost uplink slot (R218, R221) -/

/-- A lost slot is counted, and ends the run of good ones. -/
def countedLink (tick : Nat) (second : Bool) (l : LinkUnit) : LinkUnit :=
  { l with up := sat 65535 (l.up + 1), lostNow := l.lostNow + 1, lostJudged := l.lostJudged + b2n (l.st == .held || l.st == .up || l.st == .recovering), upRun := l.upRun + 1, goodUp := 0, refused := if second then l.refused.filter (fun q => decide (tick < q.2 + 2)) else l.refused }

/-- The device behind a counted slot. -/
def counted (d : Dev) (k : Nat) (second inj : Bool) : Dev :=
  updLk (lostSlot (capture d (.lost k (b2n second))) k false inj) k (fun l => { l with upRun := l.upRun + 1, goodUp := 0, refused := if second then l.refused.filter (fun q => decide ((lostSlot (capture d (.lost k (b2n second))) k false inj).clk.tick < q.2 + 2)) else l.refused })

/-- The second block of the link went out in this tick. -/
def sentNow (l : LinkUnit) (tick : Nat) : Bool := match l.second with | some q => q.1 == tick | none => false

theorem sentNow_eq_any (l : LinkUnit) (tick : Nat) : sentNow l tick = l.second.any fun q => q.1 == tick := by
  unfold sentNow
  cases l.second <;> rfl

/-- The link behind a lost block of the first slot: missed at its due tick, and refused. -/
def missedLink (tick hdr : Nat) (l : LinkUnit) : LinkUnit :=
  if sentNow l tick then { l with lateDue := l.lateDue ++ [tick + 1], refusing := none, refused := l.refused.filter (fun q => decide (tick < q.2 + 3)) ++ [(hdr, tick)] }
  else { l with lateDue := l.lateDue ++ [tick + 1], refusing := some hdr }

theorem lkU_loseA (d : Dev) (k hdr : Nat) (hk : k < d.lk.length) :
    lkU (loseA d k hdr) k = missedLink d.clk.tick hdr (lkU d k) ∧ (loseA d k hdr).lk.length = d.lk.length ∧ ∀ j, j ≠ k → lkU (loseA d k hdr) j = lkU d j := by
  have hlate : lkU (updLk d k (fun l => { l with lateDue := l.lateDue ++ [d.clk.tick + 1], refusing := some hdr })) k = { lkU d k with lateDue := (lkU d k).lateDue ++ [d.clk.tick + 1], refusing := some hdr } := lkU_updLk_same _ _ _ hk
  have hcase : loseA d k hdr = if sentNow (lkU d k) d.clk.tick then refuseBlock (updLk d k (fun l => { l with lateDue := l.lateDue ++ [d.clk.tick + 1], refusing := some hdr })) k hdr
      else updLk d k (fun l => { l with lateDue := l.lateDue ++ [d.clk.tick + 1], refusing := some hdr }) := rfl
  rw [hcase]
  unfold missedLink
  cases sentNow (lkU d k) d.clk.tick with
  | false => exact ⟨hlate, updLk_length _ _ _, fun j hj => lkU_updLk_other _ _ _ _ hj⟩
  | true =>
    rw [if_pos rfl, if_pos rfl]
    refine ⟨?_, ?_, fun j hj => ?_⟩
    · refine (lkU_updLk_same _ _ _ (by rw [updLk_length]; exact hk)).trans ?_
      rw [hlate]
      rfl
    · exact (updLk_length _ _ _).trans (updLk_length _ _ _)
    · exact (lkU_updLk_other _ _ _ _ hj).trans (lkU_updLk_other _ _ _ _ hj)

theorem mask_counted (d : Dev) (k : Nat) (second inj : Bool) : Laws.mask [.capQueue, .lk, .flt] (counted d k second inj) = Laws.mask [.capQueue, .lk, .flt] d := by
  unfold counted
  rw [Laws.mask_updLk _ _ _ _ (by decide), Laws.mask_lostSlot _ _ _ _ _ (by decide) (by decide)]
  exact mask_of_subset (by decide) (mask_captureAt d d.clk.tick _)

theorem lkU_counted (d : Dev) (k : Nat) (second inj : Bool) (hk : k < d.lk.length) :
    lkU (counted d k second inj) k = countedLink d.clk.tick second (lkU d k) ∧ (counted d k second inj).lk.length = d.lk.length ∧ ∀ j, j ≠ k → lkU (counted d k second inj) j = lkU d j := by
  have hkept := Laws.keeps_of_mask _ _ _ (mask_captureAt d d.clk.tick (.lost k (b2n second)))
  have hcaplk : (capture d (.lost k (b2n second))).lk = d.lk := (hkept .lk (by decide)).symm
  have hcapclk : (capture d (.lost k (b2n second))).clk = d.clk := (hkept .clk (by decide)).symm
  have hu : ∀ j, lkU (capture d (.lost k (b2n second))) j = lkU d j := fun j => by unfold lkU; rw [hcaplk]
  unfold counted
  generalize capture d (.lost k (b2n second)) = e at *
  have hin : k < e.lk.length := by rw [hcaplk]; exact hk
  have hclk : (lostSlot e k false inj).clk = e.clk := rfl
  have hlen : (lostSlot e k false inj).lk.length = e.lk.length := (lkKeep_lostSlot e k false inj).2.1
  have hlost : lkU (lostSlot e k false inj) k = { lkU e k with up := sat 65535 ((lkU e k).up + 1), lostNow := (lkU e k).lostNow + 1, lostJudged := (lkU e k).lostJudged + b2n ((lkU e k).st == .held || (lkU e k).st == .up || (lkU e k).st == .recovering) } := lkU_updLk_same _ _ _ hin
  refine ⟨?_, (updLk_length _ _ _).trans (by rw [hlen, hcaplk]), fun j hj => ?_⟩
  · rw [lkU_updLk_same _ _ _ (by rw [hlen]; exact hin), hlost, hclk, hcapclk, hu]
    rfl
  · rw [lkU_updLk_other _ _ _ _ hj, (lkKeep_lostSlot e k false inj).1 j hj, hu]

/-- A link without what the third lost slot in a row changes. -/
def steady (l : LinkUnit) : LinkUnit := { lasting l with hold := false, holdAt := 0 }

theorem hold_of_lasting {l m : LinkUnit} (h : lasting l = lasting m) : l.hold = m.hold ∧ l.holdAt = m.holdAt := by
  have hhold := congrArg LinkUnit.hold h
  have hat := congrArg LinkUnit.holdAt h
  exact ⟨hhold, hat⟩

theorem steady_of_lasting {l m : LinkUnit} (h : lasting l = lasting m) : steady l = steady m := congrArg (fun l : LinkUnit => { l with hold := false, holdAt := 0 }) h

theorem recoverLink_st (d : Dev) (k value : Nat) (hk : k < d.lk.length) : (lkU (recoverLink d k value) k).st = .recovering := by
  have hevent : ∀ e : Dev, LkKeep k LinkUnit.st e (setLinkEvent e k 0) := fun e =>
    (lkKeep_updLk e k LinkUnit.st (fun l => { l with event := withBit l.event 0 }) (fun _ => rfl)).trans (lkKeep_of_mask (qs := [.int]) k _ (Laws.mask_occur _ _ _ (by decide)) (by decide))
  have hdrop : ∀ e : Dev, LkKeep k LinkUnit.st e (dropDischarges (suspendTests e k)) := fun e =>
    lkKeep_of_mask (qs := restParts) k _ ((Laws.mask_dropDischarges _ _ (by decide) (by decide) (by decide) (by decide) (by decide) (by decide)).trans (Laws.mask_suspendTests _ _ _ (by decide))) (by decide)
  have hset : lkU (updLk d k (fun l => { l with st := .recovering, recoverAt := d.clk.tick })) k = { lkU d k with st := .recovering, recoverAt := d.clk.tick } := lkU_updLk_same _ _ _ hk
  unfold recoverLink
  dsimp only
  have hkeep := (hdrop (updLk d k (fun l => { l with st := .recovering, recoverAt := d.clk.tick }))).trans ((hevent _).trans (lkKeep_detect k LinkUnit.st _ 0x1201 k 0xFFFFFFFF value))
  rw [hkeep.2.2, hset]

/-- The third lost slot in a row holds the link, and makes it RECOVERING. -/
def thirdLost (d : Dev) (k : Nat) : Dev :=
  let l := lkU d k
  if l.upRun = 3 && (l.st == .up || l.st == .held || l.st == .recovering) then
    let d := updLk d k (fun l => { l with hold := true, holdAt := d.clk.tick + 1 })
    if l.st == .recovering then d else recoverLink d k 3
  else d

theorem loseUplinkAs_eq (d : Dev) (k : Nat) (second : Bool) (hdr : Nat) (inj : Bool) :
    loseUplinkAs d k second hdr inj = thirdLost (if second then counted d k second inj else loseA (counted d k second inj) k hdr) k := rfl

theorem lkKeep_thirdLost (d : Dev) (k : Nat) : LkKeep k steady d (thirdLost d k) := by
  have hhold : LkKeep k steady d (updLk d k (fun l => { l with hold := true, holdAt := d.clk.tick + 1 })) := lkKeep_updLk d k steady _ (fun _ => rfl)
  unfold thirdLost
  dsimp only
  split
  · split
    · exact hhold
    · obtain ⟨hother, hlen, hself⟩ := lkKeep_recoverLink (updLk d k (fun l => { l with hold := true, holdAt := d.clk.tick + 1 })) k 3
      exact hhold.trans ⟨hother, hlen, steady_of_lasting hself⟩
  · exact .refl _ _ d

theorem thirdLost_of_third {d : Dev} {k : Nat} (hk : k < d.lk.length) (hrun : (lkU d k).upRun = 3) (hst : (lkU d k).st = .up) :
    (lkU (thirdLost d k) k).st = .recovering ∧ (lkU (thirdLost d k) k).hold = true ∧ (lkU (thirdLost d k) k).holdAt = d.clk.tick + 1 := by
  have heq : thirdLost d k = recoverLink (updLk d k (fun l => { l with hold := true, holdAt := d.clk.tick + 1 })) k 3 := by
    unfold thirdLost
    dsimp only
    rw [if_pos (by simp [hrun, hst]), if_neg (by simp [hst])]
  have hhold : lkU (updLk d k (fun l => { l with hold := true, holdAt := d.clk.tick + 1 })) k = { lkU d k with hold := true, holdAt := d.clk.tick + 1 } := lkU_updLk_same _ _ _ hk
  have hkeep := (lkKeep_recoverLink (updLk d k (fun l => { l with hold := true, holdAt := d.clk.tick + 1 })) k 3).2.2
  rw [hhold] at hkeep
  rw [heq]
  refine ⟨recoverLink_st _ _ _ (by rw [updLk_length]; exact hk), ?_, ?_⟩
  · exact (hold_of_lasting hkeep).1
  · exact (hold_of_lasting hkeep).2

theorem thirdLost_of_other {d : Dev} {k : Nat} (hrun : (lkU d k).upRun ≠ 3) : thirdLost d k = d := by
  unfold thirdLost
  dsimp only
  rw [if_neg (by simp [hrun])]

/-- The parts that a lost slot can change. -/
def lostParts : List Part := [.lk, .ph, .str, .fb, .flt, .int, .rcd, .capQueue, .out, .fretOut]

theorem mask_loseUplinkAs (d : Dev) (k : Nat) (second : Bool) (hdr : Nat) (inj : Bool) : Laws.mask lostParts (loseUplinkAs d k second hdr inj) = Laws.mask lostParts d := by
  have hthird : ∀ e, Laws.mask lostParts (thirdLost e k) = Laws.mask lostParts e := fun e => by
    unfold thirdLost
    dsimp only
    rw [Laws.mask_ite, Laws.mask_ite, Laws.mask_recoverLink _ _ _ _ (by decide) (by decide) (by decide) (by decide) (by decide) (by decide) (by decide), Laws.mask_updLk _ _ _ _ (by decide), ite_self, ite_self]
  have hloseA : ∀ e, Laws.mask lostParts (loseA e k hdr) = Laws.mask lostParts e := fun e => by
    change Laws.mask lostParts (if sentNow (lkU e k) e.clk.tick then refuseBlock (updLk e k (fun l => { l with lateDue := l.lateDue ++ [e.clk.tick + 1], refusing := some hdr })) k hdr
      else updLk e k (fun l => { l with lateDue := l.lateDue ++ [e.clk.tick + 1], refusing := some hdr })) = _
    rw [Laws.mask_ite, Laws.mask_refuseBlock _ _ _ _ (by decide) (by decide) (by decide), Laws.mask_updLk _ _ _ _ (by decide), ite_self]
  rw [loseUplinkAs_eq, hthird, Laws.mask_ite, hloseA, ite_self]
  exact mask_of_subset (by decide) (mask_counted d k second inj)

/-- The link behind a lost slot, but for what the third one in a row changes. -/
def lostLink (tick : Nat) (second : Bool) (hdr : Nat) (l : LinkUnit) : LinkUnit :=
  if second then countedLink tick second l else missedLink tick hdr (countedLink tick second l)

/-- The device behind a lost slot, before the third one in a row acts. -/
def lost (d : Dev) (k : Nat) (second : Bool) (hdr : Nat) (inj : Bool) : Dev := if second then counted d k second inj else loseA (counted d k second inj) k hdr

theorem lost_clk (d : Dev) (k : Nat) (second : Bool) (hdr : Nat) (inj : Bool) : (lost d k second hdr inj).clk = d.clk := by
  have hcounted : (counted d k second inj).clk = d.clk := (Laws.keeps_of_mask _ _ _ (mask_counted d k second inj) .clk (by decide)).symm
  have hloseA : ∀ e : Dev, (loseA e k hdr).clk = e.clk := fun e => by
    change (if sentNow (lkU e k) e.clk.tick then refuseBlock _ k hdr else updLk e k _ : Dev).clk = e.clk
    split <;> rfl
  unfold lost
  split
  · exact hcounted
  · rw [hloseA, hcounted]

theorem lkU_lost (d : Dev) (k : Nat) (second : Bool) (hdr : Nat) (inj : Bool) (hk : k < d.lk.length) :
    lkU (lost d k second hdr inj) k = lostLink d.clk.tick second hdr (lkU d k) ∧ (lost d k second hdr inj).lk.length = d.lk.length ∧ ∀ j, j ≠ k → lkU (lost d k second hdr inj) j = lkU d j := by
  obtain ⟨hself, hlen, hother⟩ := lkU_counted d k second inj hk
  have hclk : (counted d k second inj).clk = d.clk := (Laws.keeps_of_mask _ _ _ (mask_counted d k second inj) .clk (by decide)).symm
  unfold lost lostLink
  cases second with
  | true => exact ⟨hself, hlen, hother⟩
  | false =>
    obtain ⟨hmissed, hlen', hother'⟩ := lkU_loseA (counted d k false inj) k hdr (by rw [hlen]; exact hk)
    refine ⟨?_, hlen'.trans hlen, fun j hj => (hother' j hj).trans (hother j hj)⟩
    refine hmissed.trans ?_
    rw [hclk, hself]
    rfl

/-- What a link shows of a slot that was lost. -/
theorem traffic_of_steady {l m : LinkUnit} (h : steady l = steady m) :
    l.upRun = m.upRun ∧ l.goodUp = m.goodUp ∧ l.up = m.up ∧ l.lostNow = m.lostNow ∧ l.flight = m.flight ∧ l.lateDue = m.lateDue ∧ l.refusing = m.refusing ∧ l.refused = m.refused := by
  have hrun := congrArg LinkUnit.upRun h
  have hgood := congrArg LinkUnit.goodUp h
  have hup := congrArg LinkUnit.up h
  have hnow := congrArg LinkUnit.lostNow h
  have hflight := congrArg LinkUnit.flight h
  have hlate := congrArg LinkUnit.lateDue h
  have hrefusing := congrArg LinkUnit.refusing h
  have hrefused := congrArg LinkUnit.refused h
  exact ⟨hrun, hgood, hup, hnow, hflight, hlate, hrefusing, hrefused⟩

theorem lostLink_counts (tick : Nat) (second : Bool) (hdr : Nat) (l : LinkUnit) :
    (lostLink tick second hdr l).upRun = l.upRun + 1 ∧ (lostLink tick second hdr l).goodUp = 0 ∧ (lostLink tick second hdr l).up = min (l.up + 1) 65535 ∧
      (lostLink tick second hdr l).lostNow = l.lostNow + 1 ∧ (lostLink tick second hdr l).flight = l.flight ∧ (lostLink tick second hdr l).st = l.st := by
  unfold lostLink
  cases second with
  | true => exact ⟨rfl, rfl, rfl, rfl, rfl, rfl⟩
  | false =>
    unfold missedLink
    cases sentNow (countedLink tick false l) tick <;> exact ⟨rfl, rfl, rfl, rfl, rfl, rfl⟩

theorem lostLink_misses (tick hdr : Nat) (l : LinkUnit) :
    (lostLink tick false hdr l).lateDue = l.lateDue ++ [tick + 1] ∧
      ((l.second.any fun q => q.1 == tick) = false → (lostLink tick false hdr l).refusing = some hdr) ∧
      ((l.second.any fun q => q.1 == tick) = true → (hdr, tick) ∈ (lostLink tick false hdr l).refused ∧ (lostLink tick false hdr l).refusing = none) := by
  have hsent : sentNow (countedLink tick false l) tick = l.second.any fun q => q.1 == tick := sentNow_eq_any l tick
  unfold lostLink missedLink
  rw [if_neg (by decide), hsent]
  cases l.second.any fun q => q.1 == tick with
  | true => exact ⟨rfl, fun h => absurd h (by decide), fun _ => ⟨List.mem_append_right _ List.mem_cons_self, rfl⟩⟩
  | false => exact ⟨rfl, fun _ => rfl, fun h => absurd h (by decide)⟩

/-- What is stated of a lost uplink slot. -/
theorem loseUplink_spec (d : Dev) (k : Nat) (second : Bool) (hdr : Nat) (hk : k < d.lk.length) :
    (lkU (loseUplink d k second hdr) k).upRun = (lkU d k).upRun + 1 ∧ (lkU (loseUplink d k second hdr) k).goodUp = 0 ∧
      (lkU (loseUplink d k second hdr) k).up = min ((lkU d k).up + 1) 65535 ∧ (lkU (loseUplink d k second hdr) k).lostNow = (lkU d k).lostNow + 1 ∧
      (lkU (loseUplink d k second hdr) k).flight = (lkU d k).flight ∧
      (second = false → (lkU (loseUplink d k second hdr) k).lateDue = (lkU d k).lateDue ++ [d.clk.tick + 1]) ∧
      (second = false → ((lkU d k).second.any fun q => q.1 == d.clk.tick) = false → (lkU (loseUplink d k second hdr) k).refusing = some hdr) ∧
      (second = false → ((lkU d k).second.any fun q => q.1 == d.clk.tick) = true → (hdr, d.clk.tick) ∈ (lkU (loseUplink d k second hdr) k).refused ∧ (lkU (loseUplink d k second hdr) k).refusing = none) ∧
      ((lkU d k).upRun = 2 → (lkU d k).st = .up → (lkU (loseUplink d k second hdr) k).st = .recovering ∧ (lkU (loseUplink d k second hdr) k).hold = true ∧
        (lkU (loseUplink d k second hdr) k).holdAt = d.clk.tick + 1) ∧
      ((lkU d k).upRun ≠ 2 → (lkU (loseUplink d k second hdr) k).st = (lkU d k).st) ∧ ∀ j, j ≠ k → lkU (loseUplink d k second hdr) j = lkU d j := by
  obtain ⟨hself, hlen, hother⟩ := lkU_lost d k second hdr false hk
  obtain ⟨hrun, hgood, hup, hnow, hflight, hst⟩ := lostLink_counts d.clk.tick second hdr (lkU d k)
  obtain ⟨hother', -, hsteady⟩ := lkKeep_thirdLost (lost d k second hdr false) k
  have hclk := lost_clk d k second hdr false
  have heq : loseUplink d k second hdr = thirdLost (lost d k second hdr false) k := loseUplinkAs_eq ..
  rw [hself] at hsteady
  obtain ⟨trun, tgood, tup, tnow, tflight, tlate, trefusing, trefused⟩ := traffic_of_steady hsteady
  have hin : k < (lost d k second hdr false).lk.length := by rw [hlen]; exact hk
  rw [heq]
  refine ⟨trun.trans hrun, tgood.trans hgood, tup.trans hup, tnow.trans hnow, tflight.trans hflight, ?_, ?_, ?_, fun h2 hupst => ?_, fun h2 => ?_, fun j hj => (hother' j hj).trans (hother j hj)⟩
  · rintro rfl
    exact tlate.trans (lostLink_misses _ hdr _).1
  · rintro rfl hsent
    exact trefusing.trans ((lostLink_misses _ hdr _).2.1 hsent)
  · rintro rfl hsent
    obtain ⟨hmem, hnone⟩ := (lostLink_misses d.clk.tick hdr _).2.2 hsent
    exact ⟨by rw [trefused]; exact hmem, trefusing.trans hnone⟩
  · rw [← hclk]
    exact thirdLost_of_third hin (by rw [hself, hrun, h2]) (by rw [hself, hst, hupst])
  · rw [thirdLost_of_other (by rw [hself, hrun]; omega), hself, hst]

/-! ### The second downlink slot (R216) -/

/-- A link without what the second downlink slot changes. -/
def unsent (l : LinkUnit) : LinkUnit := { l with flight := [], sameTick := 0, nak := none, second := none, runSince := none, refusing := none, refused := [] }

/-- What the lane limits read of the links stands. -/
theorem cycleLimits_congr {d e : Dev} (hstr : e.str = d.str) (hph : e.ph = d.ph) (hforce : SameForce d e) (hmm : e.mm = d.mm) (hpwr : e.pwr = d.pwr) (hflt : e.flt = d.flt)
    (hst : ∀ j, (lkU e j).st = (lkU d j).st) (p : Nat) : cycleLimits e p = cycleLimits d p := by
  have hcourse : ∀ k, course e k = course d k := hforce.course
  have hu : ∀ k, strU e k = strU d k := fun k => by unfold strU; rw [hstr]
  have hphU : ∀ q, phU e q = phU d q := fun q => by unfold phU; rw [hph]
  have hlinks : ∀ k, linksOf e k = linksOf d k := fun k => by unfold linksOf; rw [hcourse]
  have hpow : ∀ x, powered e x = powered d x := fun x => by unfold powered; rw [hpwr]
  have hused : ∀ k, linkUsed e k = linkUsed d k := fun k => by unfold linkUsed; rw [inForce_congr e d hforce.2 hforce.1]
  have hsafety : ∀ k, isSafety e k = isSafety d k := fun k => by unfold isSafety; rw [hforce.rsF]
  have hsends : ∀ k, linkSends e k = linkSends d k := fun k => by
    unfold linkSends
    simp only [hused, hpow, hmm, hpwr, hflt, hsafety, hu, hlinks]
  have hun : ∀ k, unretired e k = unretired d k := fun k => by
    unfold unretired
    simp only [hcourse, hphU]
  have hin : ∀ k, inService e k = inService d k := fun k => by
    unfold inService
    simp only [hcourse, hphU, hu]
  have hdis : ∀ k, discharging e k = discharging d k := fun k => by
    unfold discharging phaseUp
    simp only [hun, hst, hsends]
  have hdriven : ∀ k, driven e k = driven d k := fun k => by
    unfold driven
    simp only [hu, hdis, hin]
  have hlimit : ∀ k, limitOf e k = limitOf d k := fun k => by
    unfold limitOf
    rw [hforce.kindOf]
    cases kindOf d k <;> simp only [hu, ampsAt, stringVolts, kindMin, hforce.kindOf]
  unfold cycleLimits
  rw [hforce.stringOf]
  cases stringOf d p with
  | none => rfl
  | some k => simp only [hdriven, hlimit, hforce.rsF, hforce.kindOf]

theorem commandPayload_updLk (d : Dev) (k : Nat) (f : LinkUnit → LinkUnit) (hf : ∀ l, (f l).st = l.st ∧ (f l).hold = l.hold ∧ (f l).edge = l.edge) (hk : k < d.lk.length) :
    commandPayload (updLk d k f) k = commandPayload d k := by
  have hst : ∀ j, (lkU (updLk d k f) j).st = (lkU d j).st := fun j => by
    by_cases hj : j = k
    · subst hj
      rw [lkU_updLk_same _ _ _ hk, (hf _).1]
    · rw [lkU_updLk_other _ _ _ _ hj]
  have hlimits : ∀ p, cycleLimits (updLk d k f) p = cycleLimits d p := cycleLimits_congr rfl rfl ⟨rfl, rfl⟩ rfl rfl rfl hst
  have hrun : linkRun (updLk d k f) k = linkRun d k := by
    unfold linkRun edgeEnables
    dsimp only
    rw [lkU_updLk_same _ _ _ hk, (hf _).1, (hf _).2.1, (hf _).2.2]
  unfold commandPayload
  simp only [hlimits, hrun]

/-- The refusal that waits on a link goes out. -/
def refusalOf (l : LinkUnit) (k : Nat) : List Out := match l.refusing with | some h => [Out.refuse k h] | none => []

/-- What a refusal leaves of its link. -/
def unrefused (l : LinkUnit) : LinkUnit := { l with refusing := none, refused := [] }

theorem refuseNow_spec (d : Dev) (k : Nat) : (refuseNow d k).out = d.out ++ refusalOf (lkU d k) k ∧ LkKeep k unrefused d (refuseNow d k) := by
  unfold refuseNow refusalOf
  cases (lkU d k).refusing with
  | none => exact ⟨(List.append_nil _).symm, .refl _ _ d⟩
  | some h =>
    refine ⟨rfl, ?_⟩
    exact LkKeep.trans (lkKeep_updLk d k unrefused (fun l => { l with refusing := none, refused := l.refused.filter (fun q => decide (d.clk.tick < q.2 + 3)) ++ [(h, d.clk.tick)] }) (fun _ => rfl)) (lkKeep_of_lk _ _ rfl)

/-- The credits of a link, at the second downlink slot of a tick. -/
def freed (d : Dev) (k : Nat) : Dev := updLk d k (fun l => { l with flight := creditsPast l d.clk.tick 1 })

/-- The second downlink slot carries a block, and the refusal that waits follows it. -/
def slotOut (d : Dev) (k : Nat) (f : LinkUnit → LinkUnit) (o : Dev → Out) : Dev := refuseNow (emitFast (updLk (freed d k) k f) (o (updLk (freed d k) k f))) k

theorem slotOut_spec (d : Dev) (k : Nat) (f : LinkUnit → LinkUnit) (o : Dev → Out) (hk : k < d.lk.length) (hrefusing : ∀ l, (f l).refusing = l.refusing) :
    (slotOut d k f o).out = d.out ++ [o (updLk (freed d k) k f)] ++ refusalOf (lkU d k) k ∧
      unrefused (lkU (slotOut d k f o) k) = unrefused (f { lkU d k with flight := creditsPast (lkU d k) d.clk.tick 1 }) ∧ keeps [.lk, .out, .fretOut] d (slotOut d k f o) := by
  have hfreed : lkU (freed d k) k = { lkU d k with flight := creditsPast (lkU d k) d.clk.tick 1 } := lkU_updLk_same _ _ _ hk
  have hself : lkU (emitFast (updLk (freed d k) k f) (o (updLk (freed d k) k f))) k = f { lkU d k with flight := creditsPast (lkU d k) d.clk.tick 1 } := by
    refine (lkU_updLk_same (freed d k) k f (by unfold freed; rw [updLk_length]; exact hk)).trans ?_
    rw [hfreed]
  obtain ⟨hout, hkeep⟩ := refuseNow_spec (emitFast (updLk (freed d k) k f) (o (updLk (freed d k) k f))) k
  rw [hself] at hout
  refine ⟨?_, ?_, Laws.keeps_of_mask _ _ _ ?_⟩
  · refine hout.trans ?_
    have hwait : refusalOf (f { lkU d k with flight := creditsPast (lkU d k) d.clk.tick 1 }) k = refusalOf (lkU d k) k := by
      unfold refusalOf
      rw [hrefusing]
    rw [hwait]
    rfl
  · have hself' := hkeep.2.2
    rw [hself] at hself'
    exact hself'
  · unfold slotOut
    rw [Laws.mask_refuseNow _ _ _ (by decide) (by decide) (by decide), Laws.mask_emitFast _ _ _ (by decide) (by decide), Laws.mask_updLk _ _ _ _ (by decide)]
    exact Laws.mask_updLk _ _ _ _ (by decide)

/-- The refused edge block goes again (R216). -/
def againLink (t : Nat) (l : LinkUnit) : LinkUnit := { l with sameTick := sat 65535 (l.sameTick + 1), nak := none, second := some (t, 0) }

/-- A COMMAND block goes (R211, R216). -/
def commandLink (t : Nat) (r : Bool) (l : LinkUnit) : LinkUnit :=
  { l with nak := none, second := some (t, if r then 2 else 1), runSince := if r then l.runSince else none, flight := (if l.nak = some true then l.flight.filter (fun q => q.1 != 0) else l.flight) ++ [(1, t)] }

theorem sendSecond_of_again {d : Dev} {k : Nat} (hlisten : listening d k = true) (hfree : secondFree d k = true) (hnak : (lkU d k).nak = some true) (hok : (lkU d k).resendOk = true)
    (hhold : (lkU d k).hold = false ∨ (lkU d k).holdAt ≠ d.clk.tick + 1) :
    sendSecond d k = slotOut d k (againLink d.clk.tick) (fun _ => downBlock k 1 (header 0 d.clk.tick 0) (lkU d k).edge) := by
  unfold sendSecond
  dsimp only
  rw [if_neg (by simp [hlisten, hfree]), if_pos]
  · rfl
  · rcases hhold with h | h <;> simp [hnak, hok, h]

theorem sendSecond_of_command {d : Dev} {k : Nat} (hlisten : listening d k = true) (hfree : secondFree d k = true)
    (hagain : ¬ ((lkU d k).nak = some true ∧ (lkU d k).resendOk = true ∧ ((lkU d k).hold = false ∨ (lkU d k).holdAt ≠ d.clk.tick + 1))) :
    sendSecond d k = slotOut d k (commandLink d.clk.tick (linkRun (freed d k) k)) (fun e => downBlock k 1 (header 1 d.clk.tick 1) (commandPayload e k)) := by
  unfold sendSecond
  dsimp only
  rw [if_neg (by simp [hlisten, hfree]), if_neg]
  · rfl
  · intro h
    refine hagain ?_
    simp only [Bool.and_eq_true, decide_eq_true_eq, Bool.not_eq_true', Bool.and_eq_false_imp] at h
    obtain ⟨⟨hnak, hok⟩, hhold⟩ := h
    refine ⟨hnak, hok, ?_⟩
    cases hh : (lkU d k).hold with
    | false => exact .inl rfl
    | true => exact .inr (by simpa using hhold hh)

theorem commandPayload_commandLink (d : Dev) (k : Nat) (hk : k < d.lk.length) (t : Nat) (r : Bool) :
    commandPayload (updLk (freed d k) k (commandLink t r)) k = commandPayload d k :=
  (commandPayload_updLk (freed d k) k (commandLink t r) (fun _ => ⟨rfl, rfl, rfl⟩) (by unfold freed; rw [updLk_length]; exact hk)).trans
    (commandPayload_updLk d k (fun l => { l with flight := creditsPast l d.clk.tick 1 }) (fun _ => ⟨rfl, rfl, rfl⟩) hk)

theorem sentLink_of_unrefused {l m : LinkUnit} (h : unrefused l = unrefused m) : l.sameTick = m.sameTick ∧ l.nak = m.nak ∧ l.st = m.st := by
  have hsame := congrArg LinkUnit.sameTick h
  have hnak := congrArg LinkUnit.nak h
  have hst := congrArg LinkUnit.st h
  exact ⟨hsame, hnak, hst⟩

/-! ### O34 -/

/-- Settles O34: every way to lose a slot is the same update of the link, and the second downlink slot is one update of the link, one block and the refusal that waits. -/
theorem lostSlotsAndTheSecondSlot : Obligations.LostSlotsAndTheSecondSlot := by
  unfold Obligations.LostSlotsAndTheSecondSlot
  refine ⟨fun s k second hdr hlk hk hlisten => ⟨?_, fun b hcrc hinj => ?_⟩, ?_⟩
  · obtain ⟨hrun, hgood, hup, hnow, hflight, hlate, hrefusing, hrefused, hthird, hst, hother⟩ := loseUplink_spec s.dev k second hdr (by omega)
    exact ⟨loseUplink s.dev k second hdr, congrArg (next s) (if_pos hlisten), hrun, hgood, hup, hnow, hflight, hlate, hrefusing, hrefused, hthird, hst, hother,
      Laws.keeps_of_mask _ _ _ (mask_of_subset (by decide) (mask_loseUplinkAs s.dev k second hdr false))⟩
  · have hlost : ∀ slot, exec (.lostUplinkSlot k slot (byteAt b 0)) s = next s (loseUplink s.dev k slot (byteAt b 0)) := fun slot => congrArg (next s) (if_pos hlisten)
    refine ⟨?_, ?_, ?_⟩
    · rw [hlost]
      refine congrArg (next s) ?_
      unfold uplinkA
      simp [hlisten, hinj, hcrc]
    · rw [hlost]
      refine congrArg (next s) ?_
      simp [hlisten, hcrc]
    · rw [hlost]
      refine congrArg (next s) ?_
      simp [hlisten, hcrc]
  intro s k hk hlisten l again refusal
  refine ⟨fun hfree => ?_, fun hfree hagain => ?_, fun hfree hagain => ?_⟩
  · refine congrArg (next s) ?_
    unfold sendSecond
    simp [hfree]
  · obtain ⟨hout, hself, hkeeps⟩ := slotOut_spec s.dev k (againLink s.dev.clk.tick) (fun _ => downBlock k 1 (header 0 s.dev.clk.tick 0) (lkU s.dev k).edge) hk (fun _ => rfl)
    obtain ⟨hsame, hnak, hst⟩ := sentLink_of_unrefused hself
    exact ⟨_, congrArg (next s) (sendSecond_of_again hlisten hfree hagain.1 hagain.2.1 hagain.2.2), hout, hsame, hnak, hst, hkeeps⟩
  · obtain ⟨hout, hself, hkeeps⟩ := slotOut_spec s.dev k (commandLink s.dev.clk.tick (linkRun (freed s.dev k) k)) (fun e => downBlock k 1 (header 1 s.dev.clk.tick 1) (commandPayload e k)) hk (fun _ => rfl)
    obtain ⟨hsame, hnak, hst⟩ := sentLink_of_unrefused hself
    rw [commandPayload_commandLink _ _ hk] at hout
    exact ⟨_, congrArg (next s) (sendSecond_of_command hlisten hfree hagain), hout, hsame, hnak, hst, hkeeps⟩

/-! ### Training (R206, R224) -/

theorem safetyAgain_of_other {d : Dev} (h : d.mm.mode ≠ .drone) : safetyAgain d = d := by
  unfold safetyAgain
  rw [if_pos (by simp [h])]

/-- A link that has trained stands HELD. -/
def heldLink (delay : Nat) (l : LinkUnit) : LinkUnit := { l with st := .held, delay := delay, resendOk := decide (delay ≤ 40), trainFailed := false }

theorem trained_of_near {d : Dev} {k delay : Nat} (hlisten : listening d k = true) (hst : (lkU d k).st = .training) (hup : 8 ≤ (lkU d k).goodUp) (hdown : 8 ≤ (lkU d k).goodDown)
    (hdelay : delay ≤ 100) (hmode : d.mm.mode ≠ .drone) :
    trained d k delay = if 40 < delay then detect (updLk d k (heldLink delay)) 0x1207 k 0xFFFFFFFF delay else updLk d k (heldLink delay) := by
  unfold trained
  dsimp only
  rw [if_neg (by simp [hlisten, hst, hup, hdown]; omega), if_pos (by simp [hlisten, hst, hup, hdown, hdelay])]
  refine safetyAgain_of_other ?_
  split <;> exact hmode

theorem trained_of_far {d : Dev} {k delay : Nat} (hlisten : listening d k = true) (hst : (lkU d k).st = .training) (hup : 8 ≤ (lkU d k).goodUp) (hdown : 8 ≤ (lkU d k).goodDown)
    (hdelay : 100 < delay) : trained d k delay = updLk d k (fun l => { l with delay := min 255 delay, resendOk := false }) := by
  unfold trained
  dsimp only
  rw [if_pos (by simp [hlisten, hst, hup, hdown, hdelay])]

theorem linkTrained_holds (s : State) (k delay : Nat) (hk : k < s.dev.lk.length) (hlisten : listening s.dev k = true) (hst : (lkU s.dev k).st = .training) (hup : 8 ≤ (lkU s.dev k).goodUp)
    (hdown : 8 ≤ (lkU s.dev k).goodDown) (hdelay : delay ≤ 100) (hmode : s.dev.mm.mode ≠ .drone) :
    ∃ d, exec (.linkTrained k delay) s = next s d ∧ (lkU d k).st = .held ∧ (lkU d k).delay = delay ∧ (lkU d k).resendOk = decide (delay ≤ 40) ∧
      (delay ≤ 40 → d.flt = s.dev.flt) ∧ (∀ j, j ≠ k → lkU d j = lkU s.dev j) ∧ keeps [.lk, .flt] s.dev d := by
  have hheld : lkU (updLk s.dev k (heldLink delay)) k = heldLink delay (lkU s.dev k) := lkU_updLk_same _ _ _ hk
  have hother : ∀ j, j ≠ k → lkU (updLk s.dev k (heldLink delay)) j = lkU s.dev j := fun j hj => lkU_updLk_other _ _ _ _ hj
  refine ⟨_, congrArg (next s) (trained_of_near hlisten hst hup hdown hdelay hmode), ?_⟩
  split
  next hfar =>
    have hu : ∀ j, lkU (detect (updLk s.dev k (heldLink delay)) 0x1207 k 0xFFFFFFFF delay) j = lkU (updLk s.dev k (heldLink delay)) j := fun _ => rfl
    rw [hu, hheld]
    exact ⟨rfl, rfl, rfl, fun h => absurd hfar (by omega), hother,
      Laws.keeps_of_mask _ _ _ ((Laws.mask_detect _ _ _ _ _ _ (by decide)).trans (Laws.mask_updLk _ _ _ _ (by decide)))⟩
  next =>
    rw [hheld]
    exact ⟨rfl, rfl, rfl, fun _ => rfl, hother, Laws.keeps_of_mask _ _ _ (Laws.mask_updLk _ _ _ _ (by decide))⟩

theorem linkTrainFail_fails (s : State) (k : Nat) (hk : k < s.dev.lk.length) (hlisten : listening s.dev k = true) (hst : (lkU s.dev k).st = .training) (hfailed : (lkU s.dev k).trainFailed = false)
    (hdue : (lkU s.dev k).trainAt + 1000 * rsF s.dev 0x3004 24 8 ≤ s.dev.clk.tick) :
    ∃ d, exec (.linkTrainFail k) s = next s d ∧ (lkU d k).trainFailed = true ∧ (lkU d k).st = .training ∧
      d.flt.inbox = s.dev.flt.inbox ++ [{ due := s.dev.clk.tick + 1, code := 0x1203, p0 := k, p1 := 0xFFFFFFFF, p2 := (lkU s.dev k).delay }] ∧ keeps [.lk, .flt, .int] s.dev d := by
  have hmark : lkU (updLk s.dev k (fun l => { l with trainFailed := true })) k = { lkU s.dev k with trainFailed := true } := lkU_updLk_same _ _ _ hk
  have hevent : ∀ e : Dev, LkKeep k (fun l => (l.trainFailed, l.st)) e (setLinkEvent e k 2) := fun e =>
    (lkKeep_updLk e k _ (fun l => { l with event := withBit l.event 2 }) (fun _ => rfl)).trans (lkKeep_of_mask (qs := [.int]) k _ (Laws.mask_occur _ _ _ (by decide)) (by decide))
  have hself : ((lkU (setLinkEvent (updLk s.dev k (fun l => { l with trainFailed := true })) k 2) k).trainFailed, (lkU (setLinkEvent (updLk s.dev k (fun l => { l with trainFailed := true })) k 2) k).st)
      = (true, .training) := by
    refine ((hevent (updLk s.dev k (fun l => { l with trainFailed := true }))).2.2).trans ?_
    dsimp only
    rw [hmark, hst]
  have hmask : Laws.mask [.lk, .int] (setLinkEvent (updLk s.dev k (fun l => { l with trainFailed := true })) k 2) = Laws.mask [.lk, .int] s.dev :=
    (Laws.mask_setLinkEvent _ _ _ _ (by decide) (by decide)).trans (Laws.mask_updLk _ _ _ _ (by decide))
  have hkept := Laws.keeps_of_mask _ _ _ hmask
  have hflt : (setLinkEvent (updLk s.dev k (fun l => { l with trainFailed := true })) k 2).flt = s.dev.flt := (hkept .flt (by decide)).symm
  have hclk : (setLinkEvent (updLk s.dev k (fun l => { l with trainFailed := true })) k 2).clk = s.dev.clk := (hkept .clk (by decide)).symm
  refine ⟨detect (setLinkEvent (updLk s.dev k (fun l => { l with trainFailed := true })) k 2) 0x1203 k 0xFFFFFFFF (lkU s.dev k).delay, congrArg (next s) ?_, ?_, ?_, ?_, ?_⟩
  · unfold trainFail
    dsimp only
    exact if_pos (by simp [hlisten, hst, hfailed, hdue])
  · exact congrArg Prod.fst hself
  · exact congrArg Prod.snd hself
  · unfold detect
    rw [hflt, hclk]
  · exact Laws.keeps_of_mask _ _ _ ((Laws.mask_detect _ _ _ _ _ _ (by decide)).trans (mask_of_subset (by decide) hmask))

/-! ### Retirement (R192, R225) -/

theorem phFate_detect (C : Nat → Prop) (d : Dev) (code p0 p1 p2 : Nat) : PhFate C d (detect d code p0 p1 p2) := phFate_of_ph C rfl

theorem strFate_detect (C : Nat → Prop) (d : Dev) (code p0 p1 p2 : Nat) : StrFate C d (detect d code p0 p1 p2) := strFate_of_str C rfl

theorem lkU_congr {d e : Dev} (h : e.lk = d.lk) (j : Nat) : lkU e j = lkU d j := by unfold lkU; rw [h]

/-- One phase of a retired link. -/
def linkPhase (k : Nat) (d : Dev) (i : Nat) : Dev :=
  if (phU d (4 * k + i)).retired then d else updPh d (4 * k + i) (fun q => { q with retired := true, follower := false, cause := 4, fault := 0x1202 })

/-- One string on a retired link. -/
def linkString (d : Dev) (j : Nat) : Dev := retireString (recapo (setStrEvent d j 1) j) j 0x1202

/-- A link is marked retired. -/
def linkMark (d : Dev) (k : Nat) : Dev := setLinkEvent (updLk d k (fun l => { l with st := .retired, hold := false, inbox := [] })) k 1

theorem retireLink_of_usable {d : Dev} {k : Nat} (h : (lkU d k).st ≠ .retired) (value : Nat) :
    retireLink d k value = detect (dropDischarges ((stringsOnLink (linkMark d k) k).foldl linkString ((List.range 4).foldl (linkPhase k) (linkMark d k)))) 0x1202 k 0xFFFFFFFF value := by
  unfold retireLink
  rw [if_neg (by simpa using h)]
  rfl

theorem phFate_linkPhase (k : Nat) (d : Dev) (i : Nat) : PhFate (fun _ => True) d (linkPhase k d i) := by
  unfold linkPhase
  split
  · exact .refl _ d
  next h => exact phFate_updPh d _ (fun q => { q with retired := true, follower := false, cause := 4, fault := 0x1202 }) trivial rfl (fun ht => absurd ht h) (fun _ => .inr rfl)

theorem linkPhase_retires (k : Nat) (d : Dev) (i : Nat) (hi : 4 * k + i < d.ph.length) : (phU (linkPhase k d i) (4 * k + i)).retired = true := by
  unfold linkPhase
  split
  next h => exact h
  next => rw [phU_updPh_same _ _ _ hi]

theorem linkPhase_length (k : Nat) (d : Dev) (i : Nat) : (linkPhase k d i).ph.length = d.ph.length := by
  unfold linkPhase
  split
  · rfl
  · exact updPh_length _ _ _

theorem linkPhases_retire (k : Nat) (l : List Nat) (d : Dev) (hl : ∀ i ∈ l, 4 * k + i < d.ph.length) : ∀ i ∈ l, (phU (l.foldl (linkPhase k) d) (4 * k + i)).retired = true := by
  induction l generalizing d with
  | nil => exact fun i hi => absurd hi List.not_mem_nil
  | cons a l ih =>
    intro i hi
    rcases List.mem_cons.1 hi with rfl | hi
    · have hfirst := linkPhase_retires k d i (hl i List.mem_cons_self)
      exact ((phFate_foldl (linkPhase k) l (fun d i _ => phFate_linkPhase k d i) (linkPhase k d i) (4 * k + i)).2.2.1 hfirst).1
    · exact ih _ (fun j hj => by rw [linkPhase_length]; exact hl j (List.mem_cons_of_mem a hj)) i hi

theorem phFate_linkString (d : Dev) (j : Nat) : PhFate (fun _ => True) d (linkString d j) :=
  (phFate_of_ph _ (e := setStrEvent d j 1) rfl).trans ((phFate_recapo _ _ j).trans ((phFate_retireString _ j _).mono fun _ _ => trivial))

theorem strFate_linkString (d : Dev) (j : Nat) : StrFate (fun _ => True) d (linkString d j) :=
  (((strFate_setStrEvent d j 1).trans (strFate_recapo _ j)).trans (strFate_retireString _ j _)).mono fun _ _ => trivial

theorem linkString_retires (d : Dev) (j : Nat) (hj : j < d.str.length) : (strU (linkString d j) j).retired = true :=
  (retireString_retires _ j _ (by rw [((strFate_setStrEvent d j 1).trans (strFate_recapo _ j)).1]; exact hj)).1

theorem linkStrings_retire (l : List Nat) (d : Dev) (hl : ∀ j ∈ l, j < d.str.length) : ∀ j ∈ l, (strU (l.foldl linkString d) j).retired = true := by
  induction l generalizing d with
  | nil => exact fun j hj => absurd hj List.not_mem_nil
  | cons a l ih =>
    intro j hj
    rcases List.mem_cons.1 hj with rfl | hj
    · have hfirst := linkString_retires d j (hl j List.mem_cons_self)
      exact (((strFate_foldl linkString l (fun d j _ => strFate_linkString d j) (linkString d j)).2 j).2 hfirst).1
    · exact ih _ (fun i hi => by rw [(strFate_linkString d a).1]; exact hl i (List.mem_cons_of_mem a hi)) j hj

/-- The parts that the strings and phases of a retired link write. -/
def retireParts : List Part := [.jr, .fb, .str, .ph, .flt, .int, .rcd, .mp, .out, .fretOut]

theorem mask_linkString (d : Dev) (j : Nat) : Laws.mask retireParts (linkString d j) = Laws.mask retireParts d := by
  unfold linkString
  rw [Laws.mask_retireString _ _ _ _ (by decide) (by decide) (by decide) (by decide) (by decide) (by decide) (by decide) (by decide) (by decide) (by decide),
    Laws.mask_recapo _ _ _ (by decide) (by decide) (by decide) (by decide) (by decide), Laws.mask_setStrEvent _ _ _ _ (by decide)]

theorem mask_linkPhase (k : Nat) (d : Dev) (i : Nat) : Laws.mask retireParts (linkPhase k d i) = Laws.mask retireParts d := by
  unfold linkPhase
  rw [Laws.mask_ite, Laws.mask_updPh _ _ _ _ (by decide), ite_self]

/-- What the retirement of a link does behind its mark. -/
def linkRest (d : Dev) (k value : Nat) : Dev := detect (dropDischarges ((stringsOnLink d k).foldl linkString ((List.range 4).foldl (linkPhase k) d))) 0x1202 k 0xFFFFFFFF value

theorem mask_linkRest (d : Dev) (k value : Nat) : Laws.mask retireParts (linkRest d k value) = Laws.mask retireParts d := by
  unfold linkRest
  rw [Laws.mask_detect _ _ _ _ _ _ (by decide), Laws.mask_dropDischarges _ _ (by decide) (by decide) (by decide) (by decide) (by decide) (by decide)]
  exact (Laws.mask_foldl _ _ (fun d j => mask_linkString d j) _ _).trans (Laws.mask_foldl _ _ (fun d i => mask_linkPhase k d i) _ _)

theorem linkRest_retires (d : Dev) (k value : Nat) (hph : d.ph.length = 64) (hstr : d.str.length = 64) (hk : k < 16) :
    (∀ i < 4, (phU (linkRest d k value) (4 * k + i)).retired = true) ∧ ∀ j ∈ stringsOnLink d k, (strU (linkRest d k value) j).retired = true := by
  have hphases := linkPhases_retire k (List.range 4) d (fun i hi => by have := List.mem_range.1 hi; omega)
  have hstrlen : ((List.range 4).foldl (linkPhase k) d).str.length = 64 := by
    have h : StrFate (fun _ => True) d ((List.range 4).foldl (linkPhase k) d) := strFate_foldl (linkPhase k) _ (fun e i _ => by
      unfold linkPhase
      split
      · exact .refl _ e
      · exact strFate_of_str _ rfl) d
    rw [h.1, hstr]
  have hstrings := linkStrings_retire (stringsOnLink d k) ((List.range 4).foldl (linkPhase k) d) (fun j hj => by
    unfold stringsOnLink at hj
    have := List.mem_range.1 (List.mem_filter.1 hj).1
    omega)
  generalize hbase : (List.range 4).foldl (linkPhase k) d = base at hphases hstrings
  have hafter : PhFate (fun _ => True) base (linkRest d k value) := by
    unfold linkRest
    rw [hbase]
    exact (phFate_foldl linkString _ (fun d j _ => phFate_linkString d j) base).trans ((phFate_dropDischarges _).trans (phFate_detect _ _ _ _ _ _))
  have hdrop : StrFate (fun _ => True) ((stringsOnLink d k).foldl linkString base) (linkRest d k value) := by
    unfold linkRest
    rw [hbase]
    exact (strFate_dropDischarges _).trans (strFate_detect _ _ _ _ _ _)
  exact ⟨fun i hi => ((hafter (4 * k + i)).2.2.1 (hphases i (List.mem_range.2 hi))).1, fun j hj => ((hdrop.2 j).2 (hstrings j hj)).1⟩

theorem linkMark_spec (d : Dev) (k : Nat) (hk : k < d.lk.length) :
    (lkU (linkMark d k) k).st = .retired ∧ (∀ j, j ≠ k → lkU (linkMark d k) j = lkU d j) ∧ Laws.mask [.lk, .int] (linkMark d k) = Laws.mask [.lk, .int] d := by
  have hset : lkU (updLk d k (fun l => { l with st := .retired, hold := false, inbox := [] })) k = { lkU d k with st := .retired, hold := false, inbox := [] } := lkU_updLk_same _ _ _ hk
  have hevent : ∀ e : Dev, LkKeep k LinkUnit.st e (setLinkEvent e k 1) := fun e =>
    (lkKeep_updLk e k LinkUnit.st (fun l => { l with event := withBit l.event 1 }) (fun _ => rfl)).trans (lkKeep_of_mask (qs := [.int]) k _ (Laws.mask_occur _ _ _ (by decide)) (by decide))
  unfold linkMark
  refine ⟨?_, fun j hj => ((hevent _).1 j hj).trans (lkU_updLk_other _ _ _ _ hj), (Laws.mask_setLinkEvent _ _ _ _ (by decide) (by decide)).trans (Laws.mask_updLk _ _ _ _ (by decide))⟩
  rw [(hevent _).2.2, hset]

theorem stringsOnLink_congr {d e : Dev} (h : SameForce d e) (k : Nat) : stringsOnLink e k = stringsOnLink d k := by
  unfold stringsOnLink linksOf
  rw [funext h.course]

theorem linkRecoveryTimeout_retires (s : State) (k : Nat) (hlk : s.dev.lk.length = 16) (hph : s.dev.ph.length = 64) (hstr : s.dev.str.length = 64) (hk : k < 16)
    (hlisten : listening s.dev k = true) (hst : (lkU s.dev k).st = .recovering) (hdue : (lkU s.dev k).recoverAt + rsF s.dev 0x3004 16 8 < s.dev.clk.tick) :
    ∃ d, exec (.linkRecoveryTimeout k) s = next s d ∧ (lkU d k).st = .retired ∧ (∀ j, j ≠ k → lkU d j = lkU s.dev j) ∧ (∀ i < 4, (phU d (4 * k + i)).retired = true) ∧
      (∀ j ∈ stringsOnLink s.dev k, (strU d j).retired = true) ∧ keeps [.lk, .ph, .str, .fb, .jr, .flt, .int, .rcd, .mp, .out, .fretOut] s.dev d := by
  obtain ⟨hret, hother, hmask⟩ := linkMark_spec s.dev k (by omega)
  have hkept := Laws.keeps_of_mask _ _ _ hmask
  have hph' : (linkMark s.dev k).ph = s.dev.ph := (hkept .ph (by decide)).symm
  have hstr' : (linkMark s.dev k).str = s.dev.str := (hkept .str (by decide)).symm
  obtain ⟨hphases, hstrings⟩ := linkRest_retires (linkMark s.dev k) k (lkU s.dev k).status (by rw [hph', hph]) (by rw [hstr', hstr]) hk
  have hlk' : (linkRest (linkMark s.dev k) k (lkU s.dev k).status).lk = (linkMark s.dev k).lk := (Laws.keeps_of_mask _ _ _ (mask_linkRest _ k _) .lk (by decide)).symm
  have hu : ∀ j, lkU (linkRest (linkMark s.dev k) k (lkU s.dev k).status) j = lkU (linkMark s.dev k) j := lkU_congr hlk'
  rw [stringsOnLink_congr (sameForce_of_mask hmask (by decide) (by decide))] at hstrings
  refine ⟨linkRest (linkMark s.dev k) k (lkU s.dev k).status, congrArg (next s) ?_, by rw [hu, hret], fun j hj => (hu j).trans (hother j hj), hphases, hstrings,
    Laws.keeps_of_mask _ _ _ ((mask_of_subset (by decide) (mask_linkRest _ k _)).trans (mask_of_subset (by decide) hmask))⟩
  unfold recoveryTimeout
  dsimp only
  rw [if_pos (by simp [hlisten, hst, hdue]), retireLink_of_usable (by rw [hst]; decide)]
  rfl

/-! ### O35 -/

/-- Settles O35: training, its failure and reinstatement are single updates of the link; a retirement marks the link, then its phases, then its strings, and nothing after takes a mark back. -/
theorem linksTrainAndRetire : Obligations.LinksTrainAndRetire := by
  unfold Obligations.LinksTrainAndRetire
  intro s k hlk hph hstr hk l
  have hin : k < s.dev.lk.length := by omega
  refine ⟨fun delay hlisten hst hup hdown hdelay hmode => linkTrained_holds s k delay hin hlisten hst hup hdown hdelay hmode, fun delay hlisten hst hup hdown hdelay => ?_,
    linkTrainFail_fails s k hin, linkRecoveryTimeout_retires s k hlk hph hstr hk, fun hmode hst hfault hused hregion => ⟨?_, ?_⟩⟩
  · have hself : lkU (updLk s.dev k (fun l => { l with delay := min 255 delay, resendOk := false })) k = { lkU s.dev k with delay := min 255 delay, resendOk := false } := lkU_updLk_same _ _ _ hin
    refine ⟨_, congrArg (next s) (trained_of_far hlisten hst hup hdown hdelay), ?_, ?_, ?_, fun j hj => lkU_updLk_other _ _ _ _ hj, Laws.keeps_of_mask _ _ _ (Laws.mask_updLk _ _ _ _ (by decide))⟩
    · rw [hself]
      exact hst
    · rw [hself]
    · rw [hself]
  · refine congrArg (next s) ?_
    unfold reinstateLink
    refine if_pos ?_
    rw [hfault, hused, hregion, show (lkU s.dev k).st = .retired from hst, hmode]
    rfl
  · unfold trainLink
    rw [lkU_updLk_same _ _ _ hin]

end Sys2Proof.Machine
end

section
/-!
SETTLEMENT. Strings that hiccup, rest and return, and phases that fail alone.
-/
namespace Sys2Proof.Machine
open Sys2Proof.Safety

/-! ### Updates of some phases -/

theorem updPh_fold_length (f : PhaseUnit → PhaseUnit) (l : List Nat) (d : Dev) : (l.foldl (fun d p => updPh d p f) d).ph.length = d.ph.length := by
  induction l generalizing d with
  | nil => rfl
  | cons a l ih => exact (ih _).trans (updPh_length _ _ _)

theorem phU_foldl_other (f : PhaseUnit → PhaseUnit) (l : List Nat) (d : Dev) (q : Nat) (hq : q ∉ l) : phU (l.foldl (fun d p => updPh d p f) d) q = phU d q := by
  induction l generalizing d with
  | nil => rfl
  | cons a l ih =>
    rw [List.foldl_cons, ih _ fun h => hq (List.mem_cons_of_mem a h), phU_updPh_other _ _ _ _ fun h => hq (by rw [h]; exact List.mem_cons_self)]

theorem phU_foldl_mem (f : PhaseUnit → PhaseUnit) (l : List Nat) (d : Dev) (hl : ∀ p ∈ l, p < d.ph.length) (hnd : l.Nodup) (q : Nat) (hq : q ∈ l) :
    phU (l.foldl (fun d p => updPh d p f) d) q = f (phU d q) := by
  induction l generalizing d with
  | nil => exact absurd hq List.not_mem_nil
  | cons a l ih =>
    obtain ⟨ha, hnd⟩ := List.nodup_cons.1 hnd
    rw [List.foldl_cons]
    rcases List.mem_cons.1 hq with rfl | hq
    · rw [phU_foldl_other f l _ q ha, phU_updPh_same _ _ _ (hl q List.mem_cons_self)]
    · rw [ih _ (fun p hp => by rw [updPh_length]; exact hl p (List.mem_cons_of_mem a hp)) hnd hq, phU_updPh_other _ _ _ _ fun h => ha (by rw [← h]; exact hq)]

theorem lt_of_mem_course {d : Dev} {k p : Nat} (h : p ∈ course d k) : p < 64 := by
  unfold course at h
  split at h
  · exact absurd h List.not_mem_nil
  · simpa using (List.mem_filter.1 h).2

/-! ### The hiccup (R183, R184) -/

theorem clearLoops_spec (d : Dev) (k : Nat) (hk : k < d.str.length) :
    strU (clearLoops d k) k = { strU d k with u1 := 0, u2 := 0, e1 := 0, e2 := 0 } ∧ (clearLoops d k).str.length = d.str.length ∧
      (∀ j, j ≠ k → strU (clearLoops d k) j = strU d j) ∧ Laws.mask [.str, .ph] (clearLoops d k) = Laws.mask [.str, .ph] d := by
  have hstr : (clearLoops d k).str = (updStr d k (fun u => { u with u1 := 0, u2 := 0, e1 := 0, e2 := 0 })).str := by
    unfold clearLoops
    dsimp only
    have h : ∀ (e : Dev) (l : List Nat), Laws.mask [.ph] (l.foldl (fun (d : Dev) p => updPh d p (fun q => { q with x := 0, limRun := 0, openRun := 0, stuckRun := 0, duties := [], rangeRun := 0, disRun := 0 })) e) = Laws.mask [.ph] e :=
      fun e l => Laws.mask_foldl _ _ (fun _ _ => Laws.mask_updPh _ _ _ _ (by decide)) _ _
    exact (Laws.keeps_of_mask _ _ _ (h _ _) .str (by decide)).symm
  have hu : ∀ j, strU (clearLoops d k) j = strU (updStr d k (fun u => { u with u1 := 0, u2 := 0, e1 := 0, e2 := 0 })) j := fun j => by
    unfold strU
    rw [hstr]
  refine ⟨(hu k).trans (strU_updStr_same _ _ _ hk), by rw [hstr, updStr_length], fun j hj => (hu j).trans (strU_updStr_other _ _ _ _ hj), Laws.mask_clearLoops _ _ _ (by decide) (by decide)⟩

/-- A string in hiccup. -/
def hiccupString (d : Dev) (k : Nat) (u : StringUnit) : StringUnit :=
  { u with st := .hiccup, pgood := false, uvArmed := false, hicUntil := d.clk.tick + 500 * hicT d k, hicStarts := d.clk.tick :: (u.hicStarts.take 15) }

theorem hiccup_of_first {d : Dev} {k value : Nat} (hwindow : hiccupsIn d k < hicK d k) (hret : (strU d k).retired = false) (hfollow : ∀ p ∈ inService d k, (phU d p).follower = false) :
    hiccup d k value = detect (setStrEvent (updStr (clearLoops d k) k (hiccupString (clearLoops d k) k)) k 0) 0x1100 k 0xFFFFFFFF value := by
  have hnone : (inService d k).filter (fun p => (phU d p).follower) = [] := List.filter_eq_nil_iff.2 fun p hp => by rw [hfollow p hp]; decide
  unfold hiccup
  rw [if_neg (by omega)]
  dsimp only
  rw [hnone, List.foldl_nil, if_neg (by rw [hret]; decide)]
  rfl

theorem stringHiccup_begins (s : State) (k : Nat) (hlen : s.dev.str.length = 64) (hk : k < 64) (n : Nat) (hn : n = ((inService s.dev k).map (fun p => (phU s.dev p).limRun)).foldl max 0)
    (hswitch : (strU s.dev k).st.switching = true) (hone : 1 ≤ n) (hcycles : hicN s.dev k ≤ n) (hwindow : hiccupsIn s.dev k < hicK s.dev k) (hret : (strU s.dev k).retired = false)
    (hfollow : ∀ p ∈ inService s.dev k, (phU s.dev p).follower = false) :
    ∃ d, exec (.stringHiccup k) s = next s d ∧ (strU d k).st = .hiccup ∧ (strU d k).hicUntil = s.dev.clk.tick + 500 * hicT s.dev k ∧
      (strU d k).hicStarts = s.dev.clk.tick :: (strU s.dev k).hicStarts.take 15 ∧ (strU d k).retired = false ∧ (∀ j, j ≠ k → strU d j = strU s.dev j) ∧
      d.flt.inbox = s.dev.flt.inbox ++ [{ due := s.dev.clk.tick + 1, code := 0x1100, p0 := k, p1 := 0xFFFFFFFF, p2 := n }] ∧ keeps [.str, .ph, .flt] s.dev d := by
  obtain ⟨hself, hclen, hother, hmask⟩ := clearLoops_spec s.dev k (by omega)
  have hkept := Laws.keeps_of_mask _ _ _ hmask
  have hclk : (clearLoops s.dev k).clk = s.dev.clk := (hkept .clk (by decide)).symm
  have hflt : (clearLoops s.dev k).flt = s.dev.flt := (hkept .flt (by decide)).symm
  have hforce : SameForce s.dev (clearLoops s.dev k) := sameForce_of_mask hmask (by decide) (by decide)
  have htime : hicT (clearLoops s.dev k) k = hicT s.dev k := hforce.rsF _ _ _
  have hexec : exec (.stringHiccup k) s = next s (hiccup s.dev k n) := congrArg (next s) (by
    change hiccupEvent s.dev k = _
    unfold hiccupEvent
    dsimp only
    rw [← hn, if_pos (by simp [hswitch, hone, hcycles])])
  rw [hexec, hiccup_of_first hwindow hret hfollow]
  generalize clearLoops s.dev k = e at *
  have hin : k < e.str.length := by omega
  have hu : strU (detect (setStrEvent (updStr e k (hiccupString e k)) k 0) 0x1100 k 0xFFFFFFFF n) k = { hiccupString e k (strU e k) with event := withBit (strU e k).event 0 } := by
    change strU (setStrEvent (updStr e k (hiccupString e k)) k 0) k = _
    unfold setStrEvent
    rw [strU_updStr_same _ _ _ (by rw [updStr_length]; exact hin), strU_updStr_same _ _ _ hin]
    rfl
  refine ⟨_, rfl, ?_, ?_, ?_, ?_, fun j hj => ?_, ?_, ?_⟩
  · rw [hu]
    rfl
  · rw [hu, ← htime, ← hclk]
    rfl
  · rw [hu, hself, ← hclk]
    rfl
  · rw [hu, hself]
    exact hret
  · exact (strU_updStr_other _ _ _ _ hj).trans ((strU_updStr_other _ _ _ _ hj).trans (hother j hj))
  · rw [← hflt, ← hclk]
    rfl
  · refine Laws.keeps_of_mask _ _ _ ?_
    rw [Laws.mask_detect _ _ _ _ _ _ (by decide), Laws.mask_setStrEvent _ _ _ _ (by decide), Laws.mask_updStr _ _ _ _ (by decide)]
    exact mask_of_subset (by decide) hmask

theorem stringHiccup_retires (s : State) (k : Nat) (hlen : s.dev.str.length = 64) (hk : k < 64) (n : Nat) (hn : n = ((inService s.dev k).map (fun p => (phU s.dev p).limRun)).foldl max 0)
    (hswitch : (strU s.dev k).st.switching = true) (hone : 1 ≤ n) (hcycles : hicN s.dev k ≤ n) (hwindow : hicK s.dev k ≤ hiccupsIn s.dev k) (hret : (strU s.dev k).retired = false) :
    ∃ d, exec (.stringHiccup k) s = next s d ∧ (strU d k).retired = true ∧ (strU d k).retireCode = 0x1101 ∧ (∀ j, j ≠ k → strU d j = strU s.dev j) ∧
      keeps [.ph, .str, .fb, .jr, .flt, .int, .rcd, .mp, .out, .fretOut] s.dev d := by
  have hexec : exec (.stringHiccup k) s = next s (detect (retireString s.dev k 0x1101) 0x1101 k 0xFFFFFFFF n) := congrArg (next s) (by
    change hiccupEvent s.dev k = _
    unfold hiccupEvent
    dsimp only
    rw [← hn, if_pos (by simp [hswitch, hone, hcycles])]
    exact if_pos hwindow)
  obtain ⟨hretired, hcode⟩ := retireString_retires s.dev k 0x1101 (by omega)
  refine ⟨_, hexec, hretired, hcode hret, fun j hj => ((strFate_retireString s.dev k 0x1101).2 j).1 hj, Laws.keeps_of_mask _ _ _ ?_⟩
  rw [Laws.mask_detect _ _ _ _ _ _ (by decide),
    Laws.mask_retireString _ _ _ _ (by decide) (by decide) (by decide) (by decide) (by decide) (by decide) (by decide) (by decide) (by decide) (by decide)]

theorem hiccupRetry_starts (s : State) (k : Nat) (hlen : s.dev.str.length = 64) (hk : k < 64) (hst : (strU s.dev k).st = .hiccup) (hdue : (strU s.dev k).hicUntil ≤ s.dev.clk.tick) :
    ∃ d, exec (.hiccupRetry k) s = next s d ∧ (strU d k).st = .softStart ∧ (strU d k).vRamp = measuredRamp s.dev k ∧ (strU d k).vCmd = (strU s.dev k).vCmd ∧
      (∀ j, j ≠ k → strU d j = strU s.dev j) ∧ keeps [.str, .ph] s.dev d := by
  obtain ⟨hself, hclen, hother, hmask⟩ := clearLoops_spec s.dev k (by omega)
  have hu : strU (retryString s.dev k) k = { strU (clearLoops s.dev k) k with st := .softStart, vRamp := measuredRamp s.dev k, hicUntil := 0 } := strU_updStr_same _ _ _ (by omega)
  refine ⟨retryString s.dev k, congrArg (next s) ?_, by rw [hu], by rw [hu], by rw [hu, hself], fun j hj => (strU_updStr_other _ _ _ _ hj).trans (hother j hj),
    Laws.keeps_of_mask _ _ _ ((Laws.mask_updStr _ _ _ _ (by decide)).trans hmask)⟩
  unfold retryEvent
  exact if_pos (by simp [hst, hdue])

/-! ### Reinstatement (R192) -/

/-- A phase returns to service. -/
def reinstatedPhase (q : PhaseUnit) : PhaseUnit := if q.retired then { q with retired := false, cause := 0, fault := 0, follower := false } else q

/-- A string returns to service. -/
def reinstatedString (u : StringUnit) : StringUnit := if u.retired then { u with retired := false, retireCode := 0, st := if u.st == .retired then .disabled else u.st } else u

/-- The string and its phases are back, before the capo follows. -/
def reinstated (d : Dev) (k : Nat) : Dev := updStr ((course d k).foldl (fun d p => updPh d p reinstatedPhase) d) k reinstatedString

theorem reinstateString_of_clear {d : Dev} {k : Nat} (hmode : d.mm.mode = .config) (hfault : stringFault d k = false) : reinstateString d k = recapo (reinstated d k) k := by
  unfold reinstateString
  rw [if_neg (by simp [hmode, hfault])]
  rfl

theorem reinstated_spec (d : Dev) (k : Nat) (hlen : k < d.str.length) (hph : d.ph.length = 64) :
    strU (reinstated d k) k = reinstatedString (strU d k) ∧ (∀ j, j ≠ k → strU (reinstated d k) j = strU d j) ∧
      (∀ p ∈ course d k, (phU (reinstated d k) p).retired = false) ∧ (∀ p, p ∉ course d k → phU (reinstated d k) p = phU d p) ∧ Laws.mask [.str, .ph] (reinstated d k) = Laws.mask [.str, .ph] d := by
  have hmask : ∀ qs, Part.ph ∈ qs → Laws.mask qs ((course d k).foldl (fun d p => updPh d p reinstatedPhase) d) = Laws.mask qs d := fun qs hqs =>
    Laws.mask_foldl _ _ (fun _ _ => Laws.mask_updPh _ _ _ _ hqs) _ _
  have hstr : ((course d k).foldl (fun d p => updPh d p reinstatedPhase) d).str = d.str := (Laws.keeps_of_mask _ _ _ (hmask [.ph] (by decide)) .str (by decide)).symm
  have hu : ∀ j, strU ((course d k).foldl (fun d p => updPh d p reinstatedPhase) d) j = strU d j := fun j => by
    unfold strU
    rw [hstr]
  have hback : ∀ q : PhaseUnit, (reinstatedPhase q).retired = false := fun q => by
    unfold reinstatedPhase
    cases h : q.retired with
    | true => rw [if_pos rfl]
    | false => exact h
  have hp : ∀ p, phU (reinstated d k) p = phU ((course d k).foldl (fun d p => updPh d p reinstatedPhase) d) p := fun _ => rfl
  refine ⟨?_, fun j hj => (strU_updStr_other _ _ _ _ hj).trans (hu j), fun p hp' => ?_, fun p hp' => ?_, (Laws.mask_updStr _ _ _ _ (by decide)).trans (hmask _ (by decide))⟩
  · unfold reinstated
    rw [strU_updStr_same _ _ _ (by rw [hstr]; exact hlen), hu]
  · rw [hp, phU_foldl_mem _ _ _ (fun q hq => by rw [hph]; exact lt_of_mem_course hq) (course_nodup d k) p hp', hback]
  · rw [hp, phU_foldl_other _ _ _ _ hp']

theorem stringReinstate_returns (s : State) (k : Nat) (hlen : s.dev.str.length = 64) (hph : s.dev.ph.length = 64) (hk : k < 64) (hmode : s.dev.mm.mode = .config)
    (hfault : stringFault s.dev k = false) :
    ∃ d, exec (.stringReinstate k) s = next s d ∧ (strU d k).retired = false ∧ (∀ p ∈ course s.dev k, (phU d p).retired = false) ∧
      ((strU s.dev k).st = .retired → (strU s.dev k).retired = true → (strU d k).st = .disabled) ∧ (∀ j, j ≠ k → strU d j = strU s.dev j) ∧
      (∀ p, p ∉ course s.dev k → phU d p = phU s.dev p) ∧ keeps [.str, .ph, .fb, .flt, .int, .rcd] s.dev d := by
  obtain ⟨hself, hother, hback, hout, hmask⟩ := reinstated_spec s.dev k (by omega) hph
  obtain ⟨hother', -, hcapless⟩ := strKeep_recapo (reinstated s.dev k) k
  have hcapo : Laws.mask [.fb, .str, .flt, .int, .rcd] (recapo (reinstated s.dev k) k) = Laws.mask [.fb, .str, .flt, .int, .rcd] (reinstated s.dev k) :=
    Laws.mask_recapo _ _ _ (by decide) (by decide) (by decide) (by decide) (by decide)
  have hphkept : (recapo (reinstated s.dev k) k).ph = (reinstated s.dev k).ph := (Laws.keeps_of_mask _ _ _ hcapo .ph (by decide)).symm
  have hp : ∀ p, phU (recapo (reinstated s.dev k) k) p = phU (reinstated s.dev k) p := fun p => by
    unfold phU
    rw [hphkept]
  have hret : (strU (recapo (reinstated s.dev k) k) k).retired = (reinstatedString (strU s.dev k)).retired := by
    have h := congrArg StringUnit.retired hcapless
    rw [hself] at h
    exact h
  have hst : (strU (recapo (reinstated s.dev k) k) k).st = (reinstatedString (strU s.dev k)).st := by
    have h := congrArg StringUnit.st hcapless
    rw [hself] at h
    exact h
  refine ⟨recapo (reinstated s.dev k) k, congrArg (next s) (reinstateString_of_clear hmode hfault), ?_, fun p hmem => (congrArg PhaseUnit.retired (hp p)).trans (hback p hmem), fun hwas hwasret => ?_, fun j hj => (hother' j hj).trans (hother j hj),
    fun p hmem => (hp p).trans (hout p hmem), Laws.keeps_of_mask _ _ _ ((mask_of_subset (by decide) hcapo).trans (mask_of_subset (by decide) hmask))⟩
  · rw [hret]
    unfold reinstatedString
    cases h : (strU s.dev k).retired with
    | true => rw [if_pos rfl]
    | false => exact h
  · rw [hst]
    unfold reinstatedString
    rw [hwasret, hwas]
    rfl

/-! ### O36 -/

/-- Settles O36: a first hiccup, a retry and a rest are updates of the one string; the retirement is `retireString`, and the return sets the string and its phases back before the capo follows. -/
theorem stringsHiccupAndRest : Obligations.StringsHiccupAndRest := by
  unfold Obligations.StringsHiccupAndRest
  refine ⟨?_, ?_⟩
  · intro s k hlen hk u n
    exact ⟨fun hswitch hone hcycles hwindow hret hfollow => stringHiccup_begins s k hlen hk n rfl hswitch hone hcycles hwindow hret hfollow,
      fun hswitch hone hcycles hwindow hret => stringHiccup_retires s k hlen hk n rfl hswitch hone hcycles hwindow hret, hiccupRetry_starts s k hlen hk⟩
  · intro s k hlen hph hk u
    refine ⟨fun hst hret hlow => congrArg (next s) ?_, fun hst hret hdue => ?_, stringReinstate_returns s k hlen hph hk⟩
    · unfold dischargeDone
      dsimp only
      rw [if_pos (by rw [show (strU s.dev k).st = .safeDischarge from hst, hlow]; rfl), restPhases_of_usable hret]
    · have hrest : restPhases s.dev k = updStr s.dev k (fun u => { u with st := .safeOff }) := restPhases_of_usable hret
      have hself : strU (setStrEvent (restPhases s.dev k) k 5) k = { strU s.dev k with st := .safeOff, event := withBit (strU s.dev k).event 5 } := by
        unfold setStrEvent
        rw [hrest, strU_updStr_same _ _ _ (by rw [updStr_length]; omega), strU_updStr_same _ _ _ (by omega)]
      refine ⟨detect (setStrEvent (restPhases s.dev k) k 5) 0x1105 k 0xFFFFFFFF (ratNat ((strU s.dev k).vMeas * 10)), congrArg (next s) ?_, hself, fun j hj => ?_, ?_⟩
      · unfold dischargeLate
        dsimp only
        rw [if_pos (by rw [show (strU s.dev k).st = .safeDischarge from hst]; simpa using hdue)]
      · rw [hrest]
        exact (strU_updStr_other _ _ _ _ hj).trans (strU_updStr_other _ _ _ _ hj)
      · rw [hrest]
        exact Laws.keeps_of_mask _ _ _ ((Laws.mask_detect _ _ _ _ _ _ (by decide)).trans ((Laws.mask_setStrEvent _ _ _ _ (by decide)).trans (Laws.mask_updStr _ _ _ _ (by decide))))

/-! ### O37 -/

/-- A phase under test is in service, in the course of a string (R186). -/
theorem tested_spec {d : Dev} {p : Nat} (h : tested d p = true) : (∃ k, stringOf d p = some k) ∧ (phU d p).retired = false := by
  unfold tested at h
  cases hk : stringOf d p with
  | none => rw [hk] at h; exact absurd h Bool.false_ne_true
  | some k =>
    rw [hk] at h
    simp only [Bool.and_eq_true, List.contains_iff_mem] at h
    obtain ⟨⟨⟨-, hdriven⟩, -⟩, -⟩ := h
    refine ⟨⟨k, rfl⟩, ?_⟩
    unfold driven at hdriven
    split at hdriven
    · unfold discharging at hdriven
      exact (mem_unretired (List.mem_filter.1 hdriven).1).2
    · unfold inService at hdriven
      split at hdriven
      · simpa using (List.mem_filter.1 hdriven).2
      · exact absurd hdriven List.not_mem_nil

theorem not_courseAround {d : Dev} {p q : Nat} (hq : q ≠ p) (hcourse : ∀ j, stringOf d p = some j → q ∉ course d j) : ¬ courseAround d p q := by
  rintro (h | ⟨k, hk, hmem⟩)
  · exact hq h
  · exact hcourse k hk hmem

/-- A phase retired by its own fault (R186, R188). -/
theorem detectedRetirement_spec (d : Dev) (p cause code n v : Nat) (hp : p < d.ph.length) (hret : (phU d p).retired = false) :
    (phU (detect (retirePhase d p cause code) code n p v) p).retired = true ∧ (phU (detect (retirePhase d p cause code) code n p v) p).cause = cause ∧
      (phU (detect (retirePhase d p cause code) code n p v) p).fault = code ∧
      (∀ q, q ≠ p → (∀ j, stringOf d p = some j → q ∉ course d j) → phU (detect (retirePhase d p cause code) code n p v) q = phU d q) ∧
      keeps [.ph, .str, .fb, .jr, .flt, .int, .rcd, .mp, .out, .fretOut] d (detect (retirePhase d p cause code) code n p v) := by
  obtain ⟨hr, hc, hf⟩ := retirePhase_retires d p cause code hp hret
  refine ⟨hr, hc, hf, fun q hq hcourse => (phFate_retirePhase d p cause code q).2.1 (not_courseAround hq hcourse), Laws.keeps_of_mask _ _ _ ?_⟩
  rw [Laws.mask_detect _ _ _ _ _ _ (by decide),
    Laws.mask_retirePhase _ _ _ _ _ (by decide) (by decide) (by decide) (by decide) (by decide) (by decide) (by decide) (by decide) (by decide) (by decide)]

/-- A phase becomes a follower (R188). -/
def followed (d : Dev) (p k : Nat) : Dev :=
  setStrEvent (updPh d p (fun q => { q with follower := true, fCycles := 0, openRun := 0, stuckRun := 0, duties := [], rangeRun := 0, disRun := 0 })) k 2

theorem makeFollower_of_stringOf {d : Dev} {p k : Nat} (hk : stringOf d p = some k) :
    makeFollower d p = if courseGone (followed d p k) k then courseLost (followed d p k) k p else followed d p k := by
  unfold makeFollower
  rw [hk]
  rfl

theorem makeFollower_spec {d : Dev} {p k : Nat} (hk : stringOf d p = some k) (hp : p < d.ph.length) :
    ((phU (makeFollower d p) p).follower = true ∨ (phU (makeFollower d p) p).retired = true) ∧
      (∀ q, q ≠ p → (∀ j, stringOf d p = some j → q ∉ course d j) → phU (makeFollower d p) q = phU d q) ∧
      keeps [.ph, .str, .fb, .jr, .flt, .int, .rcd, .mp, .out, .fretOut] d (makeFollower d p) := by
  have hforce : SameForce d (followed d p k) := ⟨rfl, rfl⟩
  have hself : phU (followed d p k) p = { phU d p with follower := true, fCycles := 0, openRun := 0, stuckRun := 0, duties := [], rangeRun := 0, disRun := 0 } := phU_updPh_same _ _ _ hp
  have hlost : PhFate (· ∈ course d k) (followed d p k) (makeFollower d p) := by
    rw [makeFollower_of_stringOf hk]
    split
    · have h := phFate_courseLost (followed d p k) k p
      rw [hforce.course] at h
      exact h
    · exact .refl _ _
  have hmask : Laws.mask retireParts (makeFollower d p) = Laws.mask retireParts (followed d p k) := by
    rw [makeFollower_of_stringOf hk, Laws.mask_ite,
      Laws.mask_courseLost _ _ _ _ (by decide) (by decide) (by decide) (by decide) (by decide) (by decide) (by decide) (by decide) (by decide) (by decide), ite_self]
  refine ⟨(hlost p).2.2.2 (by rw [hself]), fun q hq hcourse => ((hlost q).2.1 (hcourse k hk)).trans (phU_updPh_other _ _ _ _ hq), Laws.keeps_of_mask _ _ _ ((mask_of_subset (by decide) hmask).trans ?_)⟩
  exact (Laws.mask_setStrEvent _ _ _ _ (by decide)).trans (Laws.mask_updPh _ _ _ _ (by decide))

/-- Settles O37: a retirement and a lost course leave the phases of every other course, and no later step takes a retirement or a follower back. -/
theorem phasesFailAlone : Obligations.PhasesFailAlone := by
  unfold Obligations.PhasesFailAlone
  intro s p hph hstr hp
  have hin : p < s.dev.ph.length := by omega
  refine ⟨fun htested hopen hsense => ?_, fun htested hsense => ?_, fun hfollow hret hcycles => ?_⟩
  · obtain ⟨hr, hc, hf, hother, hkeeps⟩ := detectedRetirement_spec s.dev p 1 0x1102 ((stringOf s.dev p).getD 0) (lowBits 32 (phU s.dev p).current) hin (tested_spec htested).2
    refine ⟨_, congrArg (next s) ?_, hr, hc, hf, hother, hkeeps⟩
    unfold openEvent
    exact if_pos (by simp [htested, hopen, hsense])
  · obtain ⟨⟨k, hk⟩, -⟩ := tested_spec htested
    obtain ⟨hfol, hother, hkeeps⟩ := makeFollower_spec hk hin
    refine ⟨makeFollower s.dev p, congrArg (next s) ?_, hfol, hother, hkeeps⟩
    unfold senseEvent
    exact if_pos (by simp [htested, hsense])
  · obtain ⟨hr, hc, hf, hother, hkeeps⟩ := detectedRetirement_spec s.dev p 2 0x1103 ((stringOf s.dev p).getD 0) (lowBits 32 (phU s.dev p).current) hin hret
    refine ⟨_, congrArg (next s) ?_, hr, hc, hf, hother, hkeeps⟩
    unfold followerEvent
    exact if_pos (by simp [hfollow, hret, hcycles])

end Sys2Proof.Machine
end

section
/-!
SETTLEMENT. Supervision of items, the steps of a run, and the unwind.
-/
namespace Sys2Proof.Machine
open Sys2Proof.Safety

/-! ### O38: supervision -/

theorem itemBecomesGood_of_other {d : Dev} {i : Item} (hgood : canBeGood d i = true) (hmode : d.mm.mode ≠ .boot) : itemBecomesGood d i = stepUp (setGood d i) := by
  unfold itemBecomesGood
  rw [if_neg (by rw [hgood]; decide)]
  cases i with
  | string k => rfl
  | rail r =>
    dsimp only
    rw [if_neg]
    rintro ⟨-, h, -⟩
    exact hmode (beq_iff_eq.1 h)

theorem setGood_run (d : Dev) (i : Item) : (setGood d i).seq.run = d.seq.run := by cases i <;> rfl

theorem SState.enabled_of_switching {st : SState} (h : st.switching = true) : st.enabled = true := by
  cases st <;> first | rfl | exact absurd h (by decide)

/-- An item that can be good is enabled (R238). -/
theorem itemGood_setGood {d : Dev} {i : Item} (hgood : canBeGood d i = true) (hstr : d.str.length = 64) (hrails : d.seq.rails.length = 8)
    (hrail : ∀ r, i = .rail r → r < 8) (hstring : ∀ k, i = .string k → k < 64) : itemGood (setGood d i) i = true := by
  cases i with
  | rail r =>
    have hon : (railU d r).enabled = true := by
      unfold canBeGood at hgood
      exact (Bool.and_eq_true _ _ ▸ hgood).1
    unfold itemGood setGood
    dsimp only
    rw [railU_updRail_same _ _ _ (by rw [hrails]; exact hrail r rfl)]
    dsimp only
    rw [hon]
    rfl
  | string k =>
    have hon : (strU d k).st.switching = true := by
      unfold canBeGood at hgood
      cases hkind : kindOf d k <;> simp [hkind] at hgood
      · exact hgood.1
      · exact hgood.1.1
      · exact hgood.1
    unfold itemGood setGood
    dsimp only
    rw [strU_updStr_same _ _ _ (by rw [hstr]; exact hstring k rfl)]
    dsimp only
    rw [SState.enabled_of_switching hon]
    rfl

/-- Settles O38: power-good and the trips are each one update, by the item's kind; the step that waits for the item alone finds it good. -/
theorem itemsAreSupervised : Obligations.ItemsAreSupervised := by
  unfold Obligations.ItemsAreSupervised
  intro s i ovr mv
  refine ⟨fun hgood hmode hrun => congrArg (next s) ?_, fun r hgood hmode hrun hphase hitems hstr hrails hi => congrArg (next s) ?_, fun harmed => ⟨?_, ?_⟩⟩
  · refine (itemBecomesGood_of_other hgood hmode).trans ?_
    unfold stepUp
    rw [setGood_run, hrun]
  · refine (itemBecomesGood_of_other hgood hmode).trans ?_
    unfold stepUp
    rw [setGood_run, hrun]
    dsimp only
    rw [if_pos]
    have hitem : itemGood (setGood s.dev i) i = true :=
      itemGood_setGood hgood hstr hrails (fun q hq => by subst hq; exact hi) (fun k hk => by subst hk; exact hi)
    rw [hphase, hitems, List.all_cons, List.all_nil, hitem]
    rfl
  · rintro r rfl
    refine ⟨congrArg (next s) ?_, congrArg (next s) ?_⟩
    · unfold warningTrip
      exact if_neg (by rw [harmed]; decide)
    · unfold faultTrip
      exact if_neg (by rw [harmed]; decide)
  · rintro k rfl
    refine ⟨congrArg (next s) ?_, congrArg (next s) ?_⟩
    · unfold warningTrip
      exact if_neg (by rw [harmed]; decide)
    · unfold faultTrip
      exact if_neg (by rw [harmed]; decide)

/-! ### O39: the steps of a run -/

theorem SameForce.refl (d : Dev) : SameForce d d := ⟨rfl, rfl⟩

theorem SameForce.stepWord {d e : Dev} (h : SameForce d e) (table n : Nat) : stepWord e table n = Machine.stepWord d table n := by
  have hforce : ∀ off, inForce e off = inForce d off := fun off => inForce_congr e d h.2 h.1 off
  have hboot : bootStep e n = bootStep d n := by
    have hshadow : shadowOf e = shadowOf d := by funext w; simp only [shadowOf, h.2]
    have husable : otpUsable e = otpUsable d := by funext w; simp only [otpUsable, hshadow]
    unfold bootStep railsFromOtp railWordsUsable railGroupsOk railNetsOk otpRailSize otpRailNet
    rw [hshadow, husable]
  unfold Machine.stepWord
  split
  · exact hboot
  · exact hforce _
  · exact hforce _

theorem SameForce.stepPause {d e : Dev} (h : SameForce d e) (table n : Nat) :
    (if stepUsed e table n then stepDelay e table n else 0) = if stepUsed d table n then stepDelay d table n else 0 := by
  unfold stepUsed stepDelay
  rw [h.stepWord]

/-- The run behind a step that is done. -/
def delayed (d : Dev) (r : Run) : Run := { r with phase := .delay, deadline := d.clk.tick + 1000 * (if stepUsed d r.table r.step then stepDelay d r.table r.step else 0) }

theorem stepDone_spec (d : Dev) (r : Run) :
    (stepDone d r).seq.run = some (delayed d r) ∧ (stepDone d r).seq.dischTimeouts = d.seq.dischTimeouts ∧ Laws.mask [.seq] (stepDone d r) = Laws.mask [.seq] d := by
  have hreport : ∀ e : Dev, SameForce e (report e false true) ∧ (report e false true).clk = e.clk ∧ (report e false true).seq.dischTimeouts = e.seq.dischTimeouts := fun e => by
    unfold report
    split
    · exact ⟨⟨rfl, rfl⟩, rfl, rfl⟩
    · exact ⟨⟨rfl, rfl⟩, rfl, rfl⟩
  have hmask : Laws.mask [.seq] (stepDone d r) = Laws.mask [.seq] d := by
    unfold stepDone
    dsimp only
    rw [Laws.mask_setRun _ _ _ (by decide), Laws.mask_ite, Laws.mask_report _ _ _ _ (by decide), ite_self]
  refine ⟨?_, ?_, hmask⟩
  · unfold stepDone delayed
    dsimp only
    split
    · rw [(hreport d).1.stepPause, (hreport d).2.1]
      rfl
    · rfl
  · unfold stepDone
    dsimp only
    split
    · exact (hreport d).2.2
    · rfl

/-- A step that comes to rest: its DELAY begins. -/
theorem stepDone_rests {d e : Dev} (r q : Run) (hq : q.step = r.step ∧ q.table = r.table) (hforce : SameForce d e) (htick : e.clk.tick = d.clk.tick) :
    ∃ p, (stepDone e q).seq.run = some p ∧ p.phase = .delay ∧ p.step = r.step ∧ p.table = r.table ∧
      p.deadline = d.clk.tick + 1000 * (if stepUsed d r.table r.step then stepDelay d r.table r.step else 0) := by
  refine ⟨_, (stepDone_spec e q).1, rfl, hq.1, hq.2, ?_⟩
  unfold delayed
  dsimp only
  rw [hforce.stepPause, htick, hq.1, hq.2]

theorem mask_seqRecord_parts (d : Dev) (code table step : Nat) : Laws.mask [.clk, .int, .rcd] (seqRecord d code table step) = Laws.mask [.clk, .int, .rcd] d :=
  Laws.mask_seqRecord _ _ _ _ _ (by decide) (by decide) (by decide)

theorem seqRecord_seq (d : Dev) (code table step : Nat) : (seqRecord d code table step).seq = d.seq := (Laws.keeps_of_mask _ _ _ (mask_seqRecord_parts d code table step) .seq (by decide)).symm

theorem freeOnly_seqRecord (d : Dev) (code table step : Nat) : FreeOnly d (seqRecord d code table step) := freeOnly_recordN _ _ _ _

theorem FreeOnly.tick {d e : Dev} (h : FreeOnly d e) : e.clk.tick = d.clk.tick := by rw [show e.clk = { d.clk with free := e.clk.free } from h]

theorem dischargeRecord_spec (d : Dev) (table step : Nat) :
    (dischargeRecord d table step).seq = { d.seq with dischTimeouts := min 255 (d.seq.dischTimeouts + 1), event := withBit d.seq.event 10 } ∧ FreeOnly d (dischargeRecord d table step) ∧
      Laws.mask [.seq, .int, .rcd, .clk] (dischargeRecord d table step) = Laws.mask [.seq, .int, .rcd, .clk] d := by
  have hrecord := seqRecord_seq { d with seq := { d.seq with dischTimeouts := sat 255 (d.seq.dischTimeouts + 1) } } 0x3001 table step
  have hfree := freeOnly_seqRecord { d with seq := { d.seq with dischTimeouts := sat 255 (d.seq.dischTimeouts + 1) } } 0x3001 table step
  have hevent : ∀ e : Dev, (setSeqEvent e 10).seq = { e.seq with event := withBit e.seq.event 10 } ∧ FreeOnly e (setSeqEvent e 10) := fun e =>
    ⟨(Laws.keeps_of_mask [.int] _ _ (Laws.mask_occur _ _ _ (by decide)) .seq (by decide)).symm, freeOnly_of_mask (qs := [.seq, .int]) (Laws.mask_setSeqEvent _ _ _ (by decide) (by decide)) (by decide)⟩
  refine ⟨?_, hfree.trans (hevent _).2, Laws.mask_dischargeRecord _ _ _ _ (by decide) (by decide) (by decide) (by decide)⟩
  unfold dischargeRecord
  rw [(hevent _).1, hrecord]
  unfold sat
  rw [Nat.min_comm]

theorem bit_switchedOff (w : BitVec 8) (b : Nat) : bit (w &&& ~~~(1#8 <<< b)) b = false := by
  rw [bit_clear]
  simp

theorem openStage_off (d : Dev) (r : Run) (i : Nat) : bit (openStage d r i).pwr.on (downStage i).bit = false := bit_switchedOff _ _

theorem phaseOver_of_late {d : Dev} {r : Run} (h : r.deadline ≤ d.clk.tick) : ¬ (!phaseOver d r) = true := by simp [phaseOver, h]

theorem delayEnd_of_late {d : Dev} {r : Run} (hrun : d.seq.run = some r) (hlate : r.deadline ≤ d.clk.tick) :
    (r.phase = .delay → r.waitPeers = false → delayEnd d = afterStep d r) ∧ (∀ i, r.phase = .domainDown i → i < 7 → delayEnd d = openStage d r i) := by
  refine ⟨fun hphase hpeers => ?_, fun i hphase hi => ?_⟩
  · unfold delayEnd
    rw [hrun]
    dsimp only
    rw [if_neg (phaseOver_of_late hlate), hphase, hpeers]
    rfl
  · unfold delayEnd
    rw [hrun]
    dsimp only
    rw [if_neg (phaseOver_of_late hlate), hphase]
    exact if_pos hi

theorem failBoot_of_boot {d : Dev} {r : Run} (hrun : d.seq.run = some r) (hkind : r.kind = .boot) (hphase : r.phase ≠ .unwind) :
    failBoot d = startUnwind (seqRecord (setSeqEvent d 12) 0x3002 (runPlace r).1 (runPlace r).2) r .timeout := by
  unfold failBoot
  rw [hrun]
  dsimp only
  rw [if_pos (by simp [hkind, hphase])]

theorem stepLate_of_late {d : Dev} {r : Run} (hrun : d.seq.run = some r) (hlate : r.deadline ≤ d.clk.tick) :
    (r.phase = .upWait → r.kind ≠ .boot → follows d r = false →
      stepLate d = startUnwind (seqFault (setSeqEvent d 12) 0x1304 ((r.items.find? (fun i => !itemGood d i)).getD (.rail 0)) r.step) r .timeout) ∧
    (∀ i, r.phase = .domainUp i → r.kind = .boot → stepLate d = startUnwind (seqRecord (setSeqEvent d 12) 0x3002 0 0) r .timeout) := by
  refine ⟨fun hphase hkind hfollow => ?_, fun i hphase hkind => ?_⟩
  · have hboot : ¬ (r.kind == .boot) = true := by simpa using hkind
    unfold stepLate
    rw [hrun]
    dsimp only
    rw [if_neg (phaseOver_of_late hlate), hphase]
    dsimp only
    rw [if_neg (by rw [hfollow]; decide), if_neg hboot, if_neg hboot]
  · have hplace : runPlace r = (0, 0) := by unfold runPlace; rw [hphase]
    unfold stepLate
    rw [hrun]
    dsimp only
    rw [if_neg (phaseOver_of_late hlate), hphase]
    dsimp only
    rw [failBoot_of_boot hrun hkind (by rw [hphase]; exact fun h => nomatch h), hplace]

theorem itemsLow_of_low {d : Dev} {r : Run} (hrun : d.seq.run = some r) (hlow : r.items.all (itemLow d) = true) :
    (r.phase = .downWait ∨ r.phase = .hold → itemsLow d = stepDone d r) ∧ (r.phase = .closing → itemsLow d = endClosing d r) := by
  have hall : ¬ (!r.items.all (itemLow d)) = true := by rw [hlow]; decide
  refine ⟨fun hphase => ?_, fun hphase => ?_⟩
  · unfold itemsLow
    rw [hrun]
    dsimp only
    rw [if_neg hall]
    rcases hphase with h | h <;> rw [h]
  · unfold itemsLow
    rw [hrun]
    dsimp only
    rw [if_neg hall, hphase]

theorem downLate_of_late {d : Dev} {r : Run} (hrun : d.seq.run = some r) (hlate : r.deadline ≤ d.clk.tick) (hlow : ¬ r.items.all (itemLow d) = true) (hphase : r.phase = .downWait) :
    (stepStrict d r.table r.step = false → downLate d = stepDone (dischargeRecord d r.table r.step) { r with timeouts := r.timeouts + 1 }) ∧
    (stepStrict d r.table r.step = true →
      downLate d = seqFault (setSeqEvent (setRun d { r with phase := .hold }) 11) 0x1305 ((r.items.find? (fun i => !itemLow d i)).getD (.rail 0)) r.step) := by
  have hcond : ¬ (!phaseOver d r || r.items.all (itemLow d)) = true := by simp [phaseOver, hlate, hlow]
  refine ⟨fun hstrict => ?_, fun hstrict => ?_⟩
  · unfold downLate
    rw [hrun]
    dsimp only
    rw [if_neg hcond, hphase]
    exact if_neg (by rw [hstrict]; decide)
  · unfold downLate
    rw [hrun]
    dsimp only
    rw [if_neg hcond, hphase]
    exact if_pos hstrict

theorem mask_of_late (d : Dev) (r : Run) (i : Item) (step : Nat) :
    Laws.mask [.seq, .int, .flt] (seqFault (setSeqEvent (setRun d r) 11) 0x1305 i step) = Laws.mask [.seq, .int, .flt] d := by
  unfold seqFault
  rw [Laws.mask_detect _ _ _ _ _ _ (by decide), Laws.mask_setSeqEvent _ _ _ (by decide) (by decide), Laws.mask_setRun _ _ _ (by decide)]

theorem setSeqEvent_run (d : Dev) (b : Nat) : (setSeqEvent d b).seq.run = d.seq.run := by
  unfold setSeqEvent
  rw [occur_seq]

/-- Settles O39: each event of a run is one branch of its function, and a step that is done rests in its DELAY whatever was recorded before it. -/
theorem runStepsAdvance : Obligations.RunStepsAdvance := by
  unfold Obligations.RunStepsAdvance
  intro s r hrun late low rests
  refine ⟨fun hlate hphase hpeers => congrArg (next s) ((delayEnd_of_late hrun hlate).1 hphase hpeers),
    fun i hlate hphase hi => ⟨congrArg (next s) ((delayEnd_of_late hrun hlate).2 i hphase hi), openStage_off _ _ _⟩,
    fun hlate hphase hkind hfollow => congrArg (next s) ((stepLate_of_late hrun hlate).1 hphase hkind hfollow),
    fun i hlate hphase hkind => congrArg (next s) ((stepLate_of_late hrun hlate).2 i hphase hkind), fun hlow hphase => ?_,
    fun hlow hphase => congrArg (next s) ((itemsLow_of_low hrun hlow).2 hphase), fun hlate hlow hphase hstrict => ?_, fun hlate hlow hphase hstrict => ?_, fun hphase hpow => ?_⟩
  · exact ⟨stepDone s.dev r, congrArg (next s) ((itemsLow_of_low hrun hlow).1 hphase), stepDone_rests r r ⟨rfl, rfl⟩ (.refl _) rfl, Laws.keeps_of_mask _ _ _ (stepDone_spec s.dev r).2.2⟩
  · obtain ⟨hseq, hfree, hmask⟩ := dischargeRecord_spec s.dev r.table r.step
    refine ⟨_, congrArg (next s) ((downLate_of_late hrun hlate hlow hphase).1 hstrict),
      stepDone_rests r { r with timeouts := r.timeouts + 1 } ⟨rfl, rfl⟩ (sameForce_of_mask hmask (by decide) (by decide)) hfree.tick, ?_, ?_⟩
    · rw [(stepDone_spec _ _).2.1, hseq]
    · exact Laws.keeps_of_mask _ _ _ ((mask_of_subset (by decide) (stepDone_spec _ _).2.2).trans hmask)
  · refine ⟨_, congrArg (next s) ((downLate_of_late hrun hlate hlow hphase).2 hstrict), ?_, Laws.keeps_of_mask _ _ _ (mask_of_late _ _ _ _)⟩
    exact setSeqEvent_run (setRun s.dev { r with phase := .hold }) 11
  · have hfree := freeOnly_seqRecord s.dev 0x3003 r.table r.step
    have hmask := mask_seqRecord_parts s.dev 0x3003 r.table r.step
    refine ⟨stepDone (seqRecord s.dev 0x3003 r.table r.step) r, congrArg (next s) ?_, stepDone_rests r r ⟨rfl, rfl⟩ (sameForce_of_mask hmask (by decide) (by decide)) hfree.tick, ?_⟩
    · refine (if_pos hpow).trans ?_
      unfold releaseHold
      rw [hrun]
      exact if_pos (by rw [hphase]; rfl)
    · exact Laws.keeps_of_mask _ _ _ ((mask_of_subset (by decide) (stepDone_spec _ _).2.2).trans (mask_of_subset (by decide) hmask))

/-! ### Items go down (R51, R242) -/

/-- An item is not enabled. -/
def itemOff (d : Dev) : Item → Prop
  | .rail r => (railU d r).enabled = false
  | .string k => (strU d k).st.enabled = false

theorem strU_enabled_lt {d : Dev} {k : Nat} (h : (strU d k).st.enabled = true) : k < d.str.length := by
  refine Classical.byContradiction fun hlen => ?_
  have hnone : strU d k = {} := by
    unfold strU at'
    exact getD_beyond (by omega)
  rw [hnone] at h
  exact absurd h (by decide)

theorem st_of_capless {u v : StringUnit} (h : capless u = capless v) : u.st = v.st := by
  have hst := congrArg StringUnit.st h
  exact hst

theorem strKeep_retireCourse (d : Dev) (k fault : Nat) : StrKeep k capless d (retireCourse d k fault) := by
  have hfold : Laws.mask [.ph] ((unretired d k).foldl (fun d p => updPh d p (fun q => { q with retired := true, follower := false, cause := 5, fault := fault })) d) = Laws.mask [.ph] d :=
    Laws.mask_foldl _ _ (fun e p => Laws.mask_updPh [.ph] e p _ (by decide)) _ _
  unfold retireCourse
  exact StrKeep.trans (strKeep_of_mask k capless hfold (by decide)) (strKeep_recapo _ k)

theorem restPhases_off (d : Dev) (k : Nat) (hk : k < d.str.length) : (strU (restPhases d k) k).st.enabled = false := by
  cases h : (strU d k).retired with
  | false =>
    rw [restPhases_of_usable h, strU_updStr_same _ _ _ hk]
    rfl
  | true =>
    have hshow : (strU (showRetired d k) k).st = .retired := by
      unfold showRetired
      dsimp only
      split
      · rw [strU_updStr_same _ _ _ hk]
      · unfold setStrEvent
        rw [strU_updStr_same _ _ _ (by rw [updStr_length]; exact hk), strU_updStr_same _ _ _ hk]
    have hcapo := st_of_capless (strKeep_retireCourse (showRetired d k) k (strU d k).retireCode).2.2
    rw [restPhases_of_retired h, hcapo, hshow]
    rfl

theorem safeString_off (d : Dev) (k : Nat) : (strU (safeString d k) k).st.enabled = false := by
  rcases safeString_cases d k with ⟨h, hoff⟩ | ⟨hon, ref, now, by', h | h⟩
  · rw [h]
    exact hoff
  · have hlen : k < (unloaded d k ref now by').str.length := by
      unfold unloaded
      rw [updStr_length, (clearLoops_spec d k (strU_enabled_lt hon)).2.1]
      exact strU_enabled_lt hon
    rw [h, strU_updStr_same _ _ _ hlen]
    rfl
  · have hlen : k < (unloaded d k ref now by').str.length := by
      unfold unloaded
      rw [updStr_length, (clearLoops_spec d k (strU_enabled_lt hon)).2.1]
      exact strU_enabled_lt hon
    rw [h]
    exact restPhases_off _ _ hlen

theorem railU_updRail_off (d : Dev) (r : Nat) (f : Rail → Rail) (hf : ∀ u, (f u).enabled = false) : (railU (updRail d r f) r).enabled = false := by
  rcases Nat.lt_or_ge r d.seq.rails.length with hlen | hlen
  · rw [railU_updRail_same _ _ _ hlen, hf]
  · have hnone : railU (updRail d r f) r = {} := by
      unfold railU updRail at' upd
      exact getD_beyond (by rw [List.length_modify]; omega)
    rw [hnone]

theorem itemDown_off (d : Dev) (i : Item) : itemOff (itemDown d i) i := by
  cases i with
  | rail r => exact railU_updRail_off d r _ fun _ => rfl
  | string k => exact safeString_off d k

theorem itemDown_keepsOff {d : Dev} {i : Item} (j : Item) (h : itemOff d j) : itemOff (itemDown d i) j := by
  by_cases hij : j = i
  · rw [hij]
    exact itemDown_off d i
  · cases i with
    | rail r =>
      cases j with
      | rail q => exact (congrArg Rail.enabled (railU_updRail_other _ _ _ _ fun hq => hij (by rw [hq]))).trans h
      | string k => exact h
    | string k =>
      have hseq : (safeString d k).seq = d.seq := (Laws.keeps_of_mask _ _ _ (mask_safeString_parts d k) .seq (by decide)).symm
      cases j with
      | rail q =>
        change (railU (safeString d k) q).enabled = false
        unfold railU
        rw [hseq]
        exact h
      | string l =>
        change (strU (safeString d k) l).st.enabled = false
        rw [((strFate_safeString d k).2 l).1 fun hl => hij (by rw [hl])]
        exact h

theorem itemsDown_off (is : List Item) (d : Dev) : (∀ i ∈ is, itemOff (is.foldl itemDown d) i) ∧ ∀ j, itemOff d j → itemOff (is.foldl itemDown d) j := by
  induction is generalizing d with
  | nil => exact ⟨fun i hi => absurd hi List.not_mem_nil, fun j h => h⟩
  | cons a is ih =>
    obtain ⟨hall, hkeep⟩ := ih (itemDown d a)
    refine ⟨fun i hi => ?_, fun j h => hkeep j (itemDown_keepsOff j h)⟩
    rcases List.mem_cons.1 hi with rfl | hi
    · exact hkeep i (itemDown_off d i)
    · exact hall i hi

theorem mask_itemDown (d : Dev) (i : Item) : Laws.mask (.seq :: restParts) (itemDown d i) = Laws.mask (.seq :: restParts) d := by
  cases i with
  | rail r => exact Laws.mask_updRail _ _ _ _ (by decide)
  | string k => exact mask_of_subset (by decide) (mask_safeString_parts d k)

/-! ### O41: the unwind -/

theorem unwindEnd_of_done {d : Dev} {r : Run} (hrun : d.seq.run = some r) (hphase : r.phase = .unwind) (hall : r.items.all (fun i => itemUnwound d i || r.timedOut.contains i) = true) :
    unwindEnd d = unwindNext d r := by
  unfold unwindEnd
  rw [hrun]
  dsimp only
  rw [if_pos (by rw [hphase, hall]; rfl)]

/-! ### Entry to COLD (R47) -/

/-- What an opened domain leaves: the mode machine, the run and the time. -/
def Outlasts (d e : Dev) : Prop := e.mm = d.mm ∧ e.seq.run = d.seq.run ∧ e.clk.tick = d.clk.tick

theorem Outlasts.refl (d : Dev) : Outlasts d d := ⟨rfl, rfl, rfl⟩

theorem Outlasts.trans {d e f : Dev} (hde : Outlasts d e) (hef : Outlasts e f) : Outlasts d f := ⟨hef.1.trans hde.1, hef.2.1.trans hde.2.1, hef.2.2.trans hde.2.2⟩

theorem outlasts_of_mask {qs : List Part} {d e : Dev} (h : Laws.mask qs e = Laws.mask qs d) (hmm : Part.mm ∉ qs) (hseq : Part.seq ∉ qs) (hclk : Part.clk ∉ qs) : Outlasts d e := by
  have hkept := Laws.keeps_of_mask qs d e h
  have hs : e.seq = d.seq := (hkept .seq hseq).symm
  have hc : e.clk = d.clk := (hkept .clk hclk).symm
  exact ⟨(hkept .mm hmm).symm, by rw [hs], by rw [hc]⟩

theorem outlasts_freeOnly {qs : List Part} {d e : Dev} (hfree : FreeOnly d e) (h : Laws.mask qs e = Laws.mask qs d) (hmm : Part.mm ∉ qs) (hseq : Part.seq ∉ qs) : Outlasts d e := by
  have hkept := Laws.keeps_of_mask qs d e h
  have hs : e.seq = d.seq := (hkept .seq hseq).symm
  exact ⟨(hkept .mm hmm).symm, by rw [hs], hfree.tick⟩

theorem outlasts_endCapture (d : Dev) {reason : Nat} (h : reason ≠ 3) : Outlasts d (endCapture d reason) := by
  unfold endCapture
  rw [if_neg h]
  dsimp only
  split
  · exact outlasts_freeOnly (qs := streamParts) (freeOnly_captureEnd d reason) (Laws.mask_captureEnd _ _ _ (by decide) (by decide) (by decide) (by decide) (by decide) (by decide)) (by decide) (by decide)
  · exact outlasts_of_mask (qs := [.jr, .int, .cap, .mp, .out, .fretOut]) (Laws.mask_dropAwaiting _ _ (by decide) (by decide) (by decide) (by decide) (by decide) (by decide)) (by decide) (by decide) (by decide)

theorem outlasts_openDomain (d : Dev) {x : Domain} (hx : x ≠ .aon) : Outlasts d (openDomain d x) := by
  have hclear : Outlasts d (clearUnits d x) := by
    cases x with
    | aon => exact absurd rfl hx
    | host => exact (outlasts_endCapture d (by decide)).trans ⟨rfl, rfl, rfl⟩
    | fasta => exact outlasts_of_mask (qs := [.str, .ph, .lk]) (Laws.mask_resetRegions _ _ _ (by decide) (by decide) (by decide)) (by decide) (by decide) (by decide)
    | fastb => exact outlasts_of_mask (qs := [.str, .ph, .lk]) (Laws.mask_resetRegions _ _ _ (by decide) (by decide) (by decide)) (by decide) (by decide) (by decide)
    | _ => exact ⟨rfl, rfl, rfl⟩
  unfold openDomain
  dsimp only
  split
  · exact hclear
  · exact .refl d

theorem outlasts_openAll (d : Dev) : Outlasts d (openAll d) := by
  have h : ∀ (l : List Domain) (e : Dev), (∀ x ∈ l, x ≠ .aon) → Outlasts e (l.foldl openDomain e) := fun l => by
    induction l with
    | nil => exact fun e _ => .refl e
    | cons x l ih => exact fun e hl => (outlasts_openDomain e (hl x List.mem_cons_self)).trans (ih _ fun y hy => hl y (List.mem_cons_of_mem x hy))
  exact h _ d (by decide)

theorem outlasts_leaveReplay (d : Dev) (m : Mode) : Outlasts d (leaveReplay d m) := by
  unfold leaveReplay
  split
  · exact .refl d
  · split
    · exact ⟨rfl, rfl, rfl⟩
    · unfold replayEnd
      split
      · exact .refl d
      · dsimp only
        have hput : Outlasts d (replayPut d d.clk.tick 0x48 2 (leBytes 8 d.cap.replayed)) :=
          outlasts_of_mask (qs := [.cap, .out]) (Laws.mask_replayPut _ _ _ _ _ _ (by decide) (by decide)) (by decide) (by decide) (by decide)
        have hend : ∀ (e : Dev) l, Outlasts e (statusLine (setRecEvent (recordN e 0x4021 srcCapture l) 3)) := fun e l =>
          outlasts_freeOnly (qs := [.clk, .int, .rcd, .out])
            ((freeOnly_recordN e _ _ _).trans (FreeOnly.trans (e := setRecEvent (recordN e 0x4021 srcCapture l) 3) (freeOnly_of_mask (qs := [.int, .rcd]) (Laws.mask_setRecEvent _ _ _ (by decide) (by decide)) (by decide)) rfl))
            ((Laws.mask_statusLine _ _ (by decide)).trans ((Laws.mask_setRecEvent _ _ _ (by decide) (by decide)).trans (Laws.mask_recordN _ _ _ _ _ (by decide) (by decide) (by decide)))) (by decide) (by decide)
        exact (hput.trans ⟨rfl, rfl, rfl⟩).trans (hend _ _)

/-- The entry to COLD, whatever the mode before it. -/
theorem enterMode_cold (d : Dev) (c : Cause) (detail : Nat) :
    ∃ e, Outlasts d e ∧ (enterMode d .cold c detail).mm = enteredMm e .cold c detail ∧ (enterMode d .cold c detail).seq.run = d.seq.run ∧ (enterMode d .cold c detail).clk.tick = d.clk.tick := by
  have hleave := outlasts_leaveReplay d .cold
  refine ⟨leaveReplay d .cold, hleave, ?_⟩
  have hin := mm_inMode (leaveReplay d .cold) .cold c detail true
  have hmask := mask_inMode (.otp :: inModeParts) (leaveReplay d .cold) .cold c detail true (fun p hp => List.mem_cons_of_mem _ hp) (.inl List.mem_cons_self)
  have hkept := Laws.keeps_of_mask _ _ _ hmask
  have hseq : (inMode (leaveReplay d .cold) .cold c detail true).seq = (leaveReplay d .cold).seq := (hkept .seq (by decide)).symm
  have hclk : (inMode (leaveReplay d .cold) .cold c detail true).clk = (leaveReplay d .cold).clk := (hkept .clk (by decide)).symm
  have hrest : ∀ e : Dev, Outlasts e (openAll (chargerMode (setHrst e (fun p => { p with hrstMode := true })) (leaveReplay d .cold).mm.mode .cold)) := fun e =>
    (outlasts_of_mask (qs := [.pins, .out]) (Laws.mask_setHrst _ _ _ (by decide) (by decide)) (by decide) (by decide) (by decide)).trans
      ((outlasts_of_mask (qs := chargerParts) (mask_chargerMode _ _ (fun _ h => h) _ (by decide)) (by decide) (by decide) (by decide)).trans (outlasts_openAll _))
  obtain ⟨hmm', hrun', htick'⟩ := hrest (inMode (leaveReplay d .cold) .cold c detail true)
  have heq : ∃ e, enterMode d .cold c detail = { e with pwr := { e.pwr with ctlLost := false, pwrLost := false, droneSafety := [] } } ∧
      e = openAll (chargerMode (setHrst (inMode (leaveReplay d .cold) .cold c detail true) (fun p => { p with hrstMode := true })) (leaveReplay d .cold).mm.mode .cold) := ⟨_, rfl, rfl⟩
  obtain ⟨e, he, rfl⟩ := heq
  rw [he]
  refine ⟨hmm'.trans hin, hrun'.trans (by rw [hseq]; exact hleave.2.1), htick'.trans (by rw [hclk]; exact hleave.2.2)⟩

theorem enterCold_spec (d : Dev) (c : Cause) (detail : Nat) :
    (enterCold d c detail).mm.mode = .cold ∧ (enterCold d c detail).mm.cause = c ∧ (enterCold d c detail).mm.offUntil = some (d.clk.tick + 200000) ∧ (enterCold d c detail).seq.run = none := by
  obtain ⟨e, -, hmm, hrun, htick⟩ := enterMode_cold (clearRun d) c detail
  unfold enterCold
  dsimp only
  rw [hmm, htick]
  exact ⟨rfl, rfl, rfl, hrun⟩

theorem endUnwind_of_boot {d : Dev} {r : Run} (h : r.kind = .boot) : endUnwind d r = enterCold d (if r.unwindEnd == .preempt then .preemptUnwind else .bootFailed) 0 := by
  unfold endUnwind
  rw [h]

theorem endUnwind_of_sequence {d : Dev} {r : Run} (h : r.kind = .seqUp) (hafter : d.mm.after = none) (hentry : r.entry = none) :
    endUnwind d r = { clearRun d with mm := { d.mm with target := d.mm.mode, after := none } } := by
  unfold endUnwind
  rw [h]
  dsimp only
  rw [hafter]
  dsimp only
  unfold endRequest
  rw [hentry]

theorem unwindNext_of_none {d : Dev} {r : Run} (h : r.enabled = []) : unwindNext d r = endUnwind d r := by
  unfold unwindNext
  rw [h]

theorem unwindNext_of_some {d : Dev} {r : Run} {is : List Item} {rest : List (List Item)} (h : r.enabled = is :: rest) :
    unwindNext d r = setRun (is.foldl itemDown d) { r with phase := .unwind, items := is, enabled := rest, timedOut := [], deadline := d.clk.tick } := by
  unfold unwindNext
  rw [h]

/-- Settles O41: the newest list goes down item by item, and no item's way down enables another; with none left the run ends as its kind says. -/
theorem unwindGoesBack : Obligations.UnwindGoesBack := by
  unfold Obligations.UnwindGoesBack
  intro s r hrun hphase
  refine ⟨fun hall => ⟨fun is rest hlist => ?_, fun hlist hkind => ?_, fun hlist hkind hafter hentry => ?_⟩, fun i hmem hout hup hlate => ?_⟩
  · have hend := (unwindEnd_of_done hrun hphase hall).trans (unwindNext_of_some hlist)
    obtain ⟨hoff, -⟩ := itemsDown_off is s.dev
    refine ⟨_, congrArg (next s) hend, rfl, fun k hk => hoff _ hk, fun q hq => hoff _ hq, Laws.keeps_of_mask _ _ _ ?_⟩
    exact (Laws.mask_setRun _ _ _ (by decide)).trans (Laws.mask_foldl _ _ (fun e i => mask_of_subset (by decide) (mask_itemDown e i)) _ _)
  · have hend := (unwindEnd_of_done hrun hphase hall).trans ((unwindNext_of_none hlist).trans (endUnwind_of_boot hkind))
    obtain ⟨hmode, hcause, hoff, hnone⟩ := enterCold_spec s.dev (if r.unwindEnd == .preempt then .preemptUnwind else .bootFailed) 0
    refine ⟨_, congrArg (next s) hend, hmode, hcause.trans ?_, hoff, hnone⟩
    cases r.unwindEnd <;> rfl
  · have hend := (unwindEnd_of_done hrun hphase hall).trans ((unwindNext_of_none hlist).trans (endUnwind_of_sequence hkind hafter hentry))
    exact ⟨_, congrArg (next s) hend, rfl, rfl, Laws.keeps_of_mask _ _ _ rfl⟩
  · obtain ⟨hseq, -, hmask⟩ := dischargeRecord_spec s.dev 0 0
    refine ⟨setRun (dischargeRecord s.dev 0 0) { r with timedOut := r.timedOut ++ [i], timeouts := r.timeouts + 1 }, congrArg (next s) ?_, rfl, Laws.keeps_of_mask _ _ _ ((Laws.mask_setRun _ _ _ (by decide)).trans hmask)⟩
    change unwindLate s.dev i = _
    unfold unwindLate
    rw [hrun]
    dsimp only
    rw [if_neg]
    simp [hphase, hmem, hout, hup, hlate]

end Sys2Proof.Machine
end

section
/-!
SETTLEMENT. The boot: its start, its domains, and its end.
-/
namespace Sys2Proof.Machine
open Sys2Proof.Safety

/-! ### The steps of a run start (R240–R242) -/

/-- The parts that a step that starts can change. -/
def stepParts : List Part := [.seq, .str, .ph, .fb, .flt, .int, .rcd]

theorem mask_itemEnable (d : Dev) (i : Item) : Laws.mask stepParts (itemEnable d i) = Laws.mask stepParts d := by
  cases i with
  | rail r =>
    unfold itemEnable
    dsimp only
    rw [Laws.mask_ite, Laws.mask_updRail _ _ _ _ (by decide), ite_self]
  | string k => exact Laws.mask_enableString _ _ _ (by decide) (by decide)

theorem mask_sendCommand (d : Dev) (table step : Nat) : Laws.mask stepParts (sendCommand d table step) = Laws.mask stepParts d := Laws.mask_seq _ _ _ (by decide)

/-- A run of the same kind and table as `r` is under way, and nothing but what steps touch has changed. -/
def RunsOn (r : Run) (d e : Dev) : Prop := (∃ q, e.seq.run = some q ∧ q.kind = r.kind ∧ q.table = r.table) ∧ Laws.mask stepParts e = Laws.mask stepParts d

theorem runsOn_setRun (d : Dev) (r q : Run) (hkind : q.kind = r.kind) (htable : q.table = r.table) : RunsOn r d (setRun d q) :=
  ⟨⟨q, rfl, hkind, htable⟩, Laws.mask_setRun _ _ _ (by decide)⟩

theorem runsOn_stepDone (d : Dev) (r q : Run) (hkind : q.kind = r.kind) (htable : q.table = r.table) : RunsOn r d (stepDone d q) := by
  obtain ⟨hrun, -, hmask⟩ := stepDone_spec d q
  exact ⟨⟨_, hrun, hkind, htable⟩, mask_of_subset (by decide) hmask⟩

theorem RunsOn.of_mask {r : Run} {d e f : Dev} (hef : RunsOn r e f) (h : Laws.mask stepParts e = Laws.mask stepParts d) : RunsOn r d f := ⟨hef.1, hef.2.trans h⟩

theorem runsOn_startStep (d : Dev) (r : Run) (n : Nat) : RunsOn r d (startStep d r n) := by
  have hsend : ∀ b : Bool, Laws.mask stepParts (if b then sendCommand d r.table n else d) = Laws.mask stepParts d := fun b => by
    rw [Laws.mask_ite, mask_sendCommand, ite_self]
  have hdown : ∀ (is : List Item) (e : Dev), Laws.mask stepParts (is.foldl itemDown e) = Laws.mask stepParts e := fun is e =>
    Laws.mask_foldl _ _ (fun e i => mask_of_subset (by decide) (mask_itemDown e i)) _ _
  have hup : ∀ (is : List Item) (e : Dev), Laws.mask stepParts (is.foldl itemEnable e) = Laws.mask stepParts e := fun is e => Laws.mask_foldl _ _ (fun e i => mask_itemEnable e i) _ _
  unfold startStep
  dsimp only
  refine RunsOn.of_mask ?_ (hsend (sysMaster d && r.kind.system))
  generalize (if sysMaster d && r.kind.system then sendCommand d r.table n else d) = e
  split
  · exact runsOn_stepDone _ _ _ rfl rfl
  · split
    · refine RunsOn.of_mask ?_ (hup (stepItems e r.table n) e)
      split
      · exact runsOn_stepDone _ _ _ rfl rfl
      · exact runsOn_setRun _ _ _ rfl rfl
    · refine RunsOn.of_mask ?_ (hdown (stepItems e r.table n) e)
      split
      · exact runsOn_stepDone _ _ _ rfl rfl
      · exact runsOn_setRun _ _ _ rfl rfl

theorem runsOn_startFrom (d : Dev) (last k : Nat) (r : Run) (n : Nat) : RunsOn r d (startFrom d r last k n) := by
  induction k generalizing r n with
  | zero => exact runsOn_startStep d r n
  | succ k ih =>
    unfold startFrom
    split
    · exact runsOn_startStep d r n
    · dsimp only
      split
      · exact ih { r with done := some n } _
      · exact runsOn_setRun _ _ _ rfl rfl

/-! ### BOOT starts (R45, R52, R243) -/

/-- The device in BOOT, before its run. -/
def booting (d : Dev) (c : Cause) : Dev :=
  let e := enterMode { d with mm := { d.mm with held := none, offUntil := none, offPath := false, latched := none, onLatched := false } } .boot c 0
  { e with mm := { e.mm with target := .config, fwValid := false }, pwr := { e.pwr with packPath := true }, seq := { e.seq with vpllGood := none } }

/-- The run of the boot table begins, or a follower waits for its commands. -/
def bootRun (d : Dev) : Dev := if follower d then setRun d { kind := .boot, table := 1, step := 0, phase := .peers, last := 7 } else newRun d .boot 1 0 7 none

theorem startBoot_of_unlatched {d : Dev} (h : d.mm.latched = none) (c : Cause) : startBoot d c = bootRun (booting d c) := by
  unfold startBoot
  rw [h]
  rfl

theorem bootRun_spec (d : Dev) : (∃ r, (bootRun d).seq.run = some r ∧ r.kind = .boot ∧ r.table = 1) ∧ Laws.mask stepParts (bootRun d) = Laws.mask stepParts d := by
  unfold bootRun
  split
  · exact ⟨⟨_, rfl, rfl, rfl⟩, Laws.mask_setRun _ _ _ (by decide)⟩
  · have hrun := runsOn_startFrom { d with seq := { d.seq with dischTimeouts := 0 } } 7 16 { kind := .boot, table := 1, step := 0, phase := .delay, first := 0, last := 7, entry := none, fret := d.clk.fret } 0
    exact ⟨hrun.1, hrun.2.trans (Laws.mask_seq _ _ _ (by decide))⟩

theorem booting_spec {d : Dev} (c : Cause) (hmode : d.mm.mode = .cold) :
    (booting d c).mm.mode = .boot ∧ (booting d c).mm.target = .config ∧ (booting d c).mm.cause = c ∧ (booting d c).mm.causeFrom = .cold ∧ (booting d c).mm.held = none ∧
      (booting d c).mm.offUntil = none ∧ (booting d c).pwr.packPath = true ∧ (booting d c).clk = d.clk ∧ (booting d c).otp = d.otp ∧ (booting d c).cfg = d.cfg := by
  have hentry : enterMode { d with mm := { d.mm with held := none, offUntil := none, offPath := false, latched := none, onLatched := false } } .boot c 0 =
      setHrst (inMode { d with mm := { d.mm with held := none, offUntil := none, offPath := false, latched := none, onLatched := false } } .boot c 0 true) (fun p => { p with hrstMode := true }) :=
    enterModeWith_boot (by change d.mm.mode ≠ .replay; rw [hmode]; decide) c 0 true
  have hmm := mm_inMode { d with mm := { d.mm with held := none, offUntil := none, offPath := false, latched := none, onLatched := false } } .boot c 0 true
  have hmask := mask_inMode inModeParts { d with mm := { d.mm with held := none, offUntil := none, offPath := false, latched := none, onLatched := false } } .boot c 0 true (fun p hp => hp)
    (.inr (by change d.mm.mode ≠ .config; rw [hmode]; decide))
  generalize inMode { d with mm := { d.mm with held := none, offUntil := none, offPath := false, latched := none, onLatched := false } } .boot c 0 true = e at hentry hmm hmask
  have hkept := Laws.keeps_of_mask _ _ _ ((Laws.mask_setHrst (.pins :: inModeParts) e (fun p => { p with hrstMode := true }) (by decide) (by decide)).trans (mask_of_subset (by decide) hmask))
  have hhrst : (setHrst e (fun p => { p with hrstMode := true })).mm = e.mm := mm_of_mask (qs := [.pins, .out]) (Laws.mask_setHrst _ _ _ (by decide) (by decide)) (by decide)
  have hclk : (setHrst e (fun p => { p with hrstMode := true })).clk = d.clk := (hkept .clk (by decide)).symm
  have hotp : (setHrst e (fun p => { p with hrstMode := true })).otp = d.otp := (hkept .otp (by decide)).symm
  have hcfg : (setHrst e (fun p => { p with hrstMode := true })).cfg = d.cfg := (hkept .cfg (by decide)).symm
  unfold booting
  dsimp only
  rw [hentry, hhrst, hmm]
  refine ⟨rfl, rfl, rfl, hmode, rfl, rfl, rfl, hclk, hotp, hcfg⟩

/-! ### The domains of BOOT (R243) -/

theorem bit_switchedOn (w : BitVec 8) {b : Nat} (hb : b < 8) : bit (w ||| (1#8 <<< b)) b = true := by
  unfold bit
  rw [BitVec.getLsbD_or, ← BitVec.twoPow_eq, BitVec.getLsbD_twoPow]
  simp [hb]

theorem Domain.bit_lt (x : Domain) : x.bit < 8 := by cases x <;> decide

theorem bit_or_of_bit {w v : BitVec 8} {b : Nat} (h : bit w b = true) : bit (w ||| v) b = true := by
  unfold bit at *
  rw [BitVec.getLsbD_or, h, Bool.true_or]

theorem mask_closeStage (d : Dev) (r : Run) (i : Nat) (hi : i ≠ 0) : Laws.mask [.seq, .pwr] (closeStage d r i) = Laws.mask [.seq, .pwr] d := by
  have hclose : ∀ (e : Dev) (x : Domain), x ≠ .mgmt → Laws.mask [.seq, .pwr] (closeDomain e x) = Laws.mask [.seq, .pwr] e := fun e x hx => by
    unfold closeDomain
    dsimp only
    rw [if_neg (by simpa using hx)]
    exact Laws.mask_pwr _ _ _ (by decide)
  unfold closeStage
  rw [Laws.mask_setRun _ _ _ (by decide)]
  match i, hi with
  | 1, _ => exact hclose _ .sched (by decide)
  | 2, _ => exact hclose _ .host (by decide)
  | 3, _ => exact hclose _ .links (by decide)
  | 4, _ => exact hclose _ .fasta (by decide)
  | _ + 5, _ => exact hclose _ .fastb (by decide)

theorem mask_domainGood (d : Dev) (x : Domain) : Laws.mask [.seq, .pwr] (domainGood d x) = Laws.mask [.seq, .pwr] d := Laws.mask_pwr _ _ _ (by decide)

theorem domainPower_of_stage {d : Dev} {r : Run} {i : Nat} (hrun : d.seq.run = some r) (hphase : r.phase = .domainUp i) :
    domainPower d = if i = 0 then setRun ((bootStage i).foldl domainGood d) { r with phase := .verify } else if i = 5 then endBoot ((bootStage i).foldl domainGood d)
      else closeStage ((bootStage i).foldl domainGood d) r (i + 1) := by
  unfold domainPower
  rw [hrun]
  dsimp only
  rw [hphase]

/-- A stage of one domain is good, and the next one is powered. -/
theorem closeStage_spec (d : Dev) (r : Run) (x y : Domain) (i : Nat) (hx : bootStage i = [x]) (hy : bootStage (i + 1) = [y]) (hnot : y ≠ .mgmt) :
    (∀ z ∈ bootStage i, bit (closeStage ((bootStage i).foldl domainGood d) r (i + 1)).pwr.pgood z.bit = true) ∧
      (∀ z ∈ bootStage (i + 1), bit (closeStage ((bootStage i).foldl domainGood d) r (i + 1)).pwr.on z.bit = true) ∧
      (closeStage ((bootStage i).foldl domainGood d) r (i + 1)).seq.run = some { r with phase := .domainUp (i + 1), items := [], deadline := d.clk.tick + 1000 } := by
  have hclose : closeDomain (domainGood d x) y = { domainGood d x with pwr := { (domainGood d x).pwr with on := (domainGood d x).pwr.on ||| (1#8 <<< y.bit) } } := by
    unfold closeDomain
    exact if_neg (by simpa using hnot)
  have hstage : closeStage ((bootStage i).foldl domainGood d) r (i + 1) = setRun (closeDomain (domainGood d x) y) { r with phase := .domainUp (i + 1), items := [], deadline := d.clk.tick + 1000 } := by
    unfold closeStage
    rw [hx, hy]
    rfl
  rw [hstage, hclose, hx, hy]
  refine ⟨fun z hz => ?_, fun z hz => ?_, rfl⟩
  · rw [List.mem_singleton.1 hz]
    exact bit_switchedOn _ x.bit_lt
  · rw [List.mem_singleton.1 hz]
    exact bit_switchedOn _ y.bit_lt

/-! ### BOOT ends in CONFIG (R50, R243) -/

theorem enterMode_config (d : Dev) (c : Cause) (detail : Nat) :
    (enterMode d .config c detail).mm.mode = .config ∧ (enterMode d .config c detail).mm.cause = c ∧ (enterMode d .config c detail).seq.run = d.seq.run ∧
      (enterMode d .config c detail).pins = d.pins ∧ (enterMode d .config c detail).pwr = d.pwr := by
  have hleave := outlasts_leaveReplay d .config
  have hkeep : (leaveReplay d .config).pins = d.pins ∧ (leaveReplay d .config).pwr = d.pwr := by
    unfold leaveReplay
    split
    · exact ⟨rfl, rfl⟩
    · exact ⟨rfl, rfl⟩
  have heq : enterMode d .config c detail = chargerMode (inMode (leaveReplay d .config) .config c detail true) (leaveReplay d .config).mm.mode .config := rfl
  have hmask := (mask_chargerMode (.otp :: (inModeParts ++ chargerParts)) (inMode (leaveReplay d .config) .config c detail true) (by decide) (leaveReplay d .config).mm.mode (m := .config) (by decide)).trans
    (mask_inMode (.otp :: (inModeParts ++ chargerParts)) (leaveReplay d .config) .config c detail true (by decide) (.inl List.mem_cons_self))
  have hkept := Laws.keeps_of_mask _ _ _ hmask
  have hmm : (enterMode d .config c detail).mm = enteredMm (leaveReplay d .config) .config c detail :=
    (congrArg Dev.mm heq).trans ((mm_of_mask (qs := chargerParts) (mask_chargerMode _ _ (fun _ h => h) _ (by decide)) (by decide)).trans (mm_inMode _ _ _ _ _))
  rw [hmm, heq]
  have hseq := (hkept .seq (by decide)).symm
  refine ⟨rfl, rfl, ?_, (hkept .pins (by decide)).symm.trans hkeep.1, (hkept .pwr (by decide)).symm.trans hkeep.2⟩
  exact (congrArg Sequencer.run hseq).trans hleave.2.1

theorem endBoot_spec {d : Dev} (h : d.mm.safeAfterBoot = none) :
    (endBoot d).mm.mode = .config ∧ (endBoot d).mm.cause = .bootDone ∧ (endBoot d).seq.run = none ∧ (endBoot d).pins.hrstMode = false ∧ (endBoot d).pwr = d.pwr := by
  have hhrst : Laws.mask [.pins, .out] (setHrst (clearRun { d with mm := { d.mm with held := none } }) (fun p => { p with hrstMode := false })) = Laws.mask [.pins, .out] (clearRun { d with mm := { d.mm with held := none } }) :=
    Laws.mask_setHrst _ _ _ (by decide) (by decide)
  have hkept := Laws.keeps_of_mask _ _ _ hhrst
  have heq : endBoot d = restoreEntries (enterMode (setHrst (clearRun { d with mm := { d.mm with held := none } }) (fun p => { p with hrstMode := false })) .config .bootDone 0) := by
    have hnone : (setHrst (clearRun { d with mm := { d.mm with held := none } }) (fun p => { p with hrstMode := false })).mm.safeAfterBoot = none := by
      rw [← hkept .mm (by decide)]
      exact h
    unfold endBoot
    dsimp only
    rw [hnone]
  have hpins := setHrst_pins (clearRun { d with mm := { d.mm with held := none } }) (fun p => { p with hrstMode := false })
  have hseq : (setHrst (clearRun { d with mm := { d.mm with held := none } }) (fun p => { p with hrstMode := false })).seq.run = none := by rw [← hkept .seq (by decide)]; rfl
  have hpwr : (setHrst (clearRun { d with mm := { d.mm with held := none } }) (fun p => { p with hrstMode := false })).pwr = d.pwr := by rw [← hkept .pwr (by decide)]; rfl
  generalize setHrst (clearRun { d with mm := { d.mm with held := none } }) (fun p => { p with hrstMode := false }) = e at *
  obtain ⟨hmode, hcause, hrun, hp, hw⟩ := enterMode_config e .bootDone 0
  have hrest := Laws.keeps_of_mask _ _ _ (Laws.mask_restoreEntries finishParts (enterMode e .config .bootDone 0) (by decide) (by decide) (by decide) (by decide) (by decide))
  have hmm' := hrest .mm (by decide)
  have hseq' := hrest .seq (by decide)
  have hpins' := hrest .pins (by decide)
  have hpwr' := hrest .pwr (by decide)
  rw [heq]
  refine ⟨(congrArg ModeUnit.mode hmm').symm.trans hmode, (congrArg ModeUnit.cause hmm').symm.trans hcause, (congrArg Sequencer.run hseq').symm.trans (hrun.trans hseq), ?_, ?_⟩
  · refine (congrArg Pins.hrstMode hpins').symm.trans ?_
    rw [hp, hpins]
  · exact hpwr'.symm.trans (hw.trans hpwr)

/-! ### O40 -/

theorem offTimeEnd_of_due {d : Dev} {t : Nat} (hmode : d.mm.mode = .cold) (hoff : d.mm.offUntil = some t) (hdue : t ≤ d.clk.tick) (hlatched : d.mm.latched = none) :
    offTimeEnd d = match d.mm.held with
      | some .input => startBoot { d with mm := { d.mm with offUntil := none } } .inputArrival
      | some .button => startBoot { d with mm := { d.mm with offUntil := none } } .buttonShort
      | some .master => startBoot { d with mm := { d.mm with offUntil := none } } .master
      | none => { d with mm := { d.mm with offUntil := none } } := by
  unfold offTimeEnd
  rw [hoff]
  dsimp only
  rw [if_neg (by simp [hmode, hdue]), hlatched]
  rfl

theorem minOffTimeEnd_boots (s : State) (c : Cause) (tr : Trigger) (t : Nat) (hmode : s.dev.mm.mode = .cold) (hoff : s.dev.mm.offUntil = some t) (hdue : t ≤ s.dev.clk.tick) (hlatched : s.dev.mm.latched = none)
    (hheld : s.dev.mm.held = some tr) (hcause : tr = .button ∧ c = .buttonShort ∨ tr = .input ∧ c = .inputArrival ∨ tr = .master ∧ c = .master) :
    ∃ e r, exec .minOffTimeEnd s = next s e ∧ e.mm.mode = .boot ∧ e.mm.target = .config ∧ e.mm.cause = c ∧ e.mm.causeFrom = .cold ∧ e.mm.held = none ∧ e.mm.offUntil = none ∧
      e.pwr.packPath = true ∧ e.seq.run = some r ∧ r.kind = .boot ∧ r.table = 1 ∧ e.clk.tick = s.dev.clk.tick ∧ e.otp = s.dev.otp ∧ e.cfg = s.dev.cfg := by
  have hboot : offTimeEnd s.dev = startBoot { s.dev with mm := { s.dev.mm with offUntil := none } } c := by
    rw [offTimeEnd_of_due hmode hoff hdue hlatched, hheld]
    rcases hcause with ⟨rfl, rfl⟩ | ⟨rfl, rfl⟩ | ⟨rfl, rfl⟩ <;> rfl
  have hrun := startBoot_of_unlatched (d := { s.dev with mm := { s.dev.mm with offUntil := none } }) hlatched c
  obtain ⟨bmode, btarget, bcause, bfrom, bheld, boff, bpack, bclk, botp, bcfg⟩ := booting_spec (d := { s.dev with mm := { s.dev.mm with offUntil := none } }) c hmode
  obtain ⟨⟨r, hr, hkind, htable⟩, hmask⟩ := bootRun_spec (booting { s.dev with mm := { s.dev.mm with offUntil := none } } c)
  have hkept := Laws.keeps_of_mask _ _ _ hmask
  have hmm := (hkept .mm (by decide)).symm
  have hpwr := (hkept .pwr (by decide)).symm
  have hclk := (hkept .clk (by decide)).symm
  have hotp := (hkept .otp (by decide)).symm
  have hcfg := (hkept .cfg (by decide)).symm
  refine ⟨_, r, congrArg (next s) (hboot.trans hrun), ?_, ?_, ?_, ?_, ?_, ?_, ?_, hr, hkind, htable, ?_, hotp.trans botp, hcfg.trans bcfg⟩
  · exact (congrArg ModeUnit.mode hmm).trans bmode
  · exact (congrArg ModeUnit.target hmm).trans btarget
  · exact (congrArg ModeUnit.cause hmm).trans bcause
  · exact (congrArg ModeUnit.causeFrom hmm).trans bfrom
  · exact (congrArg ModeUnit.held hmm).trans bheld
  · exact (congrArg ModeUnit.offUntil hmm).trans boff
  · exact (congrArg Power.packPath hpwr).trans bpack
  · exact (congrArg Clock.tick hclk).trans (congrArg Clock.tick bclk)

/-- Settles O40: the boot's entry to its mode, then the run of its table; each domain stage sets its bits; the last one enters CONFIG. -/
theorem bootGoesThroughItsDomains : Obligations.BootGoesThroughItsDomains := by
  unfold Obligations.BootGoesThroughItsDomains
  refine ⟨minOffTimeEnd_boots, fun s r hrun => ⟨fun hphase => ?_, fun i hi hi5 hphase => ?_, fun hphase hsafe => ?_, fun t hvpll hmode hkind hphase hdue => ?_⟩⟩
  · refine ⟨_, congrArg (next s) (domainPower_of_stage hrun hphase), rfl, fun x hx => ?_, Laws.keeps_of_mask _ _ _ ?_⟩
    · rcases hx with rfl | rfl
      · exact bit_or_of_bit (bit_switchedOn _ (by decide))
      · exact bit_switchedOn _ (by decide)
    · exact (Laws.mask_setRun _ _ _ (by decide)).trans (Laws.mask_foldl _ _ mask_domainGood _ _)
  · have hstage : domainPower s.dev = closeStage ((bootStage i).foldl domainGood s.dev) r (i + 1) := by
      rw [domainPower_of_stage hrun hphase, if_neg (by omega), if_neg (by omega)]
    have hspec : (∀ z ∈ bootStage i, bit (closeStage ((bootStage i).foldl domainGood s.dev) r (i + 1)).pwr.pgood z.bit = true) ∧
        (∀ z ∈ bootStage (i + 1), bit (closeStage ((bootStage i).foldl domainGood s.dev) r (i + 1)).pwr.on z.bit = true) ∧
        (closeStage ((bootStage i).foldl domainGood s.dev) r (i + 1)).seq.run = some { r with phase := .domainUp (i + 1), items := [], deadline := s.dev.clk.tick + 1000 } := by
      match i, hi, hi5 with
      | 1, _, _ => exact closeStage_spec s.dev r .sched .host 1 rfl rfl (by decide)
      | 2, _, _ => exact closeStage_spec s.dev r .host .links 2 rfl rfl (by decide)
      | 3, _, _ => exact closeStage_spec s.dev r .links .fasta 3 rfl rfl (by decide)
      | 4, _, _ => exact closeStage_spec s.dev r .fasta .fastb 4 rfl rfl (by decide)
    refine ⟨_, congrArg (next s) hstage, hspec.1, hspec.2.1, hspec.2.2, Laws.keeps_of_mask _ _ _ ?_⟩
    exact (mask_closeStage _ _ _ (by omega)).trans (Laws.mask_foldl _ _ mask_domainGood _ _)
  · obtain ⟨hmode, hcause, hnone, hhrst, hpwr⟩ := endBoot_spec (d := domainGood s.dev .fastb) hsafe
    refine ⟨endBoot (domainGood s.dev .fastb), congrArg (next s) (domainPower_of_stage hrun hphase), hmode, hcause, hnone, hhrst, ?_⟩
    rw [hpwr]
    exact bit_switchedOn _ (by decide)
  · refine congrArg (next s) ?_
    unfold referenceLate
    rw [hrun, hvpll]
    dsimp only
    rw [if_pos (by simp [hmode, hkind, hphase, hdue])]
    exact failBoot_of_boot hrun hkind hphase

end Sys2Proof.Machine
end


section
/-!
The charger's search and cycle, and the pack (O45, O46).
-/
namespace Sys2Proof.Machine
open Sys2Proof.Safety

/-! ### Parts of the charger's operations -/

theorem chg_of_mask {qs : List Part} {d e : Dev} (h : Laws.mask qs e = Laws.mask qs d) (hchg : Part.chg ∉ qs) : e.chg = d.chg :=
  (Laws.keeps_of_mask qs d e h .chg hchg).symm

theorem chg_setCharger (d : Dev) (c : CState) : (setCharger d c).chg = { d.chg with st := c } :=
  chg_of_mask (qs := [.str, .ph]) (Laws.mask_packFollow _ _ (by decide) (by decide)) (by decide)

theorem chg_setChgEvent (d : Dev) (b : Nat) : (setChgEvent d b).chg = { d.chg with event := withBit d.chg.event b } := by
  unfold setChgEvent
  rw [occur_chg]

theorem chg_chargerRecord (d : Dev) (code p0 p1 p2 : Nat) : (chargerRecord d code p0 p1 p2).chg = d.chg :=
  chg_of_mask (qs := [.int, .rcd]) (Laws.mask_chargerRecord _ _ _ _ _ _ (by decide) (by decide)) (by decide)

theorem chg_finishNow (d : Dev) (e : Nat) (st : Status) (detail : Nat) : (finishNow d e st detail).chg = d.chg :=
  chg_of_mask (qs := [.jr, .int, .mp, .out, .fretOut]) (Laws.mask_finishNow _ _ _ _ _ (by decide) (by decide) (by decide) (by decide) (by decide)) (by decide)

theorem chg_recomputePin (d : Dev) : (recomputePin d).chg = d.chg :=
  chg_of_mask (qs := [.fb]) (Laws.mask_recomputePin _ _ (by decide)) (by decide)

/-! ### The input-current search (R267–R269) -/

/-- What the end of a search leaves of the charger (R268). -/
theorem chg_endSearch {d : Dev} {q : Search} (h : d.chg.search = some q) (o : SearchEnd) (i : Nat) (st : Status) :
    (endSearch d o i st).chg.iFound = i ∧ (endSearch d o i st).chg.search = none := by
  have hfinish : ∀ (es : List Nat) (e : Dev) (detail : Dev → Nat), (es.foldl (fun d x => finishNow d x st (detail d)) e).chg = e.chg := fun es e detail =>
    proj_foldl (·.chg) _ (fun d x => chg_finishNow d x st (detail d)) es e
  have hback : ∀ (e e' : Dev) (s : Search), e'.chg = e.chg →
      (if e'.chg.st == .search then setCharger e' s.back else e').chg.iFound = e.chg.iFound ∧ (if e'.chg.st == .search then setCharger e' s.back else e').chg.search = e.chg.search := fun e e' s he => by
    split
    · rw [chg_setCharger, he]
      exact ⟨rfl, rfl⟩
    · rw [he]
      exact ⟨rfl, rfl⟩
  unfold endSearch
  split
  next hnone => rw [h] at hnone; cases hnone
  next s _ =>
    dsimp only
    rw [hfinish _ _ (fun d => i % 65536 + (d.fb.pin <<< 16)), chg_setChgEvent, chg_chargerRecord]
    exact hback _ _ s (chg_recomputePin _)

theorem searchDwell_of_dwell {d : Dev} {q : Search} (hq : d.chg.search = some q) (hdwell : q.dwell = true)
    (htime : q.start + 50000 * q.step + 1000 * rsF d 0x4020 10 6 ≤ d.clk.tick) (vEnd : Nat) (limit held : Bool) :
    searchDwell d vEnd limit held =
      if limit && decide (rsF d 0x4000 2 1 = 1) then endSearch d .limit (testCurrent q.step - 50) .ok
      else if vEnd + rsF d 0x4020 16 8 < q.vRef then endSearch d .droop (testCurrent q.step - 50) .ok
      else if !held then endSearch d .loadLimited (testCurrent q.step - 50) .partialDone
      else if 50 * rsF d 0x4020 0 10 ≤ testCurrent q.step then endSearch d .maximum (50 * rsF d 0x4020 0 10) .ok
      else { d with chg := { d.chg with search := some { q with dwell := false, step := q.step + 1 }, dwellEnd := d.clk.tick } } := by
  unfold searchDwell
  rw [hq]
  dsimp only
  rw [if_neg (by simp only [hdwell, Bool.not_true, Bool.false_or, decide_eq_true_eq, Nat.not_lt]; exact htime)]

theorem searchStep_of_step {d : Dev} {q : Search} (hq : d.chg.search = some q) (hdwell : q.dwell = false) (htime : q.start + 50000 * q.step ≤ d.clk.tick) (vRef : Nat) :
    searchStep d vRef = { d with chg := { d.chg with search := some { q with dwell := true, vRef := vRef }, dwellAt := some d.clk.tick } } := by
  unfold searchStep
  rw [hq]
  exact if_neg (by simp only [hdwell, Bool.false_or, decide_eq_true_eq, Nat.not_lt]; exact htime)

/-- Settles O45, by the outcomes of a dwell in their order. -/
theorem searchFindsTheInputCurrent : Obligations.SearchFindsTheInputCurrent := by
  intro s
  refine ⟨fun haux hnone => ?_, fun q vRef hq hdwell htime => ?_, fun q vEnd limit held hq hdwell htime => ?_⟩
  · refine congrArg (next s) ?_
    rw [psuLimited, if_neg (by simp [haux])]
    exact if_neg (by simp [hnone])
  · exact congrArg (next s) (searchStep_of_step hq hdwell htime vRef)
  · intro i atLimit droops top ends
    have hdo := searchDwell_of_dwell hq hdwell htime vEnd limit held
    have hends : ∀ o found st, searchDwell s.dev vEnd limit held = endSearch s.dev o found st → ends found := fun o found st h => by
      obtain ⟨hfound, hsearch⟩ := chg_endSearch hq o found st
      exact ⟨_, congrArg (next s) h, hfound, hsearch, Laws.keeps_of_mask _ _ _ (mask_endSearch _ _ (by decide) _ _ _)⟩
    have hlimit : (limit && decide (rsF s.dev 0x4000 2 1 = 1)) = true ↔ atLimit := by simp [atLimit]
    refine ⟨fun h => hends _ _ _ (hdo.trans (if_pos (hlimit.2 h))), fun h h' => ?_, fun h h' hheld => ?_, fun h h' hheld htop => ?_, fun h h' hheld htop => ?_⟩
    · exact hends _ _ _ (hdo.trans ((if_neg (mt hlimit.1 h)).trans (if_pos h')))
    · exact hends _ _ _ (hdo.trans ((if_neg (mt hlimit.1 h)).trans ((if_neg h').trans (if_pos (by simp [hheld])))))
    · exact hends _ _ _ (hdo.trans ((if_neg (mt hlimit.1 h)).trans ((if_neg h').trans ((if_neg (by simp [hheld])).trans (if_pos htop)))))
    · exact congrArg (next s) (hdo.trans ((if_neg (mt hlimit.1 h)).trans ((if_neg h').trans ((if_neg (by simp [hheld])).trans (if_neg (Nat.not_le.2 htop))))))

/-! ### The charge cycle (R270–R276) -/

theorem mask_timeOut (qs : List Part) (d : Dev) (hchg : Part.chg ∈ qs) (hint : Part.int ∈ qs) (hflt : Part.flt ∈ qs) : Laws.mask qs (timeOut d) = Laws.mask qs d := by
  simp only [timeOut, Laws.mask_chargerFault, Laws.mask_setChgEvent, Laws.mask_chg, *]

theorem chg_timeOut (d : Dev) : (timeOut d).chg = { d.chg with timedOut := true, event := withBit d.chg.event 8 } :=
  (chg_of_mask (qs := [.flt]) (Laws.mask_chargerFault _ _ _ (by decide)) (by decide)).trans (chg_setChgEvent _ _)

/-- The fault of a cycle that has run out of time (R274, R281). -/
theorem inbox_timeOut (d : Dev) : ∃ f, (timeOut d).flt.inbox = d.flt.inbox ++ [f] ∧ f.code = 0x1500 ∧ f.due = d.clk.tick + 1 := by
  have hmask : Laws.mask [.chg, .int] (setChgEvent { d with chg := { d.chg with timedOut := true } } 8) = Laws.mask [.chg, .int] d :=
    (Laws.mask_setChgEvent _ _ _ (by decide) (by decide)).trans (Laws.mask_chg _ _ _ (by decide))
  have hkeeps := Laws.keeps_of_mask _ _ _ hmask
  have hflt : (setChgEvent { d with chg := { d.chg with timedOut := true } } 8).flt = d.flt := (hkeeps .flt (by decide)).symm
  have hclk : (setChgEvent { d with chg := { d.chg with timedOut := true } } 8).clk = d.clk := (hkeeps .clk (by decide)).symm
  unfold timeOut chargerFault detect
  dsimp only
  rw [hflt, hclk]
  exact ⟨_, rfl, rfl, rfl⟩

theorem chg_chargerFault (d : Dev) (code : Nat) : (chargerFault d code).chg = d.chg :=
  chg_of_mask (qs := [.flt]) (Laws.mask_chargerFault _ _ _ (by decide)) (by decide)

/-- The state that the rest voltage gives (R270). -/
def restState (d : Dev) : CState := if cellMv d < vPre d then .precharge else if vRecharge d ≤ cellMv d then .done else .fast

/-- The estimate is taken from the rest voltage where AON was reset (R275). -/
def restEstimate (d : Dev) : Dev :=
  if d.chg.epStale then { d with chg := { d.chg with ep := min (eFull d) (restEnergy d), epStale := false, calibrated := false } } else d

theorem restState_restEstimate (d : Dev) : restState (restEstimate d) = restState d := by
  unfold restEstimate
  split <;> rfl

theorem qualifyEnd_of_rest {d : Dev} (hst : d.chg.st = .qualify) (hrest : d.chg.restUntil ≤ d.clk.tick) :
    qualifyEnd d = chargerRecord (setCharger (restEstimate d) (restState (restEstimate d))) 0x2002 (restState (restEstimate d)).code
      (cellMv (restEstimate d)) (restEstimate d).chg.limit := by
  unfold qualifyEnd
  rw [if_neg (by simp only [hst, bne_self_eq_false, Bool.false_or, decide_eq_true_eq, Nat.not_lt]; exact hrest)]
  rfl

theorem mask_restEstimate (qs : List Part) (d : Dev) (hchg : Part.chg ∈ qs) : Laws.mask qs (restEstimate d) = Laws.mask qs d := by
  simp only [restEstimate, Laws.mask_ite, Laws.mask_chg, ite_self, *]

theorem mask_qualifyEnd (qs : List Part) {d : Dev} (h : ∀ p ∈ [Part.chg, .str, .ph, .rcd, .int], p ∈ qs) (hst : d.chg.st = .qualify) (hrest : d.chg.restUntil ≤ d.clk.tick) :
    Laws.mask qs (qualifyEnd d) = Laws.mask qs d := by
  rw [qualifyEnd_of_rest hst hrest, Laws.mask_chargerRecord _ _ _ _ _ _ (h _ (by decide)) (h _ (by decide)),
    Laws.mask_setCharger _ _ _ (h _ (by decide)) (h _ (by decide)) (h _ (by decide)), mask_restEstimate _ _ (h _ (by decide))]

theorem chg_qualifyEnd {d : Dev} (hst : d.chg.st = .qualify) (hrest : d.chg.restUntil ≤ d.clk.tick) :
    (qualifyEnd d).chg = { (restEstimate d).chg with st := restState d } := by
  rw [qualifyEnd_of_rest hst hrest, chg_chargerRecord, chg_setCharger, restState_restEstimate]

theorem qualifyEnd_spec {d : Dev} (hst : d.chg.st = .qualify) (hrest : d.chg.restUntil ≤ d.clk.tick) :
    (qualifyEnd d).chg.st = restState d ∧ (d.chg.epStale = false → (qualifyEnd d).chg.ep = d.chg.ep) ∧
      (d.chg.epStale = true → (qualifyEnd d).chg.ep = min (eFull d) (restEnergy d) ∧ (qualifyEnd d).chg.calibrated = false) ∧ (qualifyEnd d).chg.epStale = false := by
  have hchg := chg_qualifyEnd hst hrest
  rw [hchg]
  unfold restEstimate
  cases hstale : d.chg.epStale with
  | true => exact ⟨rfl, fun h => (Bool.noConfusion h), fun _ => ⟨rfl, rfl⟩, rfl⟩
  | false => exact ⟨rfl, fun _ => rfl, fun h => (Bool.noConfusion h), hstale⟩

theorem terminated_spec {d : Dev} (hst : d.chg.st = .cv) (hcount : 60000000 ≤ d.chg.cvCount) :
    (terminated d).chg.st = .done ∧ (terminated d).chg.ep = eFull d ∧ (terminated d).chg.calibrated = true ∧ keeps [.chg, .str, .ph, .lk, .rcd, .int] d (terminated d) := by
  have hdue : termDue d = true := by simp [termDue, hst, hcount]
  have hdo : terminated d = chargerRecord (setCharger (setChgEvent { d with chg := { d.chg with ep := eFull d, calibrated := true, epStale := false } } 0) .done) 0x2003 (d.chg.delivered / 40000000)
      (cellMv d) (eFull d / 1000) := by
    unfold terminated
    exact if_neg (by simp [hdue])
  have hchg : (terminated d).chg = { d.chg with ep := eFull d, calibrated := true, epStale := false, event := withBit d.chg.event 0, st := .done } := by
    rw [hdo, chg_chargerRecord, chg_setCharger, chg_setChgEvent]
  refine ⟨by rw [hchg], by rw [hchg], by rw [hchg], Laws.keeps_of_mask _ _ _ ?_⟩
  rw [hdo, Laws.mask_chargerRecord _ _ _ _ _ _ (by decide) (by decide), Laws.mask_setCharger _ _ _ (by decide) (by decide) (by decide), Laws.mask_setChgEvent _ _ _ (by decide) (by decide),
    Laws.mask_chg _ _ _ (by decide)]

/-- A cycle begins with its rest (R270, R274). -/
theorem chg_enterQualify {d : Dev} (h : d.chg.timedOut = false) :
    (enterQualify d).chg = { d.chg with restUntil := d.clk.tick + 100000, timerStart := d.clk.tick, elapsed := 0, delivered := 0, cvCount := 0, st := .qualify } := by
  rw [enterQualify, if_neg (by simp [h])]
  exact chg_setCharger _ _

theorem rechargeStart_spec {d : Dev} (hst : d.chg.st = .done) (hlow : cellMv d < vRecharge d) (htime : d.chg.timedOut = false) :
    (rechargeStart d).chg.st = .qualify ∧ (rechargeStart d).chg.restUntil = d.clk.tick + 100000 ∧ (rechargeStart d).chg.delivered = 0 ∧ (rechargeStart d).chg.timerStart = d.clk.tick ∧
      keeps [.chg, .str, .ph, .lk, .rcd, .int] d (rechargeStart d) := by
  have hdo : rechargeStart d = enterQualify (chargerRecord (setChgEvent d 1) 0x2004 (cellMv d) 0 0) := by
    unfold rechargeStart
    exact if_neg (by simp [hst, Nat.not_le.2 hlow])
  have hrec := chg_chargerRecord (setChgEvent d 1) 0x2004 (cellMv d) 0 0
  rw [chg_setChgEvent] at hrec
  have hmask : Laws.mask [.chg, .str, .ph, .lk, .rcd, .int] (chargerRecord (setChgEvent d 1) 0x2004 (cellMv d) 0 0) = Laws.mask [.chg, .str, .ph, .lk, .rcd, .int] d := by
    rw [Laws.mask_chargerRecord _ _ _ _ _ _ (by decide) (by decide), Laws.mask_setChgEvent _ _ _ (by decide) (by decide)]
  have hclk : (chargerRecord (setChgEvent d 1) 0x2004 (cellMv d) 0 0).clk = d.clk := (Laws.keeps_of_mask _ _ _ hmask .clk (by decide)).symm
  have hchg := chg_enterQualify (d := chargerRecord (setChgEvent d 1) 0x2004 (cellMv d) 0 0) (by rw [hrec]; exact htime)
  rw [hclk] at hchg
  rw [hdo]
  refine ⟨by rw [hchg], by rw [hchg], by rw [hchg], by rw [hchg], Laws.keeps_of_mask _ _ _ ?_⟩
  rw [Laws.mask_enterQualify _ _ (by decide) (by decide) (by decide), hmask]

theorem chargeTimeout_spec (d : Dev) :
    (timeOut (setCharger d .timeout)).chg.st = .timeout ∧ (timeOut (setCharger d .timeout)).chg.timedOut = true ∧
      (∃ f, (timeOut (setCharger d .timeout)).flt.inbox = d.flt.inbox ++ [f] ∧ f.code = 0x1500 ∧ f.due = d.clk.tick + 1) ∧ keeps [.chg, .str, .ph, .lk, .int, .flt] d (timeOut (setCharger d .timeout)) := by
  have hmask : Laws.mask [.chg, .str, .ph] (setCharger d .timeout) = Laws.mask [.chg, .str, .ph] d := Laws.mask_setCharger _ _ _ (by decide) (by decide) (by decide)
  have hkeeps := Laws.keeps_of_mask _ _ _ hmask
  have hflt : (setCharger d .timeout).flt = d.flt := (hkeeps .flt (by decide)).symm
  have hclk : (setCharger d .timeout).clk = d.clk := (hkeeps .clk (by decide)).symm
  have hinbox := inbox_timeOut (setCharger d .timeout)
  rw [hflt, hclk] at hinbox
  have hchg := chg_timeOut (setCharger d .timeout)
  rw [chg_setCharger] at hchg
  refine ⟨by rw [hchg], by rw [hchg], hinbox, Laws.keeps_of_mask _ _ _ ?_⟩
  rw [mask_timeOut _ _ (by decide) (by decide) (by decide), Laws.mask_setCharger _ _ _ (by decide) (by decide) (by decide)]

/-! ### The pack (R263, R276, R278) -/

theorem chg_packGone (d : Dev) : (packGone d).chg = { d.chg with present := false, wasAbsent := true, st := .absent, event := withBit d.chg.event 5 } := by
  rw [packGone, chg_chargerFault, chg_setChgEvent, chg_setCharger]

theorem mask_packGone (d : Dev) : Laws.mask [.chg, .str, .ph, .lk, .int, .flt] (packGone d) = Laws.mask [.chg, .str, .ph, .lk, .int, .flt] d := by
  rw [packGone, Laws.mask_chargerFault _ _ _ (by decide), Laws.mask_setChgEvent _ _ _ (by decide) (by decide), Laws.mask_setCharger _ _ _ (by decide) (by decide) (by decide),
    Laws.mask_chg _ _ _ (by decide)]

theorem packRemoved_spec {d : Dev} (haux : powered d .aux = true) (hst : d.chg.st ≠ .absent) :
    (packRemoved d).chg.st = .absent ∧ (packRemoved d).chg.present = false ∧ (packRemoved d).chg.wasAbsent = true ∧ keeps [.chg, .str, .ph, .lk, .int, .flt] d (packRemoved d) := by
  have hdo : packRemoved d = if timerOver d then timeOut (packGone d) else packGone d := by
    unfold packRemoved
    exact if_neg (by simp [haux, hst])
  have hgone : Laws.mask [.chg, .str, .ph, .lk, .int, .flt] (packGone d) = Laws.mask [.chg, .str, .ph, .lk, .int, .flt] d := mask_packGone d
  rw [hdo]
  split
  · have hchg := chg_timeOut (packGone d)
    rw [chg_packGone] at hchg
    refine ⟨by rw [hchg], by rw [hchg], by rw [hchg], Laws.keeps_of_mask _ _ _ ?_⟩
    rw [mask_timeOut _ _ (by decide) (by decide) (by decide), hgone]
  · have hchg := chg_packGone d
    exact ⟨by rw [hchg], by rw [hchg], by rw [hchg], Laws.keeps_of_mask _ _ _ hgone⟩

theorem packPresent_of_passing {d : Dev} (haux : powered d .aux = true) (hpresent : d.chg.present = false) (htemp : -450 ≤ d.chg.temp) (hlow : 2000 ≤ cellMv d) (hhigh : cellMv d ≤ vOv d) :
    packPresent d = if d.chg.wasAbsent then chargerRecord (setChgEvent { d with chg := { d.chg with present := true } } 6) 0x2020 (cellMv d)
        (lowBits 32 d.chg.temp) 0 else { d with chg := { d.chg with present := true } } := by
  unfold packPresent
  exact if_neg (by simp [haux, hpresent, Nat.not_lt.2 hlow, Nat.not_lt.2 hhigh, htemp])

theorem packReturned_spec (d : Dev) (p0 p1 : Nat) :
    (chargerRecord (setChgEvent { d with chg := { d.chg with present := true } } 6) 0x2020 p0 p1 0).chg = { d.chg with present := true, event := withBit d.chg.event 6 } ∧
      keeps [.chg, .int, .rcd] d (chargerRecord (setChgEvent { d with chg := { d.chg with present := true } } 6) 0x2020 p0 p1 0) := by
  refine ⟨by rw [chg_chargerRecord, chg_setChgEvent], Laws.keeps_of_mask _ _ _ ?_⟩
  rw [Laws.mask_chargerRecord _ _ _ _ _ _ (by decide) (by decide), Laws.mask_setChgEvent _ _ _ (by decide) (by decide), Laws.mask_chg _ _ _ (by decide)]

theorem packDepleted_spec {d : Dev} (haux : powered d .aux = true) (hinput : d.mm.inputPresent = false) (hpath : d.pwr.packPath = true) (hlow : cellMv d + 200 < vCutoff d) :
    (packDepleted d).pwr = { d.pwr with packPath := false } ∧ keeps [.pwr, .rcd, .int] d (packDepleted d) := by
  have hdo : packDepleted d = { chargerRecord d 0x2013 (cellMv d) 0 0 with pwr := { (chargerRecord d 0x2013 (cellMv d) 0 0).pwr with packPath := false } } := by
    unfold packDepleted
    exact if_neg (by simp [haux, hinput, hpath, Nat.not_le.2 hlow])
  have hmask : Laws.mask [.int, .rcd] (chargerRecord d 0x2013 (cellMv d) 0 0) = Laws.mask [.int, .rcd] d := Laws.mask_chargerRecord _ _ _ _ _ _ (by decide) (by decide)
  have hpwr : (chargerRecord d 0x2013 (cellMv d) 0 0).pwr = d.pwr := (Laws.keeps_of_mask _ _ _ hmask .pwr (by decide)).symm
  refine ⟨by rw [hdo, hpwr], Laws.keeps_of_mask _ _ _ ?_⟩
  rw [hdo, Laws.mask_pwr _ _ _ (by decide), Laws.mask_chargerRecord _ _ _ _ _ _ (by decide) (by decide)]

/-! ### SAFE by the device (R39, R43) -/

/-- With no run and nothing behind an unwind, SAFE by the device is the entry to SAFE. -/
theorem deviceSafe_of_idle {d : Dev} (hmode : d.mm.mode = .config ∨ d.mm.mode = .armed ∨ d.mm.mode = .run ∨ d.mm.mode = .hold ∨ d.mm.mode = .ride) (hrun : d.seq.run = none)
    (hafter : d.mm.after = none) (c : Cause) (detail : Nat) : deviceSafe d c detail = enterMode d .safe c detail := by
  have hup : poweringUp d = false := by rw [poweringUp, hrun]
  have hstop : ∀ st, stopRun d st .safe = d := fun st => by rw [stopRun, hrun]
  have hafter' : { d with mm := { d.mm with after := none } } = d := by rw [← hafter]
  refine Eq.trans ?_ (congrArg (fun e => enterMode e .safe c detail) hafter')
  rcases hmode with h | h | h | h | h <;> simp only [deviceSafe, h, hup, hafter, Bool.false_and, Bool.false_eq_true, if_false, hstop]

theorem mm_deviceSafe_of_idle {d : Dev} (hmode : d.mm.mode = .config ∨ d.mm.mode = .armed ∨ d.mm.mode = .run ∨ d.mm.mode = .hold ∨ d.mm.mode = .ride) (hrun : d.seq.run = none)
    (hafter : d.mm.after = none) (c : Cause) (detail : Nat) : (deviceSafe d c detail).mm = { enteredMm d .safe c detail with pend := none } := by
  rw [deviceSafe_of_idle hmode hrun hafter]
  exact mm_enterModeWith_safe (fun h => by rw [h] at hmode; simp at hmode) c detail true

theorem exhausted_spec {d : Dev} {cutoff : Bool} (hmode : d.mm.mode = .ride) (hend : cutoff = true ∧ cellMv d < vCutoff d ∨ rideConditions d = false) (hrun : d.seq.run = none)
    (hafter : d.mm.after = none) : (exhausted d cutoff).mm.mode = .safe ∧ (exhausted d cutoff).mm.cause = .noRide ∧ (exhausted d cutoff).mm.causeFrom = .ride := by
  have hcond : ¬ ((d.mm.mode != .ride || (!(cutoff && decide (cellMv d < vCutoff d)) && rideConditions d)) = true) := by
    rcases hend with ⟨hcut, hlow⟩ | hcond
    · simp [hmode, hcut, hlow]
    · simp [hmode, hcond]
  obtain ⟨p0, p1, p2, hdo⟩ : ∃ p0 p1 p2, exhausted d cutoff = deviceSafe (chargerRecord d 0x2012 p0 p1 p2) .noRide 0 := ⟨_, _, _, if_neg hcond⟩
  have hkeeps := Laws.keeps_of_mask _ _ _ (Laws.mask_chargerRecord [.int, .rcd] d 0x2012 p0 p1 p2 (by decide) (by decide))
  have hmm : (chargerRecord d 0x2012 p0 p1 p2).mm = d.mm := (hkeeps .mm (by decide)).symm
  have hseq : (chargerRecord d 0x2012 p0 p1 p2).seq = d.seq := (hkeeps .seq (by decide)).symm
  have hsafe := mm_deviceSafe_of_idle (d := chargerRecord d 0x2012 p0 p1 p2) (by rw [hmm, hmode]; simp) (by rw [hseq]; exact hrun) (by rw [hmm]; exact hafter) .noRide 0
  rw [hdo, hsafe]
  refine ⟨rfl, rfl, ?_⟩
  change (chargerRecord d 0x2012 p0 p1 p2).mm.mode = _
  rw [hmm, hmode]

/-- Settles O46, from the event of each state of the cycle and of the pack. -/
theorem chargeCycleFollowsThePack : Obligations.ChargeCycleFollowsThePack := by
  refine ⟨fun s => ⟨fun hst hrest => ?_, fun hst hcount => ?_, fun hst hlow htime => ?_, fun hover hterm => ?_⟩,
    fun s haux => ⟨fun hst => ?_, fun hpresent htemp hlow hhigh => ⟨fun hwas => ?_, fun hwas => ?_⟩, fun hinput hpath hlow => ?_, fun hhigh => ?_, fun cutoff hmode hend hrun hafter => ?_⟩⟩
  · obtain ⟨hstate, hep, hstale, hclear⟩ := qualifyEnd_spec hst hrest
    exact ⟨_, rfl, hstate, hep, hstale, hclear, Laws.keeps_of_mask _ _ _ (mask_qualifyEnd _ (by decide) hst hrest)⟩
  · exact ⟨_, rfl, terminated_spec hst hcount⟩
  · exact ⟨_, rfl, rechargeStart_spec hst hlow htime⟩
  · have hdo : (if timerOver s.dev && !termDue s.dev then timeOut (setCharger s.dev .timeout) else s.dev) = timeOut (setCharger s.dev .timeout) := if_pos (by simp [hover, hterm])
    exact ⟨_, congrArg (next s) hdo, chargeTimeout_spec s.dev⟩
  · exact ⟨_, rfl, packRemoved_spec haux hst⟩
  · exact congrArg (next s) ((packPresent_of_passing haux hpresent htemp hlow hhigh).trans (if_neg (by simp [hwas])))
  · exact ⟨_, congrArg (next s) ((packPresent_of_passing haux hpresent htemp hlow hhigh).trans (if_pos hwas)), packReturned_spec _ _ _⟩
  · exact ⟨_, rfl, packDepleted_spec haux hinput hpath hlow⟩
  · exact congrArg (next s) (if_pos (by simp [haux, hhigh]))
  · exact ⟨_, rfl, exhausted_spec hmode hend hrun hafter⟩

end Sys2Proof.Machine
end

section
/-!
The push-button, nMR and HRST_N; loss and return of the input, and the ride's entry (O42, O44).
-/
namespace Sys2Proof.Machine
open Sys2Proof.Safety

/-! ### Mode inputs and their due ticks (R16–R18, R28) -/

theorem capture_of_not_capturing {d : Dev} (h : capturing d = false) (r : CapRec) : capture d r = d := captureAt_of_not_capturing h _ _

/-- A mode input, other than a peer's SAFE, that arrives in its due tick with nothing of the tick ahead of it. -/
theorem arrive_acts {d : Dev} {stamp : Stamp} {m : ModeIn} (hlat : latency (.mode m) = 2) (hdue : stampTick d stamp + 2 = d.clk.tick) (hopen : inputsOpen d = true) :
    arrive d stamp (.mode m) = applyMode d m := by
  unfold arrive
  dsimp only
  rw [hlat, if_neg (by omega), if_pos ⟨hdue, hopen⟩]
  rfl

theorem arrive_waits {d : Dev} {stamp : Stamp} {m : ModeIn} (hlat : latency (.mode m) = 2)
    (h : d.clk.tick < stampTick d stamp + 2 ∨ stampTick d stamp + 2 = d.clk.tick ∧ inputsOpen d = false) :
    arrive d stamp (.mode m) = { d with waiting := d.waiting ++ [(stampTick d stamp + 2, .mode m)] } := by
  unfold arrive
  dsimp only
  rw [hlat, if_neg (by omega), if_neg]
  rintro ⟨hdue, hopen⟩
  rcases h with h | ⟨-, hclosed⟩
  · omega
  · rw [hopen] at hclosed
    cases hclosed

theorem arrive_late {d : Dev} {stamp : Stamp} {m : ModeIn} (hlat : latency (.mode m) = 2) (h : stampTick d stamp + 2 < d.clk.tick) : arrive d stamp (.mode m) = lateInput d 6 0 := by
  unfold arrive
  dsimp only
  rw [hlat, if_pos h]
  rfl

/-! ### Entry to SHUTDOWN (R52, R55) -/

/-- Parts of an entry to SHUTDOWN with the start of its run. -/
def shutdownParts : List Part := [.mm, .cfg, .jr, .fb, .str, .ph, .lk, .chg, .flt, .int, .rcd, .cap, .mp, .out, .fretOut, .otp, .seq]

theorem mask_preemptAccepted (d : Dev) : Laws.mask finishParts (preemptAccepted d) = Laws.mask finishParts d := by
  refine Laws.mask_foldl _ _ (fun e x => ?_) _ _
  split <;> exact Laws.mask_finishNow _ _ _ _ _ (by decide) (by decide) (by decide) (by decide) (by decide)

theorem mask_enterModeWith_shutdown {d : Dev} (h : d.mm.mode ≠ .replay) (c : Cause) (detail : Nat) (rec' : Bool) :
    Laws.mask shutdownParts (enterModeWith d .shutdown c detail rec') = Laws.mask shutdownParts d := by
  rw [enterModeWith_shutdown h]
  dsimp only
  rw [Laws.mask_rcd _ _ _ (by decide), mask_of_subset (by decide) (mask_preemptAccepted _),
    Laws.mask_endAllTimed _ _ _ (by decide) (by decide) (by decide) (by decide) (by decide) (by decide) (by decide) (by decide) (by decide),
    mask_chargerMode _ _ (by decide) _ (by decide), Laws.mask_endPending _ _ _ _ (by decide) (by decide) (by decide) (by decide) (by decide) (by decide),
    mask_inMode _ _ _ _ _ _ (by decide) (Or.inl (by decide))]

/-- The mode machine behind an entry to SHUTDOWN (R59). -/
theorem mm_enterModeWith_shutdown {d : Dev} (h : d.mm.mode ≠ .replay) (c : Cause) (detail : Nat) (rec' : Bool) :
    (enterModeWith d .shutdown c detail rec').mm = { enteredMm d .shutdown c detail with pend := none } := by
  have hpreempt : ∀ e : Dev, (preemptAccepted e).mm = e.mm := fun e =>
    mm_of_mask (mask_preemptAccepted _) (by decide)
  have htimed : ∀ e : Dev, (endAllTimed e .preempted).mm = e.mm := fun e =>
    mm_of_mask (qs := [.cfg, .jr, .fb, .str, .int, .cap, .mp, .out, .fretOut]) (Laws.mask_endAllTimed _ _ _ (by decide) (by decide) (by decide) (by decide) (by decide) (by decide) (by decide) (by decide) (by decide)) (by decide)
  have hcharger : ∀ (e : Dev) frm, (chargerMode e frm .shutdown).mm = e.mm := fun e frm => mm_of_mask (qs := chargerParts) (mask_chargerMode _ _ (fun _ h => h) _ (by decide)) (by decide)
  rw [enterModeWith_shutdown h]
  dsimp only
  rw [hpreempt, htimed, hcharger, mm_endPending, mm_inMode]

theorem mask_newRun (d : Dev) (k : RunKind) (table first last : Nat) : Laws.mask stepParts (newRun d k table first last none) = Laws.mask stepParts d :=
  (runsOn_startFrom _ _ _ _ _).2.trans (Laws.mask_seq _ _ _ (by decide))

/-- The run of the down steps, at a follower the master's. -/
def shutdownRun (d : Dev) : Dev := if follower d then setRun d { kind := .shutdown, table := 3, step := 0, phase := .peers, last := 15 } else newRun d .shutdown 3 0 15 none

theorem mask_shutdownRun (d : Dev) : Laws.mask stepParts (shutdownRun d) = Laws.mask stepParts d := by
  unfold shutdownRun
  rw [Laws.mask_ite, Laws.mask_setRun _ _ _ (by decide), mask_newRun, ite_self]

/-- The entries that wait for SHUTDOWN are committed. -/
def commitDowns (d : Dev) : Dev := d.mm.downEntries.foldl (fun d e => updEntry d e (fun x => { x with st := .committed, commit := true })) d

theorem mask_commitDowns (d : Dev) : Laws.mask [.jr] (commitDowns d) = Laws.mask [.jr] d := Laws.mask_foldl _ _ (fun _ _ => Laws.mask_updEntry _ _ _ _ (by decide)) _ _

theorem startShutdown_eq (d : Dev) (off : Bool) (c : Cause) (detail : Nat) :
    startShutdown d off c detail = (let e := commitDowns (enterMode d .shutdown c detail)
      shutdownRun { e with mm := { e.mm with target := .cold, offPath := off, after := none } }) := by
  unfold startShutdown commitDowns shutdownRun
  rfl

theorem mm_startShutdown {d : Dev} (h : d.mm.mode ≠ .replay) (off : Bool) (c : Cause) (detail : Nat) :
    (startShutdown d off c detail).mm = { enteredMm d .shutdown c detail with pend := none, target := .cold, offPath := off, after := none } := by
  rw [startShutdown_eq]
  dsimp only
  rw [mm_of_mask (mask_shutdownRun _) (by decide)]
  dsimp only
  rw [mm_of_mask (mask_commitDowns _) (by decide), enterMode, mm_enterModeWith_shutdown h]

theorem mask_startShutdown {d : Dev} (h : d.mm.mode ≠ .replay) (off : Bool) (c : Cause) (detail : Nat) : Laws.mask shutdownParts (startShutdown d off c detail) = Laws.mask shutdownParts d := by
  rw [startShutdown_eq]
  exact (mask_of_subset (by decide) (mask_shutdownRun _)).trans ((Laws.mask_mm _ _ _ (by decide)).trans ((mask_of_subset (by decide) (mask_commitDowns _)).trans (mask_enterModeWith_shutdown h c detail true)))

/-! ### The push-button (R247) -/

theorem follower_congr {d e : Dev} (hpins : e.pins = d.pins) (hotp : e.otp = d.otp) : follower e = follower d := by
  unfold follower sysCount policyWord otpOr otpUsable shadowOf
  rw [hpins, hotp]

theorem requestDown_of_run {d : Dev} (hmode : d.mm.mode = .run) (hrun : d.seq.run = none) (hfollow : follower d = false) (off : Bool) (c : Cause) (detail : Nat) :
    requestDown d off c detail none = startShutdown d off c detail := by
  unfold requestDown
  simp only [hmode, hrun, hfollow, Bool.false_eq_true, if_false]

theorem actLong_of_run {d : Dev} (hmode : d.mm.mode = .run) (hrun : d.seq.run = none) (hfollow : follower d = false) (hcap : capturing d = false) :
    actLong d = startShutdown (seqRecord d 0x3010 0 0) false .longPress 0 := by
  have hkeeps := Laws.keeps_of_mask _ _ _ (mask_seqRecord_parts d 0x3010 0 0)
  have hmm : (seqRecord d 0x3010 0 0).mm = d.mm := (hkeeps .mm (by decide)).symm
  have hdown := requestDown_of_run (d := seqRecord d 0x3010 0 0) (by rw [hmm, hmode]) (by rw [seqRecord_seq, hrun])
    (by rw [follower_congr (hkeeps .pins (by decide)).symm (hkeeps .otp (by decide)).symm, hfollow]) false .longPress 0
  refine Eq.trans ?_ hdown
  unfold actLong
  simp only [capture_of_not_capturing hcap, hrun, hmode]

/-- A long press in RUN shuts the device down (R247). -/
theorem longPress_spec {d : Dev} {stamp : Stamp} (hlong : longDue d (stampTick d stamp) = true) (hdue : stampTick d stamp + 2 = d.clk.tick) (hopen : inputsOpen d = true)
    (hmode : d.mm.mode = .run) (hrun : d.seq.run = none) (hfollow : follower d = false) (hcap : capturing d = false) :
    (pressLong d stamp).mm.mode = .shutdown ∧ (pressLong d stamp).mm.cause = .longPress ∧ (pressLong d stamp).mm.causeFrom = .run ∧ (pressLong d stamp).pins.longDone = true ∧
      (pressLong d stamp).mm.offPath = false := by
  have hact : pressLong d stamp = actLong { d with pins := { d.pins with longDone := true } } := by
    unfold pressLong
    rw [if_pos hlong]
    exact arrive_acts rfl hdue hopen
  rw [hact, actLong_of_run (d := { d with pins := { d.pins with longDone := true } }) hmode hrun hfollow hcap]
  have hkeeps := Laws.keeps_of_mask _ _ _ (mask_seqRecord_parts { d with pins := { d.pins with longDone := true } } 0x3010 0 0)
  have hmm : (seqRecord { d with pins := { d.pins with longDone := true } } 0x3010 0 0).mm = d.mm := (hkeeps .mm (by decide)).symm
  have hpins : (seqRecord { d with pins := { d.pins with longDone := true } } 0x3010 0 0).pins = { d.pins with longDone := true } := (hkeeps .pins (by decide)).symm
  generalize seqRecord { d with pins := { d.pins with longDone := true } } 0x3010 0 0 = e at *
  have hne : e.mm.mode ≠ .replay := by rw [hmm, hmode]; decide
  have hpins' : (startShutdown e false .longPress 0).pins = e.pins := (Laws.keeps_of_mask _ _ _ (mask_startShutdown hne false .longPress 0) .pins (by decide)).symm
  have hend := mm_startShutdown hne false .longPress 0
  refine ⟨by rw [hend]; rfl, by rw [hend]; rfl, ?_, by rw [hpins', hpins], by rw [hend]⟩
  rw [hend]
  exact (congrArg ModeUnit.mode hmm).trans hmode

theorem pressEnd_of_short {d : Dev} {stamp : Stamp} (hpressed : d.pins.pressed = true) (hdone : d.pins.longDone = false) (hlong : longDue d (stampTick d stamp) = false) :
    pressEnd d stamp = arrive { d with pins := { d.pins with pressed := false, longDone := false } } stamp (.mode .shortPress) := by
  have hnot : pressLong d stamp = d := by
    unfold pressLong
    exact if_neg (by simp [hlong])
  unfold pressEnd
  rw [if_neg (by simp [hpressed]), hnot]
  exact if_neg (by simp [hdone])

theorem coldTrigger_boots {d : Dev} (hoff : d.mm.offUntil = none) (t : Trigger) (c : Cause) : coldTrigger d t c = startBoot d c := by
  unfold coldTrigger
  exact if_neg (by simp [hoff])

theorem actShort_of_cold {d : Dev} (hcap : capturing d = false) (hmode : d.mm.mode = .cold) (hfollow : follower d = false) (hboot : 2 ≤ coldBoot d) (hoff : d.mm.offUntil = none) :
    actShort d = startBoot d .buttonShort := by
  unfold actShort
  rw [capture_of_not_capturing hcap]
  simp only [hmode, hfollow, hoff, Option.isSome_none, Nat.not_lt.2 hboot, decide_false, Bool.or_false, Bool.false_eq_true, if_false]
  exact coldTrigger_boots hoff _ _

theorem actShort_of_shutdown {d : Dev} (hcap : capturing d = false) (hmode : d.mm.mode = .shutdown) (hlatched : d.mm.latched = none) :
    actShort d = { d with mm := { d.mm with latched := some .press, onLatched := true } } := by
  unfold actShort
  rw [capture_of_not_capturing hcap]
  simp only [hmode, hlatched, Option.isSome_none, Bool.false_eq_true, if_false]

theorem actShort_of_other {d : Dev} (hcap : capturing d = false) (hcold : d.mm.mode ≠ .cold) (hdown : d.mm.mode ≠ .shutdown) (hoff : d.mm.mode ≠ .off) : actShort d = setModeEvent d 5 := by
  unfold actShort
  rw [capture_of_not_capturing hcap]
  dsimp only
  split
  next h => exact absurd h hoff
  next h => exact absurd h hcold
  next h => exact absurd h hdown
  next => rfl

theorem offTimeEnd_latched {d : Dev} {t : Nat} (hmode : d.mm.mode = .cold) (hoff : d.mm.offUntil = some t) (hdue : t ≤ d.clk.tick) (hlatched : d.mm.latched ≠ none) :
    offTimeEnd d = startBoot { d with mm := { d.mm with offUntil := none } } .latchedOn := by
  unfold offTimeEnd
  rw [hoff]
  dsimp only
  rw [if_neg (by simp [hmode, hdue])]
  exact if_pos (Option.isSome_iff_ne_none.2 hlatched)

/-! ### HRST_N (R248, R249) -/

theorem setHrst_asserts {d : Dev} (f : Pins → Pins) (hlow : hrst d = false) (hup : hrst { d with pins := f d.pins } = true) : Out.hrst true ∈ (setHrst d f).out := by
  unfold setHrst
  dsimp only
  rw [if_neg (by rw [hlow, hup]; decide), hup]
  exact List.mem_append_right _ (List.mem_singleton_self _)

/-- nMR goes low: the pin, and HRST_N with it (R248). -/
theorem nmrLow_spec {d : Dev} (hmode : d.mm.mode ≠ .off) (hnmr : d.pins.nmr = false) (hcap : capturing d = false) :
    (nmrLow d).pins = { d.pins with nmr := true } ∧ (hrst d = false → Out.hrst true ∈ (nmrLow d).out) ∧ keeps [.pins, .seq, .int, .rcd, .clk, .out] d (nmrLow d) := by
  have hdo : nmrLow d = seqRecord (setSeqEvent (setHrst d (fun p => { p with nmr := true })) 9) 0x3011 0 0 := by
    unfold nmrLow
    rw [if_neg (by simp [hmode, hnmr]), capture_of_not_capturing hcap]
  have hlast : ∀ e, Laws.mask [.seq, .int, .rcd, .clk] (seqRecord (setSeqEvent e 9) 0x3011 0 0) = Laws.mask [.seq, .int, .rcd, .clk] e := fun e => by
    rw [Laws.mask_seqRecord _ _ _ _ _ (by decide) (by decide) (by decide), Laws.mask_setSeqEvent _ _ _ (by decide) (by decide)]
  have hkeeps := Laws.keeps_of_mask _ _ _ (hlast (setHrst d (fun p => { p with nmr := true })))
  rw [hdo]
  refine ⟨?_, fun hlow => ?_, Laws.keeps_of_mask _ _ _ ?_⟩
  · exact (hkeeps .pins (by decide)).symm.trans (setHrst_pins _ _)
  · have hout : (seqRecord (setSeqEvent (setHrst d (fun p => { p with nmr := true })) 9) 0x3011 0 0).out = (setHrst d (fun p => { p with nmr := true })).out := (hkeeps .out (by decide)).symm
    rw [hout]
    exact setHrst_asserts _ hlow (by simp [hrst])
  · exact (mask_of_subset (by decide) (hlast _)).trans (Laws.mask_setHrst _ _ _ (by decide) (by decide))

/-- nMR is released: HRST_N stays low for 10 ms more (R248). -/
theorem nmrHigh_spec {d : Dev} (hnmr : d.pins.nmr = true) :
    (nmrHigh d).pins.nmr = false ∧ (nmrHigh d).pins.hrstTimed = true ∧ d.clk.tick + 10000 ≤ (nmrHigh d).pins.hrstUntil ∧ hrst (nmrHigh d) = true ∧ keeps [.pins, .out] d (nmrHigh d) := by
  have hdo : nmrHigh d = setHrst (assertHrst d 10000) (fun p => { p with nmr := false }) := by
    unfold nmrHigh
    exact if_neg (by simp [hnmr])
  have hpins : (nmrHigh d).pins = { d.pins with nmr := false, hrstTimed := true, hrstUntil := max (if d.pins.hrstTimed then d.pins.hrstUntil else 0) (d.clk.tick + 10000) } := by
    rw [hdo, setHrst_pins]
    unfold assertHrst
    rw [setHrst_pins]
  refine ⟨by rw [hpins], by rw [hpins], by rw [hpins]; exact Nat.le_max_right _ _, by unfold hrst; rw [hpins]; simp, Laws.keeps_of_mask _ _ _ ?_⟩
  rw [hdo, Laws.mask_setHrst _ _ _ (by decide) (by decide), Laws.mask_assertHrst _ _ _ (by decide) (by decide)]

/-- Settles O42, from the act of each pin. -/
theorem buttonAndResetPins : Obligations.ButtonAndResetPins := by
  intro s
  dsimp only
  refine ⟨fun stamp hpressed hdone hlong => ⟨fun hwait => ?_, fun hlate => ?_⟩, fun hmode hpressed => ?_, fun stamp hpressed hdone hlong hcap hacts => ?_,
    fun stamp hlong hacts hmode hrun hfollow hcap => ?_, fun t hmode hoff hdue => ⟨fun hlatched hheld => ?_, fun hlatched => ?_, fun hlatched hheld => ?_, fun hlatched hheld => ?_, fun hlatched hheld => ?_⟩,
    fun stamp hacts hmode hnmr hcap => ?_, fun hnmr => ?_, fun htimed huntil => ?_⟩
  · exact congrArg (next s) ((pressEnd_of_short hpressed hdone hlong).trans (arrive_waits rfl hwait))
  · exact congrArg (next s) ((pressEnd_of_short hpressed hdone hlong).trans (arrive_late rfl hlate))
  · exact congrArg (next s) (if_neg (by simp [hmode, hpressed]))
  · have hact := (pressEnd_of_short hpressed hdone hlong).trans (arrive_acts (m := .shortPress) rfl hacts.1 hacts.2)
    refine ⟨fun hmode hfollow hboot hoff => ?_, fun hmode hlatched => ?_, fun hcold hdown hoff => ?_⟩
    · exact congrArg (next s) (hact.trans (actShort_of_cold hcap hmode hfollow hboot hoff))
    · exact congrArg (next s) (hact.trans (actShort_of_shutdown hcap hmode hlatched))
    · exact congrArg (next s) (hact.trans (actShort_of_other hcap hcold hdown hoff))
  · exact ⟨_, rfl, longPress_spec hlong hacts.1 hacts.2 hmode hrun hfollow hcap⟩
  · exact congrArg (next s) ((offTimeEnd_of_due hmode hoff hdue hlatched).trans (by conv => lhs; rw [hheld]))
  · exact congrArg (next s) (offTimeEnd_latched hmode hoff hdue hlatched)
  · exact congrArg (next s) ((offTimeEnd_of_due hmode hoff hdue hlatched).trans (by conv => lhs; rw [hheld]))
  · exact congrArg (next s) ((offTimeEnd_of_due hmode hoff hdue hlatched).trans (by conv => lhs; rw [hheld]))
  · exact congrArg (next s) ((offTimeEnd_of_due hmode hoff hdue hlatched).trans (by conv => lhs; rw [hheld]))
  · exact ⟨_, congrArg (next s) (arrive_acts (m := .nmr) rfl hacts.1 hacts.2), nmrLow_spec hmode hnmr hcap⟩
  · exact ⟨_, rfl, nmrHigh_spec hnmr⟩
  · have hdo : hrstEnd s.dev = setHrst s.dev (fun p => { p with hrstTimed := false }) := if_pos (by simp [htimed, huntil])
    exact ⟨_, congrArg (next s) hdo, setHrst_pins _ _, Laws.keeps_of_mask _ _ _ (Laws.mask_setHrst _ _ _ (by decide) (by decide))⟩

/-! ### Loss and return of the input (R44, R57, R264) -/

/-- The input is noted lost. -/
def lossNoted (d : Dev) : Dev := setModeEvent { d with mm := { d.mm with inputPresent := false } } 1

theorem mm_setModeEvent (d : Dev) (b : Nat) : (setModeEvent d b).mm = { d.mm with event := withBit d.mm.event b } := by
  unfold setModeEvent
  rw [occur_mm]

theorem mm_lossNoted (d : Dev) : (lossNoted d).mm = { d.mm with inputPresent := false, event := withBit d.mm.event 1 } := mm_setModeEvent _ _

theorem mask_lossNoted (d : Dev) : Laws.mask [.mm, .int] (lossNoted d) = Laws.mask [.mm, .int] d :=
  (Laws.mask_setModeEvent _ _ _ (by decide) (by decide)).trans (Laws.mask_mm _ _ _ (by decide))

theorem capturing_congr {d e : Dev} (h : e.cap = d.cap) : capturing e = capturing d := by
  unfold capturing
  rw [h]

theorem stopSearch_of_none {d : Dev} (h : d.chg.search = none) (st : Status) : stopSearch d st = d := by
  unfold stopSearch endSearch
  rw [h]

/-- What the loss asks for in ARMED, RUN and HOLD. -/
def lossActs (d : Dev) : Dev :=
  if d.mm.mode == .armed || d.mm.mode == .run || d.mm.mode == .hold then
    (if !d.mm.rideAvailable then deviceSafe d .noRide 0
     else if d.chg.st == .absent then { d with mm := { d.mm with rideDue := some (d.clk.fret + 2) } }
     else setCharger { d with mm := { d.mm with rideDue := some (d.clk.fret + 2) } } .disabled)
  else d

theorem inputLost_eq (d : Dev) :
    inputLost d = if d.mm.mode == .off || !d.mm.inputPresent then d else lossActs (stopSearch (capture (lossNoted d) (.modeInput 1)) .partialDone) := rfl

theorem inputLost_of_run {d : Dev} (hinput : d.mm.inputPresent = true) (hmode : d.mm.mode = .run) (hcap : capturing d = false) (hsearch : d.chg.search = none) :
    inputLost d = lossActs (lossNoted d) := by
  have hkeeps := Laws.keeps_of_mask _ _ _ (mask_lossNoted d)
  have hchg : (lossNoted d).chg = d.chg := (hkeeps .chg (by decide)).symm
  have hcap' : capturing (lossNoted d) = false := (capturing_congr (hkeeps .cap (by decide)).symm).trans hcap
  rw [inputLost_eq, if_neg (by simp [hmode, hinput]), capture_of_not_capturing hcap', stopSearch_of_none (by rw [hchg, hsearch])]

theorem lossActs_safe {d : Dev} (hmode : d.mm.mode = .run) (hride : d.mm.rideAvailable = false) : lossActs d = deviceSafe d .noRide 0 := by
  rw [lossActs, if_pos (by simp [hmode]), if_pos (by simp [hride])]

theorem lossActs_ride {d : Dev} (hmode : d.mm.mode = .run) (hride : d.mm.rideAvailable = true) :
    lossActs d = if d.chg.st == .absent then { d with mm := { d.mm with rideDue := some (d.clk.fret + 2) } } else setCharger { d with mm := { d.mm with rideDue := some (d.clk.fret + 2) } } .disabled := by
  rw [lossActs, if_pos (by simp [hmode]), if_neg (by simp [hride])]

theorem lossActs_ride_spec {d : Dev} (hmode : d.mm.mode = .run) (hride : d.mm.rideAvailable = true) :
    (lossActs d).mm = { d.mm with rideDue := some (d.clk.fret + 2) } ∧ (lossActs d).chg.st = (if d.chg.st = .absent then .absent else .disabled) ∧
      Laws.mask [.mm, .chg, .str, .ph] (lossActs d) = Laws.mask [.mm, .chg, .str, .ph] d := by
  rw [lossActs_ride hmode hride]
  by_cases habsent : d.chg.st = .absent
  · rw [if_pos (by simp [habsent]), if_pos habsent]
    exact ⟨rfl, habsent, Laws.mask_mm _ _ _ (by decide)⟩
  · rw [if_neg (by simp [habsent]), if_neg habsent, chg_setCharger, mm_of_mask (qs := [.str, .ph, .chg]) (Laws.mask_setCharger _ _ _ (by decide) (by decide) (by decide)) (by decide)]
    exact ⟨rfl, rfl, (Laws.mask_setCharger _ _ _ (by decide) (by decide) (by decide)).trans (Laws.mask_mm _ _ _ (by decide))⟩

/-- A loss in RUN with RIDE available (R44). -/
theorem inputLost_rides {d : Dev} (hinput : d.mm.inputPresent = true) (hmode : d.mm.mode = .run) (hcap : capturing d = false) (hsearch : d.chg.search = none) (hride : d.mm.rideAvailable = true) :
    (inputLost d).mm = { d.mm with inputPresent := false, event := withBit d.mm.event 1, rideDue := some (d.clk.fret + 2) } ∧
      (inputLost d).chg.st = (if d.chg.st = .absent then .absent else .disabled) ∧ keeps [.mm, .int, .chg, .str, .ph, .lk] d (inputLost d) := by
  have hkeeps := Laws.keeps_of_mask _ _ _ (mask_lossNoted d)
  have hchg : (lossNoted d).chg = d.chg := (hkeeps .chg (by decide)).symm
  have hclk : (lossNoted d).clk = d.clk := (hkeeps .clk (by decide)).symm
  obtain ⟨hmm, hst, hmask⟩ := lossActs_ride_spec (d := lossNoted d) (by rw [mm_lossNoted]; exact hmode) (by rw [mm_lossNoted]; exact hride)
  rw [mm_lossNoted, hclk] at hmm
  rw [hchg] at hst
  rw [inputLost_of_run hinput hmode hcap hsearch]
  exact ⟨hmm, hst, Laws.keeps_of_mask _ _ _ ((mask_of_subset (by decide) hmask).trans (mask_of_subset (by decide) (mask_lossNoted d)))⟩

/-- A loss in RUN without RIDE (R44). -/
theorem inputLost_safe {d : Dev} (hinput : d.mm.inputPresent = true) (hmode : d.mm.mode = .run) (hcap : capturing d = false) (hsearch : d.chg.search = none) (hride : d.mm.rideAvailable = false)
    (hrun : d.seq.run = none) (hafter : d.mm.after = none) : (inputLost d).mm.mode = .safe ∧ (inputLost d).mm.cause = .noRide ∧ (inputLost d).mm.inputPresent = false := by
  have hseq : (lossNoted d).seq = d.seq := (Laws.keeps_of_mask _ _ _ (mask_lossNoted d) .seq (by decide)).symm
  have hsafe := mm_deviceSafe_of_idle (d := lossNoted d) (by rw [mm_lossNoted, hmode]; simp) (by rw [hseq, hrun]) (by rw [mm_lossNoted]; exact hafter) .noRide 0
  rw [inputLost_of_run hinput hmode hcap hsearch, lossActs_safe (by rw [mm_lossNoted]; exact hmode) (by rw [mm_lossNoted]; exact hride), hsafe]
  refine ⟨rfl, rfl, ?_⟩
  change (lossNoted d).mm.inputPresent = false
  rw [mm_lossNoted]

/-! ### Entry to RIDE (R44, R277) -/

/-- The ride begins: its start is noted, with the energy there is (R277). -/
def rideBegun (d : Dev) : Dev :=
  let e := { d with mm := { d.mm with rideStart := d.clk.tick, rideE := d.chg.ep } }
  let e := chargerRecord e 0x2010 e.chg.rideLevel (e.chg.ep / 1000) (cellMv e)
  if e.chg.st == .absent then e else setCharger e .rideBoost

theorem chargerMode_ride {frm : Mode} (d : Dev) : chargerMode d frm .ride = rideBegun (leaveSearch d .ride) := by
  unfold chargerMode leaveSearch rideBegun
  simp only [show (Mode.ride == Mode.run || Mode.ride == Mode.hold) = false from rfl, Bool.and_false, Bool.false_eq_true, if_false]
  rfl

theorem mask_rideBegun (d : Dev) : Laws.mask (.mm :: chargerParts) (rideBegun d) = Laws.mask (.mm :: chargerParts) d := by
  unfold rideBegun
  dsimp only
  rw [Laws.mask_ite, Laws.mask_setCharger _ _ _ (by decide) (by decide) (by decide), ite_self, Laws.mask_chargerRecord _ _ _ _ _ _ (by decide) (by decide), Laws.mask_mm _ _ _ (by decide)]

theorem mm_rideBegun (d : Dev) : (rideBegun d).mm = { d.mm with rideStart := d.clk.tick, rideE := d.chg.ep } := by
  have hset : ∀ e : Dev, (setCharger e .rideBoost).mm = e.mm := fun e => mm_of_mask (qs := [.str, .ph, .chg]) (Laws.mask_setCharger _ _ _ (by decide) (by decide) (by decide)) (by decide)
  have hrec : ∀ (e : Dev) p0 p1 p2, (chargerRecord e 0x2010 p0 p1 p2).mm = e.mm := fun e p0 p1 p2 => mm_of_mask (qs := [.int, .rcd]) (Laws.mask_chargerRecord _ _ _ _ _ _ (by decide) (by decide)) (by decide)
  unfold rideBegun
  dsimp only
  split
  · rw [hrec]
  · rw [hset, hrec]

/-- RIDE is entered, with the fret of its cut two frets on (R44, R57). -/
theorem enterMode_ride_spec {d : Dev} (h : d.mm.mode ≠ .replay) (c : Cause) (detail : Nat) :
    (enterMode d .ride c detail).mm.mode = .ride ∧ (enterMode d .ride c detail).mm.cause = c ∧ (enterMode d .ride c detail).mm.causeFrom = d.mm.mode ∧
      (enterMode d .ride c detail).mm.rideFret = some (d.clk.fret + 2) ∧ (enterMode d .ride c detail).mm.rideDue = none ∧ (enterMode d .ride c detail).clk = d.clk ∧
      (enterMode d .ride c detail).cfg = d.cfg := by
  have hin := mask_inMode (.otp :: inModeParts) d .ride c detail true (by decide) (Or.inl (by decide))
  have hkeeps := Laws.keeps_of_mask _ _ _ hin
  have hclk : (inMode d .ride c detail true).clk = d.clk := (hkeeps .clk (by decide)).symm
  have hcfg : (inMode d .ride c detail true).cfg = d.cfg := (hkeeps .cfg (by decide)).symm
  have hmm := mm_inMode d .ride c detail true
  rw [enterMode, enterModeWith_ride h]
  dsimp only
  rw [chargerMode_ride]
  generalize inMode d .ride c detail true = e at *
  have hleave := mask_leaveSearch chargerParts { e with mm := { e.mm with rideFret := some (e.clk.fret + 2), rideDue := none } } (fun _ h => h) .ride
  have hleaveMm := mm_of_mask hleave (by decide)
  have hleaveKept := Laws.keeps_of_mask _ _ _ hleave
  have hbegun := Laws.keeps_of_mask _ _ _ (mask_rideBegun (leaveSearch { e with mm := { e.mm with rideFret := some (e.clk.fret + 2), rideDue := none } } .ride))
  have hlast : (rideBegun (leaveSearch { e with mm := { e.mm with rideFret := some (e.clk.fret + 2), rideDue := none } } .ride)).clk = e.clk :=
    (hbegun .clk (by decide)).symm.trans (hleaveKept .clk (by decide)).symm
  have hlast' : (rideBegun (leaveSearch { e with mm := { e.mm with rideFret := some (e.clk.fret + 2), rideDue := none } } .ride)).cfg = e.cfg :=
    (hbegun .cfg (by decide)).symm.trans (hleaveKept .cfg (by decide)).symm
  have hend := mm_rideBegun (leaveSearch { e with mm := { e.mm with rideFret := some (e.clk.fret + 2), rideDue := none } } .ride)
  rw [hleaveMm] at hend
  refine ⟨by rw [hend]; exact (congrArg ModeUnit.mode hmm), by rw [hend]; exact (congrArg ModeUnit.cause hmm), by rw [hend]; exact (congrArg ModeUnit.causeFrom hmm), ?_, by rw [hend], hlast.trans hclk, hlast'.trans hcfg⟩
  rw [hend, ← hclk]

theorem enterRide_of_idle {d : Dev} (hdue : d.mm.rideDue ≠ none) (hmode : d.mm.mode = .armed ∨ d.mm.mode = .run ∨ d.mm.mode = .hold) (hride : d.mm.rideAvailable = true) (hrun : d.seq.run = none) :
    enterRide d = enterMode d .ride .inputLoss 0 := by
  unfold enterRide
  rw [if_neg (by simp [hdue]), if_neg (by rcases hmode with h | h | h <;> simp [h]), if_neg (by simp [hride]), hrun]

/-! ### Return of the input (R44, R45) -/

/-- The input is noted present. -/
def returnNoted (d : Dev) : Dev :=
  { d with mm := { d.mm with inputPresent := true }, pins := { d.pins with psuOk := d.pins.psuOk || decide (rsF d 0x4000 1 1 = 1) } }

/-- What the return does in each mode. -/
def returnActs (d : Dev) (vin : Nat) : Dev :=
  match d.mm.mode with
  | .ride => setModeEvent d 2
  | .shutdown =>
    let at' := match d.seq.run with | some r => stepParam (runPlace r).1 (runPlace r).2 | none => 0
    let e := setModeEvent { d with mm := { d.mm with retInfo := some { vin := vin, step := at', fret := d.clk.fret } } } 3
    if arrivalBoots e then { e with mm := { e.mm with held := some .input } } else e
  | .cold => if arrivalBoots d then coldTrigger d .input .inputArrival else d
  | .boot => if arrivalBoots d then { d with mm := { d.mm with held := some .input } } else d
  | _ => d

theorem inputReturned_eq (d : Dev) (vin : Nat) :
    inputReturned d vin = if d.mm.mode == .off || d.mm.inputPresent then d else returnActs (capture (returnNoted d) (.modeInput 2)) vin := rfl

theorem inputReturned_acts {d : Dev} (hmode : d.mm.mode ≠ .off) (hinput : d.mm.inputPresent = false) (hcap : capturing d = false) (vin : Nat) :
    inputReturned d vin = returnActs (returnNoted d) vin := by
  have hcap' : capturing (returnNoted d) = false := (capturing_congr rfl).trans hcap
  rw [inputReturned_eq, if_neg (by simp [hmode, hinput]), capture_of_not_capturing hcap']

theorem returnActs_of_ride {d : Dev} (h : d.mm.mode = .ride) (vin : Nat) : returnActs d vin = setModeEvent d 2 := by
  rw [returnActs, h]

theorem returnActs_of_cold {d : Dev} (h : d.mm.mode = .cold) (vin : Nat) : returnActs d vin = if arrivalBoots d then coldTrigger d .input .inputArrival else d := by
  rw [returnActs, h]

/-- Settles O44, from the loss, the entry to RIDE and the return. -/
theorem inputLossAndReturn : Obligations.InputLossAndReturn := by
  intro s
  dsimp only
  refine ⟨fun stamp => ⟨fun hwait => congrArg (next s) (arrive_waits rfl hwait), fun hwait vin => congrArg (next s) (arrive_waits rfl hwait),
      fun hlate => ⟨congrArg (next s) (arrive_late rfl hlate), fun vin => congrArg (next s) (arrive_late rfl hlate)⟩⟩,
    fun stamp hacts hinput hmode hcap hsearch => ⟨fun hride => ?_, fun hride hrun hafter => ?_⟩, fun hdue hmode hride hrun => ?_,
    fun stamp vin hacts hinput hcap => ⟨fun hmode => ?_, fun hmode hboots hoff => ?_, fun hmode hboots => ?_⟩⟩
  · obtain ⟨hmm, hst, hkeeps⟩ := inputLost_rides hinput hmode hcap hsearch hride
    refine ⟨_, congrArg (next s) (arrive_acts (m := .inputLoss) rfl hacts.1 hacts.2), ?_⟩
    change (inputLost s.dev).mm.mode = _ ∧ (inputLost s.dev).mm.inputPresent = _ ∧ (inputLost s.dev).mm.rideDue = _ ∧ (inputLost s.dev).mm.event = _ ∧ _
    rw [hmm]
    exact ⟨hmode, rfl, rfl, rfl, hst, hkeeps⟩
  · exact ⟨_, congrArg (next s) (arrive_acts (m := .inputLoss) rfl hacts.1 hacts.2), inputLost_safe hinput hmode hcap hsearch hride hrun hafter⟩
  · obtain ⟨hto, hcause, hfrom, hfret, hclear, hclk, hcfg⟩ := enterMode_ride_spec (d := s.dev) (fun h => by rw [h] at hmode; simp at hmode) .inputLoss 0
    exact ⟨_, congrArg (next s) (enterRide_of_idle hdue hmode hride hrun), hto, hcause, hfrom, hfret, hclear, by rw [hclk], hcfg⟩
  · have hdo := inputReturned_acts (d := s.dev) (by rw [hmode]; decide) hinput hcap vin
    exact congrArg (next s) ((arrive_acts (m := .inputReturn vin) rfl hacts.1 hacts.2).trans (hdo.trans (returnActs_of_ride (d := returnNoted s.dev) hmode vin)))
  · have hdo := inputReturned_acts (d := s.dev) (by rw [hmode]; decide) hinput hcap vin
    exact congrArg (next s) ((arrive_acts (m := .inputReturn vin) rfl hacts.1 hacts.2).trans (hdo.trans ((returnActs_of_cold (d := returnNoted s.dev) hmode vin).trans ((if_pos hboots).trans (coldTrigger_boots (d := returnNoted s.dev) hoff _ _)))))
  · have hdo := inputReturned_acts (d := s.dev) (by rw [hmode]; decide) hinput hcap vin
    have hnot : ¬ arrivalBoots (returnNoted s.dev) = true := fun h => Bool.false_ne_true (hboots.symm.trans h)
    exact congrArg (next s) ((arrive_acts (m := .inputReturn vin) rfl hacts.1 hacts.2).trans (hdo.trans ((returnActs_of_cold (d := returnNoted s.dev) hmode vin).trans (if_neg hnot))))

end Sys2Proof.Machine
end

section
/-!
Register accesses of the bus, and the transfers that the management port refuses (O55, O57).
-/
namespace Sys2Proof.Machine
open Sys2Proof.Safety

/-! ### Staged copies (R195, R196) -/

theorem regReset_setStaged (d : Dev) (off : Nat) (v : Word) (o : Nat) : regReset (setStaged d off v) o = regReset d o := by rw [regReset_congr (setStaged d off v) d rfl]

theorem stagedOf_setStaged_same (d : Dev) (off : Nat) (v : Word) : stagedOf (setStaged d off v) off = v := by
  rw [stagedOf, regReset_setStaged]
  exact (Sparse.get_set _ _ _ _ _).trans (if_pos rfl)

theorem stagedOf_setStaged_other (d : Dev) {off o : Nat} (v : Word) (h : o ≠ off) : stagedOf (setStaged d off v) o = stagedOf d o := by
  rw [stagedOf, regReset_setStaged]
  exact Sparse.get_set_other _ _ _ _ h

theorem inForce_setStaged (d : Dev) (off : Nat) (v : Word) (o : Nat) : inForce (setStaged d off v) o = inForce d o := by
  rw [inForce, regReset_setStaged]
  rfl

/-- The blocks whose words are staged, but for those that act at once: the strings, the phases and the charger. -/
def stagedBlock (off : Nat) : Prop :=
  (0x2000 ≤ off ∧ off < 0x3000 ∧ off % 64 ≠ 0x30 ∧ off % 64 ≠ 0x3C) ∨ (0x8000 ≤ off ∧ off < 0xA000) ∨ (0x4000 ≤ off ∧ off < 0x4048)

theorem writeString_staged (d : Dev) {off : Nat} (v : Word) (hreg : off % 64 ≠ 0x30) (hevent : off % 64 ≠ 0x3C) (hmask : rsMask off ≠ 0) : writeString d off v = writeStaged d off v := by
  unfold writeString
  split
  next h => exact absurd h hreg
  next h => exact absurd h hevent
  next => exact if_neg hmask

theorem busWrite_staged {d : Dev} (held : List Nat) {off : Nat} (v : Word) (hreached : reached d off = true) (hblock : stagedBlock off) (hmask : rsMask off ≠ 0) :
    busWrite d held off v = writeStaged d off v := by
  unfold busWrite
  rw [if_neg (by simp [hreached])]
  rcases hblock with ⟨hlo, hhi, hreg, hevent⟩ | ⟨hlo, hhi⟩ | ⟨hlo, hhi⟩
  · rw [if_neg (by omega), if_neg (by omega), if_neg (by omega), if_pos hhi, writeString_staged d v hreg hevent hmask]
  · iterate 17 rw [if_neg (by omega)]
    rw [if_pos hhi, if_neg hmask]
  · iterate 7 rw [if_neg (by omega)]
    rw [if_pos (by omega), writeCharger, if_neg (by omega), if_neg hmask]

/-- Settles O55, from the place of each register in the map. -/
theorem registerAccessesWork : Obligations.RegisterAccessesWork := by
  intro s off v held
  refine ⟨fun hsched => congrArg (next s) (if_pos hsched), fun hnot => congrArg (next s) (if_pos (by simp [hnot])),
    fun hreached hblock hmask => ⟨fun hdue => ?_, fun hdue => ?_⟩, fun hreached => ?_, fun hreached => ?_⟩
  · exact congrArg (next s) ((busWrite_staged held v hreached hblock hmask).trans (if_pos hdue))
  · refine ⟨_, congrArg (next s) ((busWrite_staged held v hreached hblock hmask).trans (if_neg (by simp [hdue]))), stagedOf_setStaged_same _ _ _, inForce_setStaged _ _ _ _,
      fun o ho => stagedOf_setStaged_other _ _ ho, Laws.keeps_of_mask _ _ _ (Laws.mask_cfg _ _ _ (by decide))⟩
  · exact congrArg (next s) (if_neg (by simp [hreached]))
  · exact congrArg (next s) (if_neg (by simp [hreached]))

/-! ### Writes that the port refuses (R382, R383, R386) -/

theorem portWrite_short {d : Dev} {code n : Nat} {bs : List Byte} (h : bs.length < n) (act : Dev → List Byte → Dev) : portWrite d code n bs act = portBad d := if_pos h

theorem portWrite_long {d : Dev} {code n : Nat} {bs : List Byte} (h : n + 1 < bs.length) (hpec : (bs.getD n 0).toNat = writePec d code (bs.take n)) (act : Dev → List Byte → Dev) :
    portWrite d code n bs act = portBad d := by
  unfold portWrite
  dsimp only
  rw [if_neg (by omega), if_neg (by omega), if_neg (by simpa using hpec), if_pos h]

theorem portWrite_wrongPec {d : Dev} {code n : Nat} {bs : List Byte} (h : n < bs.length) (hpec : (bs.getD n 0).toNat ≠ writePec d code (bs.take n)) (act : Dev → List Byte → Dev) :
    portWrite d code n bs act = setMpEvent (portNack d) 2 := by
  unfold portWrite
  dsimp only
  rw [if_neg (by omega), if_neg (by omega), if_pos hpec]

theorem portWrite_noPec {d : Dev} {code n : Nat} {bs : List Byte} (h : bs.length = n) (hpolicy : fld (rwOf d 0x7800) 0 1 = 1) (act : Dev → List Byte → Dev) :
    portWrite d code n bs act = setMpEvent { d with mp := { d.mp with pecMissing := true } } 2 := by
  unfold portWrite
  dsimp only
  rw [if_neg (by omega), if_pos h]
  exact if_pos hpolicy

/-- The writes of the port with their codes and their counts of bytes. -/
def portWrites (bs : List Byte) (held : List Nat) : List (Instr × Nat × Nat) :=
  [(.checkin bs, 0x81, 0), (.faultClear bs held, 0x82, 2), (.complete bs, 0xC9, 4), (.windowAddress (some bs), 0xC0, 2), (.windowData (some bs) held, 0xC1, 4), (.windowNext (some bs) held, 0xC2, 4), (.modeRequest bs, 0x80, 2)]

/-- Each write of the port checks its bytes before anything else. -/
theorem exec_portWrites (s : State) (bs : List Byte) (held : List Nat) (hp : powered s.dev .mgmt = true) :
    ∀ r ∈ portWrites bs held, ∃ act, exec r.1 s = next s (portEnd (portWrite (portBegin s.dev) r.2.1 r.2.2 bs act)) := by
  have hdo : ∀ (code n : Nat) (act : Dev → List Byte → Dev), transact s.dev (fun d => portWrite d code n bs act) = portEnd (portWrite (portBegin s.dev) code n bs act) := fun _ _ _ => transact_of_powered hp _
  intro r hr
  simp only [portWrites, List.mem_cons, List.not_mem_nil, or_false] at hr
  rcases hr with rfl | rfl | rfl | rfl | rfl | rfl | rfl <;> exact ⟨_, congrArg (next s) (hdo _ _ _)⟩

/-! ### Held lines (R385, R397) -/

theorem bit_withBit {b : Nat} (hb : b < 32) (w : Word) : bit (withBit w b) b = true := by
  simp [bit, withBit, hb]

theorem mp_setMpEvent (d : Dev) (b : Nat) : (setMpEvent d b).mp = { d.mp with event := withBit d.mp.event b } := by
  unfold setMpEvent
  rw [occur_mp]

theorem mask_setMpEvent (d : Dev) (b : Nat) : Laws.mask [.mp, .int] (setMpEvent d b) = Laws.mask [.mp, .int] d := Laws.mask_setMpEvent _ _ _ (by decide) (by decide)

/-- The device with a transaction under way where a line was held in one. -/
def heldUnder (d : Dev) (code : Nat) : Dev := if code = 0xFFFFFFFF then d else portBegin d

theorem mask_heldUnder (d : Dev) (code : Nat) : Laws.mask [.mp] (heldUnder d code) = Laws.mask [.mp] d := by
  unfold heldUnder
  rw [Laws.mask_ite, Laws.mask_portBegin _ _ (by decide), ite_self]

theorem busTimeout_of_long {d : Dev} (hp : powered d .mgmt = true) {us : Nat} (hlong : 25000 < us) (b src code index : Nat) :
    busTimeout d b src us code index = detect (setMpEvent (heldUnder d code) b) src us code index := by
  unfold busTimeout
  rw [if_neg (by simp [hp, hlong])]
  rfl

theorem busTimeout_spec {d : Dev} {b : Nat} (hb : b < 32) (src us code index : Nat) :
    bit (detect (setMpEvent (heldUnder d code) b) src us code index).mp.event b = true ∧
      (detect (setMpEvent (heldUnder d code) b) src us code index).flt.inbox = d.flt.inbox ++ [{ due := d.clk.tick + 1, code := src, p0 := us, p1 := code, p2 := index }] ∧
      keeps [.mp, .int, .flt] d (detect (setMpEvent (heldUnder d code) b) src us code index) := by
  have hmask : Laws.mask [.mp, .int, .flt] (setMpEvent (heldUnder d code) b) = Laws.mask [.mp, .int, .flt] d :=
    (mask_of_subset (by decide) (mask_setMpEvent _ _)).trans (mask_of_subset (by decide) (mask_heldUnder d code))
  have hmask' : Laws.mask [.mp, .int] (setMpEvent (heldUnder d code) b) = Laws.mask [.mp, .int] d :=
    (mask_setMpEvent _ _).trans (mask_of_subset (by decide) (mask_heldUnder d code))
  have hkeeps := Laws.keeps_of_mask _ _ _ hmask'
  have hflt : (setMpEvent (heldUnder d code) b).flt = d.flt := (hkeeps .flt (by decide)).symm
  have hclk : (setMpEvent (heldUnder d code) b).clk = d.clk := (hkeeps .clk (by decide)).symm
  refine ⟨?_, ?_, Laws.keeps_of_mask _ _ _ ((Laws.mask_detect _ _ _ _ _ _ (by decide)).trans hmask)⟩
  · change bit (setMpEvent (heldUnder d code) b).mp.event b = true
    rw [mp_setMpEvent]
    exact bit_withBit hb _
  · unfold detect
    dsimp only
    rw [hflt, hclk]

/-- Settles O57, from the checks of a write in their order. -/
theorem portRefusesBadTransfers : Obligations.PortRefusesBadTransfers := by
  intro s held bs hp begun ended none'
  refine ⟨fun r hr => ?_, fun code hcode => ?_, fun us code index hlong => ?_, fun us code index hlong => ?_⟩
  · obtain ⟨act, hexec⟩ := exec_portWrites s bs held hp r hr
    intro pec
    refine ⟨fun h => ?_, fun h hpec => ?_, fun h hpec => ?_, fun h hpolicy => ?_⟩
    · exact hexec.trans (congrArg (fun e => next s (portEnd e)) (portWrite_short h act))
    · exact hexec.trans (congrArg (fun e => next s (portEnd e)) (portWrite_long (d := portBegin s.dev) h hpec act))
    · exact hexec.trans (congrArg (fun e => next s (portEnd e)) (portWrite_wrongPec (d := portBegin s.dev) h hpec act))
    · exact hexec.trans (congrArg (fun e => next s (portEnd e)) (portWrite_noPec h (by rw [rwOf_portBegin]; exact hpolicy) act))
  · have hdo : transact s.dev (fun d => portBad (portNack d)) = portEnd (portBad (portNack (portBegin s.dev))) := transact_of_powered hp _
    exact congrArg (next s) ((if_neg (by simpa using hcode)).trans hdo)
  · exact ⟨congrArg (next s) (busTimeout_of_long hp hlong _ _ _ _), congrArg (next s) (busTimeout_of_long hp hlong _ _ _ _)⟩
  · exact ⟨⟨_, congrArg (next s) (busTimeout_of_long hp hlong _ _ _ _), busTimeout_spec (by decide) _ _ _ _⟩,
      ⟨_, congrArg (next s) (busTimeout_of_long hp hlong _ _ _ _), busTimeout_spec (by decide) _ _ _ _⟩⟩

end Sys2Proof.Machine
end

section
/-!
Writes and mode requests of the management port (O58, O60).
-/
namespace Sys2Proof.Machine
open Sys2Proof.Safety

/-! ### Clears (R304, R305) -/

theorem flt_of_mask {qs : List Part} {d e : Dev} (h : Laws.mask qs e = Laws.mask qs d) (hflt : Part.flt ∉ qs) : e.flt = d.flt :=
  (Laws.keeps_of_mask qs d e h .flt hflt).symm

theorem mp_of_mask {qs : List Part} {d e : Dev} (h : Laws.mask qs e = Laws.mask qs d) (hmp : Part.mp ∉ qs) : e.mp = d.mp :=
  (Laws.keeps_of_mask qs d e h .mp hmp).symm

theorem srcOf_congr {d e : Dev} (h : e.flt.srcs = d.flt.srcs) (code : Nat) : srcOf e code = srcOf d code := by
  unfold srcOf
  rw [h]

theorem srcOf_updSrc_same (d : Dev) (code : Nat) (f : Source → Source) : srcOf (updSrc d code f) code = f (srcOf d code) :=
  (Sparse.get_set _ _ _ _ _).trans (if_pos rfl)

theorem status_updSrc_stands {f : Source → Source} (hf : ∀ s, (f s).status = s.status) (d : Dev) (code : Nat) : (srcOf (updSrc d code f) code).status = (srcOf d code).status := by
  rw [srcOf_updSrc_same, hf]

theorem flt_clearRecord (d : Dev) (i : SrcInfo) (code first : Nat) : (clearRecord d i code first).flt = d.flt :=
  flt_of_mask (qs := [.int, .rcd]) (Laws.mask_clearRecord _ _ _ _ _ (by decide) (by decide)) (by decide)

theorem clearStatus_of_clear {d : Dev} {code : Nat} (h : (srcOf d code).status = false) (held : List Nat) : clearStatus d held code = d := by
  unfold clearStatus
  split
  · rfl
  · exact if_pos (by simp [h])

/-- A status whose cause holds stays, whether it was raised in this tick or before (R304, R305). -/
theorem status_clearStatus_of_held {d : Dev} {held : List Nat} {code : Nat} (hcause : causeGone d held code = false) (hdue : raiseDue d code = false) (hset : (srcOf d code).status = true) :
    (srcOf (clearStatus d held code) code).status = true := by
  unfold clearStatus
  split
  · exact hset
  next i _ =>
    rw [if_neg (by simp [hset])]
    cases hfresh : freshNow d code with
    | none =>
      rw [if_pos (by simp [hcause, hdue])]
      have hflt : (setFltEvent { d with flt := { d.flt with refusedCount := sat 65535 (d.flt.refusedCount + 1), refusedCode := code } } 4).flt.srcs = d.flt.srcs := by
        unfold setFltEvent
        rw [occur_flt]
      rw [srcOf_congr hflt, hset]
    | some q =>
      rw [if_neg (by simp), statusCleared, hfresh]
      dsimp only
      split
      · exact hset
      · rw [srcOf_congr (congrArg Collector.srcs (flt_clearRecord _ _ _ _))]
        exact (status_updSrc_stands (f := fun s => { s with taken := q.taken, first := q.first, insts := q.insts, fret := fretLow d, fresh := some { q with prior := false } }) (fun _ => rfl) d code).trans hset

/-- A physical condition is read off the units, never off the port. -/
theorem conditionHolds_congr {d e : Dev} (hpwr : e.pwr = d.pwr) (hlk : e.lk = d.lk) (hseq : e.seq = d.seq) (hjr : e.jr = d.jr) (hring : e.ring = d.ring) (hchg : e.chg = d.chg)
    (hflt : e.flt = d.flt) (hstr : e.str = d.str) (hotp : e.otp = d.otp) (hcfg : e.cfg = d.cfg) (held : List Nat) (code : Nat) : conditionHolds e held code = conditionHolds d held code := by
  have hin : ∀ o, inForce e o = inForce d o := inForce_congr e d hotp (congrArg Regs.force hcfg)
  simp only [conditionHolds, course, kindOf, nPhases, firstPhase, strCapo, strU, lkU, rsF, vOv, cellMv, cells, srcOf, hin, hpwr, hlk, hseq, hjr, hring, hchg, hflt, hstr]
  rfl

theorem causeGone_portBegin (d : Dev) (held : List Nat) (code : Nat) : causeGone (portBegin d) held code = causeGone d held code := by
  unfold causeGone
  rw [conditionHolds_congr (d := d) (e := portBegin d) rfl rfl rfl rfl rfl rfl rfl rfl rfl rfl]

/-- FAULT_CLEAR of a known code (R392). -/
theorem clearFault_of_known {d : Dev} {code : Nat} (h : srcInfo code ≠ none) (held : List Nat) :
    clearFault d held code = { clearStatus d held code with mp := { (clearStatus d held code).mp with clearCode := code, clearResult := if (srcOf (clearStatus d held code) code).status then 2 else 1 } } :=
  if_neg (by simp [h])

theorem clearFault_of_unknown {d : Dev} {code : Nat} (h : srcInfo code = none) (held : List Nat) :
    clearFault d held code = { d with mp := { d.mp with clearCode := code, clearResult := 3 } } := if_pos (by simp [h])

theorem clearFault_spec {d : Dev} {code : Nat} (h : srcInfo code ≠ none) (held : List Nat) :
    (clearFault d held code).mp.clearCode = code ∧ (clearFault d held code).mp.clearResult = (if (srcOf (clearFault d held code) code).status = true then 2 else 1) ∧
      ((srcOf d code).status = false → (clearFault d held code).mp.clearResult = 1) ∧
      (causeGone d held code = false → raiseDue d code = false → (srcOf d code).status = true → (clearFault d held code).mp.clearResult = 2) ∧
      Laws.mask [.flt, .int, .mp, .out, .pins, .rcd] (clearFault d held code) = Laws.mask [.flt, .int, .mp, .out, .pins, .rcd] d := by
  rw [clearFault_of_known h held]
  refine ⟨rfl, rfl, fun hclear => ?_, fun hcause hdue hset => ?_, ?_⟩
  · exact if_neg (by rw [clearStatus_of_clear hclear, hclear]; decide)
  · exact if_pos (status_clearStatus_of_held hcause hdue hset)
  · rw [Laws.mask_mp _ _ _ (by decide), Laws.mask_clearStatus _ _ _ _ (by decide) (by decide) (by decide) (by decide) (by decide)]

/-! ### The register window (R393) -/

theorem windowWrite_of_writable {d : Dev} (hopen : fld (rwOf d 0x7800) 1 1 = 1) (hself : d.mp.window ≠ 0x7800) (hpad : d.mp.window ≠ 0x7804) (hreached : reached d d.mp.window = true)
    (held : List Nat) (v : Word) : windowWrite d held v = busWrite d held d.mp.window v := by
  unfold windowWrite
  exact if_neg (by simp [rwF, hopen, hself, hpad, hreached])

theorem windowWrite_of_not_writable {d : Dev} (h : ¬ (fld (rwOf d 0x7800) 1 1 = 1 ∧ d.mp.window ≠ 0x7800 ∧ d.mp.window ≠ 0x7804 ∧ reached d d.mp.window = true)) (held : List Nat) (v : Word) :
    windowWrite d held v = { d with mp := { d.mp with windowRefused := true } } := by
  have hone : fld (rwOf d 0x7800) 1 1 < 2 := Nat.mod_lt _ (by decide)
  unfold windowWrite
  refine if_pos ?_
  refine Classical.byContradiction fun hcon => ?_
  refine h ?_
  simp only [rwF, Bool.or_eq_true, beq_iff_eq, Bool.not_eq_true', not_or, Bool.not_eq_false] at hcon
  obtain ⟨⟨⟨hopen, hself⟩, hpad⟩, hreached⟩ := hcon
  have hne : ¬ fld (rwOf d 0x7800) 1 1 = 0 := fun h0 => hopen (decide_eq_true h0)
  exact ⟨by omega, hself, hpad, hreached⟩

theorem regDomain_congr {d e : Dev} (hotp : e.otp = d.otp) (hcfg : e.cfg = d.cfg) (off : Nat) : regDomain e off = regDomain d off := by
  have hforce : ∀ o, inForce e o = inForce d o := inForce_congr e d hotp (congrArg Regs.force hcfg)
  unfold regDomain kindOf regionOfString firstPhase rsF
  simp only [hforce]

theorem reached_congr {d e : Dev} (hpwr : e.pwr = d.pwr) (hotp : e.otp = d.otp) (hcfg : e.cfg = d.cfg) (off : Nat) : reached e off = reached d off := by
  unfold reached powered
  rw [regDomain_congr hotp hcfg, hpwr]

theorem reached_portBegin (d : Dev) (off : Nat) : reached (portBegin d) off = reached d off := reached_congr (d := d) (e := portBegin d) rfl rfl rfl off

theorem busRead_unreached {d : Dev} (held : List Nat) {off : Nat} (h : reached d off = false) : busRead d held off = { d with bus := 0 } := by
  rw [busRead, h]
  rfl

/-! ### RECORD_SELECT (R387, R388) -/

theorem selectRecords_of_right (d : Dev) {lo hi n : Byte} (hslot : lo.toNat + 256 * hi.toNat ≤ 8191) (hlow : 1 ≤ n.toNat) (hhigh : n.toNat ≤ 7) :
    selectRecords d [lo, hi, n, 0] = { d with mp := { d.mp with slot := lo.toNat + 256 * hi.toNat, count := n.toNat } } := by
  have hvalue : leValue ([lo, hi, n, 0].take 2) = lo.toNat + 256 * hi.toNat := rfl
  unfold selectRecords
  rw [hvalue]
  have hwrong : (decide (8191 < lo.toNat + 256 * hi.toNat ∨ 7 < n.toNat) || ([lo, hi, n, 0].getD 3 0 : Byte) != 0) = false := by simp; omega
  have hn : ([lo, hi, n, 0].getD 2 0).toNat = n.toNat := rfl
  simp only [hn, hwrong, show ¬ n.toNat = 0 by omega, if_false, Bool.false_eq_true, Bool.false_or, beq_iff_eq]

theorem selectRecords_of_none (d : Dev) {lo hi n : Byte} (hslot : lo.toNat + 256 * hi.toNat ≤ 8191) (hn : n = 0) : selectRecords d [lo, hi, n, 0] = portZero d := by
  subst hn
  have hvalue : leValue ([lo, hi, 0, 0].take 2) = lo.toNat + 256 * hi.toNat := rfl
  unfold selectRecords
  rw [hvalue]
  have hwrong : (decide (8191 < lo.toNat + 256 * hi.toNat ∨ 7 < (0 : Byte).toNat) || ([lo, hi, 0, 0].getD 3 0 : Byte) != 0) = false := by simp; omega
  have hn : ([lo, hi, 0, 0].getD 2 0).toNat = 0 := rfl
  simp only [hn, if_true, beq_self_eq_true, Bool.or_true]
  simp only [show ((0 : Byte).toNat) = 0 from rfl] at hwrong
  simp only [hwrong, Bool.false_eq_true, if_false]

theorem selectRecords_of_wrong (d : Dev) {lo hi n : Byte} (hwrong : 8191 < lo.toNat + 256 * hi.toNat ∨ 7 < n.toNat) (hn : n ≠ 0) : selectRecords d [lo, hi, n, 0] = portBad d := by
  have hvalue : leValue ([lo, hi, n, 0].take 2) = lo.toNat + 256 * hi.toNat := rfl
  have hcount : ¬ n.toNat = 0 := fun h => hn (BitVec.eq_of_toNat_eq h)
  unfold selectRecords
  rw [hvalue]
  have hbad : (decide (8191 < lo.toNat + 256 * hi.toNat ∨ 7 < n.toNat) || ([lo, hi, n, 0].getD 3 0 : Byte) != 0) = true := by simp only [hwrong, decide_true, Bool.true_or]
  have hn' : ([lo, hi, n, 0].getD 2 0).toNat = n.toNat := rfl
  simp only [hn', hbad, hcount, if_false, if_true, Bool.true_or]

/-! ### O58 -/

/-- Settles O58: a good write executes, and what it executes is its command's. -/
theorem portWritesExecute : Obligations.PortWritesExecute := by
  intro s held bs hp begun ended good value answers off writable on
  have hgood : ∀ {code n}, good code n → goodWrite (portBegin s.dev) code n bs := fun h => goodWrite_portBegin h
  have hexec : ∀ (f : Dev → Dev), transact s.dev f = ended (f begun) := fun f => transact_of_powered hp f
  have hwrite : ∀ {code n} (act : Dev → List Byte → Dev), good code n → transact s.dev (fun d => portWrite d code n bs act) = ended (act begun (bs.take n)) := fun act h =>
    (hexec _).trans (congrArg ended (portWrite_of_goodWrite (hgood h) act))
  have hwritable : writable → ∀ v, windowWrite begun held v = busWrite begun held off v := fun ⟨hopen, hself, hpad, hreached⟩ v =>
    windowWrite_of_writable (d := portBegin s.dev) (by rw [rwOf_portBegin]; exact hopen) hself hpad (by rw [reached_portBegin]; exact hreached) held v
  have hrefused : ¬ writable → ∀ v, windowWrite begun held v = { begun with mp := { begun.mp with windowRefused := true } } := fun h v =>
    windowWrite_of_not_writable (d := portBegin s.dev) (by rw [rwOf_portBegin, reached_portBegin]; exact h) held v
  refine ⟨fun hg => ⟨fun hslot => ?_, fun hslot => ?_⟩, fun hg => ⟨fun hinfo => ?_, fun hinfo => ?_⟩, fun hg => congrArg (next s) (hwrite _ hg), fun hg => congrArg (next s) (hwrite _ hg),
    congrArg (next s) (hexec _), fun hg => ⟨fun hw => ?_, fun hw => ?_⟩, fun hg => ⟨fun hw => ?_, fun hw => ?_⟩, congrArg (next s) (hexec _), congrArg (next s) (hexec _), fun hnot => ?_, fun lo hi n hbs hpolicy => ?_⟩
  · exact congrArg (next s) ((hwrite _ hg).trans (congrArg ended (if_pos hslot)))
  · exact congrArg (next s) ((hwrite _ hg).trans (congrArg ended (if_neg (by simp [begun, wdSlot7, hslot]))))
  · exact congrArg (next s) ((hwrite _ hg).trans (congrArg ended (clearFault_of_unknown hinfo held)))
  · obtain ⟨hcode, hresult, hclear, hheld, hmask⟩ := clearFault_spec (d := begun) hinfo held
    rw [show causeGone begun held (value 2) = causeGone s.dev held (value 2) from causeGone_portBegin _ _ _] at hheld
    refine ⟨_, congrArg (next s) (hwrite _ hg), hcode, hresult, hclear, hheld, Laws.keeps_of_mask _ _ _ ?_⟩
    exact (mask_portEnd _ _ (by decide)).trans (hmask.trans (Laws.mask_portBegin _ _ (by decide)))
  · exact congrArg (next s) ((hwrite _ hg).trans (congrArg ended (hwritable hw _)))
  · exact congrArg (next s) ((hwrite _ hg).trans (congrArg ended (hrefused hw _)))
  · exact congrArg (next s) ((hwrite _ hg).trans (congrArg (fun e => ended (on e)) (hwritable hw _)))
  · exact congrArg (next s) ((hwrite _ hg).trans (congrArg (fun e => ended (on e)) (hrefused hw _)))
  · have hread : answers (.windowData none held) (busRead begun held off) := congrArg (next s) (hexec _)
    exact hread.trans (congrArg (fun e => next s (ended e)) (busRead_unreached held ((reached_portBegin _ _).trans hnot)))
  · subst hbs
    intro slot
    have hg : goodWrite begun 0x42 5 [4, lo, hi, n, 0] := goodWrite_portBegin (d := s.dev) (Or.inl ⟨rfl, hpolicy⟩)
    have hselect : ∀ {e}, selectRecords begun [lo, hi, n, 0] = e → answers (.recordSelect [4, lo, hi, n, 0]) e := fun {e} h =>
      congrArg (next s) ((hexec _).trans (congrArg ended ((recordSelect_of_goodWrite rfl hg).trans h)))
    exact ⟨fun hslot hlow hhigh => hselect (selectRecords_of_right _ hslot hlow hhigh), fun hslot hn => hselect (selectRecords_of_none _ hslot hn), fun hwrong hn => hselect (selectRecords_of_wrong _ hwrong hn)⟩

/-! ### Mode requests (R389–R391) -/

/-- The slot of a target. -/
def slotFor (d : Dev) (t : Nat) : MpSlot := if urgentTarget t then d.mp.urgent else d.mp.ordinary

/-- The other slot. -/
def slotBeside (d : Dev) (t : Nat) : MpSlot := if urgentTarget t then d.mp.ordinary else d.mp.urgent

theorem slotFor_updSlot (d : Dev) (t : Nat) (f : MpSlot → MpSlot) : slotFor (updSlot d t f) t = f (slotFor d t) := by
  unfold slotFor updSlot
  split <;> rfl

theorem slotBeside_updSlot (d : Dev) (t : Nat) (f : MpSlot → MpSlot) : slotBeside (updSlot d t f) t = slotBeside d t := by
  unfold slotBeside updSlot
  split <;> rfl

theorem slotFor_congr {d e : Dev} {t : Nat} (hurgent : e.mp.urgent = d.mp.urgent) (hordinary : e.mp.ordinary = d.mp.ordinary) : slotFor e t = slotFor d t := by
  unfold slotFor
  rw [hurgent, hordinary]

theorem slotBeside_congr {d e : Dev} {t : Nat} (hurgent : e.mp.urgent = d.mp.urgent) (hordinary : e.mp.ordinary = d.mp.ordinary) : slotBeside e t = slotBeside d t := by
  unfold slotBeside
  rw [hurgent, hordinary]

theorem mask_updSlot (d : Dev) (t : Nat) (f : MpSlot → MpSlot) : Laws.mask [.mp] (updSlot d t f) = Laws.mask [.mp] d := by
  unfold updSlot
  split <;> exact Laws.mask_mp _ _ _ (by decide)

theorem urgentTarget_iff (t : Nat) : urgentTarget t = true ↔ t = 10 ∨ t = 9 ∨ t = 0 := by
  simp [urgentTarget, or_assoc]

/-- The request that two bytes make. -/
def requestOf (t g : Byte) : MpSlot := { st := .waiting, tag := g.toNat, target := t.toNat % 16, reserved := t.toNat / 16 }

/-- A request whose slot is free. -/
def requestMade (d : Dev) (t g : Byte) : Dev :=
  let e := updSlot d (t.toNat % 16) (fun _ => requestOf t g)
  if e.mm.mode == .boot then
    (if urgentTarget (t.toNat % 16) && (requestOf t g).reserved == 0 then { e with waiting := e.waiting ++ [(e.clk.tick + 5, .request (requestOf t g))] } else refuseInBoot e (requestOf t g))
  else if requestRoom e then enterRequest e (requestOf t g)
  else e

theorem modeRequest_of_free {d : Dev} {t : Byte} (h : (slotFor d (t.toNat % 16)).st = .none ∨ (slotFor d (t.toNat % 16)).st = .done) (g : Byte) : modeRequest d [t, g] = requestMade d t g := by
  have hfree : ¬ ((slotFor d (t.toNat % 16)).st != .none && (slotFor d (t.toNat % 16)).st != .done) = true := by
    rcases h with h | h <;> simp [h]
  exact if_neg hfree

theorem modeRequest_of_busy {d : Dev} {t : Byte} (h : ¬ ((slotFor d (t.toNat % 16)).st = .none ∨ (slotFor d (t.toNat % 16)).st = .done)) (g : Byte) :
    modeRequest d [t, g] = { d with mp := { d.mp with requestBusy := true } } := by
  have hbusy : ((slotFor d (t.toNat % 16)).st != .none && (slotFor d (t.toNat % 16)).st != .done) = true := by
    simpa [not_or] using h
  exact if_pos hbusy

/-- The journal, the powers and the mode are as they were: room is judged of them. -/
theorem requestRoom_congr {d e : Dev} (hjr : e.jr = d.jr) (hpwr : e.pwr = d.pwr) : requestRoom e = requestRoom d := by
  unfold requestRoom journalFree ackWaits writing
  rw [hjr, hpwr]

/-! ### The request's place in the journal (R389) -/

theorem mem_placeEntry (now : Nat) (l : List Entry) (x : Entry) : x ∈ placeEntry now l x ∧ (∀ y ∈ l, y ∈ placeEntry now l x) ∧ (placeEntry now l x).length = l.length + 1 := by
  unfold placeEntry
  dsimp only
  generalize hk : l.length - _ = k
  refine ⟨by simp, fun y hy => ?_, ?_⟩
  · rw [← List.take_append_drop k l, List.mem_append] at hy
    rcases hy with hy | hy <;> simp [hy]
  · have hlen := congrArg List.length (List.take_append_drop k l)
    simp only [List.length_append, List.length_cons, List.length_nil] at hlen ⊢
    omega

/-- The entry of a request. -/
def requestEntry (d : Dev) (s : MpSlot) : Entry :=
  { idx := freeIdx (d.jr.primary ++ writing d), ring := 32, slot := 0, seq := 0, bind := 0, image := requestImage s, accTick := d.clk.tick + 1, accFret := (d.clk.fret * 32 + d.clk.tickInFret + 1) / 32 }

theorem requestEntry_idx (d : Dev) (s : MpSlot) : (requestEntry d s).idx = freeIdx (d.jr.primary ++ writing d) := by rw [requestEntry]

theorem enterRequest_eq {d : Dev} (h : capturing d = false) (s : MpSlot) :
    enterRequest d s = updSlot (mapJournal d (fun l => placeEntry (d.clk.tick + 1) l (requestEntry d s))) s.target (fun q => { q with st := .accepted, entry := some (requestEntry d s).idx }) := by
  have hcap : capturing (updSlot (mapJournal d (fun l => placeEntry (d.clk.tick + 1) l (requestEntry d s))) s.target (fun q => { q with st := .accepted, entry := some (requestEntry d s).idx })) = false := by
    rw [capturing_congr (Laws.keeps_of_mask _ _ _ (mask_updSlot _ _ _) .cap (by decide)).symm]
    exact h
  exact captureEntry_of_not_capturing hcap _

theorem mask_mapJournal_jr (d : Dev) (f : List Entry → List Entry) : Laws.mask [.jr] (mapJournal d f) = Laws.mask [.jr] d := Laws.mask_jr _ _ _ (by decide)

theorem enterRequest_spec {d : Dev} (h : capturing d = false) (s : MpSlot) :
    slotFor (enterRequest d s) s.target = { slotFor d s.target with st := .accepted, entry := some (requestEntry d s).idx } ∧ slotBeside (enterRequest d s) s.target = slotBeside d s.target ∧
      (enterRequest d s).jr.primary = placeEntry (d.clk.tick + 1) d.jr.primary (requestEntry d s) ∧ (enterRequest d s).jr.secondary = placeEntry (d.clk.tick + 1) d.jr.secondary (requestEntry d s) ∧
      keeps [.mp, .jr] d (enterRequest d s) := by
  rw [enterRequest_eq h]
  have hjr := Laws.keeps_of_mask _ _ _ (mask_updSlot (mapJournal d (fun l => placeEntry (d.clk.tick + 1) l (requestEntry d s))) s.target (fun q => { q with st := .accepted, entry := some (requestEntry d s).idx })) .jr (by decide)
  refine ⟨slotFor_updSlot _ _ _, slotBeside_updSlot _ _ _, (congrArg Journal.primary hjr).symm, (congrArg Journal.secondary hjr).symm, Laws.keeps_of_mask _ _ _ ?_⟩
  exact (mask_of_subset (by decide) (mask_updSlot _ _ _)).trans (mask_of_subset (by decide) (mask_mapJournal_jr _ _))

theorem lt_two_pow_of_le {n k m : Nat} (h : n < 2 ^ k) (hkm : k ≤ m) : n < 2 ^ m := Nat.lt_of_lt_of_le h (Nat.pow_le_pow_right (by decide) hkm)

theorem requestImage_fields {s : MpSlot} (htarget : s.target < 16) (hreserved : s.reserved < 16) :
    fld (requestImage s) 0 4 = 5 ∧ fld (requestImage s) 64 4 = s.target ∧ fld (requestImage s) 68 4 = s.reserved := by
  have hvalue : (requestImage s).toNat = 5 + 4 * 2 ^ 16 + s.target * 2 ^ 64 + s.reserved * 2 ^ 68 := by
    unfold requestImage
    rw [BitVec.toNat_ofNat, Nat.shiftLeft_eq, Nat.shiftLeft_eq, Nat.shiftLeft_eq]
    exact Nat.mod_eq_of_lt (lt_two_pow_of_le (k := 72) (by omega) (by decide))
  unfold fld
  rw [hvalue]
  simp only [Nat.shiftRight_eq_div_pow]
  omega

/-! ### Requests in BOOT (R391) -/

/-- The targets that BOOT refuses as such; the others are BAD_FIELD. -/
def refusedTargets : List Nat := [3, 4, 5, 6, 8, 11]

/-- The status of a request that BOOT does not take. -/
def bootStatus (s : MpSlot) : Status := if s.reserved = 0 ∧ s.target ∈ refusedTargets then .modeRefused else .badField

theorem ofCode_refused : ∀ t < 16, urgentTarget t = false →
    (match Mode.ofCode t with | some m => (if m == .cold || m == .boot || m == .ride then Status.badField else .modeRefused) | none => .badField) = if t ∈ refusedTargets then Status.modeRefused else .badField := by
  decide

theorem refuseInBoot_eq (d : Dev) {s : MpSlot} (htarget : s.target < 16) (hordinary : urgentTarget s.target = false) : refuseInBoot d s = doneNow d s (bootStatus s) .boot .boot := by
  have hcode := ofCode_refused s.target htarget hordinary
  unfold refuseInBoot bootStatus
  split
  next m hzero hmode =>
    rw [hmode] at hcode
    rw [hzero]
    simp only [true_and]
    rw [← hcode]
    dsimp only
    split <;> rfl
  next hnot =>
    cases hmode : Mode.ofCode s.target with
    | none =>
      rw [hmode] at hcode
      dsimp only at hcode
      split
      next h => rw [if_pos h.2] at hcode; cases hcode
      next => rfl
    | some m => rw [if_neg (fun h => hnot m h.1 hmode)]

theorem doneNow_spec (d : Dev) (s : MpSlot) (st : Status) (frm dest : Mode) :
    slotFor (doneNow d s st frm dest) s.target = { slotFor d s.target with st := .done, status := st.code, frm := frm.code, dest := dest.code } ∧ bit (doneNow d s st frm dest).mp.event 3 = true ∧
      Laws.mask [.mp, .int] (doneNow d s st frm dest) = Laws.mask [.mp, .int] d := by
  unfold doneNow
  refine ⟨?_, ?_, (mask_setMpEvent _ _).trans (mask_of_subset (by decide) (mask_updSlot _ _ _))⟩
  · rw [slotFor_congr (d := updSlot d s.target (fun s => { s with st := .done, status := st.code, frm := frm.code, dest := dest.code })) (by rw [mp_setMpEvent]) (by rw [mp_setMpEvent])]
    exact slotFor_updSlot _ _ _
  · rw [mp_setMpEvent]
    exact bit_withBit (by decide) _

/-! ### What becomes of a request -/

theorem mode_updSlot (d : Dev) (t : Nat) (f : MpSlot → MpSlot) : (updSlot d t f).mm = d.mm := mm_of_mask (mask_updSlot d t f) (by decide)

theorem room_updSlot (d : Dev) (t : Nat) (f : MpSlot → MpSlot) : requestRoom (updSlot d t f) = requestRoom d := by
  have hkeeps := Laws.keeps_of_mask _ _ _ (mask_updSlot d t f)
  exact requestRoom_congr (hkeeps .jr (by decide)).symm (hkeeps .pwr (by decide)).symm

section
variable {d : Dev} (t g : Byte)

theorem requestMade_waits (hboot : d.mm.mode ≠ .boot) (hroom : requestRoom d = false) : requestMade d t g = updSlot d (t.toNat % 16) (fun _ => requestOf t g) := by
  unfold requestMade
  dsimp only
  rw [mode_updSlot, room_updSlot, if_neg (by simp [hboot]), if_neg (by simp [hroom])]

theorem requestMade_enters (hboot : d.mm.mode ≠ .boot) (hroom : requestRoom d = true) : requestMade d t g = enterRequest (updSlot d (t.toNat % 16) (fun _ => requestOf t g)) (requestOf t g) := by
  unfold requestMade
  dsimp only
  rw [mode_updSlot, room_updSlot, if_neg (by simp [hboot]), if_pos hroom]

theorem requestMade_refused (hboot : d.mm.mode = .boot) (hordinary : urgentTarget (t.toNat % 16) = false) :
    requestMade d t g = doneNow (updSlot d (t.toNat % 16) (fun _ => requestOf t g)) (requestOf t g) (bootStatus (requestOf t g)) .boot .boot := by
  rw [← refuseInBoot_eq (updSlot d (t.toNat % 16) (fun _ => requestOf t g)) (Nat.mod_lt _ (by decide)) hordinary]
  unfold requestMade
  dsimp only
  rw [mode_updSlot, if_pos (by simp [hboot]), if_neg (by simp [hordinary])]

theorem requestMade_delayed (hboot : d.mm.mode = .boot) (hurgent : urgentTarget (t.toNat % 16) = true) (hzero : t.toNat / 16 = 0) :
    requestMade d t g = (let e := updSlot d (t.toNat % 16) (fun _ => requestOf t g)
      { e with waiting := e.waiting ++ [(e.clk.tick + 5, .request (requestOf t g))] }) := by
  unfold requestMade
  dsimp only
  rw [mode_updSlot, if_pos (by simp [hboot])]
  exact if_pos (by simp [hurgent, requestOf, hzero])

end

theorem capturing_of_idle {d : Dev} (h : d.cap.st = .idle) : capturing d = false := by simp [capturing, h]

theorem code_bootStatus (t g : Byte) :
    (bootStatus (requestOf t g)).code = if t.toNat / 16 = 0 ∧ t.toNat % 16 ∈ [3, 4, 5, 6, 8, 11] then Status.modeRefused.code else Status.badField.code := apply_ite Status.code _ _ _

/-- A request that enters the journal (R389). -/
theorem requestMade_enters_spec {d : Dev} (t g : Byte) (hboot : d.mm.mode ≠ .boot) (hroom : requestRoom d = true) (hidle : d.cap.st = .idle) :
    ∃ x : Entry, slotFor (requestMade d t g) (t.toNat % 16) = { requestOf t g with st := .accepted, entry := some x.idx } ∧ slotBeside (requestMade d t g) (t.toNat % 16) = slotBeside d (t.toNat % 16) ∧
      x.ring = 32 ∧ x.st = .accepted ∧ x.accTick = d.clk.tick + 1 ∧ x.image = requestImage (requestOf t g) ∧ x.idx = freeIdx (d.jr.primary ++ writing d) ∧
      (requestMade d t g).jr.primary = placeEntry (d.clk.tick + 1) d.jr.primary x ∧ (requestMade d t g).jr.secondary = placeEntry (d.clk.tick + 1) d.jr.secondary x ∧
      Laws.mask [.mp, .jr] (requestMade d t g) = Laws.mask [.mp, .jr] d := by
  have hmask := mask_updSlot d (t.toNat % 16) (fun _ => requestOf t g)
  have hkeeps := Laws.keeps_of_mask _ _ _ hmask
  have hcap : capturing (updSlot d (t.toNat % 16) (fun _ => requestOf t g)) = false := (capturing_congr (hkeeps .cap (by decide)).symm).trans (capturing_of_idle hidle)
  have hjr : (updSlot d (t.toNat % 16) (fun _ => requestOf t g)).jr = d.jr := (hkeeps .jr (by decide)).symm
  have hclk : (updSlot d (t.toNat % 16) (fun _ => requestOf t g)).clk = d.clk := (hkeeps .clk (by decide)).symm
  have hset := slotFor_updSlot d (t.toNat % 16) (fun _ => requestOf t g)
  have hbeside := slotBeside_updSlot d (t.toNat % 16) (fun _ => requestOf t g)
  rw [requestMade_enters t g hboot hroom]
  generalize updSlot d (t.toNat % 16) (fun _ => requestOf t g) = e at *
  obtain ⟨hslot, hother, hprimary, hsecondary, -⟩ := enterRequest_spec hcap (requestOf t g)
  have hwriting : writing e = writing d := by rw [writing, writing, hjr]
  refine ⟨requestEntry e (requestOf t g), ?_, hother.trans hbeside, rfl, rfl, congrArg (fun c => c.tick + 1) hclk, rfl, ?_, ?_, ?_, ?_⟩
  · refine hslot.trans ?_
    rw [show slotFor e (requestOf t g).target = requestOf t g from hset]
  · rw [requestEntry_idx, hjr, hwriting]
  · rw [hprimary, hjr, hclk]
  · rw [hsecondary, hjr, hclk]
  · rw [enterRequest_eq hcap]
    exact ((mask_of_subset (by decide) (mask_updSlot _ _ _)).trans (mask_of_subset (by decide) (mask_mapJournal_jr _ _))).trans (mask_of_subset (by decide) hmask)

/-- A request that waited enters the journal (R390). -/
theorem enterRequest_of_idle {d : Dev} (hidle : d.cap.st = .idle) (s : MpSlot) :
    slotFor (enterRequest d s) s.target = { slotFor d s.target with st := .accepted, entry := some (requestEntry d s).idx } ∧ slotBeside (enterRequest d s) s.target = slotBeside d s.target ∧
      (enterRequest d s).jr.primary.length = d.jr.primary.length + 1 ∧ keeps [.mp, .jr] d (enterRequest d s) := by
  obtain ⟨hslot, hother, hprimary, -, hkeeps⟩ := enterRequest_spec (capturing_of_idle hidle) s
  exact ⟨hslot, hother, by rw [hprimary]; exact (mem_placeEntry _ _ _).2.2, hkeeps⟩

/-- Settles O60, from the place that a request finds. -/
theorem portRequestsEnterTheJournal : Obligations.PortRequestsEnterTheJournal := by
  intro s t g hp hpolicy begun urgent slotOf other free
  have hg : goodWrite begun 0x80 2 [t, g] := goodWrite_portBegin (d := s.dev) (Or.inl ⟨rfl, hpolicy⟩)
  have hexec : exec (.modeRequest [t, g]) s = next s (portEnd (modeRequest begun [t, g])) :=
    congrArg (next s) ((transact_of_powered hp _).trans (congrArg portEnd (portWrite_of_goodWrite hg _)))
  have hslot : ∀ d, slotOf d = slotFor d (t.toNat % 16) := fun d => ite_congr (propext (urgentTarget_iff _).symm) (fun _ => rfl) (fun _ => rfl)
  have hother : ∀ d, other d = slotBeside d (t.toNat % 16) := fun d => ite_congr (propext (urgentTarget_iff _).symm) (fun _ => rfl) (fun _ => rfl)
  have hfree' : free ↔ (slotFor begun (t.toNat % 16)).st = .none ∨ (slotFor begun (t.toNat % 16)).st = .done := by
    change (slotOf s.dev).st = .none ∨ (slotOf s.dev).st = .done ↔ _
    rw [hslot]
    exact Iff.rfl
  have hmade : free → exec (.modeRequest [t, g]) s = next s (portEnd (requestMade begun t g)) := fun h => hexec.trans (congrArg (fun e => next s (portEnd e)) (modeRequest_of_free (hfree'.1 h) g))
  have hbegun : Laws.mask [.mp] begun = Laws.mask [.mp] s.dev := Laws.mask_portBegin _ _ (by decide)
  have hend : ∀ {qs : List Part} (d : Dev), Part.mp ∈ qs → Laws.mask qs d = Laws.mask qs begun → keeps qs s.dev (portEnd d) := fun {qs} d hmp h =>
    Laws.keeps_of_mask _ _ _ ((mask_portEnd _ d hmp).trans (h.trans (Laws.mask_portBegin _ _ hmp)))
  have hset := slotFor_updSlot begun (t.toNat % 16) (fun _ => requestOf t g)
  have hbeside := slotBeside_updSlot begun (t.toNat % 16) (fun _ => requestOf t g)
  have hreserved : (requestOf t g).reserved < 16 := by
    have := t.isLt
    change t.toNat / 16 < 16
    omega
  simp only [hslot, hother]
  refine ⟨fun hbusy => ?_, fun hfree hboot hroom => ?_, fun hfree hboot hroom hidle => ?_, fun hfree hboot hordinary => ?_, fun hfree hboot hurgent hzero => ?_, fun hboot hroom hidle hwait htarget => ?_,
    fun hboot hroom hidle hurgent hwait htarget => ?_⟩
  · rw [hexec, modeRequest_of_busy (mt hfree'.2 hbusy) g]
    rfl
  · refine ⟨_, (hmade hfree).trans (congrArg (fun e => next s (portEnd e)) (requestMade_waits (d := begun) t g hboot hroom)), ?_, ?_, ?_, hbeside, hend _ (by decide) (mask_updSlot _ _ _)⟩
    · exact congrArg MpSlot.st hset
    · exact congrArg MpSlot.tag hset
    · exact congrArg MpSlot.target hset
  · obtain ⟨x, hslot', hother', hring, hst, htick, himage, hidx, hprimary, hsecondary, hmask⟩ := requestMade_enters_spec (d := begun) t g hboot hroom hidle
    obtain ⟨hmem, hold, hlen⟩ := mem_placeEntry (begun.clk.tick + 1) begun.jr.primary x
    rw [show begun.jr = s.dev.jr from rfl, show writing begun = writing s.dev from rfl] at hidx
    obtain ⟨hopcode, htarget, hrest⟩ := requestImage_fields (s := requestOf t g) (Nat.mod_lt _ (by decide)) hreserved
    refine ⟨_, x, hmade hfree, congrArg MpSlot.st hslot', congrArg MpSlot.tag hslot', congrArg MpSlot.entry hslot', hother', hring, hst, htick, by rw [himage]; exact hopcode,
      by rw [himage]; exact htarget, by rw [himage]; exact hrest, hidx, ?_, ?_, ?_, ?_, hend _ (by decide) hmask⟩
    · exact hprimary ▸ hmem
    · exact hsecondary ▸ (mem_placeEntry _ _ x).1
    · exact fun y hy => hprimary ▸ hold y hy
    · exact (congrArg List.length hprimary).trans hlen
  · have hordinary' : urgentTarget (t.toNat % 16) = false := by rw [← Bool.not_eq_true, urgentTarget_iff]; exact hordinary
    obtain ⟨hdone, hevent, hmask⟩ := doneNow_spec (updSlot begun (t.toNat % 16) (fun _ => requestOf t g)) (requestOf t g) (bootStatus (requestOf t g)) .boot .boot
    refine ⟨_, (hmade hfree).trans (congrArg (fun e => next s (portEnd e)) (requestMade_refused (d := begun) t g hboot hordinary')), congrArg MpSlot.st hdone, congrArg MpSlot.frm hdone, congrArg MpSlot.dest hdone,
      (congrArg MpSlot.status hdone).trans (code_bootStatus t g), hevent, hend _ (by decide) (hmask.trans (mask_of_subset (by decide) (mask_updSlot _ _ _)))⟩
  · have hkeeps := Laws.keeps_of_mask _ _ _ (mask_updSlot begun (t.toNat % 16) (fun _ => requestOf t g))
    have hwaiting : (updSlot begun (t.toNat % 16) (fun _ => requestOf t g)).waiting = s.dev.waiting := (hkeeps .waiting (by decide)).symm
    have hclk : (updSlot begun (t.toNat % 16) (fun _ => requestOf t g)).clk = s.dev.clk := (hkeeps .clk (by decide)).symm
    refine ⟨_, requestOf t g, (hmade hfree).trans (congrArg (fun e => next s (portEnd e)) (requestMade_delayed (d := begun) t g hboot ((urgentTarget_iff _).2 hurgent) hzero)), hset, rfl, rfl, rfl, hbeside, ?_,
      hend _ (by decide) ((Laws.mask_waiting _ _ _ (by decide)).trans (mask_of_subset (by decide) (mask_updSlot _ _ _)))⟩
    change (updSlot begun (t.toNat % 16) (fun _ => requestOf t g)).waiting ++ [((updSlot begun (t.toNat % 16) (fun _ => requestOf t g)).clk.tick + 5, Msg.request (requestOf t g))] = _
    rw [hwaiting, hclk]
  · have hdo : enqueueRequest s.dev = enterRequest s.dev s.dev.mp.urgent := by
      rw [enqueueRequest, if_neg (by simp [hp, hboot, hroom]), if_pos (by simp [hwait])]
    obtain ⟨hslot', hother', hlen, hkeeps⟩ := enterRequest_of_idle hidle s.dev.mp.urgent
    unfold slotFor at hslot'
    unfold slotBeside at hother'
    rw [if_pos htarget, if_pos htarget] at hslot' hother'
    exact ⟨_, congrArg (next s) hdo, congrArg MpSlot.st hslot', hother', hlen, hkeeps⟩
  · have hdo : enqueueRequest s.dev = enterRequest s.dev s.dev.mp.ordinary := by
      rw [enqueueRequest, if_neg (by simp [hp, hboot, hroom]), if_neg (by simp [hurgent]), if_pos (by simp [hwait])]
    obtain ⟨hslot', hother', hlen, hkeeps⟩ := enterRequest_of_idle hidle s.dev.mp.ordinary
    unfold slotFor at hslot'
    unfold slotBeside at hother'
    rw [if_neg (by simp [htarget]), if_neg (by simp [htarget])] at hslot' hother'
    exact ⟨_, congrArg (next s) hdo, congrArg MpSlot.st hslot', hother', hlen, hkeeps⟩

end Sys2Proof.Machine
end

section
/-!
The mode register where each die has lost the other (O56).
-/
namespace Sys2Proof.Machine
open Sys2Proof.Safety

/-- A device in DRONE whose control die is lost and has lost the power die. -/
def lostBothState : State := { State.reset with dev := { State.reset.dev with mm := { State.reset.dev.mm with mode := .drone, target := .drone }, pwr := { State.reset.dev.pwr with ctlLost := true, pwrLost := true } } }

/-- Its ID_MODE reads SAFE (R310). -/
theorem lostBothState_reads_safe : fld (w32 (idMode lostBothState.dev)) 0 4 = Mode.safe.code := by decide

/-- Refutes O56: the clause on ID_MODE asks for the code of the mode in every state, but a control die that has lost the power die and is lost to it
reads SAFE (R310), whatever the mode is: here DRONE. -/
theorem not_portReadsAnswer : ¬ Obligations.PortReadsAnswer := by
  unfold Obligations.PortReadsAnswer
  intro h
  obtain ⟨hreads, -⟩ := h
  obtain ⟨-, -, hmode, -⟩ := hreads lostBothState
  obtain ⟨hcode, -⟩ := hmode
  exact absurd (hcode.symm.trans lostBothState_reads_safe) (by decide)

end Sys2Proof.Machine
end

section
/-!
nALIVE and injection, the journal's copies, and the recorder (O50, O51, O52).
-/
namespace Sys2Proof.Machine
open Sys2Proof.Safety

/-! ### Fields of a word with one more bit set -/

theorem testBit_fld {w : Nat} (x : BitVec w) (lo n i : Nat) : (fld x lo n).testBit i = (decide (i < n) && x.getLsbD (lo + i)) := by
  unfold fld
  rw [Nat.testBit_mod_two_pow, Nat.testBit_shiftRight]
  rfl

/-- A bit outside a field does not show in it. -/
theorem fld_or_twoPow {w : Nat} (x : BitVec w) {lo n b : Nat} (h : b < lo ∨ lo + n ≤ b) : fld (x ||| BitVec.twoPow w b) lo n = fld x lo n := by
  refine Nat.eq_of_testBit_eq fun i => ?_
  rw [testBit_fld, testBit_fld, BitVec.getLsbD_or, BitVec.getLsbD_twoPow]
  by_cases hi : i < n
  · simp [show ¬ b = lo + i by omega]
  · simp [hi]

theorem bit_or_twoPow_other {w : Nat} (x : BitVec w) {b i : Nat} (h : i ≠ b) : bit (x ||| BitVec.twoPow w b) i = bit x i := by
  unfold bit
  rw [BitVec.getLsbD_or, BitVec.getLsbD_twoPow]
  simp [h.symm]

theorem bit_or_twoPow_same {w : Nat} (x : BitVec w) {b : Nat} (h : b < w) : bit (x ||| BitVec.twoPow w b) b = true := by
  unfold bit
  rw [BitVec.getLsbD_or, BitVec.getLsbD_twoPow]
  simp [h]

/-! ### nALIVE (R298–R300) -/

/-- The accumulator gives the next half-period (R298). -/
def naliveTimed (d : Dev) (t : Nat) : Dev := { d with flt := { d.flt with naliveAcc := t % 1000, naliveHalf := t / 1000 } }

/-- nALIVE takes its edge (R298). -/
def naliveEdge (d : Dev) : Dev := emit { d with flt := { d.flt with naliveLevel := !d.flt.naliveLevel } } (.nalive (!d.flt.naliveLevel))

theorem nalivePeriod_of_mode {d : Dev} (h : naliveMode d.mm.mode = true) :
    nalivePeriod d = if d.flt.naliveFrozen then naliveTimed d (d.flt.naliveAcc + 16384) else naliveEdge (naliveTimed d (d.flt.naliveAcc + 16384)) := by
  unfold nalivePeriod
  rw [if_neg (by simp [h])]
  rfl

/-- What a half-period leaves, with and without its edge. -/
theorem naliveTimed_spec (d : Dev) (t : Nat) :
    (naliveTimed d t).flt.naliveHalf = t / 1000 ∧ (naliveTimed d t).flt.naliveAcc = t % 1000 ∧ (naliveTimed d t).flt.naliveLevel = d.flt.naliveLevel ∧ (naliveTimed d t).out = d.out ∧
      keeps [.flt, .out] d (naliveTimed d t) :=
  ⟨rfl, rfl, rfl, rfl, Laws.keeps_of_mask _ _ _ (Laws.mask_flt _ _ _ (by decide))⟩

theorem naliveEdge_spec (d : Dev) (t : Nat) :
    (naliveEdge (naliveTimed d t)).flt.naliveHalf = t / 1000 ∧ (naliveEdge (naliveTimed d t)).flt.naliveAcc = t % 1000 ∧ (naliveEdge (naliveTimed d t)).flt.naliveLevel = !d.flt.naliveLevel ∧
      (naliveEdge (naliveTimed d t)).out = d.out ++ [.nalive (!d.flt.naliveLevel)] ∧ keeps [.flt, .out] d (naliveEdge (naliveTimed d t)) := by
  refine ⟨rfl, rfl, rfl, rfl, Laws.keeps_of_mask _ _ _ ?_⟩
  exact (Laws.mask_emit _ _ _ (by decide)).trans ((Laws.mask_flt _ (naliveTimed d t) _ (by decide)).trans (Laws.mask_flt _ _ _ (by decide)))

theorem followNalive_of_mode {d : Dev} (h : naliveMode d.mm.mode = true) : followNalive d = { d with flt := { d.flt with naliveFrozen := criticalSet d || d.flt.naliveTest } } := by
  unfold followNalive
  exact if_neg (by simp [h])

theorem writeNaliveTest_of_config {d : Dev} (h : d.mm.mode = .config) (on : Bool) :
    writeNaliveTest d on = { d with flt := { d.flt with naliveTest := on, naliveFrozen := criticalSet d || on } } := by
  unfold writeNaliveTest
  rw [if_pos (by simp [h]), followNalive_of_mode (by rw [h]; rfl)]
  rfl

/-! ### The armed injection (R306–R309) -/

/-- The fields of FLT_INJECT as a write leaves them. -/
def injectFields (c : Collector) (v : Word) : Collector :=
  { c with refused := c.refused && !bit v 17, cancelled := c.cancelled && !bit v 18, selChecker := fld v 0 4, selInst := fld v 4 8, selBits := fld v 12 2, selObserve := bit v 14 }

/-- The collector with the injection of its fields armed. -/
def injectArmed (c : Collector) : Collector :=
  { c with pending := true, checker := c.selChecker, inst := c.selInst, bits := c.selBits, observe := c.selObserve, resCode := 0, resReaction := 0, resObserved := false, resReal := false }

theorem writeInject_of_arm {d : Dev} (hp : powered d .mgmt = true) (hnone : d.flt.pending = false) {v : Word} (harm : bit v 15 = true) (hzero : fld v 0 4 ≠ 0) (htwo : fld v 0 4 ≠ 2) :
    writeInject d v = if injectMode d (bit v 14) && instanceOk d (fld v 0 4) (fld v 4 8) then { d with flt := injectArmed (injectFields d.flt v) } else { d with flt := { injectFields d.flt v with refused := true } } := by
  unfold writeInject
  rw [if_neg (by simp [hp])]
  dsimp only
  rw [if_neg (by simp [harm])]
  have hzero' : (fld v 0 4 == 0) = false := by simpa using hzero
  have htwo' : (fld v 0 4 == 2) = false := by simpa using htwo
  refine ite_congr (congrArg (· = true) ?_) (fun _ => rfl) (fun _ => rfl)
  simp only [hnone, bne, hzero', htwo', Bool.not_false, Bool.true_and, Bool.and_true, Bool.true_or]

/-- The word that INJECT_ARM writes. -/
theorem armWord (v : Word) : v ||| w32 0x8000 = v ||| BitVec.twoPow 32 15 := by
  rw [show w32 0x8000 = BitVec.twoPow 32 15 by decide]

/-- Settles O50, from nALIVE's period, its test, and the word that arms. -/
theorem naliveAndInjectionWork : Obligations.NaliveAndInjectionWork := by
  intro s
  refine ⟨fun hmode => ?_, fun on hmode => ?_, fun on hmode => ?_, fun v hp hnone hzero htwo => ?_, fun island hp => congrArg (next s) (if_pos hp)⟩
  · have hdo := nalivePeriod_of_mode hmode
    cases hfrozen : s.dev.flt.naliveFrozen with
    | true =>
      rw [if_pos hfrozen] at hdo
      obtain ⟨hhalf, hacc, hlevel, hout, hkeeps⟩ := naliveTimed_spec s.dev (s.dev.flt.naliveAcc + 16384)
      exact ⟨_, congrArg (next s) hdo, hhalf, hacc, fun _ => ⟨hlevel, hout⟩, fun h => Bool.noConfusion h, hkeeps⟩
    | false =>
      rw [if_neg (by simp [hfrozen])] at hdo
      obtain ⟨hhalf, hacc, hlevel, hout, hkeeps⟩ := naliveEdge_spec s.dev (s.dev.flt.naliveAcc + 16384)
      exact ⟨_, congrArg (next s) hdo, hhalf, hacc, fun h => Bool.noConfusion h, fun _ => ⟨hlevel, hout⟩, hkeeps⟩
  · exact ⟨_, congrArg (next s) (writeNaliveTest_of_config hmode on), rfl, rfl, Laws.keeps_of_mask _ _ _ (Laws.mask_flt _ _ _ (by decide))⟩
  · exact congrArg (next s) (if_neg (by simp [hmode]))
  · intro ok
    have hchecker : fld (v ||| w32 0x8000) 0 4 = fld v 0 4 := by rw [armWord, fld_or_twoPow _ (by decide)]
    have hinst : fld (v ||| w32 0x8000) 4 8 = fld v 4 8 := by rw [armWord, fld_or_twoPow _ (by decide)]
    have hobserve : bit (v ||| w32 0x8000) 14 = bit v 14 := by rw [armWord, bit_or_twoPow_other _ (by decide)]
    have hdo := writeInject_of_arm hp hnone (v := v ||| w32 0x8000) (by rw [armWord]; exact bit_or_twoPow_same _ (by decide)) (by rw [hchecker]; exact hzero) (by rw [hchecker]; exact htwo)
    rw [hchecker, hinst, hobserve] at hdo
    cases hok : ok with
    | true =>
      rw [if_pos hok] at hdo
      exact ⟨_, congrArg (next s) hdo, rfl, hchecker, hinst, hobserve, fun _ => ⟨hchecker, hinst, hobserve⟩, fun h => Bool.noConfusion h, Laws.keeps_of_mask _ _ _ (Laws.mask_flt _ _ _ (by decide))⟩
    | false =>
      rw [if_neg (fun h => Bool.false_ne_true (hok.symm.trans h))] at hdo
      exact ⟨_, congrArg (next s) hdo, hnone, hchecker, hinst, hobserve, fun h => Bool.noConfusion h, fun _ => rfl, Laws.keeps_of_mask _ _ _ (Laws.mask_flt _ _ _ (by decide))⟩

/-! ### The journal's copies (R113–R115) -/

theorem readable_of_serving {d : Dev} (hsched : powered d .sched = true) (hctl : d.pwr.ctlLost = false) (hfrozen : d.jr.frozen = false) {err : JournalError} (hmode : ∀ c, err = .corrected c → d.mm.mode ≠ .off) :
    readable d err = true := by
  unfold readable
  split
  · simpa using hmode 0 rfl
  · simp [hsched, hctl, hfrozen]

theorem injectedError_of_none {d : Dev} (h : d.flt.pending = false) (err : JournalError) : injectedError d err = false := by
  cases err <;> simp [injectedError, injectionOn, h]

theorem mismatch_corrected {d : Dev} {c : Nat} (hread : readable d (.corrected c) = true) (hpending : d.flt.pending = false) : mismatch d (.corrected c) = detect d 0x1402 c 0 0 := by
  unfold mismatch
  rw [if_neg (by simp [hread]), injectedError_of_none hpending]
  rfl

theorem mismatch_loses {d : Dev} {err : JournalError} {c : Nat} (herr : err = .uncorrectable c ∨ err = .bothPass ∧ c = 1) (hread : readable d err = true) (hpending : d.flt.pending = false)
    (hretired : d.jr.retired = none) (hrebuilding : d.jr.rebuilding = none) : mismatch d err = loseCopy (detect d 0x1400 c 0 0) c := by
  unfold mismatch
  rw [if_neg (by simp [hread]), injectedError_of_none hpending]
  rcases herr with rfl | ⟨rfl, rfl⟩
  · exact if_neg (by simp [detectInj, hretired, hrebuilding])
  · exact if_neg (by simp [detectInj, hretired, hrebuilding])

/-- The time of a copy's loss is noted (R114). -/
def lossTimed (d : Dev) (c : Nat) : Dev := { d with jr := { d.jr with lastMiss := d.jr.lastMiss.set c (some d.clk.tick) } }

theorem loseCopy_again {d : Dev} {c t : Nat} (hprev : d.jr.lastMiss.getD c none = some t) (hsoon : d.clk.tick < t + 1000000) : loseCopy d c = retireCopy (lossTimed d c) c := by
  unfold loseCopy
  dsimp only
  rw [hprev]
  exact if_pos hsoon

theorem loseCopy_rebuilds {d : Dev} {c : Nat} (h : ∀ t, d.jr.lastMiss.getD c none = some t → t + 1000000 ≤ d.clk.tick) :
    loseCopy d c = { lossTimed d c with jr := { (lossTimed d c).jr with rebuilding := some c } } := by
  unfold loseCopy
  dsimp only
  cases hprev : d.jr.lastMiss.getD c none with
  | none => rfl
  | some t => exact if_neg (Nat.not_lt.2 (h t hprev))

theorem journalFree_of_rebuilding {d : Dev} (h : d.jr.rebuilding.isSome = true) : journalFree d = 0 := if_pos (by simp [h])

theorem journalFree_of_retired {d : Dev} (h : d.jr.retired.isSome = true) : journalFree d = 0 := if_pos (by simp [h])

/-- Settles O51, from what becomes of the losing copy. -/
theorem journalCopiesAreRebuilt : Obligations.JournalCopiesAreRebuilt := by
  intro s c hc hsched hctl hfrozen hpending
  refine ⟨fun hmode => ?_, fun hretired hrebuilding hlen err herr => ?_, fun hrebuilding => ⟨?_, ?_⟩⟩
  · exact congrArg (next s) (mismatch_corrected (readable_of_serving hsched hctl hfrozen fun _ _ => hmode) hpending)
  · have hread : readable s.dev err = true := readable_of_serving hsched hctl hfrozen fun n hn => by
      rcases herr with rfl | ⟨rfl, -⟩ <;> cases hn
    have hdo := mismatch_loses herr hread hpending hretired hrebuilding
    have hmask : ∀ f g, Laws.mask [.jr, .flt] { s.dev with jr := f, flt := g } = Laws.mask [.jr, .flt] s.dev := fun f g =>
      (Laws.mask_flt _ { s.dev with jr := f } _ (by decide)).trans (Laws.mask_jr _ _ _ (by decide))
    refine ⟨fun hlate => ?_, fun t hprev hsoon => ?_⟩
    · exact ⟨_, congrArg (next s) (hdo.trans (loseCopy_rebuilds (d := detect s.dev 0x1400 c 0 0) hlate)), rfl, hretired, journalFree_of_rebuilding rfl, rfl, rfl, rfl, Laws.keeps_of_mask _ _ _ (hmask _ _)⟩
    · exact ⟨_, congrArg (next s) (hdo.trans (loseCopy_again (d := detect s.dev 0x1400 c 0 0) hprev hsoon)), rfl, journalFree_of_retired rfl, Laws.keeps_of_mask _ _ _ (hmask _ _)⟩
  · have hdo : rebuilt s.dev true = if c = 0 then { s.dev with jr := { s.dev.jr with primary := s.dev.jr.secondary, rebuilding := none } } else { s.dev with jr := { s.dev.jr with secondary := s.dev.jr.primary, rebuilding := none } } := by
      unfold rebuilt
      rw [hrebuilding]
      rfl
    by_cases hzero : c = 0
    · rw [if_pos hzero] at hdo
      exact ⟨_, congrArg (next s) hdo, rfl, rfl, (if_pos hzero).symm, Laws.keeps_of_mask _ _ _ (Laws.mask_jr _ _ _ (by decide))⟩
    · rw [if_neg hzero] at hdo
      exact ⟨_, congrArg (next s) hdo, rfl, rfl, (if_neg hzero).symm, Laws.keeps_of_mask _ _ _ (Laws.mask_jr _ _ _ (by decide))⟩
  · have hdo : rebuilt s.dev false = retireCopy s.dev c := by
      unfold rebuilt
      rw [hrebuilding]
      rfl
    refine ⟨_, congrArg (next s) hdo, rfl, rfl, Laws.keeps_of_mask _ _ _ ?_⟩
    exact (Laws.mask_detect _ _ _ _ _ _ (by decide)).trans (Laws.mask_jr _ _ _ (by decide))

/-! ### The recorder (R356–R364) -/

theorem startFlush_begins {d : Dev} (hpwr : d.pwr.pwrLost = false) (hclear : d.rcd.clearing = false) (hflush : d.rcd.flushing = false) :
    startFlush d = { d with rcd := { d.rcd with flushing := !d.rcd.buffer.isEmpty, toFlush := d.rcd.buffer.length, want := false } } := by
  unfold startFlush
  dsimp only
  rw [if_neg (by simp [hpwr, hclear]), if_neg (by simp [hflush])]

section
variable {d : Dev} {q : Record} (hflush : d.rcd.flushing = true) (hto : d.rcd.toFlush = 1) (hbuf : d.rcd.buffer = [q]) (hroom : logNext d.rcd < 8191)
include hflush hto hbuf hroom

theorem blockWritten_one (first second : Bool) :
    blockWritten d first second = if first || second then flushNext (logRecord { d with rcd := { d.rcd with buffer := [] } } q) 1
      else recorderFault { d with rcd := { d.rcd with bad := d.rcd.bad ++ [logNext d.rcd] } } 0x1800 (logNext d.rcd) 1 := by
  have hn : min 2 (min d.rcd.toFlush d.rcd.buffer.length) = 1 := by rw [hto, hbuf]; rfl
  have hslots : (blockSlots d.rcd 1).filter (· < 8191) = [logNext d.rcd] := by
    simp [blockSlots, hroom]
  have hlog : logOut d 1 = logRecord { d with rcd := { d.rcd with buffer := [] } } q := by
    unfold logOut
    rw [hbuf]
    rfl
  unfold blockWritten
  rw [if_neg (by simp [hflush])]
  dsimp only
  rw [hn, if_neg (by decide), hslots, hlog]
  simp only [Nat.not_le.2 hroom, decide_false, Bool.or_false, List.headD_cons]

omit hflush hbuf in
/-- A block of one record that reads back (R360). -/
theorem blockLogged (hagain : d.rcd.again = false) :
    flushNext (logRecord { d with rcd := { d.rcd with buffer := [] } } q) 1 =
      { d with rcd := { d.rcd with buffer := [], log := d.rcd.log.set none (logNext d.rcd) (some q), next := logNext d.rcd + 1, toFlush := 0, flushing := false, again := false } } := by
  have hlog : logRecord { d with rcd := { d.rcd with buffer := [] } } q =
      { d with rcd := { d.rcd with buffer := [], log := d.rcd.log.set none (logNext d.rcd) (some q), next := logNext d.rcd + 1 } } := if_pos hroom
  rw [hlog]
  unfold flushNext
  dsimp only
  rw [hto, if_neg (by decide), hagain]
  rfl

end

theorem drops_record (d : Dev) (code source : Nat) (mark : Bool) (p0 p1 p2 p3 : Nat) (hbuf : d.rcd.buffer.length < 64) : (record d code source mark p0 p1 p2 p3).rcd.drops = d.rcd.drops := by
  have hfull : ∀ (e : Dev) n, (writeLogFull e n).rcd.drops = e.rcd.drops := fun e n => by
    unfold writeLogFull setRecEvent
    dsimp only
    rw [occur_rcd]
  unfold record recordRaw
  dsimp only
  split
  · rfl
  · split
    · rfl
    · split
      · split
        · rfl
        · rw [hfull]
      · rw [if_neg (Nat.not_le.2 hbuf)]

theorem dropsRecord_spec {d : Dev} (hdrops : d.rcd.drops ≠ 0) (hbuf : d.rcd.buffer.length < 64) :
    (dropsRecord d).rcd.drops = 0 ∧ (∃ f, (dropsRecord d).flt.inbox = d.flt.inbox ++ [f] ∧ f.code = 0x1801) ∧ keeps [.rcd, .int, .flt] d (dropsRecord d) := by
  have hdo : dropsRecord d = recorderFault (record { d with rcd := { d.rcd with drops := 0 } } 0xF003 srcRecorder false d.rcd.drops d.rcd.firstDrop 0 0) 0x1801 d.rcd.next d.rcd.drops := by
    unfold dropsRecord
    exact if_neg (by simp [hdrops, hbuf])
  have hmask : Laws.mask [.int, .rcd] (record { d with rcd := { d.rcd with drops := 0 } } 0xF003 srcRecorder false d.rcd.drops d.rcd.firstDrop 0 0) = Laws.mask [.int, .rcd] d :=
    (Laws.mask_record _ _ _ _ _ _ _ _ _ (by decide) (by decide)).trans (Laws.mask_rcd _ _ _ (by decide))
  have hrcd := drops_record { d with rcd := { d.rcd with drops := 0 } } 0xF003 srcRecorder false d.rcd.drops d.rcd.firstDrop 0 0 hbuf
  rw [hdo]
  generalize record { d with rcd := { d.rcd with drops := 0 } } 0xF003 srcRecorder false d.rcd.drops d.rcd.firstDrop 0 0 = e at *
  have hflt : e.flt = d.flt := flt_of_mask hmask (by decide)
  refine ⟨hrcd, ?_, Laws.keeps_of_mask _ _ _ ((Laws.mask_detect _ _ _ _ _ _ (by decide)).trans (mask_of_subset (by decide) hmask))⟩
  unfold recorderFault detect
  dsimp only
  rw [hflt]
  exact ⟨_, rfl, rfl⟩

/-- Settles O52, from the flush, the block, the drops and the clear. -/
theorem recorderKeepsTheLog : Obligations.RecorderKeepsTheLog := by
  intro s
  refine ⟨fun hpwr hclear hflush => ⟨fun hwant => ?_, fun hp => ?_⟩, fun q first second hflush hto hbuf hroom hagain => ⟨fun hgood => ?_, fun hfirst hsecond => ?_⟩, fun hdrops hbuf => ⟨_, rfl, dropsRecord_spec hdrops hbuf⟩,
    fun hoff hcold => ?_, fun hclear => ?_, fun confirm hp hclear => ⟨fun hok => ?_, fun hok => ?_⟩⟩
  · exact congrArg (next s) ((if_pos hwant).trans (startFlush_begins hpwr hclear hflush))
  · exact congrArg (next s) ((if_pos hp).trans (startFlush_begins hpwr hclear hflush))
  · have hdo := (blockWritten_one hflush hto hbuf hroom first second).trans ((if_pos (by simpa using hgood)).trans (blockLogged hto hroom hagain))
    have hget := Sparse.get_set none s.dev.rcd.log (logNext s.dev.rcd) (logNext s.dev.rcd) (some q)
    rw [if_pos rfl] at hget
    have hother : ∀ n, n ≠ logNext s.dev.rcd → (s.dev.rcd.log.set none (logNext s.dev.rcd) (some q)).get none n = s.dev.rcd.log.get none n := fun n hn => Sparse.get_set_other _ _ _ _ hn
    exact ⟨_, congrArg (next s) hdo, hget, hother, rfl, rfl, rfl, Laws.keeps_of_mask _ _ _ (Laws.mask_rcd _ _ _ (by decide))⟩
  · have hdo := (blockWritten_one hflush hto hbuf hroom first second).trans (if_neg (by simp [hfirst, hsecond]))
    exact ⟨_, congrArg (next s) hdo, rfl, rfl, Laws.keeps_of_mask _ _ _ ((Laws.mask_detect _ _ _ _ _ _ (by decide)).trans (Laws.mask_rcd _ _ _ (by decide)))⟩
  · exact congrArg (next s) (if_neg (by simp [hoff, hcold]))
  · exact ⟨_, _, congrArg (next s) (if_neg (by simp [hclear])), rfl, rfl, rfl, rfl, rfl, rfl, rfl, rfl, Laws.keeps_of_mask _ _ _ (Laws.mask_rcd _ _ _ (by decide))⟩
  · obtain ⟨hmode, hkey, hconfirm⟩ := hok
    exact congrArg (next s) ((if_neg (by simp [hp, hclear])).trans (if_pos (by simp [hmode, hkey, hconfirm])))
  · exact congrArg (next s) ((if_neg (by simp [hp, hclear])).trans (if_neg (by simpa [and_assoc] using hok)))

end Sys2Proof.Machine
end

section
/-!
OTP commands and programming, and the verification of firmware (O53, O54).
-/
namespace Sys2Proof.Machine
open Sys2Proof.Safety

/-! ### Commands of the OTP (R347, R348) -/

theorem otpCommand_busy {d : Dev} (hp : powered d .mgmt = true) (h : d.otp.cmd ≠ none) (op confirm : Nat) : otpCommand d op confirm = { d with otp := { d.otp with ignored := true } } := by
  rw [otpCommand, if_neg (by simp [hp]), if_pos (Option.isSome_iff_ne_none.2 h)]

theorem otpCommand_closed {d : Dev} (hp : powered d .mgmt = true) (hcmd : d.otp.cmd = none) (h : d.otp.enable = false ∨ d.mm.inputPresent = false) (op confirm : Nat) :
    otpCommand d op confirm = otpRefuse d 1 := by
  rw [otpCommand, if_neg (by simp [hp]), if_neg (by simp [hcmd]), if_pos (by rcases h with h | h <;> simp [h])]

section
variable {d : Dev} (hp : powered d .mgmt = true) (hcmd : d.otp.cmd = none) (henable : d.otp.enable = true) (hinput : d.mm.inputPresent = true)
include hp hcmd henable hinput

theorem otpCommand_unconfirmed (op : Nat) {confirm : Nat} (h : confirm ≠ otpWord d) : otpCommand d op confirm = otpRefuse d 2 := by
  rw [otpCommand, if_neg (by simp [hp]), if_neg (by simp [hcmd]), if_neg (by simp [henable, hinput]), if_pos h]

theorem otpCommand_confirmed (op : Nat) {confirm : Nat} (h : confirm = otpWord d) : otpCommand d op confirm = otpOperate d op := by
  rw [otpCommand, if_neg (by simp [hp]), if_neg (by simp [hcmd]), if_neg (by simp [henable, hinput]), if_neg (not_not_intro h)]

end

theorem otpOne_blank {d : Dev} {n : Nat} (hstate : otpState d n = .blank) (hfresh : n ∉ d.otp.programmed) (op : Nat) (v : Word) : otpOne d op n v = otpStart d { op := op, word := n, data := v } := by
  rw [otpOne, if_neg (by simp [hstate, hfresh])]

theorem otpOne_written {d : Dev} {n : Nat} (h : ¬ (otpState d n = .blank ∧ n ∉ d.otp.programmed)) (op : Nat) (v : Word) : otpOne d op n v = otpRefuse d 4 := by
  rw [otpOne, if_pos]
  by_cases hstate : otpState d n = .blank
  · simp [hstate] at h
    simp [h]
  · simp [hstate]

theorem otpAdvance_starts {d : Dev} {now target : Nat} (h : now < target) (op area : Nat) :
    otpAdvance d op area now target = otpStart d { op := op, word := area + now, rest := target - now - 1, data := 0xFFFFFFFF } := by
  rw [otpAdvance, if_neg (Nat.not_le.2 h)]

theorem otpAdvance_next (d : Dev) (op area now : Nat) : otpAdvance d op area now (now + 1) = otpStart d { op := op, word := area + now, rest := 0, data := 0xFFFFFFFF } := by
  rw [otpAdvance_starts (Nat.lt_succ_self now), show now + 1 - now - 1 = 0 by omega]

/-! ### Programming a word (R340, R347) -/

/-- The array with a word programmed, and what is noted of it. -/
def wordProgrammed (d : Dev) (c : OtpCmd) (n t : BitVec 39) : Dev :=
  recordN { d with otp := { d.otp with normal := d.otp.normal.set 0 c.word n, tight := d.otp.tight.set 0 c.word t, programmed := c.word :: d.otp.programmed.filter (· != c.word), word := if powered d .mgmt then c.word else d.otp.word, advRoll := d.otp.advRoll + b2n (c.op == 3), advEpoch := d.otp.advEpoch + b2n (c.op == 4) } }
    0x5004 srcOtp [c.word, c.op, if t == otpBits c.data then 1 else 3]

/-- The command ends with its result. -/
def commandEnded (d : Dev) (on : Bool) (r : Nat) : Dev := { d with otp := { d.otp with cmd := none, stopAfter := false, result := if on then r else 0, reason := 0 } }

theorem programDone_of_due {d : Dev} {c : OtpCmd} (hcmd : d.otp.cmd = some c) (hdue : c.since + 50 ≤ d.clk.tick) (normal tight : BitVec 39) :
    programDone d normal tight =
      (let n := d.otp.normal.get 0 c.word ||| (normal &&& otpBits c.data)
       let t := d.otp.tight.get 0 c.word ||| (tight &&& otpBits c.data)
       let e := wordProgrammed d c n t
       if !(t == otpBits c.data) then commandEnded e (powered d .mgmt) 3
       else if c.rest = 0 then commandEnded (advanceRecord e c.op) (powered d .mgmt) 1
       else if e.otp.stopAfter then commandEnded e (powered d .mgmt) 4
       else { e with otp := { e.otp with cmd := some { c with word := c.word + 1, rest := c.rest - 1, since := e.clk.tick } } }) := by
  unfold programDone
  rw [hcmd]
  dsimp only
  rw [if_neg (Nat.not_lt.2 hdue)]
  rfl

theorem otp_recordN (d : Dev) (code source : Nat) (ps : List Nat) : (recordN d code source ps).otp = d.otp :=
  (Laws.keeps_of_mask _ _ _ (Laws.mask_recordN [.clk, .int, .rcd] d code source ps (by decide) (by decide) (by decide)) .otp (by decide)).symm

theorem tick_recordN (d : Dev) (code source : Nat) (ps : List Nat) : (recordN d code source ps).clk.tick = d.clk.tick := (freeOnly_recordN d code source ps).tick

/-- The parts of programming. -/
def programParts : List Part := [.otp, .rcd, .int, .clk]

theorem mask_recordN_program (d : Dev) (code source : Nat) (ps : List Nat) : Laws.mask programParts (recordN d code source ps) = Laws.mask programParts d :=
  Laws.mask_recordN _ _ _ _ _ (by decide) (by decide) (by decide)

theorem mask_wordProgrammed (d : Dev) (c : OtpCmd) (n t : BitVec 39) : Laws.mask programParts (wordProgrammed d c n t) = Laws.mask programParts d :=
  (mask_recordN_program _ _ _ _).trans (Laws.mask_otp _ _ _ (by decide))

theorem mask_advanceRecord (d : Dev) (op : Nat) : Laws.mask programParts (advanceRecord d op) = Laws.mask programParts d := by
  unfold advanceRecord
  split
  · exact mask_recordN_program _ _ _ _
  · split
    · exact mask_recordN_program _ _ _ _
    · rfl

theorem otp_advanceRecord (d : Dev) (op : Nat) : (advanceRecord d op).otp = d.otp := by
  unfold advanceRecord
  split
  · exact otp_recordN _ _ _ _
  · split
    · exact otp_recordN _ _ _ _
    · rfl

theorem mask_commandEnded (d : Dev) (on : Bool) (r : Nat) : Laws.mask programParts (commandEnded d on r) = Laws.mask programParts d := Laws.mask_otp _ _ _ (by decide)

/-- The array as programming leaves it: one word changed, and what was sensed stands. -/
def ArrayAfter (d : Dev) (w : Nat) (n t : BitVec 39) (o : Otp) : Prop := o.normal = d.otp.normal.set 0 w n ∧ o.tight = d.otp.tight.set 0 w t ∧ o.shadow = d.otp.shadow

theorem arrayAfter_wordProgrammed (d : Dev) (c : OtpCmd) (n t : BitVec 39) : ArrayAfter d c.word n t (wordProgrammed d c n t).otp := by
  rw [wordProgrammed, otp_recordN]
  exact ⟨rfl, rfl, rfl⟩

theorem ArrayAfter.gets {d : Dev} {w : Nat} {n t : BitVec 39} {o : Otp} (h : ArrayAfter d w n t o) :
    o.normal.get 0 w = n ∧ o.tight.get 0 w = t ∧ (∀ v, v ≠ w → o.normal.get 0 v = d.otp.normal.get 0 v ∧ o.tight.get 0 v = d.otp.tight.get 0 v) := by
  obtain ⟨hnormal, htight, -⟩ := h
  rw [hnormal, htight]
  exact ⟨(Sparse.get_set _ _ _ _ _).trans (if_pos rfl), (Sparse.get_set _ _ _ _ _).trans (if_pos rfl), fun v hv => ⟨Sparse.get_set_other _ _ _ _ hv, Sparse.get_set_other _ _ _ _ hv⟩⟩

/-- A word's programming that has taken its 50 µs (R340, R347, R353). -/
theorem programDone_spec {d : Dev} {c : OtpCmd} (hcmd : d.otp.cmd = some c) (hdue : c.since + 50 ≤ d.clk.tick) (hp : powered d .mgmt = true) (normal tight : BitVec 39) :
    let t := d.otp.tight.get 0 c.word ||| (tight &&& otpBits c.data)
    ArrayAfter d c.word (d.otp.normal.get 0 c.word ||| (normal &&& otpBits c.data)) t (programDone d normal tight).otp ∧
      (t ≠ otpBits c.data → (programDone d normal tight).otp.cmd = none ∧ (programDone d normal tight).otp.result = 3) ∧
      (t = otpBits c.data → c.rest = 0 → (programDone d normal tight).otp.cmd = none ∧ (programDone d normal tight).otp.result = 1) ∧
      (t = otpBits c.data → c.rest ≠ 0 → d.otp.stopAfter = false → (programDone d normal tight).otp.cmd = some { c with word := c.word + 1, rest := c.rest - 1, since := d.clk.tick }) ∧
      keeps programParts d (programDone d normal tight) := by
  intro t
  have hdo := programDone_of_due hcmd hdue normal tight
  dsimp only at hdo
  change programDone d normal tight = (if (!(t == otpBits c.data)) = true then _ else _) at hdo
  have harray := arrayAfter_wordProgrammed d c (d.otp.normal.get 0 c.word ||| (normal &&& otpBits c.data)) t
  have hmask := mask_wordProgrammed d c (d.otp.normal.get 0 c.word ||| (normal &&& otpBits c.data)) t
  have hstop : (wordProgrammed d c (d.otp.normal.get 0 c.word ||| (normal &&& otpBits c.data)) t).otp.stopAfter = d.otp.stopAfter := by rw [wordProgrammed, otp_recordN]
  have htick : (wordProgrammed d c (d.otp.normal.get 0 c.word ||| (normal &&& otpBits c.data)) t).clk.tick = d.clk.tick := tick_recordN _ _ _ _
  rw [hp] at hdo
  generalize wordProgrammed d c (d.otp.normal.get 0 c.word ||| (normal &&& otpBits c.data)) t = e at *
  rw [hdo]
  by_cases hbits : t = otpBits c.data
  · rw [if_neg (by simp [hbits])]
    by_cases hrest : c.rest = 0
    · rw [if_pos hrest]
      refine ⟨?_, fun h => absurd hbits h, fun _ _ => ⟨rfl, rfl⟩, fun _ h => absurd hrest h, Laws.keeps_of_mask _ _ _ ((mask_commandEnded _ _ _).trans ((mask_advanceRecord _ _).trans hmask))⟩
      rw [← otp_advanceRecord e c.op] at harray
      exact harray
    · rw [if_neg hrest]
      cases hs : d.otp.stopAfter with
      | true =>
        rw [if_pos (hstop.trans hs)]
        exact ⟨harray, fun h => absurd hbits h, fun _ h => absurd h hrest, fun _ _ h => Bool.noConfusion h, Laws.keeps_of_mask _ _ _ ((mask_commandEnded _ _ _).trans hmask)⟩
      | false =>
        rw [if_neg (by simp [hstop, hs]), htick]
        exact ⟨harray, fun h => absurd hbits h, fun _ h => absurd h hrest, fun _ _ _ => rfl, Laws.keeps_of_mask _ _ _ ((Laws.mask_otp _ _ _ (by decide)).trans hmask)⟩
  · rw [if_pos (by simp [hbits])]
    exact ⟨harray, fun _ => ⟨rfl, rfl⟩, fun h => absurd h hbits, fun h => absurd h hbits, Laws.keeps_of_mask _ _ _ ((mask_commandEnded _ _ _).trans hmask)⟩

theorem writeService_of_powered {d : Dev} (hp : powered d .mgmt = true) (key : BitVec 16) :
    writeService d key.toNat = { d with otp := { d.otp with keyOne := decide ((d.mm.mode = .config ∧ d.mm.inputPresent = true) ∧ key = 0x5A3C), enable := decide ((d.mm.mode = .config ∧ d.mm.inputPresent = true) ∧ key = 0xC3A5 ∧ d.otp.keyOne = true) } } := by
  have hkey : ∀ k : BitVec 16, (key.toNat == k.toNat) = decide (key = k) := fun k => by
    rw [Bool.eq_iff_iff, beq_iff_eq, decide_eq_true_iff]
    exact ⟨BitVec.eq_of_toNat_eq, congrArg BitVec.toNat⟩
  have hone := hkey 0x5A3C
  have htwo := hkey 0xC3A5
  unfold writeService
  rw [if_neg (by simp [hp])]
  dsimp only
  rw [show (key.toNat == 0x5A3C) = decide (key = 0x5A3C) from hone, show (key.toNat == 0xC3A5) = decide (key = 0xC3A5) from htwo]
  simp only [Bool.decide_and, Bool.beq_eq_decide_eq, Bool.decide_eq_true, Bool.and_assoc]

/-- Settles O53, from the guards of a command and the end of a word's programming. -/
theorem otpIsProgrammed : Obligations.OtpIsProgrammed := by
  refine ⟨fun s confirm hp => ?_, fun s c normal tight hcmd hdue hp => ?_⟩
  · intro w refused starts blank roll epoch ops
    refine ⟨fun key => congrArg (next s) (writeService_of_powered hp key), fun i hi => ?_, fun hcmd henable hinput hconfirm => ?_⟩
    · have hop : ∃ op, exec i s = next s (otpCommand s.dev op confirm) := by
        rcases hi with rfl | rfl | rfl | rfl | rfl
        · exact ⟨1, rfl⟩
        · exact ⟨2, rfl⟩
        · exact ⟨3, rfl⟩
        · exact ⟨4, rfl⟩
        · exact ⟨5, rfl⟩
      obtain ⟨op, hop⟩ := hop
      exact ⟨fun h => hop.trans (congrArg (next s) (otpCommand_busy hp h op confirm)), fun hcmd h => hop.trans (congrArg (next s) (otpCommand_closed hp hcmd h op confirm)),
        fun hcmd henable hinput h => hop.trans (congrArg (next s) (otpCommand_unconfirmed hp hcmd henable hinput op h))⟩
    · have hdo : ∀ {op e}, otpOperate s.dev op = e → next s (otpCommand s.dev op confirm) = next s e := fun {op e} h =>
        congrArg (next s) ((otpCommand_confirmed hp hcmd henable hinput op hconfirm).trans h)
      refine ⟨fun hw hblank => ?_, fun hw hblank => ?_, fun hw => ?_, fun hlo hhi hblank => ?_, fun hw => ?_, fun hvalid hroll => ?_, fun hvalid => ?_, fun hepoch => ?_, fun hepoch => ?_, fun hw hblank => ?_, fun hw => ?_⟩
      · exact hdo ((if_pos hw).trans (otpOne_blank hblank.1 hblank.2 _ _))
      · exact hdo ((if_pos hw).trans (otpOne_written hblank _ _))
      · exact hdo (if_neg fun h => Bool.false_ne_true (hw.symm.trans h))
      · exact hdo ((if_pos ⟨hlo, hhi⟩).trans (otpOne_blank hblank.1 hblank.2 _ _))
      · exact hdo (if_neg (fun h => by omega))
      · exact hdo ((if_neg (by simp [hvalid])).trans (otpAdvance_starts hroll _ _))
      · exact hdo (if_pos (by simp [hvalid]))
      · exact hdo ((if_neg (Nat.not_le.2 hepoch)).trans (otpAdvance_next _ _ _ _))
      · exact hdo (if_pos hepoch)
      · exact hdo ((if_neg (Nat.not_lt.2 hw)).trans (otpOne_blank hblank.1 hblank.2 _ _))
      · exact hdo (if_pos hw)
  · obtain ⟨harray, hbad, hend, hon, hkeeps⟩ := programDone_spec hcmd hdue hp normal tight
    obtain ⟨hnormal, htight, hothers⟩ := harray.gets
    exact ⟨_, rfl, hnormal, htight, hothers, hbad, hend, hon, harray.2.2, hkeeps⟩

/-! ### Verification of the images (R350, R351) -/

/-- An image is judged by the OTP's shadows alone. -/
theorem rejectReason_congr {d e : Dev} (h : e.otp.shadow = d.otp.shadow) (f : ImageFacts) (second : Bool) (flash : Nat) : rejectReason e f second flash = rejectReason d f second flash := by
  have hshadow : ∀ w, shadowOf e w = shadowOf d w := fun w => by rw [shadowOf, shadowOf, h]
  simp only [rejectReason, keySlot, slotValid, slotRevoked, slotDigest, rollbackValue, counterOf, otpState, altOffset, policyWord, otpOr, otpUsable, hshadow]
  rfl

theorem secretKey_congr {d e : Dev} (h : e.otp.shadow = d.otp.shadow) : secretKey e = secretKey d := by
  have hshadow : ∀ w, shadowOf e w = shadowOf d w := fun w => by rw [shadowOf, shadowOf, h]
  simp only [secretKey, secretValid, otpUsable, hshadow]
  rfl

/-- The parts of a verification. -/
def verifyParts : List Part := [.clk, .mm, .pwr, .otp, .flt, .int, .rcd]

theorem mask_recordN_verify (d : Dev) (code source : Nat) (ps : List Nat) : Laws.mask verifyParts (recordN d code source ps) = Laws.mask verifyParts d :=
  Laws.mask_recordN _ _ _ _ _ (by decide) (by decide) (by decide)

/-- The core is released: its key, its image and the flag (R344, R351). -/
theorem releaseCore_spec (d : Dev) (f : ImageFacts) (second : Bool) :
    (releaseCore d f second).mm.fwValid = true ∧ (releaseCore d f second).pwr.keyReg = secretKey d ∧ (releaseCore d f second).otp.bootImage = b2n second ∧
      (releaseCore d f second).otp.bootVersion = f.version ∧ (releaseCore d f second).otp.rejectA = d.otp.rejectA ∧ (releaseCore d f second).clk.tick = d.clk.tick ∧
      Laws.mask verifyParts (releaseCore d f second) = Laws.mask verifyParts d := by
  unfold releaseCore
  dsimp only
  have hotp := otp_recordN d 0x5002 srcOtp [b2n second, (keySlot d f).getD 0, f.version.toNat, f.rollback]
  have htick := tick_recordN d 0x5002 srcOtp [b2n second, (keySlot d f).getD 0, f.version.toNat, f.rollback]
  have hmask := mask_recordN_verify d 0x5002 srcOtp [b2n second, (keySlot d f).getD 0, f.version.toNat, f.rollback]
  generalize recordN d 0x5002 srcOtp [b2n second, (keySlot d f).getD 0, f.version.toNat, f.rollback] = e at *
  refine ⟨rfl, secretKey_congr (congrArg Otp.shadow hotp), rfl, rfl, by rw [hotp], htick, ?_⟩
  refine Eq.trans ?_ hmask
  refine (Laws.mask_otp _ { e with mm := { e.mm with fwValid := true }, pwr := { e.pwr with keyReg := secretKey e, coreHalted := false } } _ (by decide)).trans ?_
  exact (Laws.mask_pwr _ { e with mm := { e.mm with fwValid := true } } _ (by decide)).trans (Laws.mask_mm _ _ _ (by decide))

/-- An image is rejected: its reason, and nothing that the next check reads (R351). -/
theorem rejectImage_spec (d : Dev) (second : Bool) (n : Nat) :
    (rejectImage d second n).otp = { d.otp with rejectA := if second then d.otp.rejectA else n, rejectB := if second then n else d.otp.rejectB } ∧ (rejectImage d second n).mm = d.mm ∧
      (rejectImage d second n).pwr = d.pwr ∧ (rejectImage d second n).clk.tick = d.clk.tick ∧ Laws.mask verifyParts (rejectImage d second n) = Laws.mask verifyParts d := by
  unfold rejectImage
  have hkeeps := Laws.keeps_of_mask _ _ _ (Laws.mask_recordN [.clk, .int, .rcd] { d with otp := { d.otp with rejectA := if second then d.otp.rejectA else n, rejectB := if second then n else d.otp.rejectB } } 0x5003 srcOtp [b2n second, n]
    (by decide) (by decide) (by decide))
  exact ⟨otp_recordN _ _ _ _, (hkeeps .mm (by decide)).symm, (hkeeps .pwr (by decide)).symm, tick_recordN _ _ _ _, (mask_recordN_verify _ _ _ _).trans (Laws.mask_otp _ _ _ (by decide))⟩

theorem verifyImages_first {d : Dev} {a : ImageFacts} {flash : Nat} (h : rejectReason d a false flash = none) (b : ImageFacts) : verifyImages d a b flash = releaseCore d a false := by
  unfold verifyImages
  rw [h]

theorem verifyImages_second {d : Dev} {a : ImageFacts} {flash ra : Nat} (h : rejectReason d a false flash = some ra) (b : ImageFacts) :
    verifyImages d a b flash = match rejectReason d b true flash with
      | none => releaseCore (rejectImage d false ra) b true
      | some rb => detect (rejectImage (rejectImage d false ra) true rb) 0x1703 1 rb 2 := by
  have hsame : rejectReason (rejectImage d false ra) b true flash = rejectReason d b true flash := rejectReason_congr (by rw [(rejectImage_spec d false ra).1]) b true flash
  unfold verifyImages
  rw [h]
  dsimp only
  rw [hsame] <;> rfl

/-- What the verification answers: image A passes, image B does, or neither (R351). -/
def VerifiedAs (d : Dev) (a b : ImageFacts) (flash : Nat) (e : Dev) : Prop :=
  (rejectReason d a false flash = none → e.mm.fwValid = true ∧ e.pwr.keyReg = secretKey d ∧ e.otp.bootImage = 0 ∧ e.otp.bootVersion = a.version ∧ e.otp.rejectA = d.otp.rejectA) ∧
  (∀ ra, rejectReason d a false flash = some ra → e.otp.rejectA = ra ∧
    (rejectReason d b true flash = none → e.mm.fwValid = true ∧ e.pwr.keyReg = secretKey d ∧ e.otp.bootImage = 1 ∧ e.otp.bootVersion = b.version) ∧
    (∀ rb, rejectReason d b true flash = some rb → e.mm.fwValid = false ∧ e.otp.rejectB = rb ∧ e.pwr.keyReg = d.pwr.keyReg))

theorem verifyImages_spec {d : Dev} (hvalid : d.mm.fwValid = false) (a b : ImageFacts) (flash : Nat) :
    VerifiedAs d a b flash (verifyImages d a b flash) ∧ (verifyImages d a b flash).clk.tick = d.clk.tick ∧ Laws.mask verifyParts (verifyImages d a b flash) = Laws.mask verifyParts d := by
  cases ha : rejectReason d a false flash with
  | none =>
    rw [verifyImages_first ha]
    obtain ⟨hfw, hkey, himage, hversion, hreject, htick, hmask⟩ := releaseCore_spec d a false
    exact ⟨⟨fun _ => ⟨hfw, hkey, himage, hversion, hreject⟩, fun ra hra => by rw [ha] at hra; cases hra⟩, htick, hmask⟩
  | some ra =>
    have hdo := verifyImages_second ha b
    obtain ⟨hotp, hmm, hpwr, htick, hmask⟩ := rejectImage_spec d false ra
    generalize rejectImage d false ra = e at *
    cases hb : rejectReason d b true flash with
    | none =>
      rw [hb] at hdo
      dsimp only at hdo
      obtain ⟨hfw, hkey, himage, hversion, hreject, htick', hmask'⟩ := releaseCore_spec e b true
      have hkey' : secretKey e = secretKey d := secretKey_congr (by rw [hotp])
      rw [hdo]
      refine ⟨⟨fun h => (by rw [ha] at h; cases h), fun r hr => ⟨?_, fun _ => ⟨hfw, hkey.trans hkey', himage, hversion⟩, fun rb hrb => (by rw [hb] at hrb; cases hrb)⟩⟩, htick'.trans htick, hmask'.trans hmask⟩
      rw [ha] at hr
      cases hr
      exact hreject.trans (by rw [hotp]; rfl)
    | some rb =>
      rw [hb] at hdo
      dsimp only at hdo
      obtain ⟨hotp', hmm', hpwr', htick', hmask'⟩ := rejectImage_spec e true rb
      rw [hdo]
      generalize rejectImage e true rb = f at *
      refine ⟨⟨fun h => (by rw [ha] at h; cases h), fun r hr => ⟨?_, fun h => (by rw [hb] at h; cases h), fun q hq => ?_⟩⟩, htick'.trans htick, (Laws.mask_detect _ _ _ _ _ _ (by decide)).trans (hmask'.trans hmask)⟩
      · rw [ha] at hr
        cases hr
        change f.otp.rejectA = ra
        rw [hotp', hotp]
        rfl
      · rw [hb] at hq
        cases hq
        refine ⟨?_, ?_, ?_⟩
        · change f.mm.fwValid = false
          rw [hmm', hmm, hvalid]
        · change f.otp.rejectB = rb
          rw [hotp']
          rfl
        · change f.pwr.keyReg = d.pwr.keyReg
          rw [hpwr', hpwr]

/-- The stage of SCHED closes (R243). -/
theorem closeStage_sched (d : Dev) (r : Run) :
    closeStage d r 1 = { d with pwr := { d.pwr with on := d.pwr.on ||| (1#8 <<< Domain.sched.bit) }, seq := { d.seq with run := some { r with phase := .domainUp 1, items := [], deadline := d.clk.tick + 1000 } } } := rfl

/-! ### The QSPI port (R352) -/

theorem goWord (v : Word) : v ||| w32 (1 <<< 19) = v ||| BitVec.twoPow 32 19 := by
  rw [show w32 (1 <<< 19) = BitVec.twoPow 32 19 by decide]

theorem writeFlash_of_go {d : Dev} (hp : powered d .mgmt = true) (hidle : d.otp.flashBusy = false) {v : Word} (hgo : bit v 19 = true) :
    writeFlash d v = (let e := setRw d 0x6840 (v &&& w32 0x7FFFF)
      if flashOpen d then emit { e with otp := { e.otp with flashBusy := true, flashCmd := v &&& w32 0x7FFFF } } (.flash (fld v 0 8) (if bit v 8 then some (rwOf e 0x6844).toNat else none) (min 256 (fld v 9 9)) (bit v 18) (if bit v 18 then flashData d (min 256 (fld v 9 9)) else []))
      else { e with otp := { e.otp with flashDenied := true } }) := by
  unfold writeFlash
  rw [if_neg (by simp [hp])]
  exact if_neg (by simp [hgo, setRw, hidle])

/-- The last word of a full read covers all its bits. -/
theorem merge_full (x y : Word) {i : Nat} (h : i < 64) : merge x y (maskAt 0 (8 * min 4 (256 - 4 * i))) = y := by
  rw [show 8 * min 4 (256 - 4 * i) = 32 by omega, show maskAt 0 32 = BitVec.allOnes 32 by decide, merge, BitVec.not_allOnes, BitVec.and_zero, BitVec.zero_or, BitVec.and_allOnes]

theorem zipIdx_map_eq {data buffer : List Word} (hlen : buffer.length = data.length) {f : Word → Word → Nat → Word} (hf : ∀ x y i, i < data.length → f x y i = y) :
    buffer.zipIdx.map (fun q => f q.1 (data.getD q.2 0) q.2) = data := by
  refine List.ext_getElem (by simp [hlen]) fun i h1 h2 => ?_
  simp [hf _ _ i h2, List.getD_eq_getElem?_getD, h2]

theorem flashDone_of_write {d : Dev} (hbusy : d.otp.flashBusy = true) (hwrite : bit d.otp.flashCmd 18 = true) (data : List Word) : flashDone d data = { d with otp := { d.otp with flashBusy := false } } := by
  unfold flashDone
  rw [if_neg (by simp [hbusy])]
  dsimp only
  rw [if_neg (by simp [hwrite])]

theorem flashDone_of_full_read {d : Dev} (hbusy : d.otp.flashBusy = true) (hread : bit d.otp.flashCmd 18 = false) (hfull : 256 ≤ fld d.otp.flashCmd 9 9) {data : List Word} (hbuffer : d.otp.buffer.length = 64)
    (hdata : data.length = 64) : flashDone d data = { d with otp := { d.otp with flashBusy := false, buffer := data } } := by
  have hfill := zipIdx_map_eq (hbuffer.trans hdata.symm) (f := fun x y i => merge x y (maskAt 0 (8 * min 4 (256 - 4 * i)))) fun x y i hi => merge_full x y (by rwa [hdata] at hi)
  unfold flashDone
  rw [if_neg (by simp [hbusy])]
  dsimp only
  rw [if_pos (by simp [hread]), Nat.min_eq_left hfull, hfill]

/-- Settles O54, from the verification's cases and the port's. -/
theorem firmwareIsVerified : Obligations.FirmwareIsVerified := by
  intro s
  refine ⟨fun r a b flash hrun hphase hvalid => ?_, fun v hp hidle => ⟨fun hopen => ?_, fun hopen => ?_⟩, fun data hbusy hwrite => congrArg (next s) (flashDone_of_write hbusy hwrite data),
    fun data hbusy hread hfull hbuffer hdata => congrArg (next s) (flashDone_of_full_read hbusy hread hfull hbuffer hdata)⟩
  · have hdo : verifyDone s.dev a b flash = closeStage (verifyImages s.dev a b flash) r 1 := by
      unfold verifyDone
      rw [hrun]
      exact if_pos (by simp [hphase])
    obtain ⟨⟨hfirst, hsecond⟩, htick, hmask⟩ := verifyImages_spec hvalid a b flash
    generalize verifyImages s.dev a b flash = e at *
    rw [closeStage_sched, htick] at hdo
    refine ⟨_, congrArg (next s) hdo, rfl, bit_switchedOn _ (Domain.bit_lt _), hfirst, hsecond, Laws.keeps_of_mask _ _ _ ?_⟩
    exact (Laws.mask_seq _ { e with pwr := { e.pwr with on := e.pwr.on ||| (1#8 <<< Domain.sched.bit) } } _ (by decide)).trans ((Laws.mask_pwr _ _ _ (by decide)).trans (mask_of_subset (by decide) hmask))
  · have hdo := writeFlash_of_go hp hidle (v := v ||| w32 (1 <<< 19)) (by rw [goWord]; exact bit_or_twoPow_same _ (by decide))
    dsimp only at hdo
    rw [if_pos hopen, show fld (v ||| w32 (1 <<< 19)) 0 8 = fld v 0 8 by rw [goWord, fld_or_twoPow _ (by decide)], show fld (v ||| w32 (1 <<< 19)) 9 9 = fld v 9 9 by rw [goWord, fld_or_twoPow _ (by decide)],
      show bit (v ||| w32 (1 <<< 19)) 18 = bit v 18 by rw [goWord, bit_or_twoPow_other _ (by decide)]] at hdo
    refine ⟨_, _, congrArg (next s) hdo, rfl, rfl, Laws.keeps_of_mask _ _ _ ?_⟩
    exact (Laws.mask_emit _ _ _ (by decide)).trans ((Laws.mask_otp _ _ _ (by decide)).trans (Laws.mask_cfg _ _ _ (by decide)))
  · have hdo := writeFlash_of_go hp hidle (v := v ||| w32 (1 <<< 19)) (by rw [goWord]; exact bit_or_twoPow_same _ (by decide))
    dsimp only at hdo
    rw [if_neg (by simp [hopen])] at hdo
    exact ⟨_, congrArg (next s) hdo, rfl, hidle, rfl, Laws.keeps_of_mask _ _ _ ((Laws.mask_otp _ _ _ (by decide)).trans (Laws.mask_cfg _ _ _ (by decide)))⟩

end Sys2Proof.Machine
end

section
/-!
Clears of fault statuses and the reinstatement of regions (O49).
-/
namespace Sys2Proof.Machine
open Sys2Proof.Safety

/-! ### One bit of a mask -/

theorem foldl_if_absent {β : Type} {p : Nat → Bool} (f : β → Nat → β) {l : List Nat} (hp : ∀ n ∈ l, p n = false) (d : β) : l.foldl (fun d n => if p n then f d n else d) d = d := by
  induction l generalizing d with
  | nil => rfl
  | cons n l ih =>
    rw [List.foldl_cons, hp n List.mem_cons_self]
    exact ih (fun m hm => hp m (List.mem_cons_of_mem _ hm)) d

/-- A fold that acts on one element of its list. -/
theorem foldl_if_single {β : Type} {p : Nat → Bool} (f : β → Nat → β) {l : List Nat} {b : Nat} (hnodup : l.Nodup) (hmem : b ∈ l) (hp : ∀ n, p n = decide (n = b)) (d : β) :
    l.foldl (fun d n => if p n then f d n else d) d = f d b := by
  induction l generalizing d with
  | nil => cases hmem
  | cons n l ih =>
    obtain ⟨hnot, hrest⟩ := List.nodup_cons.1 hnodup
    rw [List.foldl_cons]
    rcases List.mem_cons.1 hmem with rfl | hin
    · rw [hp, decide_eq_true rfl]
      exact foldl_if_absent f (fun m hm => by rw [hp]; exact decide_eq_false fun h => hnot (h ▸ hm)) _
    · rw [hp, decide_eq_false (show ¬ n = b from fun h => hnot (h ▸ hin))]
      exact ih hrest hin d

theorem bit_single {w b : Nat} (hb : b < w) (n : Nat) : bit (1#w <<< b) n = decide (n = b) := by
  unfold bit
  rw [← BitVec.twoPow_eq, BitVec.getLsbD_twoPow, Bool.eq_iff_iff]
  simp
  omega

theorem clearBlock_single (d : Dev) (held : List Nat) {ix : Nat} : clearBlock d (ix / 32) (1#32 <<< (ix % 32)) held = clearStatus d held (srcCode ix) := by
  have hlt : ix % 32 < 32 := Nat.mod_lt _ (by decide)
  refine (foldl_if_single (fun d n => clearStatus d held (srcCode (32 * (ix / 32) + n))) List.nodup_range (List.mem_range.2 hlt) (fun n => bit_single hlt n) d).trans ?_
  rw [Nat.div_add_mod]

/-! ### The collector behind a clear (R304, R305) -/

theorem srcOf_updSrc_other (d : Dev) {code c : Nat} (f : Source → Source) (h : srcIndex c ≠ srcIndex code) : srcOf (updSrc d code f) c = srcOf d c := Sparse.get_set_other _ _ _ _ h

theorem clearStatus_of_set {d : Dev} {held : List Nat} {code : Nat} {i : SrcInfo} (hinfo : srcInfo code = some i) (hset : (srcOf d code).status = true) :
    clearStatus d held code =
      if !causeGone d held code && (freshNow d code).isNone && !raiseDue d code then setFltEvent { d with flt := { d.flt with refusedCount := sat 65535 (d.flt.refusedCount + 1), refusedCode := code } } 4
      else statusCleared d i code := by
  unfold clearStatus
  rw [hinfo]
  exact if_neg (by simp [hset])

/-- The source of a clear in the tick of its raise takes the raise's values (R305). -/
def backToFresh (d : Dev) (i : SrcInfo) (code : Nat) (q : Fresh) : Dev :=
  let e := updSrc d code (fun s => { s with taken := q.taken, first := q.first, insts := q.insts, fret := fretLow d, fresh := some { q with prior := false } })
  { e with flt := { e.flt with lastCode := code, lastSeverity := i.severity, lastReaction := q.taken } }

theorem statusCleared_of_fresh {d : Dev} {code : Nat} {q : Fresh} (h : freshNow d code = some q) (i : SrcInfo) :
    statusCleared d i code = if !q.prior then d else clearRecord (backToFresh d i code q) i code q.priorFirst := by
  unfold statusCleared
  rw [h]
  rfl

theorem backToFresh_spec (d : Dev) (i : SrcInfo) (code : Nat) (q : Fresh) :
    (srcOf (backToFresh d i code q) code).status = (srcOf d code).status ∧ (srcOf (backToFresh d i code q) code).first = q.first ∧ (srcOf (backToFresh d i code q) code).taken = q.taken ∧
      (backToFresh d i code q).flt.lastCode = code ∧ (∀ c, srcIndex c ≠ srcIndex code → srcOf (backToFresh d i code q) c = srcOf d c) ∧ Laws.mask [.flt] (backToFresh d i code q) = Laws.mask [.flt] d := by
  have hsame : srcOf (backToFresh d i code q) code = { srcOf d code with taken := q.taken, first := q.first, insts := q.insts, fret := fretLow d, fresh := some { q with prior := false } } :=
    (srcOf_congr rfl code).trans (srcOf_updSrc_same d code (fun s => { s with taken := q.taken, first := q.first, insts := q.insts, fret := fretLow d, fresh := some { q with prior := false } }))
  refine ⟨by rw [hsame], by rw [hsame], by rw [hsame], rfl, fun c hc => (srcOf_congr rfl c).trans (srcOf_updSrc_other d (fun s => { s with taken := q.taken, first := q.first, insts := q.insts, fret := fretLow d, fresh := some { q with prior := false } }) hc), ?_⟩
  exact (Laws.mask_flt _ _ _ (by decide)).trans (Laws.mask_updSrc _ _ _ _ (by decide))

/-- The status of a source is taken, with the limit pin's where it is the supply's (R269, R304). -/
def statusTaken (d : Dev) (code : Nat) : Dev :=
  updSrc (if code = 0x1504 then { d with pins := { d.pins with psuLimit := false } } else d) code (fun s => { s with status := false, taken := .none, first := 0, insts := [], fret := 0 })

theorem statusCleared_of_old {d : Dev} {code : Nat} (h : freshNow d code = none) (i : SrcInfo) :
    statusCleared d i code = followNalive (clearRecord (statusTaken d code) i code (srcOf d code).first) := by
  unfold statusCleared
  rw [h]
  rfl

theorem statusTaken_spec (d : Dev) (code : Nat) :
    (srcOf (statusTaken d code) code).status = false ∧ (srcOf (statusTaken d code) code).taken = .none ∧ (∀ c, srcIndex c ≠ srcIndex code → srcOf (statusTaken d code) c = srcOf d c) ∧
      (statusTaken d code).flt.refusedCount = d.flt.refusedCount ∧ Laws.mask [.flt, .pins] (statusTaken d code) = Laws.mask [.flt, .pins] d := by
  have hflt : (if code = 0x1504 then { d with pins := { d.pins with psuLimit := false } } else d : Dev).flt = d.flt := by split <;> rfl
  have hmask : Laws.mask [.flt, .pins] (if code = 0x1504 then { d with pins := { d.pins with psuLimit := false } } else d : Dev) = Laws.mask [.flt, .pins] d := by
    split
    · exact Laws.mask_pins _ _ _ (by decide)
    · rfl
  unfold statusTaken
  generalize (if code = 0x1504 then { d with pins := { d.pins with psuLimit := false } } else d : Dev) = e at *
  have hsame := srcOf_updSrc_same e code (fun s => { s with status := false, taken := .none, first := 0, insts := [], fret := 0 })
  refine ⟨by rw [hsame], by rw [hsame], fun c hc => ?_, show e.flt.refusedCount = d.flt.refusedCount by rw [hflt], (Laws.mask_updSrc _ _ _ _ (by decide)).trans hmask⟩
  rw [srcOf_updSrc_other e _ hc]
  exact srcOf_congr (congrArg Collector.srcs hflt) c

theorem followNalive_flt (d : Dev) : (followNalive d).flt.srcs = d.flt.srcs ∧ (followNalive d).flt.refusedCount = d.flt.refusedCount := by
  unfold followNalive
  dsimp only
  split
  · split <;> exact ⟨rfl, rfl⟩
  · exact ⟨rfl, rfl⟩

/-- A clear that takes its status (R304). -/
theorem statusCleared_spec {d : Dev} {code : Nat} (h : freshNow d code = none) (i : SrcInfo) :
    (srcOf (statusCleared d i code) code).status = false ∧ (srcOf (statusCleared d i code) code).taken = .none ∧ (∀ c, srcIndex c ≠ srcIndex code → srcOf (statusCleared d i code) c = srcOf d c) ∧
      (statusCleared d i code).flt.refusedCount = d.flt.refusedCount ∧ keeps [.flt, .int, .rcd, .pins, .out] d (statusCleared d i code) := by
  obtain ⟨hstatus, htaken, hothers, hcount, hmask⟩ := statusTaken_spec d code
  have hrecord := flt_clearRecord (statusTaken d code) i code (srcOf d code).first
  obtain ⟨hsrcs, hrefused⟩ := followNalive_flt (clearRecord (statusTaken d code) i code (srcOf d code).first)
  rw [hrecord] at hsrcs hrefused
  rw [statusCleared_of_old h]
  refine ⟨by rw [srcOf_congr hsrcs]; exact hstatus, by rw [srcOf_congr hsrcs]; exact htaken, fun c hc => by rw [srcOf_congr hsrcs]; exact hothers c hc, hrefused.trans hcount, Laws.keeps_of_mask _ _ _ ?_⟩
  rw [Laws.mask_followNalive _ _ (by decide) (by decide), Laws.mask_clearRecord _ _ _ _ _ (by decide) (by decide)]
  exact mask_of_subset (by decide) hmask

/-! ### Regions (R295) -/

/-- What training does to one link of its list. -/
def trainStep (d : Dev) (k : Nat) : Dev :=
  if bit d.flt.regRetired (regionOfLink k) || (lkU d k).st == .retired then d
  else if !linkUsed d k then updLk d k (fun l => { l with st := .unused })
  else trainLink d k

theorem trainLinks_eq (d : Dev) (ks : List Nat) : trainLinks d ks = ks.foldl trainStep d := rfl

theorem mask_trainStep (d : Dev) (k : Nat) : Laws.mask [.lk] (trainStep d k) = Laws.mask [.lk] d := by
  unfold trainStep trainLink
  split
  · rfl
  · split <;> exact Laws.mask_updLk _ _ _ _ (by decide)

theorem lkU_trainStep_other (d : Dev) {j k : Nat} (h : j ≠ k) : lkU (trainStep d k) j = lkU d j := by
  unfold trainStep trainLink
  split
  · rfl
  · split <;> exact lkU_updLk_other _ _ _ _ h

theorem length_trainStep (d : Dev) (k : Nat) : (trainStep d k).lk.length = d.lk.length := by
  unfold trainStep trainLink
  split
  · rfl
  · split <;> exact updLk_length _ _ _

theorem lkU_trainLinks_other (d : Dev) {ks : List Nat} {j : Nat} (h : j ∉ ks) : lkU (trainLinks d ks) j = lkU d j := by
  rw [trainLinks_eq]
  induction ks generalizing d with
  | nil => rfl
  | cons k ks ih =>
    rw [List.foldl_cons, ih _ (fun hj => h (List.mem_cons_of_mem _ hj))]
    exact lkU_trainStep_other d fun he => h (he ▸ List.mem_cons_self)

/-- A used link of a region in service that is not retired trains, and stays so (R224). -/
theorem st_trainStep {d : Dev} {j : Nat} (hlen : j < d.lk.length) (hregion : bit d.flt.regRetired (regionOfLink j) = false) (hused : linkUsed d j = true) (hst : (lkU d j).st ≠ .retired) :
    (lkU (trainStep d j) j).st = .training := by
  unfold trainStep trainLink
  rw [if_neg (by simp [hregion, hst]), if_neg (by simp [hused]), lkU_updLk_same _ _ _ hlen]

theorem linkUsed_congr {d e : Dev} (hotp : e.otp = d.otp) (hcfg : e.cfg = d.cfg) (k : Nat) : linkUsed e k = linkUsed d k := by
  unfold linkUsed
  rw [inForce_congr e d hotp (congrArg Regs.force hcfg)]

theorem st_trainLinks {d : Dev} {ks : List Nat} {j : Nat} (hlen : j < d.lk.length) (hregion : bit d.flt.regRetired (regionOfLink j) = false) (hused : linkUsed d j = true)
    (h : j ∈ ks ∧ (lkU d j).st ≠ .retired ∨ (lkU d j).st = .training) : (lkU (trainLinks d ks) j).st = .training := by
  rw [trainLinks_eq]
  induction ks generalizing d with
  | nil => exact h.resolve_left fun h => (List.not_mem_nil h.1)
  | cons k ks ih =>
    rw [List.foldl_cons]
    have hkeeps := Laws.keeps_of_mask _ _ _ (mask_trainStep d k)
    have hflt : (trainStep d k).flt = d.flt := (hkeeps .flt (by decide)).symm
    refine ih (by rw [length_trainStep]; exact hlen) (by rw [hflt]; exact hregion) ((linkUsed_congr (hkeeps .otp (by decide)).symm (hkeeps .cfg (by decide)).symm j).trans hused) ?_
    by_cases hj : j = k
    · subst hj
      refine Or.inr (st_trainStep hlen hregion hused ?_)
      rcases h with ⟨-, hst⟩ | hst
      · exact hst
      · rw [hst]; decide
    · rw [lkU_trainStep_other d hj]
      rcases h with ⟨hin, hst⟩ | hst
      · exact Or.inl ⟨(List.mem_cons.1 hin).resolve_left hj, hst⟩
      · exact Or.inr hst

/-- The region is in service again. -/
def regionBack (d : Dev) (r : Nat) : Dev := { d with flt := { d.flt with regRetired := d.flt.regRetired &&& ~~~(1#4 <<< r), regHeld := d.flt.regHeld &&& ~~~(1#4 <<< r) } }

theorem reinstateRegion_of_clear {d : Dev} {r : Nat} (hmode : d.mm.mode = .config) (hretired : bit d.flt.regRetired r = true) (hfault : regionFault d r = false) :
    reinstateRegion d r = trainLinks (regionBack d r) ((List.range 4).map (· + 4 * r)) := by
  unfold reinstateRegion
  exact if_neg (by simp [hmode, hretired, hfault])

theorem bit_regionBack (d : Dev) (r q : Nat) : bit (regionBack d r).flt.regRetired q = (bit d.flt.regRetired q && decide (q ≠ r)) := bit_clear _ _ _

theorem mem_regionLinks (r k : Nat) : k ∈ (List.range 4).map (· + 4 * r) ↔ k / 4 = r := by
  simp only [List.mem_map, List.mem_range]
  constructor
  · rintro ⟨i, hi, rfl⟩
    omega
  · intro h
    exact ⟨k % 4, Nat.mod_lt _ (by decide), by omega⟩

/-- Settles O49, from the three fates of a clear and from the training of a region's links. -/
theorem faultsAreCleared : Obligations.FaultsAreCleared := by
  refine ⟨fun s held code i hinfo hcode _ hp hset => ?_, fun s r hr hlen hmode hretired hfault => ?_⟩
  · intro ix
    have hexec : ∀ {e}, clearStatus s.dev held code = e → exec (.fltStatusClear (ix / 32) (1#32 <<< (ix % 32)) held) s = next s e := fun {e} h => by
      have hsingle : clearBlock s.dev (ix / 32) (1#32 <<< (ix % 32)) held = clearStatus s.dev held code := (clearBlock_single s.dev held).trans (by rw [hcode])
      exact congrArg (next s) ((if_pos hp).trans (hsingle.trans h))
    have hclear := clearStatus_of_set (held := held) hinfo hset
    refine ⟨fun q hfresh => ⟨fun hprior => ?_, fun hprior => ?_⟩, fun hfresh hcause => ?_, fun hfresh hcause hdue => ?_⟩
    · rw [if_neg (by simp [hfresh]), statusCleared_of_fresh hfresh, if_pos (by simp [hprior])] at hclear
      exact hexec hclear
    · rw [if_neg (by simp [hfresh]), statusCleared_of_fresh hfresh, if_neg (by simp [hprior])] at hclear
      obtain ⟨hstatus, hfirst, htaken, hlast, hothers, hmask⟩ := backToFresh_spec s.dev i code q
      have hflt := flt_clearRecord (backToFresh s.dev i code q) i code q.priorFirst
      have hsrc : ∀ c, srcOf (clearRecord (backToFresh s.dev i code q) i code q.priorFirst) c = srcOf (backToFresh s.dev i code q) c := srcOf_congr (congrArg Collector.srcs hflt)
      refine ⟨_, hexec hclear, by rw [hsrc, hstatus, hset], by rw [hsrc, hfirst], by rw [hsrc, htaken], by rw [hflt, hlast], fun c hc => (hsrc c).trans (hothers c hc), Laws.keeps_of_mask _ _ _ ?_⟩
      exact (Laws.mask_clearRecord _ _ _ _ _ (by decide) (by decide)).trans (mask_of_subset (by decide) hmask)
    · rw [if_neg (by rcases hcause with h | h <;> simp [h])] at hclear
      exact ⟨_, hexec hclear, statusCleared_spec hfresh i⟩
    · rw [if_pos (by simp [hfresh, hcause, hdue])] at hclear
      exact hexec hclear
  · have hdo : foldN 4 (fun d q => if bit (1#4 <<< r) q then reinstateRegion d q else d) s.dev = reinstateRegion s.dev r :=
      foldl_if_single reinstateRegion List.nodup_range (List.mem_range.2 hr) (fun n => bit_single hr n) s.dev
    rw [reinstateRegion_of_clear hmode hretired hfault] at hdo
    have hmask : Laws.mask [.lk] (trainLinks (regionBack s.dev r) ((List.range 4).map (· + 4 * r))) = Laws.mask [.lk] (regionBack s.dev r) := Laws.mask_foldl _ _ (fun d k => mask_trainStep d k) _ _
    have hflt : (trainLinks (regionBack s.dev r) ((List.range 4).map (· + 4 * r))).flt = (regionBack s.dev r).flt := flt_of_mask hmask (by decide)
    refine ⟨_, congrArg (next s) hdo, ?_, fun q hq => ?_, fun k hk hused hst => ?_, fun k hk => ?_, Laws.keeps_of_mask _ _ _ ?_⟩
    · rw [hflt, bit_regionBack]
      simp
    · rw [hflt, bit_regionBack]
      simp [hq]
    · refine st_trainLinks (d := regionBack s.dev r) (by change k < s.dev.lk.length; omega) ?_ hused (Or.inl ⟨(mem_regionLinks r k).2 hk, hst⟩)
      rw [bit_regionBack, regionOfLink, hk]
      simp
    · exact lkU_trainLinks_other (regionBack s.dev r) fun h => hk ((mem_regionLinks r k).1 h)
    · exact (mask_of_subset (by decide) hmask).trans (Laws.mask_flt _ _ _ (by decide))

end Sys2Proof.Machine
end

section
/-!
A fault raised in RUN (O48): what the collector keeps of it, and the reactions.
-/
namespace Sys2Proof.Machine
open Sys2Proof.Safety

/-! ### What the reactions leave of the collector -/

/-- What the collector keeps of its sources, and of the last fault (R291, R312). -/
def verdicts (d : Dev) : Sparse Source × Nat × Nat × Reaction := (d.flt.srcs, d.flt.lastCode, d.flt.lastSeverity, d.flt.lastReaction)

theorem verdicts_of_flt {d e : Dev} (h : e.flt = d.flt) : verdicts e = verdicts d := by
  unfold verdicts
  rw [h]

theorem verdicts_of_mask {qs : List Part} {d e : Dev} (h : Laws.mask qs e = Laws.mask qs d) (hflt : Part.flt ∉ qs) : verdicts e = verdicts d :=
  verdicts_of_flt (flt_of_mask h hflt)

theorem verdicts_recapo (d : Dev) (k : Nat) : verdicts (recapo d k) = verdicts d := by
  have hmove : verdicts (moveCapo d k (capoNow d k)) = verdicts d := verdicts_of_mask (qs := [.fb, .str, .int, .rcd]) (Laws.mask_moveCapo _ _ _ _ (by decide) (by decide) (by decide) (by decide)) (by decide)
  refine Eq.trans ?_ hmove
  rw [recapo, setCapo, noteDerated]
  dsimp only
  split
  · rfl
  · split <;> rfl

theorem verdicts_foldPh {α : Type} (f : Dev → α → Dev) (hf : ∀ d a, Laws.mask [.ph] (f d a) = Laws.mask [.ph] d) (l : List α) (d : Dev) : verdicts (l.foldl f d) = verdicts d :=
  proj_foldl verdicts f (fun d a => verdicts_of_mask (hf d a) (by decide)) l d

theorem verdicts_restPhases (d : Dev) (k : Nat) : verdicts (restPhases d k) = verdicts d := by
  unfold restPhases
  dsimp only
  split
  · refine (verdicts_recapo _ k).trans ((verdicts_foldPh _ (fun d p => Laws.mask_updPh _ d p _ (by decide)) _ _).trans ?_)
    split <;> rfl
  · rfl

theorem verdicts_clearLoops (d : Dev) (k : Nat) : verdicts (clearLoops d k) = verdicts d :=
  verdicts_of_mask (qs := [.str, .ph]) (Laws.mask_clearLoops _ _ _ (by decide) (by decide)) (by decide)

theorem verdicts_safeString (d : Dev) (k : Nat) : verdicts (safeString d k) = verdicts d := by
  rcases safeString_cases d k with ⟨h, -⟩ | ⟨-, ref, now, by', h | h⟩
  · rw [h]
  · rw [h]
    exact verdicts_clearLoops d k
  · rw [h]
    exact (verdicts_restPhases _ k).trans (verdicts_clearLoops d k)

theorem verdicts_dropDischarge (d : Dev) (k : Nat) : verdicts (dropDischarge d k) = verdicts d := by
  unfold dropDischarge
  split
  · exact verdicts_restPhases d k
  · rfl

theorem verdicts_endStringResv (d : Dev) (k : Nat) (st : Status) : verdicts (endStringResv d k st) = verdicts d :=
  verdicts_of_mask (qs := [.jr, .fb, .int, .mp, .out, .fretOut]) (Laws.mask_endStringResv _ _ _ _ (by decide) (by decide) (by decide) (by decide) (by decide) (by decide)) (by decide)

theorem verdicts_retireString (d : Dev) (k code : Nat) : verdicts (retireString d k code) = verdicts d := by
  rcases retireString_cases d k code with ⟨-, h⟩ | ⟨-, e, h, he⟩
  · rw [h]
  · rw [h]
    refine (verdicts_endStringResv e k _).trans ?_
    rcases he with rfl | rfl | rfl
    · exact verdicts_safeString _ k
    · rfl
    · exact verdicts_restPhases _ k

theorem verdicts_retirePhase (d : Dev) (p cause code : Nat) : verdicts (retirePhase d p cause code) = verdicts d := by
  unfold retirePhase
  split
  · rfl
  · dsimp only
    split
    · rfl
    next k _ =>
      have hcapo : ∀ e : Dev, verdicts (setStrEvent (recapo e k) k 1) = verdicts e := fun e => (verdicts_of_mask (qs := [.str]) (Laws.mask_setStrEvent _ _ _ _ (by decide)) (by decide)).trans (verdicts_recapo e k)
      split
      · exact hcapo _
      · split
        · exact (verdicts_dropDischarge _ k).trans (hcapo _)
        · split
          · exact (verdicts_retireString _ k 0x1104).trans (hcapo _)
          · exact hcapo _

theorem verdicts_allSafe (d : Dev) (keep : Bool) : verdicts (allSafe d keep) = verdicts d := by
  refine proj_foldN verdicts _ _ (fun d k => ?_) d
  split
  · rfl
  · exact verdicts_safeString d k

/-! ### What the reactions below the mode leave -/

/-- Parts that a reaction below the mode's writes. -/
def unitParts : List Part := [.jr, .fb, .str, .ph, .seq, .flt, .int, .rcd, .mp, .pwr, .out, .fretOut]

/-- What such a reaction leaves: the other parts, and what the collector keeps. -/
def spared (d : Dev) : Dev × Sparse Source × Nat × Nat × Reaction := (Laws.mask unitParts d, verdicts d)

theorem spared_eq {d e : Dev} (hmask : Laws.mask unitParts e = Laws.mask unitParts d) (hverdicts : verdicts e = verdicts d) : spared e = spared d := by
  unfold spared
  rw [hmask, hverdicts]

theorem mask_of_spared {d e : Dev} (h : spared e = spared d) : Laws.mask unitParts e = Laws.mask unitParts d := (Prod.ext_iff.1 h).1

theorem verdicts_of_spared {d e : Dev} (h : spared e = spared d) : verdicts e = verdicts d := (Prod.ext_iff.1 h).2

theorem spared_endStringResv (d : Dev) (k : Nat) (st : Status) : spared (endStringResv d k st) = spared d :=
  spared_eq (Laws.mask_endStringResv _ _ _ _ (by decide) (by decide) (by decide) (by decide) (by decide) (by decide)) (verdicts_endStringResv d k st)

theorem spared_safeString (d : Dev) (k : Nat) : spared (safeString d k) = spared d :=
  spared_eq (mask_of_subset (by decide) (mask_safeString_parts d k)) (verdicts_safeString d k)

theorem spared_retirePhase (d : Dev) (p cause code : Nat) : spared (retirePhase d p cause code) = spared d :=
  spared_eq (Laws.mask_retirePhase _ _ _ _ _ (by decide) (by decide) (by decide) (by decide) (by decide) (by decide) (by decide) (by decide) (by decide) (by decide)) (verdicts_retirePhase d p cause code)

theorem spared_allSafe (d : Dev) (keep : Bool) : spared (allSafe d keep) = spared d :=
  spared_eq (Laws.mask_allSafe _ _ _ (by decide) (by decide) (by decide) (by decide) (by decide) (by decide)) (verdicts_allSafe d keep)

theorem spared_reactString (d : Dev) (k : Nat) : spared (reactString d k) = spared d := by
  unfold reactString
  split
  · rfl
  · exact (spared_endStringResv _ k _).trans (spared_safeString d k)

theorem spared_retireRegion (d : Dev) (r : Nat) : spared (retireRegion d r) = spared d :=
  (proj_foldl spared _ (fun d k => spared_endStringResv d k .abortedSafe) _ _).trans (spared_eq (Laws.mask_flt _ _ _ (by decide)) rfl)

theorem spared_retireMonitor (d : Dev) (c : Nat) : spared (retireMonitor d c) = spared d := by
  unfold retireMonitor
  split
  · rfl
  · dsimp only
    split <;> rfl

theorem spared_retireUnit (d : Dev) (f : FaultIn) : spared (retireUnit d f) = spared d := by
  unfold retireUnit
  split
  · exact spared_retireMonitor d f.p0
  · split
    · exact spared_retirePhase _ _ _ _
    · rfl

theorem spared_retireNamed (d : Dev) (i : SrcInfo) (f : FaultIn) (r : Reaction) : spared (retireNamed d i f r) = spared d := by
  unfold retireNamed
  split
  · rfl
  · split
    · split
      · exact spared_retireRegion d _
      · rfl
    · split
      · exact spared_retireUnit d f
      · rfl

theorem spared_react (d : Dev) (f : FaultIn) (r : Reaction) : spared (react d f r) = spared d := by
  unfold react
  split
  · rfl
  next i _ =>
    have hnamed := spared_retireNamed d i f r
    dsimp only
    split
    · split
      · exact (spared_allSafe _ _).trans hnamed
      · exact hnamed
    · split
      · exact hnamed
      · split
        · exact (spared_retireUnit _ f).trans hnamed
        · exact (proj_foldl spared _ spared_reactString _ _).trans hnamed
        · split
          · exact (proj_foldl spared _ spared_reactString _ _).trans hnamed
          · exact hnamed
        · exact hnamed

/-! ### What a mode change leaves of the collector -/

theorem verdicts_followNalive (d : Dev) : verdicts (followNalive d) = verdicts d := by
  unfold followNalive
  dsimp only
  split
  · split <;> rfl
  · rfl

theorem verdicts_noteMode (d : Dev) (m : Mode) (c : Cause) (detail : Nat) (rec' : Bool) : verdicts (noteMode d m c detail rec') = verdicts d := by
  have hconfig : ∀ (e : Dev) frm, verdicts (leaveConfig e frm) = verdicts e := fun e frm => by unfold leaveConfig; split <;> rfl
  have hcancel : ∀ e : Dev, verdicts (cancelInjection e) = verdicts e := fun e => by unfold cancelInjection; split <;> rfl
  have hevent : ∀ e : Dev, verdicts (setModeEvent e 0) = verdicts e := fun e => verdicts_of_mask (qs := [.mm, .int]) (Laws.mask_setModeEvent _ _ _ (by decide) (by decide)) (by decide)
  have hfast : ∀ (e : Dev) o, verdicts (emitFast e o) = verdicts e := fun e o => verdicts_of_mask (qs := [.out, .fretOut]) (Laws.mask_emitFast _ _ _ (by decide) (by decide)) (by decide)
  rw [noteMode_eq, verdicts_followNalive, hconfig, changeMode]
  dsimp only
  rw [hcancel]
  split
  · exact (verdicts_of_mask (qs := [.int, .rcd]) (Laws.mask_record _ _ _ _ _ _ _ _ _ (by decide) (by decide)) (by decide)).trans ((hfast _ _).trans (hevent _))
  · exact (hfast _ _).trans (hevent _)

theorem verdicts_inMode (d : Dev) (m : Mode) (c : Cause) (detail : Nat) (rec' : Bool) : verdicts (inMode d m c detail rec') = verdicts d := by
  have hlinks : verdicts (linksMode d (noteMode d m c detail rec') d.mm.mode m) = verdicts d :=
    (verdicts_of_mask (qs := [.lk]) (mask_linksMode _ _ _ _ _ (by decide)) (by decide)).trans (verdicts_noteMode _ _ _ _ _)
  unfold inMode
  dsimp only
  split
  · exact (verdicts_of_mask (qs := [.fb]) (Laws.mask_recomputePin _ _ (by decide)) (by decide)).trans hlinks
  · exact hlinks

theorem verdicts_chargerMode (d : Dev) (frm : Mode) {m : Mode} (hm : m ≠ .ride) : verdicts (chargerMode d frm m) = verdicts d :=
  verdicts_of_mask (qs := chargerParts) (mask_chargerMode _ _ (fun _ h => h) _ hm) (by decide)

theorem verdicts_endAllTimed (d : Dev) (st : Status) : verdicts (endAllTimed d st) = verdicts d :=
  verdicts_of_mask (qs := [.cfg, .jr, .fb, .str, .int, .cap, .mp, .out, .fretOut])
    (Laws.mask_endAllTimed _ _ _ (by decide) (by decide) (by decide) (by decide) (by decide) (by decide) (by decide) (by decide) (by decide)) (by decide)

theorem verdicts_endPending (d : Dev) (st : Status) (frm : Mode) : verdicts (endPending d st frm) = verdicts d :=
  verdicts_of_mask (qs := [.mm, .jr, .int, .mp, .out, .fretOut]) (Laws.mask_endPending _ _ _ _ (by decide) (by decide) (by decide) (by decide) (by decide) (by decide)) (by decide)

theorem verdicts_enterMode_safe {d : Dev} (h : d.mm.mode ≠ .replay) (c : Cause) (detail : Nat) : verdicts (enterMode d .safe c detail) = verdicts d := by
  rw [enterMode, enterModeWith_safe h, verdicts_endAllTimed, verdicts_chargerMode _ _ (by decide), verdicts_allSafe, verdicts_endPending, verdicts_inMode]

/-! ### Entry to DRONE (R25, R301, R302) -/

/-- Parts that an entry to DRONE writes beside those of SAFE's: the fret of a lost die, and the run. -/
def reactionParts : List Part := [.mm, .cfg, .jr, .fb, .str, .ph, .lk, .seq, .chg, .flt, .int, .rcd, .cap, .mp, .pwr, .out, .fretOut]

/-- What stops every string on the loss of the control die. -/
def lostString (d : Dev) (k : Nat) : Dev := if (strU (safeString d k) k).st == .safeDischarge then restPhases (safeString d k) k else safeString d k

theorem mask_lostString (d : Dev) (k : Nat) : Laws.mask restParts (lostString d k) = Laws.mask restParts d := by
  unfold lostString
  split
  · exact (mask_restPhases_parts _ k).trans (mask_safeString_parts d k)
  · exact mask_safeString_parts d k

theorem verdicts_lostString (d : Dev) (k : Nat) : verdicts (lostString d k) = verdicts d := by
  unfold lostString
  split
  · exact (verdicts_restPhases _ k).trans (verdicts_safeString d k)
  · exact verdicts_safeString d k

/-- The device that remembers its SAFETY strings on the loss of the control die. -/
def remembered (d : Dev) : Dev :=
  { d with pwr := { d.pwr with droneSafety := (List.range 64).filter (fun k => isSafety d k && (strU d k).st.enabled), lostFret := d.clk.fret }, mm := { d.mm with pend := none } }

theorem lostDrone_eq (d : Dev) : lostDrone d = foldN 64 lostString (remembered d) := rfl

theorem mm_lostDrone (d : Dev) : (lostDrone d).mm = { d.mm with pend := none } := by
  rw [lostDrone_eq]
  exact mm_of_mask (qs := restParts) (Laws.mask_foldN restParts 64 lostString mask_lostString (remembered d)) (by decide)

theorem mask_lostDrone (d : Dev) : Laws.mask reactionParts (lostDrone d) = Laws.mask reactionParts d := by
  rw [lostDrone_eq]
  refine (mask_of_subset (by decide) (Laws.mask_foldN restParts 64 lostString mask_lostString (remembered d))).trans ?_
  exact (Laws.mask_mm _ { d with pwr := (remembered d).pwr } _ (by decide)).trans (Laws.mask_pwr _ _ _ (by decide))

theorem verdicts_lostDrone (d : Dev) : verdicts (lostDrone d) = verdicts d := by
  rw [lostDrone_eq]
  exact proj_foldN verdicts 64 lostString verdicts_lostString (remembered d)

/-- The rest of an entry to DRONE with the control die. -/
def droneTail (d : Dev) (frm : Mode) : Dev := dropDischarges (droneAllot (endAllTimed (chargerMode (allSafe d true) frm .drone) .abortedSafe))

theorem mask_droneTail (d : Dev) (frm : Mode) : Laws.mask reactionParts (droneTail d frm) = Laws.mask reactionParts d := by
  unfold droneTail
  rw [Laws.mask_dropDischarges _ _ (by decide) (by decide) (by decide) (by decide) (by decide) (by decide), Laws.mask_droneAllot _ _ (by decide),
    Laws.mask_endAllTimed _ _ _ (by decide) (by decide) (by decide) (by decide) (by decide) (by decide) (by decide) (by decide) (by decide),
    mask_chargerMode _ _ (by decide) _ (by decide), Laws.mask_allSafe _ _ _ (by decide) (by decide) (by decide) (by decide) (by decide) (by decide)]

theorem verdicts_droneTail (d : Dev) (frm : Mode) : verdicts (droneTail d frm) = verdicts d := by
  have hdrop : ∀ e : Dev, verdicts (dropDischarges e) = verdicts e := proj_foldN verdicts _ _ verdicts_dropDischarge
  have hallot : ∀ e : Dev, verdicts (droneAllot e) = verdicts e := fun e => verdicts_of_mask (qs := [.str]) (Laws.mask_droneAllot _ _ (by decide)) (by decide)
  unfold droneTail
  rw [hdrop, hallot, verdicts_endAllTimed, verdicts_chargerMode _ _ (by decide), verdicts_allSafe]

theorem mm_droneTail (d : Dev) (frm : Mode) : (droneTail d frm).mm = d.mm := by
  refine mm_of_mask (qs := [.cfg, .jr, .fb, .str, .ph, .chg, .flt, .int, .rcd, .cap, .mp, .out, .fretOut]) ?_ (by decide)
  unfold droneTail
  rw [Laws.mask_dropDischarges _ _ (by decide) (by decide) (by decide) (by decide) (by decide) (by decide), Laws.mask_droneAllot _ _ (by decide),
    Laws.mask_endAllTimed _ _ _ (by decide) (by decide) (by decide) (by decide) (by decide) (by decide) (by decide) (by decide) (by decide),
    mask_chargerMode _ _ (by decide) _ (by decide), Laws.mask_allSafe _ _ _ (by decide) (by decide) (by decide) (by decide) (by decide) (by decide)]

/-- An entry to DRONE: its mode machine, the parts it leaves, and the collector. -/
theorem enterMode_drone_spec {d : Dev} (h : d.mm.mode ≠ .replay) (hconfig : d.mm.mode ≠ .config) (c : Cause) (detail : Nat) :
    (enterMode d .drone c detail).mm = { enteredMm d .drone c detail with pend := none } ∧ Laws.mask reactionParts (enterMode d .drone c detail) = Laws.mask reactionParts d ∧
      verdicts (enterMode d .drone c detail) = verdicts d := by
  have hcharger : ∀ e : Dev, (chargerMode e d.mm.mode .drone).mm = e.mm := fun e => mm_of_mask (qs := chargerParts) (mask_chargerMode _ _ (fun _ h => h) _ (by decide)) (by decide)
  have hin := mask_inMode reactionParts d .drone c detail true (by decide) (.inr hconfig)
  rw [enterMode, enterModeWith_drone h]
  split
  · refine ⟨by rw [mm_lostDrone, hcharger, mm_inMode], (mask_lostDrone _).trans ((mask_chargerMode _ _ (by decide) _ (by decide)).trans hin), ?_⟩
    rw [verdicts_lostDrone, verdicts_chargerMode _ _ (by decide), verdicts_inMode]
  · refine ⟨(mm_droneTail _ _).trans ((mm_endPending _ _ _).trans (by rw [mm_inMode])), (mask_droneTail _ _).trans ?_, (verdicts_droneTail _ _).trans ((verdicts_endPending _ _ _).trans (verdicts_inMode _ _ _ _ _))⟩
    exact (Laws.mask_endPending _ _ _ _ (by decide) (by decide) (by decide) (by decide) (by decide) (by decide)).trans hin

/-- The device that DRONE is entered from: with the control die lost its run is gone. -/
def droneFrom (d : Dev) : Dev := if d.pwr.ctlLost then { clearRun d with mm := { d.mm with target := d.mm.mode } } else d

theorem deviceDrone_of_run {d : Dev} (hmode : d.mm.mode = .run) (hrun : d.seq.run = none) (hafter : d.mm.after = none) (c : Cause) (detail : Nat) :
    deviceDrone d c detail = enterMode (droneFrom d) .drone c detail := by
  have hstop : stopRun d .abortedSafe .drone = d := by rw [stopRun, hrun]
  have hsame : { droneFrom d with mm := { (droneFrom d).mm with after := none } } = droneFrom d := by
    have hnone : (droneFrom d).mm.after = none := by
      unfold droneFrom
      split <;> exact hafter
    rw [← hnone]
  refine Eq.trans ?_ (congrArg (fun e => enterMode e .drone c detail) hsame)
  simp only [deviceDrone, hmode, hafter, hstop, droneFrom]

theorem droneFrom_spec (d : Dev) : (droneFrom d).mm.mode = d.mm.mode ∧ Laws.mask reactionParts (droneFrom d) = Laws.mask reactionParts d ∧ verdicts (droneFrom d) = verdicts d := by
  unfold droneFrom
  split
  · exact ⟨rfl, (Laws.mask_mm _ (clearRun d) _ (by decide)).trans (Laws.mask_seq _ _ _ (by decide)), rfl⟩
  · exact ⟨rfl, rfl, rfl⟩

theorem deviceDrone_spec {d : Dev} (hmode : d.mm.mode = .run) (hrun : d.seq.run = none) (hafter : d.mm.after = none) (c : Cause) (detail : Nat) :
    (deviceDrone d c detail).mm.mode = .drone ∧ (deviceDrone d c detail).mm.cause = c ∧ (deviceDrone d c detail).mm.causeDetail = detail ∧
      Laws.mask reactionParts (deviceDrone d c detail) = Laws.mask reactionParts d ∧ verdicts (deviceDrone d c detail) = verdicts d := by
  obtain ⟨hm, hmask, hverdicts⟩ := droneFrom_spec d
  obtain ⟨hmm, hmask', hverdicts'⟩ := enterMode_drone_spec (d := droneFrom d) (by rw [hm, hmode]; decide) (by rw [hm, hmode]; decide) c detail
  rw [deviceDrone_of_run hmode hrun hafter]
  exact ⟨by rw [hmm]; rfl, by rw [hmm]; rfl, by rw [hmm]; rfl, hmask'.trans hmask, hverdicts'.trans hverdicts⟩

/-! ### One raise (R291) -/

/-- What the collector shows of the last new fault. -/
def lastFault (d : Dev) : Nat × Nat × Reaction := (d.flt.lastCode, d.flt.lastSeverity, d.flt.lastReaction)

/-- A fault that is new is the last one. -/
def newest (d : Dev) (i : SrcInfo) (f : FaultIn) (r : Reaction) : Dev :=
  if (srcOf d f.code).status then d else { d with flt := { d.flt with lastCode := f.code, lastSeverity := i.severity, lastReaction := r } }

/-- The source of a raise holds it. -/
def marked (d : Dev) (i : SrcInfo) (f : FaultIn) (r : Reaction) : Dev := updSrc (newest d i f r) f.code (raiseSource (newest d i f r) f r)

/-- The event and the message of a raise. -/
def told (d : Dev) (i : SrcInfo) (f : FaultIn) (r : Reaction) : Dev := emitFast (if r == .none then marked d i f r else setFltEvent (marked d i f r) i.severity) (.fault f.code f.p0 r.code)

theorem raiseStatus_of_real {d : Dev} {f : FaultIn} {i : SrcInfo} (hinfo : srcInfo f.code = some i) (hraisable : raisable d f.code = true) (hobserve : f.observe = false) (hinjected : f.injected = false) :
    raiseStatus d f = followNalive (faultRecord (told d i f (takenReaction d i f)) i f (takenReaction d i f)) := by
  unfold raiseStatus
  rw [hinfo]
  dsimp only
  rw [if_neg (by simp [hraisable]), if_neg (by simp [hobserve]), if_neg (by simp [hinjected])]
  rfl

theorem newest_spec (d : Dev) (i : SrcInfo) (f : FaultIn) (r : Reaction) :
    (newest d i f r).flt.srcs = d.flt.srcs ∧ (newest d i f r).clk = d.clk ∧ ((srcOf d f.code).status = false → lastFault (newest d i f r) = (f.code, i.severity, r)) ∧
      Laws.mask [.flt] (newest d i f r) = Laws.mask [.flt] d := by
  unfold newest
  split
  next h => exact ⟨rfl, rfl, fun hnew => absurd (h.symm.trans hnew) (by decide), rfl⟩
  next => exact ⟨rfl, rfl, fun _ => rfl, Laws.mask_flt _ _ _ (by decide)⟩

theorem srcOf_marked (d : Dev) (i : SrcInfo) (f : FaultIn) (r : Reaction) : srcOf (marked d i f r) f.code = raiseSource d f r (srcOf d f.code) := by
  obtain ⟨hsrcs, hclk, -, -⟩ := newest_spec d i f r
  rw [marked, srcOf_updSrc_same, srcOf_congr hsrcs]
  unfold raiseSource freshRaise fretLow
  rw [hclk]

theorem told_spec (d : Dev) (i : SrcInfo) (f : FaultIn) (r : Reaction) :
    srcOf (told d i f r) f.code = raiseSource d f r (srcOf d f.code) ∧ ((srcOf d f.code).status = false → lastFault (told d i f r) = (f.code, i.severity, r)) := by
  have hflt : ∃ w, (told d i f r).flt = { (marked d i f r).flt with event := w } := by
    rw [told, flt_of_mask (qs := [.out, .fretOut]) (Laws.mask_emitFast _ _ _ (by decide) (by decide)) (by decide)]
    split
    · exact ⟨_, rfl⟩
    · exact ⟨_, by rw [setFltEvent, occur_flt]⟩
  obtain ⟨w, hw⟩ := hflt
  refine ⟨(srcOf_congr (d := marked d i f r) (by rw [hw]) f.code).trans (srcOf_marked d i f r), fun hnew => ?_⟩
  rw [lastFault, hw]
  exact (newest_spec d i f r).2.2.1 hnew

theorem faultRecord_spec (d : Dev) (i : SrcInfo) (f : FaultIn) (r : Reaction) :
    (∃ n, srcOf (faultRecord d i f r) f.code = { srcOf d f.code with lastRec := n }) ∧ lastFault (faultRecord d i f r) = lastFault d := by
  unfold faultRecord
  split
  · exact ⟨⟨_, rfl⟩, rfl⟩
  · have hflt := fun (e : Dev) source flags p3 => flt_of_mask (qs := [.int, .rcd]) (Laws.mask_recordRaw _ e true f.code source flags f.p0 f.p1 f.p2 p3 (by decide) (by decide)) (by decide)
    dsimp only
    refine ⟨⟨some d.clk.mgmt, ?_⟩, ?_⟩
    · exact (srcOf_congr (by rw [hflt]) f.code).trans (srcOf_updSrc_same d f.code (fun s => { s with lastRec := some d.clk.mgmt }))
    · rw [lastFault, hflt]
      rfl

/-- Parts that a raise without a reaction writes. -/
def raiseParts : List Part := [.flt, .int, .rcd, .out, .fretOut]

theorem mask_told (d : Dev) (i : SrcInfo) (f : FaultIn) (r : Reaction) : Laws.mask raiseParts (told d i f r) = Laws.mask raiseParts d := by
  have hmarked : Laws.mask raiseParts (marked d i f r) = Laws.mask raiseParts d := (Laws.mask_updSrc _ _ _ _ (by decide)).trans (mask_of_subset (by decide) (newest_spec d i f r).2.2.2)
  rw [told, Laws.mask_emitFast _ _ _ (by decide) (by decide), Laws.mask_ite, Laws.mask_setFltEvent _ _ _ (by decide) (by decide), ite_self, hmarked]

/-- One raise of a real fault (R291). -/
theorem raiseStatus_spec {d : Dev} {f : FaultIn} {i : SrcInfo} (hinfo : srcInfo f.code = some i) (hraisable : raisable d f.code = true) (hobserve : f.observe = false) (hinjected : f.injected = false) :
    (∃ n, srcOf (raiseStatus d f) f.code = { raiseSource d f (takenReaction d i f) (srcOf d f.code) with lastRec := n }) ∧
      ((srcOf d f.code).status = false → lastFault (raiseStatus d f) = (f.code, i.severity, takenReaction d i f)) ∧ Laws.mask raiseParts (raiseStatus d f) = Laws.mask raiseParts d := by
  obtain ⟨htold, hlast⟩ := told_spec d i f (takenReaction d i f)
  obtain ⟨⟨n, hrecord⟩, hkept⟩ := faultRecord_spec (told d i f (takenReaction d i f)) i f (takenReaction d i f)
  have hnalive := verdicts_followNalive (faultRecord (told d i f (takenReaction d i f)) i f (takenReaction d i f))
  obtain ⟨hsrcs, hfault⟩ := Prod.ext_iff.1 hnalive
  rw [raiseStatus_of_real hinfo hraisable hobserve hinjected]
  refine ⟨⟨n, ?_⟩, fun hnew => Eq.trans hfault (hkept.trans (hlast hnew)), ?_⟩
  · rw [srcOf_congr hsrcs, hrecord, htold]
  · rw [Laws.mask_followNalive _ _ (by decide) (by decide), Laws.mask_faultRecord _ _ _ _ _ (by decide) (by decide) (by decide), mask_told]

/-! ### The reactions of one raise -/

theorem react_none (d : Dev) (f : FaultIn) : d.mm.mode = .run → react d f .none = d := by
  intro hmode
  have hnamed : ∀ i, retireNamed d i f .none = d := fun i => by
    unfold retireNamed
    split
    · rfl
    · rw [if_neg (fun h => absurd h.2 (by decide)), if_neg (fun h => absurd h.2 (by decide))]
  unfold react
  split
  · rfl
  next i _ =>
    dsimp only
    rw [hnamed, if_neg (by rw [hmode]; decide), ite_self]

/-- The mode's part of the strongest reaction in RUN (R288). -/
theorem modeReact_spec {d : Dev} {f : FaultIn} (hmode : d.mm.mode = .run) (hrun : d.seq.run = none) (hafter : d.mm.after = none) (hctl : f.code ≠ 0x1000) (hpwr : f.code ≠ 0x1001) (r : Reaction) :
    (r = .deviceSafe → (modeReact d f r).mm.mode = .safe ∧ (modeReact d f r).mm.cause = .fault ∧ (modeReact d f r).mm.causeDetail = f.code ∧ (modeReact d f r).mm.causeFrom = .run) ∧
      (r = .drone → (modeReact d f r).mm.mode = .drone ∧ (modeReact d f r).mm.cause = .fault ∧ (modeReact d f r).mm.causeDetail = f.code) ∧
      ((r = .none ∨ r = .retireUnit ∨ r = .stringSafe) → modeReact d f r = d) ∧ Laws.mask reactionParts (modeReact d f r) = Laws.mask reactionParts d ∧ verdicts (modeReact d f r) = verdicts d := by
  have hcause : (if f.code = 0x1000 then (Cause.controlDieLost, 0) else if f.code = 0x1001 then (Cause.powerDieLost, 0) else (Cause.fault, f.code)) = (Cause.fault, f.code) := by rw [if_neg hctl, if_neg hpwr]
  have hreplay : d.mm.mode ≠ .replay := by rw [hmode]; decide
  unfold modeReact
  dsimp only
  rw [hcause]
  cases r with
  | deviceSafe =>
    have hmm := mm_deviceSafe_of_idle (d := d) (by rw [hmode]; simp) hrun hafter .fault f.code
    have heq := deviceSafe_of_idle (d := d) (by rw [hmode]; simp) hrun hafter .fault f.code
    refine ⟨fun _ => ⟨by rw [hmm]; rfl, by rw [hmm]; rfl, by rw [hmm]; rfl, by rw [hmm]; exact hmode⟩, nofun, by simp, ?_, ?_⟩
    · rw [heq]
      exact mask_enterModeWith_safe hreplay .fault f.code true _ (by decide) (.inr (by rw [hmode]; decide))
    · rw [heq]
      exact verdicts_enterMode_safe hreplay .fault f.code
  | drone =>
    obtain ⟨hdrone, hfault, hdetail, hmask, hverdicts⟩ := deviceDrone_spec hmode hrun hafter .fault f.code
    exact ⟨nofun, fun _ => ⟨hdrone, hfault, hdetail⟩, by simp, hmask, hverdicts⟩
  | none | interrupt | retireUnit | stringSafe | regionSafe => exact ⟨nofun, nofun, fun _ => rfl, rfl, rfl⟩

theorem bootFails_of_run {d : Dev} (h : d.mm.mode = .run) (f : FaultIn) (r : Reaction) : bootFails d f r = false := by
  unfold bootFails
  rw [h]
  rfl

theorem reactAll_of_one {d : Dev} (h : d.mm.mode = .run) (f : FaultIn) (r : Reaction) : reactAll d [(f, r)] = react (modeReact d f r) f r := by
  unfold reactAll
  dsimp only
  rw [List.any_cons, List.any_nil, bootFails_of_run h]
  rfl

/-! ### The command (R17, R291, R370) -/

/-- A real fault as the collector takes it. -/
def asTaken (d : Dev) (f : FaultIn) : FaultIn := { ofLead d f with due := d.clk.tick, observe := false }

theorem asTaken_spec (d : Dev) (f : FaultIn) : (asTaken d f).code = f.code ∧ (asTaken d f).injected = f.injected ∧ (asTaken d f).p0 = (ofLead d f).p0 := by
  have h : (ofLead d f).code = f.code ∧ (ofLead d f).injected = f.injected := by
    unfold ofLead
    split
    · exact ⟨rfl, rfl⟩
    · split <;> exact ⟨rfl, rfl⟩
  exact ⟨h.1, h.2, rfl⟩

theorem takenReaction_asTaken (d : Dev) (i : SrcInfo) (f : FaultIn) : takenReaction d i (asTaken d f) = takenReaction d i (ofLead d f) := rfl

/-- The freeze of a capture in its stream, where one triggers it. -/
def freezeBy (d : Dev) (t : Option FaultIn) : Dev := match t with | some f => captureFreeze d f.code | none => d

theorem faultsAct_of_one {d : Dev} {f : FaultIn} (hmode : d.mm.mode = .run) (hcap : capturing d = false) (hinjected : f.injected = false)
    (hkept : (raiseStatus d f).mm = d.mm) :
    faultsAct d [f] = freezeBy (react (modeReact (raiseStatus d f) f (reactionNow d f)) f (reactionNow d f)) ([f].find? (freezes d)) := by
  have hreal : realOf [f] f = none := by rw [realOf, if_neg (by simp [hinjected])]
  have hraise : raiseFaults d [f] = reactAll (raiseStatus d f) [(f, reactionNow d f)] := by
    simp only [raiseFaults, List.filterMap_cons, List.filterMap_nil, List.filter_cons, List.filter_nil, hreal, Option.isNone_none, if_true, List.foldl_cons, List.foldl_nil, insertFault, List.map_cons, List.map_nil,
      List.head?_nil, capture_of_not_capturing hcap]
  unfold faultsAct
  rw [hraise, reactAll_of_one (by rw [hkept]; exact hmode)]
  rfl

theorem faultRaise_of_one {d : Dev} {f : FaultIn} (hinbox : d.flt.inbox = []) (hinjected : f.injected = false) : faultRaise d [f] = faultsAct d [asTaken d f] := by
  have htake : takeInputs d [f] = (d, [asTaken d f]) := by
    simp only [takeInputs, List.foldl_cons, List.foldl_nil, takeInput, hinjected, Bool.false_eq_true, if_false, List.nil_append]
    rfl
  have hsame : { d with flt := { d.flt with inbox := [] } } = d := by rw [← hinbox]
  unfold faultRaise
  rw [htake]
  dsimp only
  rw [hinbox, List.filter_nil, List.filter_nil, List.nil_append, hsame]

/-- A freeze leaves the mode, what waits, the tick, and the collector. -/
theorem captureFreeze_spec (d : Dev) (code : Nat) :
    (captureFreeze d code).mm = d.mm ∧ (captureFreeze d code).waiting = d.waiting ∧ (captureFreeze d code).clk.tick = d.clk.tick ∧ verdicts (captureFreeze d code) = verdicts d := by
  unfold captureFreeze
  split
  · exact ⟨rfl, rfl, rfl, rfl⟩
  · dsimp only
    generalize hbegun : ({ capture d (.freeze code d.clk.fret) with cap := _ } : Dev) = e
    have hmask : Laws.mask [.cap, .capQueue] e = Laws.mask [.cap, .capQueue] d := by
      rw [← hbegun]
      exact (Laws.mask_cap _ _ _ (by decide)).trans (mask_of_subset (by decide) (mask_captureAt d d.clk.tick _))
    have hkeeps := Laws.keeps_of_mask _ _ _ hmask
    have hclk : e.clk = d.clk := (hkeeps .clk (by decide)).symm
    have hset : Laws.mask [.clk, .int, .rcd, .cap, .out] (setCapState (recordN e 0x4012 srcCapture [code]) .post) = Laws.mask [.clk, .int, .rcd, .cap, .out] e :=
      (Laws.mask_setCapState _ _ _ (by decide) (by decide)).trans (Laws.mask_recordN _ _ _ _ _ (by decide) (by decide) (by decide))
    have hkeeps' := Laws.keeps_of_mask _ _ _ hset
    have htick : (setCapState (recordN e 0x4012 srcCapture [code]) .post).clk = (recordN e 0x4012 srcCapture [code]).clk :=
      (Laws.keeps_of_mask _ _ _ (Laws.mask_setCapState [.cap, .out] _ .post (by decide) (by decide)) .clk (by decide)).symm
    exact ⟨(hkeeps' .mm (by decide)).symm.trans (hkeeps .mm (by decide)).symm, (hkeeps' .waiting (by decide)).symm.trans (hkeeps .waiting (by decide)).symm,
      by rw [htick, (freeOnly_recordN _ _ _ _).tick, hclk], (verdicts_of_mask hset (by decide)).trans (verdicts_of_mask hmask (by decide))⟩

theorem freezeBy_spec (d : Dev) (t : Option FaultIn) : (freezeBy d t).mm = d.mm ∧ (freezeBy d t).waiting = d.waiting ∧ (freezeBy d t).clk.tick = d.clk.tick ∧ verdicts (freezeBy d t) = verdicts d := by
  cases t with
  | none => exact ⟨rfl, rfl, rfl, rfl⟩
  | some f => exact captureFreeze_spec d f.code

theorem freezeBy_of_idle {d : Dev} (h : d.cap.st = .idle) (t : Option FaultIn) : freezeBy d t = d := by
  cases t with
  | none => rfl
  | some f => exact if_pos (by rw [h]; decide)

theorem takeDue_of_none {d : Dev} (h : ∀ q ∈ d.waiting, d.clk.tick < q.1) : takeDue d = d := by
  have hnone : d.waiting.filter (fun q => decide (q.1 ≤ d.clk.tick)) = [] := List.filter_eq_nil_iff.2 fun q hq => by
    have := h q hq
    simpa using this
  unfold takeDue
  dsimp only
  rw [hnone]
  rfl

theorem takeWaiting_of_none {d : Dev} (h : ∀ q ∈ d.waiting, d.clk.tick < q.1) : takeWaiting d = d := by
  unfold takeWaiting
  split
  · exact takeDue_of_none h
  · rfl

/-- What one real raise in RUN does (R291, R288). -/
theorem faultRaise_spec {d : Dev} {f : FaultIn} {i : SrcInfo} (hmode : d.mm.mode = .run) (hinbox : d.flt.inbox = []) (hinjected : f.injected = false) (hinfo : srcInfo f.code = some i) (hrun : d.seq.run = none)
    (hafter : d.mm.after = none) (hcap : d.cap.st = .idle) (hwait : ∀ q ∈ d.waiting, d.clk.tick < q.1) (hctl : f.code ≠ 0x1000) (hpwr : f.code ≠ 0x1001) :
    ∃ e r n, takeWaiting (faultRaise d [f]) = e ∧ r = takenReaction d i (ofLead d f) ∧ srcOf e f.code = { raiseSource d (asTaken d f) r (srcOf d f.code) with lastRec := n } ∧
      ((srcOf d f.code).status = false → lastFault e = (f.code, i.severity, r)) ∧ (r = .deviceSafe → e.mm.mode = .safe ∧ e.mm.cause = .fault ∧ e.mm.causeDetail = f.code ∧ e.mm.causeFrom = .run) ∧
      (r = .drone → e.mm.mode = .drone ∧ e.mm.cause = .fault ∧ e.mm.causeDetail = f.code) ∧ (r = .none → keeps raiseParts d e) ∧ ((r = .none ∨ r = .retireUnit ∨ r = .stringSafe) → e.mm = d.mm) := by
  obtain ⟨hcode, hinj, -⟩ := asTaken_spec d f
  have hinfo' : srcInfo (asTaken d f).code = some i := by rw [hcode]; exact hinfo
  have hraisable : raisable d (asTaken d f).code = true := by rw [raisable, hmode]
  obtain ⟨⟨n, hsrc⟩, hlast, hraised⟩ := raiseStatus_spec hinfo' hraisable rfl (hinj.trans hinjected)
  rw [hcode, takenReaction_asTaken] at hsrc hlast
  generalize hr : takenReaction d i (ofLead d f) = r at *
  have hnow : reactionNow d (asTaken d f) = r := by
    unfold reactionNow
    rw [hinfo']
    dsimp only
    rw [hraisable]
    exact hr
  have hkeeps := Laws.keeps_of_mask _ _ _ hraised
  have hmm : (raiseStatus d (asTaken d f)).mm = d.mm := (hkeeps .mm (by decide)).symm
  have hseq : (raiseStatus d (asTaken d f)).seq = d.seq := (hkeeps .seq (by decide)).symm
  have hact := faultsAct_of_one hmode (capturing_of_idle hcap) (hinj.trans hinjected) hmm
  rw [hnow] at hact
  generalize raiseStatus d (asTaken d f) = a at *
  have hrunning : a.mm.mode = .run := by rw [hmm]; exact hmode
  obtain ⟨hsafe, hdrone, hsame, hmodeMask, hmodeVerdicts⟩ := modeReact_spec (f := asTaken d f) hrunning (by rw [hseq]; exact hrun) (by rw [hmm]; exact hafter) (by rw [hcode]; exact hctl) (by rw [hcode]; exact hpwr) r
  have hspared := spared_react (modeReact a (asTaken d f) r) (asTaken d f) r
  have hnone : r = .none → react (modeReact a (asTaken d f) r) (asTaken d f) r = a := fun h => by
    rw [hsame (.inl h), h]
    exact react_none a _ hrunning
  have hreactMm := mm_of_mask (mask_of_spared hspared) (by decide)
  have hreactMask := (mask_of_subset (ps := unitParts) (qs := reactionParts) (by decide) (mask_of_spared hspared)).trans (hmodeMask.trans (mask_of_subset (by decide) hraised))
  have hreactVerdicts := (verdicts_of_spared hspared).trans hmodeVerdicts
  generalize react (modeReact a (asTaken d f) r) (asTaken d f) r = b at *
  have hreactKeeps := Laws.keeps_of_mask _ _ _ hreactMask
  obtain ⟨hfMm, hfWaiting, hfTick, hfVerdicts⟩ := freezeBy_spec b ([asTaken d f].find? (freezes d))
  obtain ⟨hsrcs, hfault⟩ := Prod.ext_iff.1 (hfVerdicts.trans hreactVerdicts)
  have hall : takeWaiting (faultRaise d [f]) = freezeBy b ([asTaken d f].find? (freezes d)) := by
    rw [faultRaise_of_one hinbox hinjected, hact]
    refine takeWaiting_of_none ?_
    rw [hfWaiting, hfTick, ← hreactKeeps .waiting (by decide), ← hreactKeeps .clk (by decide)]
    exact hwait
  rw [hcode] at hsafe hdrone
  rw [← hreactMm, ← hfMm] at hsafe hdrone
  refine ⟨_, r, n, hall, rfl, (srcOf_congr hsrcs f.code).trans hsrc, fun hnew => Eq.trans hfault (hlast hnew), hsafe, hdrone, fun h => ?_, fun h => ?_⟩
  · have hcapKept : b.cap = d.cap := by
      rw [hnone h]
      exact (hkeeps .cap (by decide)).symm
    rw [freezeBy_of_idle (by rw [hcapKept]; exact hcap), hnone h]
    exact hkeeps
  · rw [hfMm, hreactMm, hsame h, hmm]

/-- Settles O48, from what one raise leaves of the collector and from the reactions, none of which changes it. -/
theorem faultRaiseTakesReaction : Obligations.FaultRaiseTakesReaction := by
  intro s f i hmode hinbox hinjected hinfo hrun hafter hcap hwait hctl hpwr
  obtain ⟨e, r, n, hdo, hr, hsrc, hlast, hsafe, hdrone, hnone, hmm⟩ := faultRaise_spec hmode hinbox hinjected hinfo hrun hafter hcap hwait hctl hpwr
  dsimp only
  rw [← hr]
  refine ⟨e, congrArg (next s) hdo, by rw [hsrc]; rfl, by rw [hsrc]; rfl, fun hnew => ?_, fun hold => ?_, hsafe, hdrone, hnone, hmm⟩
  · have hfault := hlast hnew
    have hcode := congrArg Prod.fst hfault
    have hrest := congrArg Prod.snd hfault
    have hseverity := congrArg Prod.fst hrest
    have hreaction := congrArg Prod.snd hrest
    refine ⟨?_, ?_, hcode, hseverity, hreaction⟩
    · rw [hsrc]
      exact if_neg (by rw [hnew]; decide)
    · rw [hsrc]
      exact if_neg (by rw [hnew]; decide)
  · constructor
    · rw [hsrc]
      exact if_pos hold
    · rw [hsrc]
      exact if_pos hold

end Sys2Proof.Machine
end

section
/-!
Loss and return of the supply, the sealed journal, and power-up (O47).
-/
namespace Sys2Proof.Machine
open Sys2Proof.Safety

/-! ### Domains that are opened with no capture under way (R4) -/

/-- What stands in a device whose domains are opened with no capture under way, AON apart. -/
structure Survives (d e : Dev) : Prop where
  idle : captureActive e = false
  mm : e.mm = d.mm
  rcd : e.rcd = d.rcd
  frozen : e.jr.frozen = d.jr.frozen
  nv : e.jr.nv = d.jr.nv
  primary : e.jr.primary = d.jr.primary
  rails : e.seq.rails = d.seq.rails
  onVhold : e.pwr.onVhold = d.pwr.onVhold
  source : e.pwr.source = d.pwr.source

theorem Survives.refl {d : Dev} (h : captureActive d = false) : Survives d d := ⟨h, rfl, rfl, rfl, rfl, rfl, rfl, rfl, rfl⟩

theorem Survives.trans {d e f : Dev} (hde : Survives d e) (hef : Survives e f) : Survives d f where
  idle := hef.idle
  mm := hef.mm.trans hde.mm
  rcd := hef.rcd.trans hde.rcd
  frozen := hef.frozen.trans hde.frozen
  nv := hef.nv.trans hde.nv
  primary := hef.primary.trans hde.primary
  rails := hef.rails.trans hde.rails
  onVhold := hef.onVhold.trans hde.onVhold
  source := hef.source.trans hde.source

theorem survives_resetRegions {d : Dev} (h : captureActive d = false) (lo : Nat) : Survives d (resetRegions d lo) := by
  have hk := Laws.keeps_of_mask [.str, .ph, .lk] _ _ (Laws.mask_resetRegions _ d lo (by decide) (by decide) (by decide))
  have hjr : (resetRegions d lo).jr = d.jr := (hk .jr (by decide)).symm
  have hpwr : (resetRegions d lo).pwr = d.pwr := (hk .pwr (by decide)).symm
  have hcap : (resetRegions d lo).cap = d.cap := (hk .cap (by decide)).symm
  have hseq : (resetRegions d lo).seq = d.seq := (hk .seq (by decide)).symm
  exact ⟨by unfold captureActive capturing at *; rw [hcap]; exact h, (hk .mm (by decide)).symm, (hk .rcd (by decide)).symm, by rw [hjr], by rw [hjr], by rw [hjr], by rw [hseq], by rw [hpwr], by rw [hpwr]⟩

theorem survives_clearUnits {d : Dev} (h : captureActive d = false) {x : Domain} (hx : x ≠ .aon) : Survives d (clearUnits d x) := by
  cases x with
  | aon => exact absurd rfl hx
  | host =>
    unfold clearUnits
    dsimp only
    rw [endCapture_of_inactive h (by decide)]
    exact ⟨rfl, rfl, rfl, rfl, rfl, rfl, rfl, rfl, rfl⟩
  | fasta => exact survives_resetRegions h 0
  | fastb => exact survives_resetRegions h 2
  | mgmt | sched | links | aux => exact ⟨h, rfl, rfl, rfl, rfl, rfl, rfl, rfl, rfl⟩

theorem survives_openDomain {d : Dev} (h : captureActive d = false) {x : Domain} (hx : x ≠ .aon) : Survives d (openDomain d x) := by
  obtain ⟨idle, mm, rcd, frozen, nv, primary, rails, onVhold, source⟩ := survives_clearUnits h hx
  unfold openDomain
  dsimp only
  split
  · exact ⟨idle, mm, rcd, frozen, nv, primary, rails, onVhold, source⟩
  · exact ⟨h, rfl, rfl, rfl, rfl, rfl, rfl, rfl, rfl⟩

theorem survives_openAll {d : Dev} (h : captureActive d = false) : Survives d (openAll d) := by
  have hlist : ∀ (l : List Domain) (e : Dev), captureActive e = false → (∀ x ∈ l, x ≠ .aon) → Survives e (l.foldl openDomain e) := fun l => by
    induction l with
    | nil => exact fun e he _ => .refl he
    | cons x l ih =>
      intro e he hl
      have hfirst := survives_openDomain he (hl x List.mem_cons_self)
      exact hfirst.trans (ih _ hfirst.idle fun y hy => hl y (List.mem_cons_of_mem x hy))
  exact hlist _ d h (by decide)

/-! ### Entry to COLD with nothing under way (R34, R43) -/

theorem leaveReplay_of_resting {d : Dev} (h : replayActive d = false) : leaveReplay d .cold = d := by
  unfold leaveReplay
  split
  · rfl
  · rw [if_neg (by decide), replayEnd, if_pos (by rw [h]; rfl)]

theorem enterMode_cold_eq {d : Dev} (h : leaveReplay d .cold = d) (c : Cause) (detail : Nat) :
    enterMode d .cold c detail =
      (let e := openAll (chargerMode (setHrst (inMode d .cold c detail true) (fun p => { p with hrstMode := true })) d.mm.mode .cold)
       { e with pwr := { e.pwr with ctlLost := false, pwrLost := false, droneSafety := [] } }) := by
  rw [enterMode, enterModeWith, h]
  rfl

theorem mask_packOff (d : Dev) : Laws.mask [.str, .ph] (packOff d) = Laws.mask [.str, .ph] d := by
  unfold packOff
  dsimp only
  split
  · exact (Laws.mask_updStr _ _ _ _ (by decide)).trans (Laws.mask_clearLoops _ _ _ (by decide) (by decide))
  · rfl

/-- On entry to COLD the charger rests (R283). -/
def chargerCold (d : Dev) : Dev := if d.chg.st == .absent then packOff d else packOff { d with chg := { d.chg with st := .disabled } }

theorem mask_chargerCold (d : Dev) : Laws.mask [.str, .ph, .chg] (chargerCold d) = Laws.mask [.str, .ph, .chg] d := by
  unfold chargerCold
  split
  · exact mask_of_subset (by decide) (mask_packOff d)
  · exact (mask_of_subset (by decide) (mask_packOff _)).trans (Laws.mask_chg _ _ _ (by decide))

theorem chargerMode_cold (d : Dev) (frm : Mode) : chargerMode d frm .cold = chargerCold (match d.chg.search with | none => d | some _ => stopSearch d .partialDone) := by
  have hride : (frm == Mode.ride && (Mode.cold == Mode.run || Mode.cold == Mode.hold)) = false := Bool.and_false _
  have hentered : (Mode.cold == Mode.ride) = false ∧ cycleMode .cold = false ∧ (Mode.cold == Mode.safe || Mode.cold == Mode.drone) = false ∧ (Mode.cold == Mode.shutdown || Mode.cold == Mode.off) = false := by decide
  simp only [chargerMode, hride, hentered, Bool.false_eq_true, if_false]
  rfl

/-- Parts that the mode registers, the links, the pins and a resting charger write on entry to COLD. -/
def coldParts : List Part := [.pins, .mm, .fb, .str, .ph, .lk, .chg, .flt, .int, .rcd, .otp, .out, .fretOut]

/-- The device that enters COLD, before its domains are opened. -/
def coldBegun (d : Dev) (c : Cause) (detail : Nat) : Dev := chargerMode (setHrst (inMode d .cold c detail true) (fun p => { p with hrstMode := true })) d.mm.mode .cold

theorem mask_coldBegun {d : Dev} (h : d.chg.search = none) (c : Cause) (detail : Nat) : Laws.mask coldParts (coldBegun d c detail) = Laws.mask coldParts d := by
  have hin := mask_inMode (.otp :: inModeParts) d .cold c detail true (fun p hp => List.mem_cons_of_mem _ hp) (.inl List.mem_cons_self)
  have hset : Laws.mask coldParts (setHrst (inMode d .cold c detail true) (fun p => { p with hrstMode := true })) = Laws.mask coldParts d :=
    (Laws.mask_setHrst _ _ _ (by decide) (by decide)).trans (mask_of_subset (by decide) hin)
  have hchg : (setHrst (inMode d .cold c detail true) (fun p => { p with hrstMode := true })).chg = d.chg :=
    (chg_of_mask (qs := [.pins, .out]) (Laws.mask_setHrst _ _ _ (by decide) (by decide)) (by decide)).trans (chg_of_mask hin (by decide))
  rw [coldBegun, chargerMode_cold, hchg, h]
  exact (mask_of_subset (by decide) (mask_chargerCold _)).trans hset

theorem captureActive_congr {d e : Dev} (h : e.cap = d.cap) : captureActive e = captureActive d := by
  unfold captureActive capturing
  rw [h]

/-- What stands through an entry to COLD with no capture, replay or search under way. -/
theorem enterCold_stands {d : Dev} (hidle : captureActive d = false) (hreplay : replayActive d = false) (hsearch : d.chg.search = none) (c : Cause) (detail : Nat) :
    (enterCold d c detail).jr.frozen = d.jr.frozen ∧ (enterCold d c detail).jr.nv = d.jr.nv ∧ (enterCold d c detail).jr.primary = d.jr.primary ∧ (enterCold d c detail).seq.rails = d.seq.rails ∧
      (enterCold d c detail).pwr.onVhold = d.pwr.onVhold ∧ (enterCold d c detail).pwr.source = d.pwr.source := by
  have hbegun := Laws.keeps_of_mask _ _ _ (mask_coldBegun (d := clearRun d) hsearch c detail)
  have hjr : (coldBegun (clearRun d) c detail).jr = d.jr := (hbegun .jr (by decide)).symm
  have hrails : (coldBegun (clearRun d) c detail).seq.rails = d.seq.rails := by rw [← hbegun .seq (by decide)]; rfl
  have hpwr : (coldBegun (clearRun d) c detail).pwr = d.pwr := (hbegun .pwr (by decide)).symm
  have hcap : (coldBegun (clearRun d) c detail).cap = d.cap := (hbegun .cap (by decide)).symm
  have hopen := survives_openAll (d := coldBegun (clearRun d) c detail) ((captureActive_congr hcap).trans hidle)
  have heq := enterMode_cold_eq (d := clearRun d) (leaveReplay_of_resting hreplay) c detail
  unfold enterCold
  rw [heq]
  exact ⟨hopen.frozen.trans (by rw [hjr]), hopen.nv.trans (by rw [hjr]), hopen.primary.trans (by rw [hjr]), hopen.rails.trans hrails, hopen.onVhold.trans (by rw [hpwr]), hopen.source.trans (by rw [hpwr])⟩

/-! ### The freeze (R116) -/

/-- The device on VHOLD, the control die's work dropped. -/
def frozenDev (d : Dev) : Dev := dropControlDie { d with pwr := { d.pwr with onVhold := true, source := 0 }, jr := { d.jr with frozen := true, nv := .unsealed, image := none } }

/-- The flush begins, with the rails off. -/
def flushBegun (d : Dev) (fret : Nat) : Dev :=
  { d with pwr := { d.pwr with flushing := true }, clk := { d.clk with fret := fret }, seq := { d.seq with rails := d.seq.rails.map (fun (r : Rail) => { r with enabled := false, pgood := false, uvArmed := false, levels := 0 }) } }

theorem freeze_of_supplied {d : Dev} (hoff : d.mm.mode ≠ .off) (hsupply : d.pwr.onVhold = false) :
    freeze d = flushBegun (if d.mm.mode == .cold then frozenDev d else enterCold (frozenDev d) .supply 0) d.clk.fret := by
  unfold freeze
  rw [if_neg (by simp [hoff, hsupply])]
  rfl

theorem freeze_spec {d : Dev} (hoff : d.mm.mode ≠ .off) (hsupply : d.pwr.onVhold = false) :
    (freeze d).pwr.onVhold = true ∧ (freeze d).pwr.flushing = true ∧ (freeze d).pwr.source = 0 ∧ (freeze d).jr.frozen = true ∧ (freeze d).jr.nv = .unsealed ∧ (freeze d).mm.mode = .cold ∧
      (d.mm.mode ≠ .cold → (freeze d).mm.cause = .supply) ∧ (freeze d).clk.fret = d.clk.fret ∧ (∀ x ∈ (freeze d).jr.primary, x.st ≠ .writing) ∧ (∀ r ∈ (freeze d).seq.rails, r.enabled = false) ∧
      (freeze d).seq.rails.length = d.seq.rails.length := by
  obtain ⟨e, he, honV, hsource, hfrozen, hnv, hmode, hcause, hprimary, hrails⟩ : ∃ e, freeze d = flushBegun e d.clk.fret ∧ e.pwr.onVhold = true ∧ e.pwr.source = 0 ∧ e.jr.frozen = true ∧ e.jr.nv = .unsealed ∧
      e.mm.mode = .cold ∧ (d.mm.mode ≠ .cold → e.mm.cause = .supply) ∧ e.jr.primary = d.jr.primary.filter (fun x => x.st != .writing) ∧ e.seq.rails = d.seq.rails := by
    refine ⟨_, freeze_of_supplied hoff hsupply, ?_⟩
    by_cases hcold : d.mm.mode = .cold
    · rw [if_pos (by simp [hcold])]
      exact ⟨rfl, rfl, rfl, rfl, hcold, fun h => absurd hcold h, rfl, rfl⟩
    · rw [if_neg (by simp [hcold])]
      obtain ⟨hfrozen, hnv, hprimary, hrails, honV, hsource⟩ := enterCold_stands (d := frozenDev d) rfl rfl rfl .supply 0
      obtain ⟨hmode, hcause, -, -⟩ := enterCold_spec (frozenDev d) .supply 0
      exact ⟨honV, hsource, hfrozen, hnv, hmode, fun _ => hcause, hprimary, hrails⟩
  rw [he]
  refine ⟨honV, rfl, hsource, hfrozen, hnv, hmode, hcause, rfl, fun x hx => ?_, fun r hr => ?_, ?_⟩
  · have hx' : x ∈ e.jr.primary := hx
    rw [hprimary] at hx'
    simpa using (List.mem_filter.1 hx').2
  · obtain ⟨q, -, rfl⟩ := List.mem_map.1 hr
    rfl
  · exact List.length_map _ |>.trans (by rw [hrails])

/-! ### The seal and the return of the supply (R116, R117) -/

theorem seconds_logRecord (d : Dev) (q : Record) : (logRecord d q).rcd.seconds = d.rcd.seconds := by
  have hfull : ∀ (e : Dev) n, (writeLogFull e n).rcd.seconds = e.rcd.seconds := fun e n => by
    unfold writeLogFull setRecEvent
    rw [occur_rcd]
  unfold logRecord
  dsimp only
  split
  · rfl
  · split
    · rfl
    · exact hfull _ _

theorem seconds_logOut (d : Dev) (n : Nat) : (logOut d n).rcd.seconds = d.rcd.seconds :=
  proj_foldl (·.rcd.seconds) logRecord seconds_logRecord _ _

theorem sealed_of_vhold {d : Dev} (hflush : d.pwr.flushing = true) (hvhold : d.pwr.onVhold = true) :
    (sealed d).jr.nv = .sealed ∧ (sealed d).jr.image = some { entries := d.jr.primary, tails := d.jr.tails, fret := d.clk.fret } ∧ (sealed d).pwr.flushing = false ∧
      (sealed d).rcd.nvSeconds = d.rcd.seconds ∧ (sealed d).mm = d.mm ∧ (sealed d).cfg = d.cfg ∧ (sealed d).fb = d.fb ∧ (sealed d).otp = d.otp := by
  have hk := Laws.keeps_of_mask _ _ _ (Laws.mask_logOut [.int, .rcd] d d.rcd.buffer.length (by decide) (by decide))
  have hseconds := seconds_logOut d d.rcd.buffer.length
  have hjr : (logOut d d.rcd.buffer.length).jr = d.jr := (hk .jr (by decide)).symm
  have hclk : (logOut d d.rcd.buffer.length).clk = d.clk := (hk .clk (by decide)).symm
  have hpwr : (logOut d d.rcd.buffer.length).pwr = d.pwr := (hk .pwr (by decide)).symm
  have hmm : (logOut d d.rcd.buffer.length).mm = d.mm := (hk .mm (by decide)).symm
  have hcfg : (logOut d d.rcd.buffer.length).cfg = d.cfg := (hk .cfg (by decide)).symm
  have hfb : (logOut d d.rcd.buffer.length).fb = d.fb := (hk .fb (by decide)).symm
  have hotp : (logOut d d.rcd.buffer.length).otp = d.otp := (hk .otp (by decide)).symm
  unfold sealed
  rw [if_neg (by rw [hflush]; decide)]
  generalize logOut d d.rcd.buffer.length = e at *
  dsimp only
  rw [if_pos (by rw [hpwr]; exact hvhold)]
  exact ⟨rfl, by rw [hjr, hclk], rfl, hseconds, hmm, hcfg, hfb, hotp⟩

theorem useSeal_spec (d : Dev) :
    (useSeal d).pwr = d.pwr ∧ (useSeal d).jr.needRestore = true ∧ (useSeal d).jr.frozen = false ∧ (useSeal d).jr.restored = true ∧ (useSeal d).jr.primary = restoredFrom d.jr.primary ∧
      keeps [.jr, .int, .rcd, .clk] d (useSeal d) := by
  have hmask : Laws.mask [.jr, .int, .rcd, .clk] (useSeal d) = Laws.mask [.jr, .int, .rcd, .clk] d :=
    (Laws.mask_recordN _ _ _ _ _ (by decide) (by decide) (by decide)).trans ((Laws.mask_setRestored _ _ (by decide) (by decide)).trans (Laws.mask_jr _ _ _ (by decide)))
  have hjr : (useSeal d).jr = { d.jr with primary := restoredFrom d.jr.primary, nv := .unsealed, image := none, needRestore := true, frozen := false, restored := true } := by
    refine (Laws.keeps_of_mask _ _ _ (Laws.mask_recordN [.clk, .int, .rcd] _ _ _ _ (by decide) (by decide) (by decide)) .jr (by decide)).symm.trans ?_
    rw [setRestored, occur_jr]
  have hk := Laws.keeps_of_mask _ _ _ hmask
  exact ⟨(hk .pwr (by decide)).symm, by rw [hjr], by rw [hjr], by rw [hjr], by rw [hjr], hk⟩

/-- AON moves back to its supply (R117). -/
def onSupply (d : Dev) (source : Nat) : Dev := { d with pwr := { d.pwr with onVhold := false, source := source } }

theorem supplyBack_of_supply {d : Dev} {vin pack : Bool} (hvhold : d.pwr.onVhold = true) (hsupply : supplyCode vin (pack && d.pwr.packPath) ≠ 0) :
    supplyBack d vin pack = if d.pwr.flushing then onSupply d (supplyCode vin (pack && d.pwr.packPath)) else useSeal (onSupply d (supplyCode vin (pack && d.pwr.packPath))) := by
  unfold supplyBack
  dsimp only
  rw [if_neg (by simp [hvhold, hsupply])]
  rfl

/-! ### OFF (R39, R116) -/

theorem goOff_mm (d : Dev) : (goOff d).mm = {} := rfl

/-- What stands in AON whatever is opened: the pack path, and the words of the OTP with what programs them. -/
def lastingAon (d : Dev) : Bool × Option OtpCmd × Sparse (BitVec 39) := (d.pwr.packPath, d.otp.cmd, d.otp.normal)

theorem lastingAon_of_mask {qs : List Part} {d e : Dev} (h : Laws.mask qs e = Laws.mask qs d) (hpwr : Part.pwr ∉ qs) (hotp : Part.otp ∉ qs) : lastingAon e = lastingAon d := by
  have hk := Laws.keeps_of_mask _ _ _ h
  have hp : e.pwr = d.pwr := (hk .pwr hpwr).symm
  have ho : e.otp = d.otp := (hk .otp hotp).symm
  unfold lastingAon
  rw [hp, ho]

theorem lastingAon_openDomain (d : Dev) {x : Domain} (hx : x ≠ .aon) : lastingAon (openDomain d x) = lastingAon d := by
  have hregions : ∀ lo, lastingAon (resetRegions d lo) = lastingAon d := fun lo =>
    lastingAon_of_mask (qs := [.str, .ph, .lk]) (Laws.mask_resetRegions _ d lo (by decide) (by decide) (by decide)) (by decide) (by decide)
  have hclear : lastingAon (clearUnits d x) = lastingAon d := by
    cases x with
    | aon => exact absurd rfl hx
    | host =>
      have hend : lastingAon (endCapture d 4) = lastingAon d := lastingAon_of_mask (qs := [.clk, .jr, .flt, .int, .rcd, .cap, .capQueue, .mp, .out, .fretOut])
        (Laws.mask_endCapture [.clk, .jr, .flt, .int, .rcd, .cap, .capQueue, .mp, .out, .fretOut] d 4 (by decide) (by decide) (by decide) (by decide) (by decide) (by decide) (by decide) (by decide) (by decide) (by decide)) (by decide) (by decide)
      exact hend
    | fasta => exact hregions 0
    | fastb => exact hregions 2
    | mgmt | sched | links | aux => rfl
  unfold openDomain
  dsimp only
  split
  · exact hclear
  · rfl

theorem lastingAon_openAll (d : Dev) : lastingAon (openAll d) = lastingAon d := by
  have hlist : ∀ (l : List Domain) (e : Dev), (∀ x ∈ l, x ≠ .aon) → lastingAon (l.foldl openDomain e) = lastingAon e := fun l => by
    induction l with
    | nil => exact fun e _ => rfl
    | cons x l ih =>
      intro e hl
      exact (ih _ fun y hy => hl y (List.mem_cons_of_mem x hy)).trans (lastingAon_openDomain e (hl x List.mem_cons_self))
  exact hlist _ d (by decide)

/-- The device OFF: its mode machine, its power, the OTP and the log (R39, R116). -/
theorem goOff_spec (d : Dev) :
    (goOff d).mm = {} ∧ (goOff d).pwr = { packPath := d.pwr.packPath } ∧ (d.otp.cmd = none → (goOff d).otp.normal = d.otp.normal) ∧ (captureActive d = false → (goOff d).rcd.log = d.rcd.log) := by
  obtain ⟨hpath, hotp⟩ := Prod.ext_iff.1 (lastingAon_openAll d)
  obtain ⟨hcmd, hnormal⟩ := Prod.ext_iff.1 hotp
  refine ⟨rfl, congrArg (fun b => ({ packPath := b } : Power)) hpath, fun h => ?_, fun h => ?_⟩
  · have hcut : cutProgram (openAll d) = (openAll d).otp := by
      rw [cutProgram, show (openAll d).otp.cmd = none from hcmd.trans h]
    have hnow : (goOff d).otp.normal = (cutProgram (openAll d)).normal := rfl
    rw [hnow, hcut]
    exact hnormal
  · have hlog : (goOff d).rcd.log = (openAll d).rcd.log := rfl
    rw [hlog, (survives_openAll h).rcd]

/-! ### Power-up of AON (R405) -/

/-- The power cycle as the recorder counts it (R357). -/
def cycles (d : Dev) : Nat × Nat := (d.rcd.cycle, d.rcd.nvCycle)

theorem cycles_of_rcd {d e : Dev} (h : e.rcd = d.rcd) : cycles e = cycles d := by
  unfold cycles
  rw [h]

theorem cycles_of_mask {qs : List Part} {d e : Dev} (h : Laws.mask qs e = Laws.mask qs d) (hrcd : Part.rcd ∉ qs) : cycles e = cycles d :=
  cycles_of_rcd (Laws.keeps_of_mask qs d e h .rcd hrcd).symm

theorem cycles_setRecEvent (d : Dev) (b : Nat) : cycles (setRecEvent d b) = cycles d := by
  unfold cycles setRecEvent
  rw [occur_rcd]

theorem cycles_recordRaw (d : Dev) (fault : Bool) (code source flags p0 p1 p2 p3 : Nat) : cycles (recordRaw d fault code source flags p0 p1 p2 p3) = cycles d := by
  unfold recordRaw
  dsimp only
  split
  · rfl
  · split
    · rfl
    · split
      · split
        · rfl
        · unfold writeLogFull
          exact cycles_setRecEvent _ _
      · split
        · exact cycles_setRecEvent _ _
        · rfl

theorem cycles_recordN (d : Dev) (code source : Nat) (ps : List Nat) : cycles (recordN d code source ps) = cycles d := cycles_recordRaw _ _ _ _ _ _ _ _ _

theorem cycles_endSearch (d : Dev) (o : SearchEnd) (i : Nat) (st : Status) : cycles (endSearch d o i st) = cycles d := by
  unfold endSearch
  split
  · rfl
  next s _ =>
    dsimp only
    have hfinish : ∀ (es : List Nat) (e : Dev) (detail : Dev → Nat), cycles (es.foldl (fun d x => finishNow d x st (detail d)) e) = cycles e := fun es e detail =>
      proj_foldl cycles _ (fun d x => cycles_of_mask (qs := [.jr, .int, .mp, .out, .fretOut]) (Laws.mask_finishNow _ _ _ _ _ (by decide) (by decide) (by decide) (by decide) (by decide)) (by decide)) es e
    have hcharger : ∀ (e : Dev) q, cycles (setCharger e q) = cycles e := fun e q => cycles_of_mask (qs := [.str, .ph, .chg]) (Laws.mask_setCharger _ _ _ (by decide) (by decide) (by decide)) (by decide)
    have hback : ∀ (e : Dev) q, cycles (if e.chg.st == .search then setCharger e q else e) = cycles e := fun e q => by
      split
      · exact hcharger e q
      · rfl
    have hevent : ∀ e : Dev, cycles (setChgEvent e 2) = cycles e := fun e => cycles_of_mask (qs := [.chg, .int]) (Laws.mask_setChgEvent _ _ _ (by decide) (by decide)) (by decide)
    have hrecord : ∀ (e : Dev) p0 p1 p2, cycles (chargerRecord e 0x2001 p0 p1 p2) = cycles e := fun e p0 p1 p2 => cycles_recordRaw _ _ _ _ _ _ _ _ _
    have hpin : ∀ e : Dev, cycles (recomputePin e) = cycles e := fun e => cycles_of_mask (qs := [.fb]) (Laws.mask_recomputePin _ _ (by decide)) (by decide)
    refine (hfinish s.entries _ _).trans ((hevent _).trans ((hrecord _ _ _ _).trans ((hback _ _).trans (hpin _))))

theorem cycles_chargerMode_cold (d : Dev) (frm : Mode) : cycles (chargerMode d frm .cold) = cycles d := by
  have hrest : ∀ e : Dev, cycles (chargerCold e) = cycles e := fun e => cycles_of_mask (mask_chargerCold e) (by decide)
  rw [chargerMode_cold, hrest]
  split
  · rfl
  · exact cycles_endSearch _ _ _ _

theorem cycles_inMode (d : Dev) (m : Mode) (c : Cause) (detail : Nat) : cycles (inMode d m c detail true) = cycles d := by
  have hnalive : ∀ e : Dev, cycles (followNalive e) = cycles e := fun e => cycles_of_mask (qs := [.flt, .out]) (Laws.mask_followNalive _ _ (by decide) (by decide)) (by decide)
  have hcancel : ∀ e : Dev, cycles (cancelInjection e) = cycles e := fun e => cycles_of_mask (qs := [.flt]) (mask_cancelInjection _ _ (by decide)) (by decide)
  have hconfig : ∀ (e : Dev) frm, cycles (leaveConfig e frm) = cycles e := fun e frm => by unfold leaveConfig; split <;> rfl
  have hevent : ∀ e : Dev, cycles (setModeEvent e 0) = cycles e := fun e => cycles_of_mask (qs := [.mm, .int]) (Laws.mask_setModeEvent _ _ _ (by decide) (by decide)) (by decide)
  have hfast : ∀ (e : Dev) o, cycles (emitFast e o) = cycles e := fun e o => cycles_of_mask (qs := [.out, .fretOut]) (Laws.mask_emitFast _ _ _ (by decide) (by decide)) (by decide)
  have hrecord : ∀ (e : Dev) code source mark p0 p1 p2 p3, cycles (record e code source mark p0 p1 p2 p3) = cycles e := fun e code source mark p0 p1 p2 p3 => cycles_recordRaw _ _ _ _ _ _ _ _ _
  have hnote : cycles (noteMode d m c detail true) = cycles d := by
    rw [noteMode_eq, hnalive, hconfig, changeMode]
    dsimp only
    rw [hcancel]
    exact (hrecord _ _ _ _ _ _ _ _).trans ((hfast _ _).trans (hevent _))
  have hlinks : cycles (linksMode d (noteMode d m c detail true) d.mm.mode m) = cycles d :=
    (cycles_of_mask (qs := [.lk]) (mask_linksMode _ _ _ _ _ (by decide)) (by decide)).trans hnote
  unfold inMode
  dsimp only
  split
  · exact (cycles_of_mask (qs := [.fb]) (Laws.mask_recomputePin _ _ (by decide)) (by decide)).trans hlinks
  · exact hlinks

theorem cycles_coldBegun (d : Dev) (c : Cause) (detail : Nat) : cycles (coldBegun d c detail) = cycles d := by
  rw [coldBegun, cycles_chargerMode_cold, cycles_of_mask (qs := [.pins, .out]) (Laws.mask_setHrst _ _ _ (by decide) (by decide)) (by decide), cycles_inMode]

/-- With AON alone powered, opening the other domains changes the power's own fields alone. -/
theorem openAll_of_aon {d : Dev} (h : d.pwr.on = 1#8) : (openAll d).pwr.on = 1#8 ∧ Laws.mask [.pwr] (openAll d) = Laws.mask [.pwr] d := by
  have hlist : ∀ (l : List Domain) (e : Dev), e.pwr.on = 1#8 → (∀ x ∈ l, x ≠ .aon) → (l.foldl openDomain e).pwr.on = 1#8 ∧ Laws.mask [.pwr] (l.foldl openDomain e) = Laws.mask [.pwr] e := fun l => by
    induction l with
    | nil => exact fun e he _ => ⟨he, rfl⟩
    | cons x l ih =>
      intro e he hl
      have hbit : bit (1#8) x.bit = false ∧ 1#8 &&& ~~~(1#8 <<< x.bit) = 1#8 := by
        have hx := hl x List.mem_cons_self
        revert hx
        cases x <;> decide
      have hopen : openDomain e x = { e with pwr := { e.pwr with on := e.pwr.on &&& ~~~(1#8 <<< x.bit), pgood := e.pwr.pgood &&& ~~~(1#8 <<< x.bit) } } := by
        unfold openDomain
        dsimp only
        rw [if_neg (by rw [he, hbit.1]; decide)]
      obtain ⟨hon, hmask⟩ := ih (openDomain e x) (by rw [hopen]; change e.pwr.on &&& _ = _; rw [he]; exact hbit.2) fun y hy => hl y (List.mem_cons_of_mem x hy)
      exact ⟨hon, hmask.trans (by rw [hopen]; exact Laws.mask_pwr _ _ _ (by decide))⟩
  exact hlist _ d h (by decide)

/-- AON sensed, with its cycle counted, before COLD (R342, R357). -/
def sensed (d : Dev) (source : Nat) : Dev :=
  let e := senseAll { d with pwr := { d.pwr with on := 1#8, pgood := 1#8, source := source } }
  { e with seq := { e.seq with bootDefaulted := !railsFromOtp e }, rcd := { e.rcd with cycle := (e.rcd.nvCycle + 1) % 2 ^ 32, nvCycle := (e.rcd.nvCycle + 1) % 2 ^ 32, seconds := e.rcd.nvSeconds, seq := 0 } }

/-- What the journal's image says of itself in the record of power-up (R358). -/
def imageCode (d : Dev) : Nat := match d.jr.nv, d.jr.image with | .sealed, some _ => 1 | .never, _ => 0 | _, _ => 2

/-- Power-up behind the entry to COLD: the OTP's counts, the journal's image, and the OTP's faults. -/
def aonLoaded (d : Dev) (img : Nat) : Dev :=
  let d := recordN d 0x5001 srcOtp [otpCount d .marginal, otpCount d .bad, otpCount d .corrected]
  let d := loadJournal d
  otpFaults (if img = 1 then recordN d 0x4001 srcJournalP [journalUsed d.jr.primary] else if img = 2 then recordN d 0x4002 srcJournalP [] else d)

theorem aonUp_of_supply {d : Dev} {vin pack : Bool} (hoff : d.mm.mode = .off) (hsupply : supplyCode vin (pack && d.pwr.packPath) ≠ 0) :
    ∃ e, aonUp d vin pack = aonLoaded (enterMode e .cold .supply 0) (imageCode d) ∧ ∃ p0 p1 p2, e = record (sensed d (supplyCode vin (pack && d.pwr.packPath))) 0xF001 srcRecorder false p0 p1 p2 0 := by
  unfold aonUp
  dsimp only
  rw [if_neg (by simp [hoff, hsupply])]
  exact ⟨_, rfl, _, _, _, rfl⟩


theorem mask_loadJournal (d : Dev) : Laws.mask [.jr, .int] (loadJournal d) = Laws.mask [.jr, .int] d := by
  unfold loadJournal
  split
  · exact (Laws.mask_setRestored _ _ (by decide) (by decide)).trans (Laws.mask_jr _ _ _ (by decide))
  · exact (Laws.mask_occur _ _ _ (by decide)).trans (Laws.mask_jr _ _ _ (by decide))
  · rfl

/-- One of the faults that sensing raises, on its first word. -/
def raiseWords (d : Dev) (code : Nat) (ws : List Nat) : Dev := match ws with
  | [] => d
  | w :: _ => detect d code w (otpState d w).code ws.length

theorem mask_raiseWords (d : Dev) (code : Nat) (ws : List Nat) : Laws.mask [.flt] (raiseWords d code ws) = Laws.mask [.flt] d := by
  cases ws with
  | nil => rfl
  | cons w ws => exact Laws.mask_detect _ _ _ _ _ _ (by decide)

theorem mask_otpFaults (d : Dev) : Laws.mask [.flt] (otpFaults d) = Laws.mask [.flt] d := by
  have heq : ∃ e a b c f, otpFaults d = (if secretValid e then e else raiseWords e 0x1704 f) ∧ e = raiseWords (raiseWords (raiseWords d 0x1700 a) 0x1701 b) 0x1702 c := ⟨_, _, _, _, _, rfl, rfl⟩
  obtain ⟨e, a, b, c, f, heq, he⟩ := heq
  have hmask : Laws.mask [.flt] e = Laws.mask [.flt] d := by rw [he, mask_raiseWords, mask_raiseWords, mask_raiseWords]
  rw [heq]
  split
  · exact hmask
  · exact (mask_raiseWords _ _ _).trans hmask

theorem aonLoaded_spec (d : Dev) (img : Nat) : (aonLoaded d img).mm = d.mm ∧ (aonLoaded d img).pwr = d.pwr ∧ (aonLoaded d img).otp = d.otp ∧ cycles (aonLoaded d img) = cycles d := by
  have hrecord : ∀ (e : Dev) code source ps, Laws.mask [.clk, .int, .rcd] (recordN e code source ps) = Laws.mask [.clk, .int, .rcd] e := fun e code source ps => Laws.mask_recordN _ _ _ _ _ (by decide) (by decide) (by decide)
  have hmark : ∀ e : Dev, Laws.mask [.clk, .int, .rcd] (if img = 1 then recordN e 0x4001 srcJournalP [journalUsed e.jr.primary] else if img = 2 then recordN e 0x4002 srcJournalP [] else e) = Laws.mask [.clk, .int, .rcd] e ∧
      cycles (if img = 1 then recordN e 0x4001 srcJournalP [journalUsed e.jr.primary] else if img = 2 then recordN e 0x4002 srcJournalP [] else e) = cycles e := fun e => by
    split
    · exact ⟨hrecord _ _ _ _, cycles_recordN _ _ _ _⟩
    · split
      · exact ⟨hrecord _ _ _ _, cycles_recordN _ _ _ _⟩
      · exact ⟨rfl, rfl⟩
  unfold aonLoaded
  dsimp only
  generalize hcounts : [otpCount d .marginal, otpCount d .bad, otpCount d .corrected] = ps
  have hmask : Laws.mask [.jr, .flt, .clk, .int, .rcd] (otpFaults (if img = 1 then recordN (loadJournal (recordN d 0x5001 srcOtp ps)) 0x4001 srcJournalP [journalUsed (loadJournal (recordN d 0x5001 srcOtp ps)).jr.primary]
      else if img = 2 then recordN (loadJournal (recordN d 0x5001 srcOtp ps)) 0x4002 srcJournalP [] else loadJournal (recordN d 0x5001 srcOtp ps))) = Laws.mask [.jr, .flt, .clk, .int, .rcd] d :=
    (mask_of_subset (by decide) (mask_otpFaults _)).trans ((mask_of_subset (by decide) (hmark _).1).trans ((mask_of_subset (by decide) (mask_loadJournal _)).trans (mask_of_subset (by decide) (hrecord d _ _ ps))))
  have hk := Laws.keeps_of_mask _ _ _ hmask
  refine ⟨(hk .mm (by decide)).symm, (hk .pwr (by decide)).symm, (hk .otp (by decide)).symm, ?_⟩
  exact (cycles_of_mask (mask_otpFaults _) (by decide)).trans ((hmark _).2.trans ((cycles_of_mask (mask_loadJournal _) (by decide)).trans (cycles_recordN d _ _ ps)))

theorem aonUp_spec {d : Dev} {vin pack : Bool} (hoff : d.mm.mode = .off) (hsupply : supplyCode vin (pack && d.pwr.packPath) ≠ 0) :
    (aonUp d vin pack).mm.mode = .cold ∧ (aonUp d vin pack).mm.cause = .supply ∧ (aonUp d vin pack).mm.causeFrom = .off ∧ (aonUp d vin pack).pwr.on = 1#8 ∧
      cycles (aonUp d vin pack) = ((d.rcd.nvCycle + 1) % 2 ^ 32, (d.rcd.nvCycle + 1) % 2 ^ 32) ∧ (aonUp d vin pack).otp.normal = d.otp.normal := by
  obtain ⟨e, hdo, p0, p1, p2, he⟩ := aonUp_of_supply hoff hsupply
  have hk := Laws.keeps_of_mask _ _ _ (Laws.mask_record [.int, .rcd] (sensed d (supplyCode vin (pack && d.pwr.packPath))) 0xF001 srcRecorder false p0 p1 p2 0 (by decide) (by decide))
  rw [← he] at hk
  have hmode : e.mm.mode = .off := congrArg ModeUnit.mode (hk .mm (by decide)).symm |>.trans hoff
  have hon : e.pwr.on = 1#8 := congrArg Power.on (hk .pwr (by decide)).symm
  have hnormal : e.otp.normal = d.otp.normal := by
    rw [← hk .otp (by decide)]
    rfl
  have hcycles : cycles e = ((d.rcd.nvCycle + 1) % 2 ^ 32, (d.rcd.nvCycle + 1) % 2 ^ 32) := by
    rw [he]
    exact cycles_recordRaw _ _ _ _ _ _ _ _ _
  have hleave : leaveReplay e .cold = e := leaveReplay_of_other (by rw [hmode]; decide) .cold
  have hcold := enterMode_cold_eq hleave .supply 0
  obtain ⟨e', ⟨hmm', -, -⟩, hmm, -, -⟩ := enterMode_cold e .supply 0
  have hbegunCycles := cycles_coldBegun e .supply 0
  have hbegunLasting : (coldBegun e .supply 0).pwr = e.pwr ∧ (coldBegun e .supply 0).otp = e.otp := by
    have hmask : Laws.mask (.pins :: chargerParts ++ inModeParts) (coldBegun e .supply 0) = Laws.mask (.pins :: chargerParts ++ inModeParts) e := by
      rw [coldBegun, mask_chargerMode _ _ (by decide) _ (by decide), Laws.mask_setHrst _ _ _ (by decide) (by decide), mask_inMode _ _ _ _ _ _ (by decide) (.inr (by rw [hmode]; decide))]
    have hkept := Laws.keeps_of_mask _ _ _ hmask
    exact ⟨(hkept .pwr (by decide)).symm, (hkept .otp (by decide)).symm⟩
  obtain ⟨hopenOn, hopenMask⟩ := openAll_of_aon (d := coldBegun e .supply 0) (by rw [hbegunLasting.1]; exact hon)
  obtain ⟨hloadMm, hloadPwr, hloadOtp, hloadCycles⟩ := aonLoaded_spec (enterMode e .cold .supply 0) (imageCode d)
  rw [hdo]
  refine ⟨by rw [hloadMm, hmm]; rfl, by rw [hloadMm, hmm]; rfl, ?_, ?_, ?_, ?_⟩
  · rw [hloadMm, hmm]
    change e'.mm.mode = .off
    rw [hmm']
    exact hmode
  · rw [hloadPwr, hcold]
    exact hopenOn
  · rw [hloadCycles, hcold]
    exact (cycles_of_mask hopenMask (by decide)).trans (hbegunCycles.trans hcycles)
  · rw [hloadOtp, hcold]
    have hotp : (openAll (coldBegun e .supply 0)).otp = e.otp := (Laws.keeps_of_mask _ _ _ hopenMask .otp (by decide)).symm.trans hbegunLasting.2
    exact (congrArg Otp.normal hotp).trans hnormal

/-- Settles O47, from what survives the opening of the domains and from the recorder's and the OTP's own fields. -/
theorem supplyLossAndPowerUp : Obligations.SupplyLossAndPowerUp := by
  refine fun s => ⟨fun hoff hsupply => ⟨_, rfl, freeze_spec hoff hsupply⟩, fun hflush hvhold => ⟨_, rfl, sealed_of_vhold hflush hvhold⟩, fun hvhold => ?_, fun vin pack hvhold hsupply => ⟨fun hflush => ?_, fun hflush => ?_⟩,
    fun vin pack hoff hsupply => ?_⟩
  · exact ⟨congrArg (next s) (if_pos hvhold), goOff_spec s.dev⟩
  · exact congrArg (next s) ((supplyBack_of_supply hvhold hsupply).trans (if_pos hflush))
  · obtain ⟨hpwr, hneed, hfrozen, hrestored, hprimary, hkeeps⟩ := useSeal_spec (onSupply s.dev (supplyCode vin (pack && s.dev.pwr.packPath)))
    refine ⟨_, congrArg (next s) ((supplyBack_of_supply hvhold hsupply).trans (if_neg (by rw [hflush]; decide))), hpwr, hneed, hfrozen, hrestored, hprimary, keeps_trans (b := onSupply s.dev (supplyCode vin (pack && s.dev.pwr.packPath))) (Laws.keeps_of_mask _ _ _ (Laws.mask_pwr _ _ _ (by decide))) ?_⟩
    exact Laws.keeps_of_mask _ _ _ (mask_of_subset (by decide) (Laws.mask_of_keeps _ _ _ hkeeps))
  · obtain ⟨hmode, hcause, hfrom, hon, hcycles, hnormal⟩ := aonUp_spec hoff hsupply
    have hcycle := congrArg Prod.fst hcycles
    have hnv := congrArg Prod.snd hcycles
    exact ⟨_, rfl, hmode, hcause, hfrom, hon, hcycle, hnv.trans hcycle.symm, hnormal⟩

end Sys2Proof.Machine
end

section
/-!
The other packages of a system (O43).
-/
namespace Sys2Proof.Machine
open Sys2Proof.Safety

/-! ### One peer -/

theorem peerU_updPeer_same {d : Dev} {j : Nat} (h : j < d.seq.peers.length) (f : Peer → Peer) : peerU (updPeer d j f) j = f (peerU d j) := at'_upd_same _ _ _ _ h

theorem peerU_updPeer_other (d : Dev) {i j : Nat} (h : i ≠ j) (f : Peer → Peer) : peerU (updPeer d j f) i = peerU d i := at'_upd_other _ _ _ _ _ h

theorem lt_of_systemPeers {d : Dev} {j : Nat} (h : (systemPeers d).contains j = true) : j < 4 := by
  unfold systemPeers at h
  simp only [List.contains_eq_mem, List.mem_filter, decide_eq_true_eq, List.mem_range] at h
  exact h.1

/-- The delay of a link that comes UP is measured (R252). -/
def delayMeasured (d : Dev) (j : Nat) : Dev :=
  if decide (8 ≤ (peerU d j).goodRun + 1) && (peerU d j).st != 2 then nextFree (updPeer d j (fun q => { q with delay := Config.peerDelay d.clk.free % 256 })) else d

theorem trainPeer_eq (d : Dev) (j : Nat) (b : PeerBlock) :
    trainPeer d j b = updPeer (delayMeasured d j) j (fun q => { q with st := if decide (8 ≤ (peerU d j).goodRun + 1) then 2 else if q.st == 2 then 2 else 1, goodRun := (peerU d j).goodRun + 1, lastGood := (delayMeasured d j).clk.tick, seen := (delayMeasured d j).clk.tick + 1, block := b }) := rfl

theorem delayMeasured_spec (d : Dev) (j : Nat) :
    (delayMeasured d j).clk.tick = d.clk.tick ∧ (delayMeasured d j).seq.peers.length = d.seq.peers.length ∧ (delayMeasured d j).seq.run = d.seq.run ∧ (∀ i, i ≠ j → peerU (delayMeasured d j) i = peerU d i) ∧
      (j < d.seq.peers.length → (peerU (delayMeasured d j) j).st = (peerU d j).st) ∧ Laws.mask [.seq, .clk] (delayMeasured d j) = Laws.mask [.seq, .clk] d := by
  unfold delayMeasured
  split
  · have hst : j < d.seq.peers.length → (peerU (updPeer d j (fun q => { q with delay := Config.peerDelay d.clk.free % 256 })) j).st = (peerU d j).st := fun h => by rw [peerU_updPeer_same h]
    exact ⟨rfl, upd_length _ _ _, rfl, fun i hi => peerU_updPeer_other d hi _, hst, (Laws.mask_nextFree _ _ (by decide)).trans (Laws.mask_seq _ _ _ (by decide))⟩
  · exact ⟨rfl, rfl, rfl, fun _ _ => rfl, fun _ => rfl, rfl⟩

/-- A good block of a peer (R250, R252). -/
theorem trainPeer_spec {d : Dev} {j : Nat} (hj : j < d.seq.peers.length) (b : PeerBlock) :
    (peerU (trainPeer d j b) j).block = b ∧ (peerU (trainPeer d j b) j).goodRun = (peerU d j).goodRun + 1 ∧ (peerU (trainPeer d j b) j).lastGood = d.clk.tick ∧
      (8 ≤ (peerU d j).goodRun + 1 → (peerU (trainPeer d j b) j).st = 2) ∧ ((peerU d j).goodRun + 1 < 8 → (peerU d j).st ≠ 2 → (peerU (trainPeer d j b) j).st = 1) ∧
      (∀ i, i ≠ j → peerU (trainPeer d j b) i = peerU d i) ∧ (trainPeer d j b).seq.run = d.seq.run ∧ (trainPeer d j b).clk.tick = d.clk.tick ∧ Laws.mask [.seq, .clk] (trainPeer d j b) = Laws.mask [.seq, .clk] d := by
  obtain ⟨htick, hlen, hrun, hothers, hst, hmask⟩ := delayMeasured_spec d j
  rw [trainPeer_eq]
  generalize delayMeasured d j = e at *
  have hsame := fun f => peerU_updPeer_same (d := e) (j := j) (by rw [hlen]; exact hj) f
  refine ⟨by rw [hsame], by rw [hsame], by rw [hsame, htick], fun h8 => ?_, fun h8 hne => ?_, fun i hi => (peerU_updPeer_other e hi _).trans (hothers i hi), hrun, htick, (Laws.mask_seq _ _ _ (by decide)).trans hmask⟩
  · rw [hsame]
    exact if_pos (decide_eq_true h8)
  · rw [hsame]
    refine (if_neg (by rw [decide_eq_true_eq]; omega)).trans (if_neg ?_)
    rw [hst hj]
    simpa using hne

/-- A block that carries neither a command nor a request, with no run under way, asks for nothing. -/
theorem peerActs_of_quiet {d : Dev} {old b : PeerBlock} (hcmd : b.cmdValid = false) (hdown : b.fwdDown = false) (hrun : d.seq.run = none) : peerActs d old b = d := by
  have hfollow : followCommand d b = d := by
    unfold followCommand
    exact if_pos (by rw [hcmd]; rfl)
  unfold peerActs
  split
  · split
    · exact hfollow
    · rfl
  · split
    · rfl
    · dsimp only
      rw [hdown, Bool.false_and, if_neg Bool.false_ne_true, hrun]

theorem peerHears_of_peer {d : Dev} {j : Nat} (hoff : d.mm.mode ≠ .off) (hctl : d.pwr.ctlLost = false) (hpeer : (systemPeers d).contains j = true) : peerHears d j = true := by
  rw [peerHears, hctl, hpeer]
  simp [hoff]

theorem peerBlock_of_good {d : Dev} {j : Nat} {b : Block} (hhears : peerHears d j = true) (hgood : peerGood b = true) (hcmd : (peerFields b).cmdValid = false) (hdown : (peerFields b).fwdDown = false)
    (hj : j < d.seq.peers.length) (hrun : d.seq.run = none) :
    peerBlock d j b = if (peerFields b).safe && !(peerU d j).block.safe then arrive (trainPeer d j (peerFields b)) (BitVec.ofNat 16 (trainPeer d j (peerFields b)).clk.tick) (.mode (.peerSafe j)) else trainPeer d j (peerFields b) := by
  obtain ⟨-, -, -, -, -, -, hrun', -, -⟩ := trainPeer_spec hj (peerFields b)
  unfold peerBlock
  dsimp only
  rw [if_neg (by rw [hhears]; decide), if_neg (by rw [hgood]; decide), peerActs_of_quiet hcmd hdown (hrun'.trans hrun)]

theorem stampTick_now (d : Dev) : stampTick d (BitVec.ofNat 16 d.clk.tick) = d.clk.tick := by
  unfold stampTick
  rw [BitVec.toNat_ofNat]
  omega

/-- The SAFE that a peer reports is a mode input of four ticks (R17, R28). -/
theorem arrive_peerSafe (d : Dev) (j : Nat) : arrive d (BitVec.ofNat 16 d.clk.tick) (.mode (.peerSafe j)) = { d with waiting := d.waiting ++ [(d.clk.tick + 4, .mode (.peerSafe j))] } := by
  unfold arrive
  dsimp only
  rw [stampTick_now, show latency (.mode (.peerSafe j)) = 4 from rfl, if_neg (by omega), if_neg (by omega)]

/-! ### Tokens -/

/-- The token of the fret is here. -/
def tokenTaken (d : Dev) : Sequencer := { d.seq with noToken := 0, tokenLock := true, tokenSeen := true }

theorem tokenArrives_of_follower {d : Dev} (hfollower : follower d = true) (hsched : powered d .sched = true) (hctl : d.pwr.ctlLost = false) :
    tokenArrives d =
      { d with clk := { d.clk with fret := if d.seq.tokenSeen then d.clk.fret else (match d.seq.peers.find? (fun p => p.block.master) with | some p => p.block.fret | none => d.clk.fret), tickInFret := 0, fretDue := true }, seq := tokenTaken d } := by
  unfold tokenArrives
  exact if_neg (by simp [hfollower, hsched, hctl])

theorem tokenLost_spec {d : Dev} (hfollower : follower d = true) (hlost : 4 ≤ d.seq.noToken) (hmode : d.mm.mode = .run) (hrun : d.seq.run = none) (hafter : d.mm.after = none) :
    (tokenLost d).mm.mode = .safe ∧ (tokenLost d).mm.cause = .fretTokenLost ∧ (tokenLost d).seq.tokenLock = false := by
  have hdo : tokenLost d = deviceSafe { d with seq := { d.seq with tokenLock := false, noToken := 0 } } .fretTokenLost 0 := by
    unfold tokenLost
    refine if_neg ?_
    rw [hfollower]
    simpa using hlost
  have hmodes : ∀ m : Mode, m = .run → m = .config ∨ m = .armed ∨ m = .run ∨ m = .hold ∨ m = .ride := fun m h => .inr (.inr (.inl h))
  have hmm := mm_deviceSafe_of_idle (d := { d with seq := { d.seq with tokenLock := false, noToken := 0 } }) (hmodes _ hmode) hrun hafter .fretTokenLost 0
  have heq := deviceSafe_of_idle (d := { d with seq := { d.seq with tokenLock := false, noToken := 0 } }) (hmodes _ hmode) hrun hafter .fretTokenLost 0
  have hmask := mask_enterModeWith_safe (d := { d with seq := { d.seq with tokenLock := false, noToken := 0 } }) (by rw [show _ = Mode.run from hmode]; decide) .fretTokenLost 0 true safeParts (fun _ h => h) (.inr (by rw [show _ = Mode.run from hmode]; decide))
  have hseq := (Laws.keeps_of_mask _ _ _ hmask .seq (by decide)).symm
  rw [hdo]
  refine ⟨by rw [hmm]; rfl, by rw [hmm]; rfl, ?_⟩
  rw [heq]
  exact congrArg Sequencer.tokenLock hseq

/-- Settles O43, from a good block's effect on its peer and from the entry to SAFE. -/
theorem peersAreFollowed : Obligations.PeersAreFollowed := by
  refine fun s => ⟨fun j b hoff hctl hpeer hlen => ⟨fun hbad => ?_, fun hgood hsafe hcmd hdown hrun => ?_, fun hgood hsafe hold hcmd hdown hrun => ?_, fun hmode hrun hafter hidle => ?_⟩,
    fun hfollower hsched hctl => ⟨fun hseen => ?_, fun p hseen hfind => ?_⟩, fun hfollower hlost hmode hrun hafter => ⟨_, rfl, tokenLost_spec hfollower hlost hmode hrun hafter⟩,
    fun j hpeer hup hsilent => ?_, fun r hrun hmaster hwaits hkind hphase hfail => ?_⟩
  · have hhears := peerHears_of_peer hoff hctl hpeer
    refine congrArg (next s) ?_
    show peerBlock s.dev j b = peerBad s.dev j
    unfold peerBlock
    rw [if_neg (by rw [hhears]; decide), if_pos (by rw [hbad]; rfl)]
  · have hj : j < s.dev.seq.peers.length := by rw [hlen]; exact lt_of_systemPeers hpeer
    obtain ⟨hblock, hgoodRun, hlast, hup, htraining, hothers, -, -, hmask⟩ := trainPeer_spec hj (peerFields b)
    refine ⟨_, congrArg (next s) ((peerBlock_of_good (peerHears_of_peer hoff hctl hpeer) hgood hcmd hdown hj hrun).trans (if_neg ?_)), hblock, hgoodRun, hlast, hup, htraining, hothers, Laws.keeps_of_mask _ _ _ hmask⟩
    rw [hsafe]
    exact Bool.false_ne_true
  · have hj : j < s.dev.seq.peers.length := by rw [hlen]; exact lt_of_systemPeers hpeer
    obtain ⟨hblock, -, -, -, -, -, -, htick, hmask⟩ := trainPeer_spec hj (peerFields b)
    have hwaiting : (trainPeer s.dev j (peerFields b)).waiting = s.dev.waiting := (Laws.keeps_of_mask _ _ _ hmask .waiting (by decide)).symm
    refine ⟨_, congrArg (next s) ((peerBlock_of_good (peerHears_of_peer hoff hctl hpeer) hgood hcmd hdown hj hrun).trans ((if_pos ?_).trans (arrive_peerSafe _ j))), hblock, ?_, Laws.keeps_of_mask _ _ _ ?_⟩
    · rw [hsafe, hold]
      rfl
    · dsimp only
      rw [hwaiting, htick]
    · exact (Laws.mask_waiting _ (trainPeer s.dev j (peerFields b)) _ (by decide)).trans (mask_of_subset (by decide) hmask)
  · have hcapture : capturing s.dev = false := (Bool.or_eq_false_iff.1 hidle).1
    have happly : applyMsg s.dev (.mode (.peerSafe j)) = deviceSafe s.dev .peerSafe j := congrArg (fun e => deviceSafe e .peerSafe j) (capture_of_not_capturing hcapture _)
    have hmm := mm_deviceSafe_of_idle (d := s.dev) (by rw [hmode]; simp) hrun hafter .peerSafe j
    rw [happly]
    exact ⟨by rw [hmm]; rfl, by rw [hmm]; rfl, by rw [hmm]; rfl, by rw [hmm]; exact hmode⟩
  · refine congrArg (next s) ((tokenArrives_of_follower hfollower hsched hctl).trans ?_)
    rw [hseen]
    rfl
  · refine congrArg (next s) ((tokenArrives_of_follower hfollower hsched hctl).trans ?_)
    rw [hseen, hfind]
    rfl
  · refine congrArg (next s) (if_neg ?_)
    have hlate : ¬ s.dev.clk.tick < (peerU s.dev j).lastGood + 16 := by omega
    rw [hpeer]
    simp [hup, hlate]
  · refine congrArg (next s) ?_
    show peerFails s.dev = _
    unfold peerFails
    rw [hrun]
    dsimp only
    rw [hmaster, hwaits, hfail]
    rcases hkind with h | h
    · exact if_pos (by simp [h, hphase])
    · exact if_pos (by simp [h, hphase])

end Sys2Proof.Machine
end

section
/-!
The loss of the control die (O18).
-/
namespace Sys2Proof.Machine
open Sys2Proof.Safety

/-- A device in RUN, every domain powered, with one accepted descriptor in both journal copies and no die-to-die block for 20 ticks. -/
def silentDev : Dev :=
  let x : Entry := { idx := 0, ring := 0, slot := 0, seq := 1, bind := 0, image := 0 }
  { State.reset.dev with mm := { State.reset.dev.mm with mode := .run, target := .run }, pwr := { State.reset.dev.pwr with on := 0xFF#8 }, clk := { State.reset.dev.clk with tick := 20 }, jr := { State.reset.dev.jr with primary := [x], secondary := [x] } }

/-- The control die is declared lost, and the reaction is DRONE. -/
theorem silentDev_loses : powered silentDev .mgmt = true ∧ captureActive silentDev = false ∧ reactionOf silentDev 0x1000 = .drone := by decide +kernel

/-- The loss leaves the secondary copy as it is: only the rebuild loads it (R120). -/
theorem silentDev_keepsSecondary : (controlLost silentDev).jr.secondary.isEmpty = false := by decide +kernel

theorem settle_of_controlDieLost {s : State} {e : Dev} (h : exec .controlDieLost s = next s e) : settle (controlLost s.dev) = settle e := by
  have hdev := dev_of_next (t := withDev s (settle (controlLost s.dev))) h
  rwa [withDev_dev] at hdev

/-- Refutes O18: the clause on the loss of the control die asks that the secondary journal copy be empty behind it, but the model leaves that copy as it
stands until the rebuild loads it from the primary (R120): here its one entry is still there. -/
theorem not_dieLinkLossAndRebuild : ¬ Obligations.DieLinkLossAndRebuild := by
  unfold Obligations.DieLinkLossAndRebuild
  intro h
  obtain ⟨-, hlosses, -⟩ := h
  obtain ⟨hpowered, hidle, hreaction⟩ := silentDev_loses
  obtain ⟨hcontrol, -⟩ := hlosses { State.reset with dev := silentDev } hpowered rfl rfl rfl rfl rfl hidle
  obtain ⟨e, hstep, -, -, -, -, -, -, hsecondary, -⟩ := hcontrol (by decide) hreaction
  have hdev : settle (controlLost silentDev) = settle e := settle_of_controlDieLost (s := { State.reset with dev := silentDev }) hstep
  have hjr : (controlLost silentDev).jr = e.jr := by rw [← settle_jr (controlLost silentDev), hdev, settle_jr]
  have hkept := silentDev_keepsSecondary
  rw [hjr, hsecondary] at hkept
  exact absurd hkept (by decide)

end Sys2Proof.Machine
end

section
/-!
Allotments and the re-anchor (O16).
-/
namespace Sys2Proof.Machine
open Sys2Proof.Safety

/-! ### One string's allotment (R149, R150) -/

/-- The fingerboard but for its events. -/
def eventless (d : Dev) : Fingerboard := { d.fb with event := 0 }

/-- The parts that a publication writes. -/
def publishParts : List Part := [.fb, .str, .int, .rcd, .out, .fretOut]

/-- The set-up, the journal, the cells and the other parts stand between two publications of one fret. -/
def SameCells (d e : Dev) : Prop := Laws.mask publishParts e = Laws.mask publishParts d ∧ eventless e = eventless d

theorem SameCells.refl (d : Dev) : SameCells d d := ⟨rfl, rfl⟩

theorem SameCells.trans {d e f : Dev} (hde : SameCells d e) (hef : SameCells e f) : SameCells d f := ⟨hef.1.trans hde.1, hef.2.trans hde.2⟩

theorem sameCells_of_mask {qs : List Part} {d e : Dev} (h : Laws.mask qs e = Laws.mask qs d) (hfb : Part.fb ∉ qs) (hqs : ∀ p ∈ qs, p ∈ publishParts) : SameCells d e :=
  ⟨mask_of_subset hqs h, by unfold eventless; rw [fb_of_mask h hfb]⟩

theorem SameCells.force {d e : Dev} (h : SameCells d e) : SameForce d e := sameForce_of_mask h.1 (by decide) (by decide)

theorem bankFor_of_eventless {d e : Dev} (h : eventless e = eventless d) (f : Nat) : bankFor e f = bankFor d f := by
  have hbankA : e.fb.bankA = d.fb.bankA := by
    have hsame := congrArg Fingerboard.bankA h
    exact hsame
  have hbankB : e.fb.bankB = d.fb.bankB := by
    have hsame := congrArg Fingerboard.bankB h
    exact hsame
  have hliveB : e.fb.liveB = d.fb.liveB := by
    have hsame := congrArg Fingerboard.liveB h
    exact hsame
  have hswaps : e.fb.swaps = d.fb.swaps := by
    have hsame := congrArg Fingerboard.swaps h
    exact hsame
  have hreplan : e.fb.replan = d.fb.replan := by
    have hsame := congrArg Fingerboard.replan h
    exact hsame
  unfold bankFor liveBank shadowBank
  rw [hbankA, hbankB, hliveB, hswaps, hreplan]

theorem SameForce.stringVolts {d e : Dev} (h : SameForce d e) {k : Nat} (hu : strU e k = strU d k) : stringVolts e k = Machine.stringVolts d k := by
  unfold Machine.stringVolts kindMin
  rw [h.kindOf, hu]

theorem SameCells.targetFor {d e : Dev} (h : SameCells d e) {k : Nat} (hu : strU e k = strU d k) (f : Nat) : targetFor e k f = Machine.targetFor d k f := by
  have hjr : e.jr = d.jr := (Laws.keeps_of_mask _ _ _ h.1 .jr (by decide)).symm
  unfold Machine.targetFor setpointFor entries
  rw [hjr, hu]

theorem SameCells.allotOf {d e : Dev} (h : SameCells d e) {k : Nat} (hu : strU e k = strU d k) (f : Nat) : allotOf e k f = Machine.allotOf d k f := by
  have hclk : e.clk = d.clk := (Laws.keeps_of_mask _ _ _ h.1 .clk (by decide)).symm
  unfold Machine.allotOf
  simp only [bankFor_of_eventless h.2, h.force.stringVolts hu, h.targetFor hu, h.force.rsF, h.force.kindOf, hu, hclk]

theorem eventless_clampBegins (d : Dev) (k f : Nat) : eventless (clampBegins d k f) = eventless d := by
  have hevent : ∀ e : Dev, eventless (setFbEvent e 2) = eventless e := fun e => by
    unfold eventless setFbEvent
    rw [occur_fb]
  have hrecord : ∀ (e : Dev) code source mark p0 p1 p2 p3, eventless (record e code source mark p0 p1 p2 p3) = eventless e := fun e code source mark p0 p1 p2 p3 => by
    unfold eventless
    rw [fb_of_mask (qs := [.int, .rcd]) (Laws.mask_record _ _ _ _ _ _ _ _ _ (by decide) (by decide)) (by decide)]
  unfold clampBegins
  dsimp only
  split
  · rfl
  · split
    · exact hevent _
    · exact (hrecord _ _ _ _ _ _ _ _).trans (hevent _)

/-- The device in which the clamp of a cell above the capo has begun, or none holds (R153). -/
def clampJudged (d : Dev) (f k : Nat) : Dev :=
  if (strU d k).capo < (powerAt (bankFor d f).1 k f).natAbs then clampBegins d k f else updStr d k (fun u => { u with capoClamp := false })

theorem publishString_eq (d : Dev) (f k : Nat) :
    publishString d f k = emitFast (updStr (clampJudged d f k) k (fun u => { u with next := some (allotOf d k f), nextTop := ampsAt (strU (clampJudged d f k) k).capo (stringVolts (clampJudged d f k) k) })) (.allotment k (allotOf d k f)) := rfl

theorem strU_clampBegins_other (d : Dev) {j k : Nat} (h : j ≠ k) (f : Nat) : strU (clampBegins d k f) j = strU d j := by
  have hevent : ∀ e : Dev, strU (setFbEvent e 2) j = strU e j := fun e => by
    unfold strU
    rw [str_of_mask (qs := [.fb, .int]) (Laws.mask_setFbEvent _ _ _ (by decide) (by decide)) (by decide)]
  have hrecord : ∀ (e : Dev) code source mark p0 p1 p2 p3, strU (record e code source mark p0 p1 p2 p3) j = strU e j := fun e code source mark p0 p1 p2 p3 => by
    unfold strU
    rw [str_of_mask (qs := [.int, .rcd]) (Laws.mask_record _ _ _ _ _ _ _ _ _ (by decide) (by decide)) (by decide)]
  unfold clampBegins
  dsimp only
  split
  · rfl
  · split
    · exact (hevent _).trans (strU_updStr_other _ _ _ _ h)
    · exact (hrecord _ _ _ _ _ _ _ _).trans ((strU_updStr_other _ _ _ _ h).trans ((hevent _).trans (strU_updStr_other _ _ _ _ h)))

theorem length_clampBegins (d : Dev) (k f : Nat) : (clampBegins d k f).str.length = d.str.length := by
  have hevent : ∀ e : Dev, (setFbEvent e 2).str = e.str := fun e => str_of_mask (qs := [.fb, .int]) (Laws.mask_setFbEvent _ _ _ (by decide) (by decide)) (by decide)
  have hrecord : ∀ (e : Dev) code source mark p0 p1 p2 p3, (record e code source mark p0 p1 p2 p3).str = e.str := fun e code source mark p0 p1 p2 p3 =>
    str_of_mask (qs := [.int, .rcd]) (Laws.mask_record _ _ _ _ _ _ _ _ _ (by decide) (by decide)) (by decide)
  unfold clampBegins
  dsimp only
  split
  · rfl
  · split
    · rw [hevent, updStr_length]
    · rw [hrecord, updStr_length, hevent, updStr_length]

/-- One string's publication: the string holds its allotment, and the others, the cells and the set-up stand. -/
theorem publishString_spec {d : Dev} {k : Nat} (hk : k < d.str.length) (f : Nat) :
    (strU (publishString d f k) k).next = some (allotOf d k f) ∧ (∀ j, j ≠ k → strU (publishString d f k) j = strU d j) ∧ (publishString d f k).str.length = d.str.length ∧ SameCells d (publishString d f k) := by
  have hjudged : (∀ j, j ≠ k → strU (clampJudged d f k) j = strU d j) ∧ (clampJudged d f k).str.length = d.str.length ∧ SameCells d (clampJudged d f k) := by
    unfold clampJudged
    split
    · exact ⟨fun j hj => strU_clampBegins_other d hj f, length_clampBegins d k f, mask_of_subset (by decide) (Laws.mask_clampBegins [.fb, .str, .int, .rcd] d k f (by decide) (by decide) (by decide) (by decide)), eventless_clampBegins d k f⟩
    · exact ⟨fun j hj => strU_updStr_other _ _ _ _ hj, updStr_length _ _ _, sameCells_of_mask (qs := [.str]) (Laws.mask_updStr _ _ _ _ (by decide)) (by decide) (by decide)⟩
  obtain ⟨hothers, hlen, hsame⟩ := hjudged
  have hemit : ∀ (e : Dev) o, (emitFast e o).str = e.str := fun e o => str_of_mask (qs := [.out, .fretOut]) (Laws.mask_emitFast _ _ _ (by decide) (by decide)) (by decide)
  have hstr : ∀ (e : Dev) o j, strU (emitFast e o) j = strU e j := fun e o j => by unfold strU; rw [hemit]
  rw [publishString_eq]
  refine ⟨?_, fun j hj => ?_, by rw [hemit, updStr_length, hlen], hsame.trans ?_⟩
  · rw [hstr, strU_updStr_same _ _ _ (by rw [hlen]; exact hk)]
  · rw [hstr, strU_updStr_other _ _ _ _ hj]
    exact hothers j hj
  · exact sameCells_of_mask (qs := [.str, .out, .fretOut]) ((Laws.mask_emitFast _ _ _ (by decide) (by decide)).trans (Laws.mask_updStr _ _ _ _ (by decide))) (by decide) (by decide)

/-- The strings of a list are published one after the other. -/
theorem publishStrings_spec {f : Nat} {ks : List Nat} (hnodup : ks.Nodup) {d : Dev} (hks : ∀ k ∈ ks, k < d.str.length) :
    (∀ k ∈ ks, (strU (ks.foldl (fun d k => publishString d f k) d) k).next = some (allotOf d k f)) ∧ (∀ j, j ∉ ks → strU (ks.foldl (fun d k => publishString d f k) d) j = strU d j) ∧
      SameCells d (ks.foldl (fun d k => publishString d f k) d) := by
  induction ks generalizing d with
  | nil => exact ⟨nofun, fun _ _ => rfl, .refl d⟩
  | cons k ks ih =>
    obtain ⟨hnot, hrest⟩ := List.nodup_cons.1 hnodup
    obtain ⟨hnext, hothers, hlen, hsame⟩ := publishString_spec (hks k List.mem_cons_self) f
    obtain ⟨hpub, hkept, hcells⟩ := ih hrest (d := publishString d f k) (fun j hj => by rw [hlen]; exact hks j (List.mem_cons_of_mem _ hj))
    rw [List.foldl_cons]
    refine ⟨fun j hj => ?_, fun j hj => ?_, hsame.trans hcells⟩
    · rcases List.mem_cons.1 hj with rfl | hin
      · rw [hkept j hnot, hnext]
      · rw [hpub j hin, hsame.allotOf (hothers j fun h => hnot (h ▸ hin))]
    · rw [hkept j fun h => hj (List.mem_cons_of_mem _ h), hothers j fun h => hj (h ▸ List.mem_cons_self)]

/-! ### The publication (R149, R154) -/

/-- The storage command of a string for the next fret. -/
def storageTold (d : Dev) (k : Nat) (c : Storage) : Dev := emitFast (updStr d k (fun u => { u with nextStorage := some c })) (.storage k c)

theorem next_storageTold (d : Dev) (k : Nat) (c : Storage) (j : Nat) : (strU (storageTold d k c) j).next = (strU d j).next := by
  have hstr : strU (storageTold d k c) j = strU (updStr d k (fun u => { u with nextStorage := some c })) j := by
    unfold strU storageTold
    rw [str_of_mask (qs := [.out, .fretOut]) (Laws.mask_emitFast _ _ _ (by decide) (by decide)) (by decide)]
  rw [hstr]
  by_cases hj : j = k
  · subst hj
    rcases Nat.lt_or_ge j d.str.length with hlen | hlen
    · rw [strU_updStr_same _ _ _ hlen]
    · rw [strU_updStr_beyond _ _ _ hlen]
  · rw [strU_updStr_other _ _ _ _ hj]

theorem mask_storageTold (d : Dev) (k : Nat) (c : Storage) : Laws.mask [.str, .out, .fretOut] (storageTold d k c) = Laws.mask [.str, .out, .fretOut] d :=
  (Laws.mask_emitFast _ _ _ (by decide) (by decide)).trans (Laws.mask_updStr _ _ _ _ (by decide))

/-- The storage command, where the string is there to take it. -/
def storageToldIf (b : Bool) (d : Dev) (k : Nat) (c : Storage) : Dev := if b then storageTold d k c else d

theorem storageToldIf_spec (b : Bool) (d : Dev) (k : Nat) (c : Storage) :
    (storageToldIf b d k c).fb = d.fb ∧ (∀ j, (strU (storageToldIf b d k c) j).next = (strU d j).next) ∧ Laws.mask publishParts (storageToldIf b d k c) = Laws.mask publishParts d := by
  cases b with
  | false => exact ⟨rfl, fun _ => rfl, rfl⟩
  | true => exact ⟨fb_of_mask (mask_storageTold d k c) (by decide), next_storageTold d k c, mask_of_subset (by decide) (mask_storageTold d k c)⟩

/-- The commands that a row of the energy model gives for the bank and for the pack (R154). -/
def storageCommands (d : Dev) (m : Model) (r : FRow) : Dev :=
  let e := storageToldIf (storeValid d) d m.s { sched := r.ss + r.fl.ref, support := r.fl.pBank, absorb := m.capoS }
  storageToldIf (packValid e) e (packString e) { charge := if e.mm.mode == .ride then m.capoQ else r.fl.chg }

theorem storageCommands_spec (d : Dev) (m : Model) (r : FRow) :
    (storageCommands d m r).fb = d.fb ∧ (∀ j, (strU (storageCommands d m r) j).next = (strU d j).next) ∧ Laws.mask publishParts (storageCommands d m r) = Laws.mask publishParts d := by
  obtain ⟨hfb, hnext, hmask⟩ := storageToldIf_spec (storeValid d) d m.s { sched := r.ss + r.fl.ref, support := r.fl.pBank, absorb := m.capoS }
  unfold storageCommands
  dsimp only
  generalize storageToldIf (storeValid d) d m.s _ = e at *
  obtain ⟨hfb', hnext', hmask'⟩ := storageToldIf_spec (packValid e) e (packString e) { charge := if e.mm.mode == .ride then m.capoQ else r.fl.chg }
  exact ⟨hfb'.trans hfb, fun j => (hnext' j).trans (hnext j), hmask'.trans hmask⟩

theorem publishStorage_cases (d : Dev) (f : Nat) : publishStorage d f = d ∨ ∃ r : FRow, publishStorage d f = storageCommands { d with fb := { d.fb with chg := r.fl.chg } } (modelOf d) r := by
  unfold publishStorage
  dsimp only
  split
  · exact .inl rfl
  next r _ => exact .inr ⟨r, rfl⟩

/-- The storage command changes CHG alone of the fingerboard, and no allotment. -/
theorem publishStorage_spec (d : Dev) (f : Nat) :
    (∃ n, (publishStorage d f).fb = { d.fb with chg := n }) ∧ (∀ k, (strU (publishStorage d f) k).next = (strU d k).next) ∧ Laws.mask publishParts (publishStorage d f) = Laws.mask publishParts d := by
  rcases publishStorage_cases d f with h | ⟨r, h⟩
  · rw [h]
    exact ⟨⟨_, rfl⟩, fun _ => rfl, rfl⟩
  · rw [h]
    obtain ⟨hfb, hnext, hmask⟩ := storageCommands_spec { d with fb := { d.fb with chg := r.fl.chg } } (modelOf d) r
    exact ⟨⟨_, hfb⟩, hnext, hmask.trans (Laws.mask_fb _ _ _ (by decide))⟩

/-- The strings that take an allotment (R149). -/
def allotted (d : Dev) : List Nat := (configured d).filter (fun k => kindOf d k == .axis || kindOf d k == .aux)

theorem publish_of_due {d : Dev} (hsched : powered d .sched = true) (hctl : d.pwr.ctlLost = false) (htick : d.clk.tickInFret = 0) (hmode : d.mm.mode ≠ .drone) :
    ∃ e n, publish d = { e with fb := { e.fb with epoch := n, published := some (d.clk.fret + 1) } } ∧ e = publishStorage ((allotted d).foldl (fun d' k => publishString d' (d.clk.fret + 1) k) d) (d.clk.fret + 1) := by
  have hfold : ∀ (ks : List Nat) (e : Dev), e.mm = d.mm → ks.foldl (fun e k => if e.mm.mode == .drone && isSafety e k then e else publishString e (d.clk.fret + 1) k) e = ks.foldl (fun e k => publishString e (d.clk.fret + 1) k) e := fun ks => by
    induction ks with
    | nil => exact fun _ _ => rfl
    | cons k ks ih =>
      intro e he
      rw [List.foldl_cons, List.foldl_cons, if_neg (by simp [he, hmode])]
      exact ih _ ((mm_of_mask (Laws.mask_publishString publishParts e (d.clk.fret + 1) k (by decide) (by decide) (by decide) (by decide) (by decide) (by decide)) (by decide)).trans he)
  unfold publish
  rw [if_neg (by simp [hsched, hctl, htick])]
  dsimp only
  rw [hfold _ d rfl]
  exact ⟨_, _, rfl, rfl⟩

theorem publish_spec {d : Dev} (hsched : powered d .sched = true) (hctl : d.pwr.ctlLost = false) (htick : d.clk.tickInFret = 0) (hmode : d.mm.mode ≠ .drone) (hlen : d.str.length = 64) :
    (publish d).fb.published = some (d.clk.fret + 1) ∧ (∀ k ∈ allotted d, (strU (publish d) k).next = some (allotOf d k (d.clk.fret + 1))) ∧
      (publish d).fb.bankA = d.fb.bankA ∧ (publish d).fb.bankB = d.fb.bankB ∧ (publish d).fb.resv = d.fb.resv ∧ keeps publishParts d (publish d) := by
  have hnodup : (allotted d).Nodup := (List.nodup_range.filter _).filter _
  have hbelow : ∀ k ∈ allotted d, k < d.str.length := fun k hk => by
    rw [hlen]
    exact List.mem_range.1 (List.mem_filter.1 (List.mem_filter.1 hk).1).1
  obtain ⟨hnext, -, hsame⟩ := publishStrings_spec (f := d.clk.fret + 1) hnodup hbelow
  obtain ⟨e, n, hdo, he⟩ := publish_of_due hsched hctl htick hmode
  generalize (allotted d).foldl (fun d' k => publishString d' (d.clk.fret + 1) k) d = a at *
  obtain ⟨⟨c, hfb⟩, hkept, hmask⟩ := publishStorage_spec a (d.clk.fret + 1)
  rw [← he] at hfb hkept hmask
  have hcells : eventless a = eventless d := hsame.2
  have hbankA := congrArg Fingerboard.bankA hcells
  have hbankB := congrArg Fingerboard.bankB hcells
  have hresv := congrArg Fingerboard.resv hcells
  rw [hdo]
  refine ⟨rfl, fun k hk => (hkept k).trans (hnext k hk), ?_, ?_, ?_, Laws.keeps_of_mask _ _ _ ((Laws.mask_fb _ e _ (by decide)).trans (hmask.trans hsame.1))⟩
  · exact (congrArg Fingerboard.bankA hfb).trans hbankA
  · exact (congrArg Fingerboard.bankB hfb).trans hbankB
  · exact (congrArg Fingerboard.resv hfb).trans hresv

/-! ### The re-anchor (R139, R140) -/

/-- The energies take the measured bank voltage and the pack's estimate. -/
def anchored (d : Dev) : Dev :=
  let e := if storeValid d then energyAt (rsF d 0x101C 0 16) (bankNow d) else 0
  let ep := if packValid d && d.chg.present && d.chg.st != .absent then d.chg.ep * 1000 else 0
  { d with fb := { d.fb with anchorAt := d.clk.fret + 1, bankMv := bankNow d, e := e, ep := ep, eShown := e / 1000, epShown := ep / 1000 } }

theorem reAnchor_of_due {d : Dev} (hsched : powered d .sched = true) (hctl : d.pwr.ctlLost = false) (htick : d.clk.tickInFret = 1) : reAnchor d = noteDeficit (repredict (anchored d)) := by
  unfold reAnchor
  exact if_neg (by simp [hsched, hctl, htick])

/-- What the prediction and its deficit leave of the fingerboard. -/
def anchors (d : Dev) : Nat × Nat × Nat × Nat × Nat × Nat × List Resv := (d.fb.e, d.fb.ep, d.fb.eShown, d.fb.epShown, d.fb.bankMv, d.fb.anchorAt, d.fb.resv)

theorem anchors_repredict (d : Dev) : anchors (repredict d) = anchors d := by
  have hlive : ∀ (e : Dev) b, anchors (setLive e b) = anchors e := fun e b => by unfold setLive; split <;> rfl
  have hshadow : ∀ (e : Dev) b, anchors (setShadow e b) = anchors e := fun e b => by unfold setShadow; split <;> rfl
  exact (hshadow _ _).trans (hlive _ _)

theorem noteDeficit_spec (d : Dev) : anchors (noteDeficit d) = anchors d ∧ Laws.mask [.fb, .int, .rcd] (noteDeficit d) = Laws.mask [.fb, .int, .rcd] d := by
  have hevent : ∀ (e : Dev), anchors (setFbEvent e 1) = anchors e := fun e => by
    unfold anchors setFbEvent
    rw [occur_fb]
  have hrecord : ∀ (e : Dev) code source mark p0 p1 p2 p3, anchors (record e code source mark p0 p1 p2 p3) = anchors e := fun e code source mark p0 p1 p2 p3 => by
    unfold anchors
    rw [fb_of_mask (qs := [.int, .rcd]) (Laws.mask_record _ _ _ _ _ _ _ _ _ (by decide) (by decide)) (by decide)]
  have hmask : ∀ (e : Dev) n, Laws.mask [.fb, .int, .rcd] (setFbEvent { e with fb := { e.fb with deficitFret := n } } 1) = Laws.mask [.fb, .int, .rcd] e := fun e n =>
    (Laws.mask_setFbEvent _ _ _ (by decide) (by decide)).trans (Laws.mask_fb _ _ _ (by decide))
  unfold noteDeficit
  split
  · exact ⟨rfl, rfl⟩
  · dsimp only
    generalize (if d.fb.deficitFret = 0 then _ else d.fb.deficitFret) = n
    split
    · exact ⟨hevent _, hmask _ _⟩
    · refine ⟨(hrecord _ _ _ _ _ _ _ _).trans (hevent _), (Laws.mask_record _ _ _ _ _ _ _ _ _ (by decide) (by decide)).trans ((Laws.mask_fb _ _ _ (by decide)).trans (hmask _ _))⟩

theorem reAnchor_spec {d : Dev} (hsched : powered d .sched = true) (hctl : d.pwr.ctlLost = false) (htick : d.clk.tickInFret = 1) :
    anchors (reAnchor d) = anchors (anchored d) ∧ Laws.mask [.fb, .int, .rcd] (reAnchor d) = Laws.mask [.fb, .int, .rcd] d := by
  obtain ⟨hdeficit, hmask⟩ := noteDeficit_spec (repredict (anchored d))
  rw [reAnchor_of_due hsched hctl htick]
  exact ⟨hdeficit.trans (anchors_repredict _), hmask.trans ((Laws.mask_repredict _ _ (by decide)).trans (Laws.mask_fb _ _ _ (by decide)))⟩

/-- Settles O16, from the publication of one string, which leaves what the others' allotments rest on, and from the energies at the re-anchor. -/
theorem allotmentAndReAnchor : Obligations.AllotmentAndReAnchor := by
  refine ⟨fun s hsched hctl htick hmode hlen => ?_, fun s hsched hctl htick => ?_⟩
  · obtain ⟨hpublished, hnext, hbankA, hbankB, hresv, hkeeps⟩ := publish_spec hsched hctl htick hmode hlen
    refine ⟨_, rfl, hpublished, fun k _ hconfigured hkind => ?_, hbankA, hbankB, hresv, hkeeps⟩
    have hallotted : k ∈ allotted s.dev := List.mem_filter.2 ⟨hconfigured, by rcases hkind with h | h <;> simp [h]⟩
    refine ⟨_, hnext k hallotted, rfl, rfl, rfl, fun haux => ?_⟩
    exact if_pos (by rw [haux]; rfl)
  · obtain ⟨hanchors, hmask⟩ := reAnchor_spec hsched hctl htick
    obtain ⟨he, hrest⟩ := Prod.ext_iff.1 hanchors
    obtain ⟨hep, hrest⟩ := Prod.ext_iff.1 hrest
    obtain ⟨heShown, hrest⟩ := Prod.ext_iff.1 hrest
    obtain ⟨hepShown, hrest⟩ := Prod.ext_iff.1 hrest
    obtain ⟨hbank, hrest⟩ := Prod.ext_iff.1 hrest
    obtain ⟨hat, hresv⟩ := Prod.ext_iff.1 hrest
    refine ⟨_, rfl, he, hbank, hat, hep.trans ?_, heShown.trans ?_, hepShown.trans ?_, hresv, Laws.keeps_of_mask _ _ _ hmask⟩
    · simp only [anchors, anchored, Bool.and_eq_true, bne_iff_ne, ne_eq, and_assoc]
    · rw [show (reAnchor s.dev).fb.e = (anchored s.dev).fb.e from he]
      rfl
    · rw [show (reAnchor s.dev).fb.ep = (anchored s.dev).fb.ep from hep]
      rfl

end Sys2Proof.Machine
end

section
/-!
The management tick and the converters' samples (O17).
-/
namespace Sys2Proof.Machine
open Sys2Proof.Safety

/-! ### The links' errors over a management tick (R225) -/

/-- The error counts of the tick are shown and start again. -/
def errorsClosed (l : LinkUnit) : LinkUnit := { l with last := sat 65535 l.lostNow, peak := max l.peak (sat 65535 l.lostNow), lostNow := 0, lostJudged := 0 }

theorem linkErrors_of_few {d : Dev} {k : Nat} (h : (lkU d k).lostJudged ≤ rsF d 0x3004 0 10) : linkErrors d k = updLk d k errorsClosed := by
  have hforce : SameForce d (updLk d k errorsClosed) := ⟨rfl, rfl⟩
  have hlimit := hforce.rsF 0x3004 0 10
  unfold linkErrors
  dsimp only
  refine if_neg ?_
  change ¬ ((linkSends (updLk d k errorsClosed) k && decide (rsF (updLk d k errorsClosed) 0x3004 0 10 < (lkU d k).lostJudged)) = true)
  rw [hlimit, decide_eq_false (Nat.not_lt.2 h), Bool.and_false]
  exact Bool.false_ne_true

theorem linkErrors_foldl {ks : List Nat} (hnodup : ks.Nodup) {d : Dev} (h : ∀ k ∈ ks, (lkU d k).lostJudged ≤ rsF d 0x3004 0 10) :
    ks.foldl linkErrors d = ks.foldl (fun d k => updLk d k errorsClosed) d := by
  induction ks generalizing d with
  | nil => rfl
  | cons k ks ih =>
    obtain ⟨hnot, hrest⟩ := List.nodup_cons.1 hnodup
    have hforce : SameForce d (updLk d k errorsClosed) := ⟨rfl, rfl⟩
    rw [List.foldl_cons, List.foldl_cons, linkErrors_of_few (h k List.mem_cons_self)]
    refine ih hrest fun j hj => ?_
    rw [lkU_updLk_other _ _ _ _ fun he : j = k => hnot (he ▸ hj), hforce.rsF]
    exact h j (List.mem_cons_of_mem _ hj)

theorem lkU_foldl_other (f : LinkUnit → LinkUnit) (l : List Nat) (d : Dev) {j : Nat} (hj : j ∉ l) : lkU (l.foldl (fun d k => updLk d k f) d) j = lkU d j := by
  induction l generalizing d with
  | nil => rfl
  | cons a l ih => rw [List.foldl_cons, ih _ fun h => hj (List.mem_cons_of_mem a h), lkU_updLk_other _ _ _ _ fun h => hj (by rw [h]; exact List.mem_cons_self)]

theorem lkU_foldl_mem (f : LinkUnit → LinkUnit) {l : List Nat} (hnodup : l.Nodup) {d : Dev} (hl : ∀ k ∈ l, k < d.lk.length) {j : Nat} (hj : j ∈ l) :
    lkU (l.foldl (fun d k => updLk d k f) d) j = f (lkU d j) := by
  induction l generalizing d with
  | nil => cases hj
  | cons a l ih =>
    obtain ⟨hnot, hrest⟩ := List.nodup_cons.1 hnodup
    rw [List.foldl_cons]
    rcases List.mem_cons.1 hj with rfl | hin
    · rw [lkU_foldl_other f l _ hnot, lkU_updLk_same _ _ _ (hl j List.mem_cons_self)]
    · rw [ih hrest (fun k hk => by rw [updLk_length]; exact hl k (List.mem_cons_of_mem a hk)) hin, lkU_updLk_other _ _ _ _ fun h : j = a => hnot (h ▸ hin)]

/-! ### The management tick (R13, R134) -/

/-- The count of the tick, and the watchdog's wait. -/
def managementCounted (d : Dev) : Dev :=
  { d with clk := { d.clk with mgmt := d.clk.mgmt + 1, mgmtAt := some d.clk.tick }, wd := { d.wd with waitTicks := if d.wd.waiting then d.wd.waitTicks + 1 else 0 } }

/-- The averages of the tick and what the capture takes of them. -/
def averaged (d : Dev) : Dev := captureMgmt (averageBus (thermal (managementCounted d))) 5 0 d.chg.ep

theorem managementTick_of_powered {d : Dev} (hmgmt : powered d .mgmt = true) (hctl : d.pwr.ctlLost = false) : managementTick d = foldN 16 linkErrors (averaged d) := by
  unfold managementTick
  exact if_neg (show ¬ ((!powered d .mgmt || d.pwr.ctlLost) = true) by simp [hmgmt, hctl])

theorem mask_thermal (d : Dev) : Laws.mask [.ph] (thermal d) = Laws.mask [.ph] d :=
  Laws.mask_foldN [.ph] 64 (fun d p => updPh d p (fun q => { q with derateNext := if derateOf d p = q.derate then none else some (derateOf d p), tSum := 0, tCnt := 0 })) (fun d p => Laws.mask_updPh _ _ _ _ (by decide)) d

/-- The fingerboard with V_BUS averaged. -/
def busClosed (d : Dev) : Fingerboard := { d.fb with vbusAvg := if d.fb.vbusN = 0 then d.fb.vbusAvg else d.fb.vbusSum / d.fb.vbusN, vbusSum := 0, vbusN := 0 }

theorem averageBus_spec (d : Dev) :
    (∃ b p, (averageBus d).fb = { busClosed d with pinBase := b, pin := p }) ∧ (averageBus d).chg = { d.chg with iIn := d.chg.iNow } ∧ Laws.mask [.fb, .chg, .capQueue] (averageBus d) = Laws.mask [.fb, .chg, .capQueue] d := by
  unfold averageBus
  dsimp only
  generalize he : ({ d with fb := { d.fb with vbusAvg := if d.fb.vbusN = 0 then d.fb.vbusAvg else d.fb.vbusSum / d.fb.vbusN, vbusSum := 0, vbusN := 0 }, chg := { d.chg with iIn := d.chg.iNow } } : Dev) = e
  have hfb : e.fb = busClosed d := by rw [← he]; rfl
  have hchg : e.chg = { d.chg with iIn := d.chg.iNow } := by rw [← he]
  have hmask : Laws.mask [.fb, .chg, .capQueue] e = Laws.mask [.fb, .chg, .capQueue] d := by
    rw [← he]
    exact (Laws.mask_chg _ { d with fb := busClosed d } _ (by decide)).trans (Laws.mask_fb _ _ _ (by decide))
  have hcapture := mask_captureAt (recomputePin e) (recomputePin e).clk.tick (.mgmt 4 [(0, (recomputePin e).fb.pin)])
  refine ⟨⟨_, _, (fb_of_mask hcapture (by decide)).trans (congrArg (fun f : Fingerboard => { f with pinBase := (recomputePin e).fb.pinBase, pin := (recomputePin e).fb.pin }) hfb)⟩, (chg_of_mask hcapture (by decide)).trans hchg, ?_⟩
  exact (mask_of_subset (by decide) hcapture).trans ((Laws.mask_recomputePin _ _ (by decide)).trans hmask)

theorem managementTick_spec {d : Dev} (hmgmt : powered d .mgmt = true) (hctl : d.pwr.ctlLost = false) (hlen : d.lk.length = 16) (hfew : ∀ k < 16, (lkU d k).lostJudged ≤ rsF d 0x3004 0 10) :
    (managementTick d).clk = { d.clk with mgmt := d.clk.mgmt + 1, mgmtAt := some d.clk.tick } ∧ (∃ b p, (managementTick d).fb = { busClosed d with pinBase := b, pin := p }) ∧
      (managementTick d).wd = { d.wd with waitTicks := if d.wd.waiting then d.wd.waitTicks + 1 else 0 } ∧ (∀ k < 16, lkU (managementTick d) k = errorsClosed (lkU d k)) ∧
      (managementTick d).chg = { d.chg with iIn := d.chg.iNow } ∧ Laws.mask [.clk, .wd, .ph, .fb, .chg, .capQueue, .lk] (managementTick d) = Laws.mask [.clk, .wd, .ph, .fb, .chg, .capQueue, .lk] d := by
  obtain ⟨⟨b, p, hfb⟩, hchg, hbus⟩ := averageBus_spec (thermal (managementCounted d))
  have hthermal := Laws.keeps_of_mask _ _ _ (mask_thermal (managementCounted d))
  have hthermalFb : (thermal (managementCounted d)).fb = d.fb := (hthermal .fb (by decide)).symm
  have hthermalChg : (thermal (managementCounted d)).chg = d.chg := (hthermal .chg (by decide)).symm
  have hcapture : Laws.mask [.capQueue] (averaged d) = Laws.mask [.capQueue] (averageBus (thermal (managementCounted d))) := mask_captureAt _ _ _
  have hmask : Laws.mask [.ph, .fb, .chg, .capQueue] (averaged d) = Laws.mask [.ph, .fb, .chg, .capQueue] (managementCounted d) :=
    (mask_of_subset (by decide) hcapture).trans ((mask_of_subset (by decide) hbus).trans (mask_of_subset (by decide) (mask_thermal _)))
  have hk := Laws.keeps_of_mask _ _ _ hmask
  have hlk : (averaged d).lk = d.lk := (hk .lk (by decide)).symm
  have hunit : ∀ k, lkU (averaged d) k = lkU d k := fun k => by unfold lkU; rw [hlk]
  have hforce : SameForce d (averaged d) := sameForce_of_mask (d := managementCounted d) hmask (by decide) (by decide)
  have hfold : managementTick d = (List.range 16).foldl (fun d k => updLk d k errorsClosed) (averaged d) := by
    rw [managementTick_of_powered hmgmt hctl]
    exact linkErrors_foldl List.nodup_range fun k hk => by
      rw [hunit, hforce.rsF]
      exact hfew k (List.mem_range.1 hk)
  have hlinks : Laws.mask [.lk] (managementTick d) = Laws.mask [.lk] (averaged d) := by
    rw [hfold]
    exact Laws.mask_foldl [.lk] (fun d k => updLk d k errorsClosed) (fun d k => Laws.mask_updLk _ _ _ _ (by decide)) _ _
  have hlast := Laws.keeps_of_mask _ _ _ hlinks
  refine ⟨(hlast .clk (by decide)).symm.trans (hk .clk (by decide)).symm, ⟨b, p, (fb_of_mask hlinks (by decide)).trans ((fb_of_mask hcapture (by decide)).trans ?_)⟩, (hlast .wd (by decide)).symm.trans (hk .wd (by decide)).symm,
    fun k hk' => ?_, (chg_of_mask hlinks (by decide)).trans ((chg_of_mask hcapture (by decide)).trans ?_), ?_⟩
  · rw [hfb, busClosed, hthermalFb]
    rfl
  · rw [hfold, lkU_foldl_mem errorsClosed List.nodup_range (fun j hj => by rw [hlk, hlen]; exact List.mem_range.1 hj) (List.mem_range.2 hk'), hunit]
  · rw [hchg, hthermalChg]
  · refine (mask_of_subset (by decide) hlinks).trans ((mask_of_subset (by decide) hmask).trans ?_)
    exact (Laws.mask_wd _ { d with clk := (managementCounted d).clk } _ (by decide)).trans (Laws.mask_clk _ _ _ (by decide))

/-! ### Converter samples (R412) -/

theorem heldMonitor_of_none {d : Dev} (h : d.pwr.monRetired = []) (m : Monitor) : heldMonitor d m = m := by
  unfold heldMonitor
  simp only [h, List.contains_nil, Bool.false_eq_true, if_false, List.zipIdx_map_fst]

/-- The fret of the sample is noted: none was missed in it (R18). -/
def sampled (d : Dev) : Dev := { d with pwr := { d.pwr with monFret := d.clk.fret + 1 } }

theorem monitorSample_of_live {d : Dev} (hoff : d.mm.mode ≠ .off) (hlive : d.pwr.monRetired = []) (hcap : capturing d = false) (m : Monitor) :
    monitorSample d m = chargerSample (takeMonitor (sampled d) m) m := by
  have hcapture : capture (sampled d) (.monitor m) = sampled d := capture_of_not_capturing (d := sampled d) hcap _
  have hnone : (sampled d).pwr.monRetired = [] := hlive
  unfold monitorSample
  rw [if_neg (by simp [hoff])]
  change chargerSample (takeMonitor ((sampled d).pwr.monRetired.foldl (fun d c => lateInput d 3 c) (capture (sampled d) (.monitor m))) (heldMonitor ((sampled d).pwr.monRetired.foldl (fun d c => lateInput d 3 c) (capture (sampled d) (.monitor m))) m))
    (heldMonitor ((sampled d).pwr.monRetired.foldl (fun d c => lateInput d 3 c) (capture (sampled d) (.monitor m))) m) = _
  rw [hcapture, hnone, List.foldl_nil, heldMonitor_of_none hnone]

/-- The parts of the charger's own part of a sample. -/
def samplePartsCharger : List Part := [.chg, .str, .ph, .flt, .int]

/-- The charger's readings of a sample (R270, R272). -/
def sampleRead (d : Dev) (m : Monitor) : Dev :=
  let t := m.therm.getD (rsF d 0x401C 16 3) (-500)
  { d with chg := { d.chg with vPack := m.vpack, temp := t, iNow := inputCurrent d m, zone := zoneOf d t } }

/-- The charger pauses for the temperature (R272). -/
def pausedFor (d : Dev) : Dev := chargerFault (setChgEvent (setCharger { d with chg := { d.chg with pauseBack := d.chg.st, pauseHot := d.chg.zone == 4 } } .tempPause) 4) 0x1502

/-- The constant-voltage phase begins (R273). -/
def cvBegun (d : Dev) : Dev := setCharger { d with chg := { d.chg with cvCount := 0 } } .cv

theorem chargerSample_cases {d : Dev} (h : powered d .aux = true) (m : Monitor) :
    chargerSample d m = sampleRead d m ∨ chargerSample d m = pausedFor (sampleRead d m) ∨ chargerSample d m = cvBegun (sampleRead d m) ∨ ∃ c, chargerSample d m = setCharger (sampleRead d m) c := by
  unfold chargerSample
  rw [if_neg (by rw [h]; decide)]
  dsimp only
  split
  · exact .inr (.inl rfl)
  · split
    · split
      · split
        · exact .inr (.inr (.inr ⟨_, rfl⟩))
        · exact .inl rfl
      · split
        · exact .inr (.inr (.inr ⟨_, rfl⟩))
        · exact .inl rfl
    · split
      · exact .inr (.inr (.inr ⟨_, rfl⟩))
      · split
        · exact .inr (.inr (.inl rfl))
        · exact .inl rfl

theorem chargerSample_spec (d : Dev) (m : Monitor) : (powered d .aux = true → (chargerSample d m).chg.vPack = m.vpack) ∧ Laws.mask samplePartsCharger (chargerSample d m) = Laws.mask samplePartsCharger d := by
  have hset : ∀ (e : Dev) c, (setCharger e c).chg.vPack = e.chg.vPack ∧ Laws.mask samplePartsCharger (setCharger e c) = Laws.mask samplePartsCharger e := fun e c =>
    ⟨by rw [chg_setCharger], Laws.mask_setCharger _ _ _ (by decide) (by decide) (by decide)⟩
  have hchg : ∀ (e : Dev) q, Laws.mask samplePartsCharger { e with chg := q } = Laws.mask samplePartsCharger e := fun e q => Laws.mask_chg _ _ _ (by decide)
  cases haux : powered d .aux with
  | false =>
    have hdo : chargerSample d m = d := if_pos (by rw [haux]; rfl)
    rw [hdo]
    exact ⟨nofun, rfl⟩
  | true =>
    rcases chargerSample_cases haux m with h | h | h | ⟨c, h⟩
    · rw [h]
      exact ⟨fun _ => rfl, hchg d _⟩
    · rw [h]
      refine ⟨fun _ => ?_, (Laws.mask_chargerFault _ _ _ (by decide)).trans ((Laws.mask_setChgEvent _ _ _ (by decide) (by decide)).trans ((hset _ _).2.trans ((hchg (sampleRead d m) _).trans (hchg d _))))⟩
      have hpaused : (pausedFor (sampleRead d m)).chg = (setChgEvent (setCharger { sampleRead d m with chg := { (sampleRead d m).chg with pauseBack := (sampleRead d m).chg.st, pauseHot := (sampleRead d m).chg.zone == 4 } } .tempPause) 4).chg := rfl
      rw [hpaused, chg_setChgEvent, chg_setCharger]
      rfl
    · rw [h]
      exact ⟨fun _ => (hset _ _).1, (hset _ _).2.trans ((hchg (sampleRead d m) _).trans (hchg d _))⟩
    · rw [h]
      exact ⟨fun _ => (hset _ _).1, (hset _ _).2.trans (hchg d _)⟩

/-- The readings of the dies and of the supply, and the bus sum, before those of the rails. -/
def suppliesRead (d : Dev) (m : Monitor) : Dev :=
  let d := { d with pwr := { d.pwr with tempControl := m.tControl, tempPower := m.tPower, vhold := m.vhold, vholdReady := decide (1100 ≤ m.vhold), source := supplySource d m } }
  nextFree (if powered d .sched then { d with fb := { d.fb with vbusSum := if busExcluded d then d.fb.vbusSum else d.fb.vbusSum + m.vbus, vbusN := if busExcluded d then d.fb.vbusN else d.fb.vbusN + 1 } } else d)

theorem suppliesRead_spec (d : Dev) (m : Monitor) :
    (suppliesRead d m).pwr = { d.pwr with tempControl := m.tControl, tempPower := m.tPower, vhold := m.vhold, vholdReady := decide (1100 ≤ m.vhold), source := supplySource d m } ∧
      Laws.mask [.pwr, .fb, .clk] (suppliesRead d m) = Laws.mask [.pwr, .fb, .clk] d := by
  have hpwr : ∀ q, Laws.mask [.pwr, .fb, .clk] { d with pwr := q } = Laws.mask [.pwr, .fb, .clk] d := fun q => Laws.mask_pwr _ _ _ (by decide)
  unfold suppliesRead
  dsimp only
  split
  · exact ⟨rfl, (Laws.mask_nextFree _ _ (by decide)).trans ((Laws.mask_fb _ { d with pwr := _ } _ (by decide)).trans (hpwr _))⟩
  · exact ⟨rfl, (Laws.mask_nextFree _ _ (by decide)).trans (hpwr _)⟩

/-- One rail's readings. -/
def railRead (m : Monitor) (d : Dev) (r : Nat) : Dev := updRail d r (fun u => { u with vMeas := m.rails.getD r u.vMeas, iMeas := Config.railCurrent d.clk.free r })

theorem takeMonitor_eq (d : Dev) (m : Monitor) : takeMonitor d m = (List.range 8).foldl (railRead m) (suppliesRead d m) := rfl

theorem railRead_foldl {m : Monitor} (hm : m.rails.length = 8) {l : List Nat} (hnodup : l.Nodup) (hl : ∀ r ∈ l, r < 8) {d : Dev} (hd : d.seq.rails.length = 8) :
    (∀ r ∈ l, (railU (l.foldl (railRead m) d) r).vMeas = m.rails.getD r 0) ∧ (∀ r, r ∉ l → railU (l.foldl (railRead m) d) r = railU d r) ∧ Laws.mask [.seq] (l.foldl (railRead m) d) = Laws.mask [.seq] d := by
  induction l generalizing d with
  | nil => exact ⟨nofun, fun _ _ => rfl, rfl⟩
  | cons a l ih =>
    obtain ⟨hnot, hrest⟩ := List.nodup_cons.1 hnodup
    have ha := hl a List.mem_cons_self
    obtain ⟨hin, hout, hmask⟩ := ih hrest (fun r hr => hl r (List.mem_cons_of_mem a hr)) (d := railRead m d a) ((upd_length _ _ _).trans hd)
    rw [List.foldl_cons]
    refine ⟨fun r hr => ?_, fun r hr => ?_, hmask.trans (Laws.mask_seq _ _ _ (by decide))⟩
    · rcases List.mem_cons.1 hr with rfl | hr
      · rw [hout r hnot, railRead, railU_updRail_same _ _ _ (by rw [hd]; exact ha)]
        change m.rails.getD r _ = _
        have hr' : r < m.rails.length := hm ▸ ha
        rw [List.getD_eq_getElem?_getD, List.getD_eq_getElem?_getD, List.getElem?_eq_getElem hr', Option.getD_some, Option.getD_some]
      · exact hin r hr
    · rw [hout r fun h => hr (List.mem_cons_of_mem a h), railRead, railU_updRail_other _ _ _ _ fun h : r = a => hr (h ▸ List.mem_cons_self)]

/-- A converter sample reaches its consumers (R412). -/
theorem monitorSample_spec {d : Dev} (hoff : d.mm.mode ≠ .off) (hlive : d.pwr.monRetired = []) (hcap : capturing d = false) (hrails : d.seq.rails.length = 8) {m : Monitor} (hm : m.rails.length = 8) :
    (monitorSample d m).pwr.tempControl = m.tControl ∧ (monitorSample d m).pwr.tempPower = m.tPower ∧ (monitorSample d m).pwr.vhold = m.vhold ∧ (monitorSample d m).pwr.vholdReady = decide (1100 ≤ m.vhold) ∧
      (powered d .aux = true → (monitorSample d m).chg.vPack = m.vpack) ∧ (∀ r < 8, (railU (monitorSample d m) r).vMeas = m.rails.getD r 0) ∧
      keeps [.clk, .pwr, .fb, .str, .ph, .seq, .chg, .flt, .int] d (monitorSample d m) := by
  obtain ⟨hpwr, hsupplies⟩ := suppliesRead_spec (sampled d) m
  have hseq : (suppliesRead (sampled d) m).seq = d.seq := (Laws.keeps_of_mask _ _ _ hsupplies .seq (by decide)).symm
  obtain ⟨hread, -, hfold⟩ := railRead_foldl hm List.nodup_range (fun r hr => List.mem_range.1 hr) (d := suppliesRead (sampled d) m) (by rw [hseq]; exact hrails)
  rw [monitorSample_of_live hoff hlive hcap, takeMonitor_eq]
  generalize (List.range 8).foldl (railRead m) (suppliesRead (sampled d) m) = e at *
  have hepwr : e.pwr = (suppliesRead (sampled d) m).pwr := (Laws.keeps_of_mask _ _ _ hfold .pwr (by decide)).symm
  obtain ⟨hpack, hcharger⟩ := chargerSample_spec e m
  have hk := Laws.keeps_of_mask _ _ _ hcharger
  have hlast : (chargerSample e m).pwr = e.pwr := (hk .pwr (by decide)).symm
  have hrail : ∀ r, railU (chargerSample e m) r = railU e r := fun r => by
    unfold railU
    rw [hk .seq (by decide)]
  rw [hlast, hepwr, hpwr]
  refine ⟨rfl, rfl, rfl, rfl, fun haux => hpack ?_, fun r hr => ?_, Laws.keeps_of_mask _ _ _ ?_⟩
  · unfold powered at *
    rw [hepwr, hpwr]
    exact haux
  · rw [hrail]
    exact hread r (List.mem_range.2 hr)
  · exact (mask_of_subset (by decide) hcharger).trans ((mask_of_subset (by decide) hfold).trans ((mask_of_subset (by decide) hsupplies).trans (Laws.mask_pwr _ _ _ (by decide))))

/-- Settles O17, from the links' counts, which none of them retires, and from the readings that a sample gives. -/
theorem managementTickAndSamples : Obligations.ManagementTickAndSamples := by
  refine ⟨fun s hmgmt hctl hlen hfew => ?_, fun s stamp m => ⟨fun hwait => ?_, fun hlate hfret => ?_, fun hdue hopen hoff hlive hcap hrails hm => ?_⟩⟩
  · obtain ⟨hclk, ⟨b, p, hfb⟩, hwd, hlinks, hchg, hmask⟩ := managementTick_spec hmgmt hctl hlen hfew
    refine ⟨_, rfl, by rw [hclk], by rw [hclk], by rw [hclk], by rw [hfb]; rfl, by rw [hfb]; rfl, by rw [hfb]; rfl, hwd, fun k hk => ?_, hchg, Laws.keeps_of_mask _ _ _ (mask_of_subset (by decide) hmask)⟩
    rw [hlinks k hk]
    exact ⟨rfl, rfl, rfl⟩
  · refine congrArg (next s) ?_
    unfold arrive
    dsimp only
    rw [show latency (.monitor m) = 32 from rfl, if_neg (by omega), if_neg (by omega)]
  · refine ⟨lateInput (sampled s.dev) 3 0, congrArg (next s) ?_, rfl, rfl, rfl, Laws.keeps_of_mask _ _ _ ((Laws.mask_lateInput _ _ _ _ (by decide) (by decide)).trans (Laws.mask_pwr _ _ _ (by decide)))⟩
    unfold arrive
    dsimp only
    rw [show latency (.monitor m) = 32 from rfl, if_pos hlate]
    exact if_neg (by omega)
  · refine ⟨_, congrArg (next s) ?_, monitorSample_spec hoff hlive hcap hrails hm⟩
    unfold arrive
    dsimp only
    rw [show latency (.monitor m) = 32 from rfl, if_neg (by omega), if_pos ⟨hdue, hopen⟩]
    rfl

end Sys2Proof.Machine
end

section
/-!
The fret boundary (O15).
-/
namespace Sys2Proof.Machine
open Sys2Proof.Safety

/-! ### What the effects of a boundary leave -/

/-- The parts that a fret boundary writes. -/
def boundaryParts : List Part := [.clk, .pwr, .jr, .fb, .str, .ph, .chg, .flt, .int, .rcd, .cap, .capQueue, .mp, .out, .fretOut]

/-- The clock but for its free values. -/
def pace (d : Dev) : Clock := { d.clk with free := 0 }

/-- The banks with their plan cells, the bank in use, and the REPLAN in flight. -/
def plans (b : Fingerboard) : Bank × Bank × Sparse Int × Sparse Int × Bool × Option Replan := (b.bankA, b.bankB, b.planLive, b.planShadow, b.liveB, b.replan)

/-- The power's fields but for the count of late messages. -/
def supplies (d : Dev) : Power := { d.pwr with lateCount := 0, lastPath := 0 }

/-- What stands through the effects of a boundary that pass no column. -/
def boundaryKept (d : Dev) : Dev × Clock × (Bank × Bank × Sparse Int × Sparse Int × Bool × Option Replan) × Power := (Laws.mask boundaryParts d, pace d, plans d.fb, supplies d)

theorem boundaryKept_eq {d e : Dev} (hmask : Laws.mask boundaryParts e = Laws.mask boundaryParts d) (hpace : pace e = pace d) (hplans : plans e.fb = plans d.fb) (hsupplies : supplies e = supplies d) :
    boundaryKept e = boundaryKept d := by
  unfold boundaryKept
  rw [hmask, hpace, hplans, hsupplies]

theorem pace_of_clk {d e : Dev} (h : e.clk = d.clk) : pace e = pace d := by
  unfold pace
  rw [h]

theorem pace_of_freeOnly {d e : Dev} (h : FreeOnly d e) : pace e = pace d := by
  unfold pace
  rw [show e.clk = { d.clk with free := e.clk.free } from h]

theorem supplies_of_pwr {d e : Dev} (h : e.pwr = d.pwr) : supplies e = supplies d := by
  unfold supplies
  rw [h]

/-- An effect on other parts than the clock, the power and the fingerboard. -/
theorem boundaryKept_of_mask {qs : List Part} {d e : Dev} (h : Laws.mask qs e = Laws.mask qs d) (hsub : ∀ p ∈ qs, p ∈ boundaryParts) (hclk : Part.clk ∉ qs) (hpwr : Part.pwr ∉ qs) (hfb : Part.fb ∉ qs) :
    boundaryKept e = boundaryKept d := by
  have hk := Laws.keeps_of_mask _ _ _ h
  exact boundaryKept_eq (mask_of_subset hsub h) (pace_of_clk (hk .clk hclk).symm) (by rw [fb_of_mask h hfb]) (supplies_of_pwr (hk .pwr hpwr).symm)

/-- An effect that takes free values. -/
theorem boundaryKept_of_freeOnly {qs : List Part} {d e : Dev} (hfree : FreeOnly d e) (h : Laws.mask qs e = Laws.mask qs d) (hsub : ∀ p ∈ qs, p ∈ boundaryParts) (hpwr : Part.pwr ∉ qs) (hfb : Part.fb ∉ qs) :
    boundaryKept e = boundaryKept d :=
  boundaryKept_eq (mask_of_subset hsub h) (pace_of_freeOnly hfree) (by rw [fb_of_mask h hfb]) (supplies_of_pwr (Laws.keeps_of_mask _ _ _ h .pwr hpwr).symm)

/-- An effect on the fingerboard that leaves the banks. -/
theorem boundaryKept_of_plans {d : Dev} {b : Fingerboard} (h : plans b = plans d.fb) : boundaryKept { d with fb := b } = boundaryKept d :=
  boundaryKept_eq (Laws.mask_fb _ _ _ (by decide)) rfl h rfl

theorem boundaryKept_updStr (d : Dev) (k : Nat) (f : StringUnit → StringUnit) : boundaryKept (updStr d k f) = boundaryKept d :=
  boundaryKept_of_mask (qs := [.str]) (Laws.mask_updStr _ _ _ _ (by decide)) (by decide) (by decide) (by decide) (by decide)

theorem boundaryKept_lateInput (d : Dev) (path inst : Nat) : boundaryKept (lateInput d path inst) = boundaryKept d :=
  boundaryKept_eq (Laws.mask_lateInput _ _ _ _ (by decide) (by decide)) rfl rfl rfl

/-! ### The fret that ends -/

/-- The fret that ends, but for its column. -/
def fretJudged (d : Dev) : Dev := advanceEnergy ((configured d).foldl overdrawTest (countFrets (closeDigest (missMonitor d))))

theorem closeFret_eq (d : Dev) : closeFret d = passColumn (fretJudged d) := rfl

theorem boundaryKept_fretJudged (d : Dev) : boundaryKept (fretJudged d) = boundaryKept d := by
  have hmiss : boundaryKept (missMonitor d) = boundaryKept d := by
    unfold missMonitor
    split
    · rfl
    · exact boundaryKept_lateInput _ _ _
  have hdigest : ∀ e : Dev, boundaryKept (closeDigest e) = boundaryKept e := fun e =>
    boundaryKept_of_mask (qs := [.cap, .fretOut]) ((Laws.mask_fretOut _ { e with cap := { e.cap with digest := fretDigest e } } _ (by decide)).trans (Laws.mask_cap _ _ _ (by decide))) (by decide) (by decide) (by decide) (by decide)
  have hcount : ∀ e : Dev, boundaryKept (countFrets e) = boundaryKept e := fun e => boundaryKept_of_plans rfl
  have htest : ∀ (e : Dev) k, boundaryKept (overdrawTest e k) = boundaryKept e := fun e k => boundaryKept_updStr _ _ _
  have henergy : ∀ e : Dev, boundaryKept (advanceEnergy e) = boundaryKept e := fun e => by
    unfold advanceEnergy
    split
    · exact boundaryKept_of_plans rfl
    · rfl
  exact (henergy _).trans ((proj_foldl boundaryKept overdrawTest htest _ _).trans ((hcount _).trans ((hdigest _).trans hmiss)))

/-- The column goes from both banks and from the plan cells (R128, R148). -/
theorem plans_passColumn (d : Dev) :
    plans (passColumn d).fb = (clearColumn d.fb.bankA d.clk.fret, clearColumn d.fb.bankB d.clk.fret, d.fb.planLive.erase d.clk.fret, d.fb.planShadow.erase d.clk.fret, d.fb.liveB, d.fb.replan) := by
  unfold passColumn setShadow setLive shadowBank liveBank
  cases h : d.fb.liveB with
  | false => simp [plans, h]
  | true => simp [plans, h]

theorem mask_passColumn (d : Dev) : Laws.mask [.fb] (passColumn d) = Laws.mask [.fb] d := by
  have hlive : ∀ (e : Dev) b, Laws.mask [.fb] (setLive e b) = Laws.mask [.fb] e := fun e b => by
    unfold setLive
    split <;> exact Laws.mask_fb _ _ _ (by decide)
  have hshadow : ∀ (e : Dev) b, Laws.mask [.fb] (setShadow e b) = Laws.mask [.fb] e := fun e b => by
    unfold setShadow
    split <;> exact Laws.mask_fb _ _ _ (by decide)
  exact (Laws.mask_fb _ (setShadow (setLive d (clearColumn (liveBank d) d.clk.fret)) (clearColumn (shadowBank d) d.clk.fret)) _ (by decide)).trans ((hshadow _ _).trans (hlive _ _))

/-! ### The fret that begins -/

/-- The counter takes the fret that begins. -/
def fretCounted (d : Dev) : Dev :=
  { d with clk := { d.clk with fret := (d.clk.fret + 1) % 2 ^ 48, tickInFret := 0, fretDue := false }, fb := { d.fb with pinCur := d.fb.pin } }

/-- The clock of the fret that begins, but for its free values. -/
def boundaryClock (c : Clock) : Clock := { c with fret := (c.fret + 1) % 2 ^ 48, tickInFret := 0, fretDue := false, free := 0 }

theorem pace_fretCounted (d : Dev) : pace (fretCounted d) = boundaryClock (pace d) := rfl

theorem mask_fretCounted (d : Dev) : Laws.mask boundaryParts (fretCounted d) = Laws.mask boundaryParts d :=
  (Laws.mask_clk _ { d with fb := { d.fb with pinCur := d.fb.pin } } _ (by decide)).trans (Laws.mask_fb _ _ _ (by decide))

theorem boundaryKept_endCapture (d : Dev) {reason : Nat} (h : reason ≠ 3) : boundaryKept (endCapture d reason) = boundaryKept d := by
  unfold endCapture
  rw [if_neg h]
  dsimp only
  split
  · exact boundaryKept_of_freeOnly (qs := streamParts) (freeOnly_captureEnd d reason) (Laws.mask_captureEnd _ _ _ (by decide) (by decide) (by decide) (by decide) (by decide) (by decide)) (by decide) (by decide) (by decide)
  · exact boundaryKept_of_mask (qs := [.jr, .int, .cap, .mp, .out, .fretOut]) (Laws.mask_dropAwaiting _ _ (by decide) (by decide) (by decide) (by decide) (by decide) (by decide)) (by decide) (by decide) (by decide) (by decide)

theorem boundaryKept_captureFret (d : Dev) : boundaryKept (captureFret d) = boundaryKept d :=
  boundaryKept_of_freeOnly (qs := streamParts) (freeOnly_captureFret d)
    ((Laws.mask_cap _ (stream d d.clk.tick (.fret d.clk.fret d.cap.digest d.cap.fretRecords)) _ (by decide)).trans (Laws.mask_stream _ _ _ _ (by decide) (by decide) (by decide) (by decide) (by decide) (by decide) (by decide))) (by decide) (by decide) (by decide)

theorem boundaryKept_openFret (d : Dev) : boundaryKept (openFret d) = boundaryKept (fretCounted d) := by
  have htoken : boundaryKept (if sysMaster (fretCounted d) then emit (fretCounted d) .fretToken else fretCounted d) = boundaryKept (fretCounted d) := by
    split
    · exact boundaryKept_of_mask (qs := [.out]) (Laws.mask_emit _ _ _ (by decide)) (by decide) (by decide) (by decide) (by decide)
    · rfl
  have hretire : ∀ e : Dev, boundaryKept (retireTimed e) = boundaryKept e := fun e => boundaryKept_of_mask (qs := [.jr]) (Laws.mask_jr _ _ _ (by decide)) (by decide) (by decide) (by decide) (by decide)
  have hstop : ∀ e : Dev, boundaryKept (stopDue e) = boundaryKept e := fun e =>
    proj_foldl boundaryKept _ (fun e x => (boundaryKept_of_mask (qs := finishParts) (Laws.mask_finishNow _ _ _ _ _ (by decide) (by decide) (by decide) (by decide) (by decide)) (by decide) (by decide) (by decide) (by decide)).trans (boundaryKept_endCapture e (by decide))) _ e
  exact (boundaryKept_captureFret _).trans ((hstop _).trans ((hretire _).trans htoken))

/-! ### Its effects on the strings and the charger -/

theorem plans_of_eventless {d e : Dev} (h : eventless e = eventless d) : plans e.fb = plans d.fb := by
  change plans (eventless e) = plans (eventless d)
  rw [h]

theorem eventless_moveCapo (d : Dev) (k c : Nat) : eventless (moveCapo d k c) = eventless d := by
  have hevent : ∀ e : Dev, eventless (setStrEvent e k 3) = eventless e := fun e => by
    unfold eventless
    rw [fb_of_mask (qs := [.str]) (Laws.mask_setStrEvent _ _ _ _ (by decide)) (by decide)]
  unfold moveCapo
  dsimp only
  split
  · rfl
  · split
    · rfl
    · split
      · exact (eventless_clampBegins _ _ _).trans (hevent _)
      · split
        · exact (eventless_clampBegins _ _ _).trans (hevent _)
        · exact hevent _

theorem boundaryKept_setCapo (d : Dev) (k c : Nat) : boundaryKept (setCapo d k c) = boundaryKept d := by
  have hmove : Laws.mask [.fb, .str, .int, .rcd] (moveCapo d k c) = Laws.mask [.fb, .str, .int, .rcd] d := Laws.mask_moveCapo _ _ _ _ (by decide) (by decide) (by decide) (by decide)
  have hk := Laws.keeps_of_mask _ _ _ hmove
  have hmoved : boundaryKept (moveCapo d k c) = boundaryKept d :=
    boundaryKept_eq (mask_of_subset (by decide) hmove) (pace_of_clk (hk .clk (by decide)).symm) (plans_of_eventless (eventless_moveCapo d k c)) (supplies_of_pwr (hk .pwr (by decide)).symm)
  exact (boundaryKept_of_mask (qs := [.str, .flt]) (Laws.mask_noteDerated _ _ _ (by decide) (by decide)) (by decide) (by decide) (by decide) (by decide)).trans hmoved

theorem boundaryKept_adoptDerates (d : Dev) : boundaryKept (adoptDerates d) = boundaryKept d := by
  have hadopt : ∀ (l : List Nat) (e : Dev), boundaryKept (l.foldl (fun d p => updPh d p (fun q => { q with derate := q.derateNext.getD q.derate, derateNext := none })) e) = boundaryKept e := fun l e =>
    proj_foldl boundaryKept _ (fun e p => boundaryKept_of_mask (qs := [.ph]) (Laws.mask_updPh _ _ _ _ (by decide)) (by decide) (by decide) (by decide) (by decide)) l e
  have hcapture : ∀ (e : Dev) k c, boundaryKept (captureMgmt e 1 k c) = boundaryKept e := fun e k c => boundaryKept_of_mask (qs := [.capQueue]) (mask_captureAt _ _ _) (by decide) (by decide) (by decide) (by decide)
  unfold adoptDerates
  dsimp only
  split
  · rfl
  · refine (proj_foldl boundaryKept _ (fun e k => ?_) _ _).trans (hadopt _ d)
    split
    · rfl
    · exact (boundaryKept_setCapo _ _ _).trans (hcapture _ _ _)

theorem boundaryKept_takeAllot (d : Dev) (k : Nat) : boundaryKept (takeAllot d k) = boundaryKept d := by
  unfold takeAllot
  dsimp only
  split
  · exact boundaryKept_updStr _ _ _
  · exact boundaryKept_updStr _ _ _
  · split
    · rfl
    · split
      · exact boundaryKept_updStr _ _ _
      · split
        · rfl
        · exact (boundaryKept_updStr _ _ _).trans (boundaryKept_lateInput _ _ _)

theorem boundaryKept_chargerFret (d : Dev) : boundaryKept (chargerFret d) = boundaryKept d := by
  have hchg : ∀ (e : Dev) q, boundaryKept { e with chg := q } = boundaryKept e := fun e q => boundaryKept_of_mask (qs := [.chg]) (Laws.mask_chg _ _ _ (by decide)) (by decide) (by decide) (by decide) (by decide)
  have hcount : ∀ e : Dev, boundaryKept (countTermination e) = boundaryKept e := fun e => by
    unfold countTermination
    split
    · rfl
    · exact hchg e _
  exact (hchg (countTermination { d with chg := { d.chg with rideLevel := d.chg.rideNext.getD d.chg.rideLevel, rideNext := none } }) _).trans ((hcount _).trans (hchg d _))

theorem boundaryKept_fretEffects {d : Dev} (h : d.mm.wdHold = false) : boundaryKept (fretEffects d) = boundaryKept d := by
  have hstring : ∀ (e : Dev) k, boundaryKept (stringFret e k) = boundaryKept e := fun e k => (boundaryKept_takeAllot _ _).trans (boundaryKept_updStr _ _ _)
  have hbefore : boundaryKept (chargerFret ((configured (adoptDerates d)).foldl stringFret (adoptDerates d))) = boundaryKept d :=
    (boundaryKept_chargerFret _).trans ((proj_foldl boundaryKept stringFret hstring _ _).trans (boundaryKept_adoptDerates d))
  have hmm : (chargerFret ((configured (adoptDerates d)).foldl stringFret (adoptDerates d))).mm = d.mm := mm_of_mask (Prod.ext_iff.1 hbefore).1 (by decide)
  have heffects : ∃ e, fretEffects d = (if captureActive (holdDue e) || replayActive (holdDue e) then statusLine (holdDue e) else holdDue e) ∧ e = chargerFret ((configured (adoptDerates d)).foldl stringFret (adoptDerates d)) := ⟨_, rfl, rfl⟩
  obtain ⟨e, heffects, he⟩ := heffects
  rw [← he] at hbefore hmm
  have hhold : holdDue e = e := if_pos (by rw [hmm, h]; rfl)
  rw [heffects, hhold]
  split
  · exact (boundaryKept_of_mask (qs := [.out]) (Laws.mask_statusLine _ _ (by decide)) (by decide) (by decide) (by decide) (by decide)).trans hbefore
  · exact hbefore

/-- The fret that ends, from what its judging leaves. -/
theorem closeFret_spec {d : Dev} (hmask : Laws.mask boundaryParts (fretJudged d) = Laws.mask boundaryParts d) (hpace : pace (fretJudged d) = pace d) (hplans : plans (fretJudged d).fb = plans d.fb) (hsupplies : supplies (fretJudged d) = supplies d) :
    Laws.mask boundaryParts (closeFret d) = Laws.mask boundaryParts d ∧ pace (closeFret d) = pace d ∧
      plans (closeFret d).fb = (clearColumn d.fb.bankA d.clk.fret, clearColumn d.fb.bankB d.clk.fret, d.fb.planLive.erase d.clk.fret, d.fb.planShadow.erase d.clk.fret, d.fb.liveB, d.fb.replan) ∧ supplies (closeFret d) = supplies d := by
  have hcolumn := mask_passColumn (fretJudged d)
  have hk := Laws.keeps_of_mask _ _ _ hcolumn
  have hfret : (fretJudged d).clk.fret = d.clk.fret := by
    have h := congrArg Clock.fret hpace
    exact h
  obtain ⟨hA, hplans⟩ := Prod.ext_iff.1 hplans
  obtain ⟨hB, hplans⟩ := Prod.ext_iff.1 hplans
  obtain ⟨hlive, hplans⟩ := Prod.ext_iff.1 hplans
  obtain ⟨hshadow, hplans⟩ := Prod.ext_iff.1 hplans
  obtain ⟨hliveB, hreplan⟩ := Prod.ext_iff.1 hplans
  dsimp only [plans] at hA hB hlive hshadow hliveB hreplan
  rw [closeFret_eq]
  refine ⟨(mask_of_subset (by decide) hcolumn).trans hmask, (pace_of_clk (hk .clk (by decide)).symm).trans hpace, (plans_passColumn _).trans ?_, (supplies_of_pwr (hk .pwr (by decide)).symm).trans hsupplies⟩
  rw [hfret, hA, hB, hlive, hshadow, hliveB, hreplan]

theorem power_of_supplies {d e : Dev} (h : supplies e = supplies d) : e.pwr = { d.pwr with lateCount := e.pwr.lateCount, lastPath := e.pwr.lastPath } := by
  have hback := congrArg (fun r : Power => { r with lateCount := e.pwr.lateCount, lastPath := e.pwr.lastPath }) h
  exact hback

/-- A boundary that is due, with no message of its tick and no HOLD asked for (R128, R129). -/
theorem fretBoundary_spec {d : Dev} (hdue : d.clk.fretDue = true) (hhold : d.mm.wdHold = false) (hwait : ∀ q ∈ d.waiting, d.clk.tick < q.1) :
    Laws.mask boundaryParts (fretBoundary d) = Laws.mask boundaryParts d ∧ pace (fretBoundary d) = boundaryClock d.clk ∧
      plans (fretBoundary d).fb = (clearColumn d.fb.bankA d.clk.fret, clearColumn d.fb.bankB d.clk.fret, d.fb.planLive.erase d.clk.fret, d.fb.planShadow.erase d.clk.fret, d.fb.liveB, d.fb.replan) ∧
      supplies (fretBoundary d) = supplies d := by
  have hdo : fretBoundary d = fretEffects (takeWaiting (openFret (closeFret d))) := if_neg (by rw [hdue]; decide)
  obtain ⟨hmaskJ, hjudged⟩ := Prod.ext_iff.1 (boundaryKept_fretJudged d)
  obtain ⟨hpaceJ, hjudged⟩ := Prod.ext_iff.1 hjudged
  obtain ⟨hplansJ, hsuppliesJ⟩ := Prod.ext_iff.1 hjudged
  obtain ⟨hmaskB, hpaceB, hplansB, hsuppliesB⟩ := closeFret_spec hmaskJ hpaceJ hplansJ hsuppliesJ
  obtain ⟨hmaskO, hopened⟩ := Prod.ext_iff.1 (boundaryKept_openFret (closeFret d))
  obtain ⟨hpaceO, hopened⟩ := Prod.ext_iff.1 hopened
  obtain ⟨hplansO, hsuppliesO⟩ := Prod.ext_iff.1 hopened
  have hmaskA : Laws.mask boundaryParts (openFret (closeFret d)) = Laws.mask boundaryParts d := hmaskO.trans ((mask_fretCounted _).trans hmaskB)
  have hpaceA : pace (openFret (closeFret d)) = boundaryClock d.clk := hpaceO.trans ((pace_fretCounted _).trans ((congrArg boundaryClock hpaceB).trans rfl))
  have hkeeps := Laws.keeps_of_mask _ _ _ hmaskA
  have htick : (openFret (closeFret d)).clk.tick = d.clk.tick := by
    have h := congrArg Clock.tick hpaceA
    exact h
  have hquiet : takeWaiting (openFret (closeFret d)) = openFret (closeFret d) := takeWaiting_of_none (by
    rw [← hkeeps .waiting (by decide), htick]
    exact hwait)
  have hwd : (openFret (closeFret d)).mm.wdHold = false := by rw [mm_of_mask hmaskA (by decide), hhold]
  obtain ⟨hmaskE, heffects⟩ := Prod.ext_iff.1 (boundaryKept_fretEffects hwd)
  obtain ⟨hpaceE, heffects⟩ := Prod.ext_iff.1 heffects
  obtain ⟨hplansE, hsuppliesE⟩ := Prod.ext_iff.1 heffects
  rw [hdo, hquiet]
  exact ⟨hmaskE.trans hmaskA, hpaceE.trans hpaceA, hplansE.trans (hplansO.trans hplansB), hsuppliesE.trans (hsuppliesO.trans hsuppliesB)⟩

/-- Settles O15, from the column that passes and from what the effects of a boundary leave. -/
theorem fretBoundaryPassesColumn : Obligations.FretBoundaryPassesColumn := by
  refine fun s => ⟨fun hnot => ?_, fun hdue hhold hwait => ?_⟩
  · have hdo : fretBoundary s.dev = s.dev := if_pos (by rw [hnot]; rfl)
    exact congrArg (next s) hdo
  obtain ⟨hmask, hpace, hplans, hsupplies⟩ := fretBoundary_spec hdue hhold hwait
  have hexec : ∃ e, exec .fretBoundary s = next s e ∧ e = fretBoundary s.dev := ⟨_, rfl, rfl⟩
  obtain ⟨e, hexec, he⟩ := hexec
  rw [← he] at hmask hpace hplans hsupplies
  obtain ⟨hbankA, hplans⟩ := Prod.ext_iff.1 hplans
  obtain ⟨hbankB, hplans⟩ := Prod.ext_iff.1 hplans
  obtain ⟨hlive, hplans⟩ := Prod.ext_iff.1 hplans
  obtain ⟨hshadow, hplans⟩ := Prod.ext_iff.1 hplans
  obtain ⟨hliveB, hreplan⟩ := Prod.ext_iff.1 hplans
  have hfret := congrArg Clock.fret hpace
  have hin := congrArg Clock.tickInFret hpace
  have htick := congrArg Clock.tick hpace
  have hnext := congrArg Clock.fretDue hpace
  dsimp only [pace, boundaryClock] at hfret hin htick hnext
  dsimp only [plans] at hbankA hbankB hlive hshadow hliveB hreplan
  exact ⟨e, hexec, hfret, hin, htick, hnext, hbankA, hbankB, hlive, hshadow, hliveB, hreplan, Laws.keeps_of_mask _ _ _ hmask, power_of_supplies hsupplies⟩

end Sys2Proof.Machine
end

section
/-!
The tick (O14): what its units leave, and the next tick.
-/
namespace Sys2Proof.Machine
open Sys2Proof.Safety

/-! ### What the units that a tick drives leave -/

/-- The parts that a tick writes. -/
def tickParts : List Part := [.clk, .mm, .pwr, .cfg, .jr, .fb, .str, .ph, .lk, .seq, .chg, .flt, .int, .wd, .rcd, .cap, .capQueue, .mp, .out, .fretOut]

/-- The parts that the units of a tick write behind the clock, the supply and the registers. -/
def drivenParts : List Part := [.jr, .fb, .str, .ph, .lk, .seq, .chg, .flt, .int, .rcd, .cap, .capQueue, .mp, .out, .fretOut]

/-- The domains that are powered, and whether the control die is lost. -/
def feeds (d : Dev) : BitVec 8 × Bool := (d.pwr.on, d.pwr.ctlLost)

/-- What stands through the work of a tick. -/
def tickKept (d : Dev) : Dev × Clock × ModeUnit × Regs × Watchdog × BitVec 8 × Bool := (Laws.mask tickParts d, pace d, d.mm, d.cfg, d.wd, feeds d)

theorem tickKept_eq {d e : Dev} (hmask : Laws.mask tickParts e = Laws.mask tickParts d) (hpace : pace e = pace d) (hmm : e.mm = d.mm) (hcfg : e.cfg = d.cfg) (hwd : e.wd = d.wd) (hfeeds : feeds e = feeds d) :
    tickKept e = tickKept d := by
  unfold tickKept
  rw [hmask, hpace, hmm, hcfg, hwd, hfeeds]

/-- An effect on the driven parts only. -/
theorem tickKept_of_mask {qs : List Part} {d e : Dev} (h : Laws.mask qs e = Laws.mask qs d) (hsub : ∀ p ∈ qs, p ∈ drivenParts) : tickKept e = tickKept d := by
  have hk : ∀ p ∉ drivenParts, Part.same p d e := fun p hp => Laws.keeps_of_mask _ _ _ h p fun hq => hp (hsub p hq)
  refine tickKept_eq (mask_of_subset (fun p hp => ?_) h) (pace_of_clk (hk .clk (by decide)).symm) (hk .mm (by decide)).symm (hk .cfg (by decide)).symm (hk .wd (by decide)).symm ?_
  · exact (by decide : ∀ q ∈ drivenParts, q ∈ tickParts) p (hsub p hp)
  · unfold feeds
    rw [show e.pwr = d.pwr from (hk .pwr (by decide)).symm]

theorem tickKept_lateInput (d : Dev) (path inst : Nat) : tickKept (lateInput d path inst) = tickKept d :=
  tickKept_eq (Laws.mask_lateInput _ _ _ _ (by decide) (by decide)) rfl rfl rfl rfl rfl

theorem tickKept_nextFree (d : Dev) : tickKept (nextFree d) = tickKept d :=
  tickKept_eq (Laws.mask_nextFree _ _ (by decide)) rfl rfl rfl rfl rfl

theorem tickKept_updStr (d : Dev) (k : Nat) (f : StringUnit → StringUnit) : tickKept (updStr d k f) = tickKept d :=
  tickKept_of_mask (qs := [.str]) (Laws.mask_updStr _ _ _ _ (by decide)) (by decide)

theorem tickKept_updPh (d : Dev) (p : Nat) (f : PhaseUnit → PhaseUnit) : tickKept (updPh d p f) = tickKept d :=
  tickKept_of_mask (qs := [.ph]) (Laws.mask_updPh _ _ _ _ (by decide)) (by decide)

theorem tickKept_updLk (d : Dev) (k : Nat) (f : LinkUnit → LinkUnit) : tickKept (updLk d k f) = tickKept d :=
  tickKept_of_mask (qs := [.lk]) (Laws.mask_updLk _ _ _ _ (by decide)) (by decide)

theorem tickKept_retirePhase (d : Dev) (p cause code : Nat) : tickKept (retirePhase d p cause code) = tickKept d :=
  tickKept_of_mask (qs := [.jr, .fb, .str, .ph, .flt, .int, .rcd, .mp, .out, .fretOut]) (Laws.mask_retirePhase _ _ _ _ _ (by decide) (by decide) (by decide) (by decide) (by decide) (by decide) (by decide) (by decide) (by decide) (by decide)) (by decide)

theorem tickKept_detectInj (d : Dev) (code p0 p1 p2 : Nat) (inj obs : Bool) : tickKept (detectInj d code p0 p1 p2 inj obs) = tickKept d :=
  tickKept_of_mask (qs := [.flt]) (Laws.mask_detectInj _ _ _ _ _ _ _ _ (by decide)) (by decide)

/-! ### The samples of the tick that ends (R16, R17) -/

theorem tickKept_holdLate (d : Dev) (j : Nat) : tickKept (holdLate d j) = tickKept d := by
  unfold holdLate
  dsimp only
  refine (proj_foldl tickKept _ (fun e _ => tickKept_lateInput e 2 (4 * j)) _ _).trans ?_
  split
  · rfl
  · exact tickKept_updLk _ _ _

theorem tickKept_applySample (d : Dev) (j : Nat) (q : Sample) : tickKept (applySample d j q) = tickKept d :=
  proj_foldl tickKept _ (fun _ _ => (tickKept_updPh _ _ _).trans (tickKept_updPh _ _ _)) _ d

theorem tickKept_measureString (d : Dev) (k : Nat) : tickKept (measureString d k) = tickKept d := by
  unfold measureString
  dsimp only
  generalize (if (driven d k).isEmpty = true then unretired d k else driven d k) = ps
  split
  · rfl
  · exact tickKept_updStr _ _ _

theorem tickKept_testSample (d : Dev) (j : Nat) (q : Sample) : tickKept (testSample d j q) = tickKept d := by
  refine proj_foldl tickKept _ (fun e i => ?_) _ d
  dsimp only
  split
  · split
    · exact tickKept_updPh _ _ _
    · rfl
  · rfl

/-- The due samples reach their phases. -/
def applyAll (due : List (Nat × Sample)) (d : Dev) : Dev := due.foldl (fun d q => applySample d q.1 q.2) d

/-- The due samples are judged. -/
def testAll (due : List (Nat × Sample)) (d : Dev) : Dev := due.foldl (fun d q => testSample d q.1 q.2) d

theorem tickKept_applyAll (due : List (Nat × Sample)) (d : Dev) : tickKept (applyAll due d) = tickKept d :=
  proj_foldl tickKept (fun d (q : Nat × Sample) => applySample d q.1 q.2) (fun e q => tickKept_applySample e q.1 q.2) due d

theorem tickKept_testAll (due : List (Nat × Sample)) (d : Dev) : tickKept (testAll due d) = tickKept d :=
  proj_foldl tickKept (fun d (q : Nat × Sample) => testSample d q.1 q.2) (fun e q => tickKept_testSample e q.1 q.2) due d

theorem tickKept_holdAll (d : Dev) : tickKept (foldN 16 holdLate d) = tickKept d := proj_foldN tickKept 16 holdLate tickKept_holdLate d

theorem takeSamples_eq (d : Dev) : ∃ (due : List (Nat × Sample)) (live : List Nat), takeSamples d = testAll due (live.foldl measureString (applyAll due (foldN 16 holdLate d))) :=
  ⟨_, _, rfl⟩

theorem tickKept_takeSamples (d : Dev) : tickKept (takeSamples d) = tickKept d := by
  obtain ⟨due, live, hdo⟩ := takeSamples_eq d
  rw [hdo, tickKept_testAll, proj_foldl tickKept measureString tickKept_measureString, tickKept_applyAll, tickKept_holdAll]

/-! ### The loops of the courses (R22, R170, R172) -/

theorem tickKept_clusterActs (d : Dev) (k : Nat) : tickKept (clusterActs d k) = tickKept d := by
  refine proj_foldl tickKept _ (fun e p => ?_) _ d
  split
  · rfl
  · exact (tickKept_retirePhase _ _ _ _).trans (tickKept_updStr _ _ _)

theorem tickKept_regionTakes (d : Dev) (k : Nat) : tickKept (regionTakes d k) = tickKept d := by
  unfold regionTakes
  dsimp only
  split
  · rfl
  · exact (proj_foldl tickKept _ (fun e m => tickKept_of_mask (qs := [.flt]) (Laws.mask_detect _ _ _ _ _ _ (by decide)) (by decide)) _ _).trans (tickKept_updStr _ _ _)

theorem leadResult_fst (d : Dev) (k : Nat) : (leadResult d k).1 = d := by
  unfold leadResult
  split <;> rfl

theorem tickKept_parityFails (d : Dev) (k l : Nat) : tickKept (parityFails d k l).1 = tickKept d := by
  unfold parityFails
  rw [leadResult_fst]
  exact (tickKept_clusterActs _ _).trans (tickKept_updStr _ _ _)

theorem tickKept_injectedCompare (d : Dev) (k l : Nat) (again : Rat) : tickKept (injectedCompare d k l again).1 = tickKept d := by
  have htake : tickKept (takeInjection d) = tickKept d := tickKept_of_mask (qs := [.flt, .int]) (Laws.mask_takeInjection _ _ (by decide) (by decide)) (by decide)
  have hreal : ∀ (e : Dev) code r, tickKept (realFound e code r) = tickKept e := fun e code r => tickKept_of_mask (qs := [.flt]) (Laws.mask_flt _ _ _ (by decide)) (by decide)
  unfold injectedCompare
  dsimp only
  split
  · exact (tickKept_parityFails _ _ _).trans ((hreal _ _ _).trans htake)
  · split
    · exact (tickKept_updPh _ _ _).trans ((tickKept_detectInj _ _ _ _ _ _ _).trans htake)
    · rw [leadResult_fst]
      exact (tickKept_retirePhase _ _ _ _).trans ((tickKept_detectInj _ _ _ _ _ _ _).trans htake)

theorem tickKept_agreedResult (d : Dev) (k : Nat) (ups : List Upset) : tickKept (agreedResult d k ups).1 = tickKept d := by
  have hevaluate : ∀ (v : Rat) (l : List Nat), tickKept (l.foldl (fun d p => updPh d p (fun q => { q with shadow := v + upsetOf ups p false })) d) = tickKept d := fun v l =>
    proj_foldl tickKept _ (fun e p => tickKept_updPh _ _ _) l d
  unfold agreedResult
  dsimp only
  split
  · exact hevaluate _ _
  · split
    · exact (tickKept_injectedCompare _ _ _ _).trans (hevaluate _ _)
    · split
      · exact hevaluate _ _
      · split
        · exact (tickKept_updPh _ _ _).trans (hevaluate _ _)
        · exact (tickKept_parityFails _ _ _).trans (hevaluate _ _)

theorem tickKept_voltageLoop (d : Dev) (k : Nat) (ups : List Upset) : tickKept (voltageLoop d k ups) = tickKept d := by
  unfold voltageLoop
  dsimp only
  split
  · exact (tickKept_nextFree _).trans (tickKept_agreedResult _ _ _)
  · exact (tickKept_nextFree _).trans ((tickKept_updStr _ _ _).trans (tickKept_agreedResult _ _ _))

theorem tickKept_shareCurrent (d : Dev) (k : Nat) : tickKept (shareCurrent d k) = tickKept d := by
  unfold shareCurrent
  dsimp only
  split
  · rfl
  · exact (proj_foldl tickKept _ (fun e p => tickKept_updPh _ _ _) _ _).trans (proj_foldl tickKept _ (fun e p => tickKept_updPh _ _ _) _ _)

theorem tickKept_courseLoops (d : Dev) (k : Nat) (ups : List Upset) : tickKept (courseLoops d k ups) = tickKept d := by
  refine (tickKept_shareCurrent _ _).trans ?_
  split
  · exact tickKept_voltageLoop _ _ _
  · rfl

theorem tickKept_rampString (d : Dev) (k : Nat) : tickKept (rampString d k) = tickKept d := by
  unfold rampString
  dsimp only
  split
  · rfl
  · exact tickKept_updStr _ _ _

theorem tickKept_finishTick (d : Dev) (ups : List Upset) : tickKept (finishTick d ups) = tickKept d := by
  have hcourse : ∀ (e : Dev) k, tickKept (courseLoops (rampString (clusterActs e k) k) k ups) = tickKept e := fun e k =>
    (tickKept_courseLoops _ _ _).trans ((tickKept_rampString _ _).trans (tickKept_clusterActs _ _))
  unfold finishTick
  split
  · rfl
  · exact (proj_foldl tickKept regionTakes tickKept_regionTakes _ _).trans ((proj_foldl tickKept _ (fun e k => (tickKept_updStr _ _ _).trans (hcourse e k)) _ _).trans (tickKept_takeSamples d))

/-! ### Peers and messages of the tick that ends (R11, R17, R250) -/

theorem tickKept_peerTick (d : Dev) : tickKept (peerTick d) = tickKept d := by
  have hsend : ∀ (e : Dev) q o, tickKept (emit { e with seq := q } o) = tickKept e := fun e q o =>
    (tickKept_of_mask (qs := [.out]) (Laws.mask_emit _ _ _ (by decide)) (by decide)).trans (tickKept_of_mask (qs := [.seq]) (Laws.mask_seq _ e q (by decide)) (by decide))
  unfold peerTick
  split
  · rfl
  · exact proj_foldl tickKept _ (fun e j => hsend _ _ _) _ _

/-- A change of the supply's state that leaves the domains and the control die. -/
theorem tickKept_pwr (d : Dev) (p : Power) (hon : p.on = d.pwr.on) (hlost : p.ctlLost = d.pwr.ctlLost) : tickKept { d with pwr := p } = tickKept d :=
  tickKept_eq (Laws.mask_pwr _ _ _ (by decide)) rfl rfl rfl rfl (Prod.ext hon hlost)

theorem tickKept_loseMessages (d : Dev) : tickKept (loseMessages d) = tickKept d := by
  unfold loseMessages
  dsimp only
  split
  · rfl
  · refine (proj_foldl tickKept _ (fun e q => ?_) _ _).trans (tickKept_pwr _ _ rfl rfl)
    refine (tickKept_lateInput _ _ _).trans ?_
    split
    · exact tickKept_pwr _ _ rfl rfl
    · rfl

theorem tickKept_loseFaults (d : Dev) : tickKept (loseFaults d) = tickKept d := by
  unfold loseFaults
  dsimp only
  split
  · rfl
  · refine (proj_foldl tickKept _ (fun e f => ?_) _ _).trans (tickKept_of_mask (qs := [.flt]) (Laws.mask_flt _ _ _ (by decide)) (by decide))
    split
    · rfl
    · exact tickKept_lateInput _ _ _

theorem freeOnly_streamDue (d : Dev) : FreeOnly d (streamDue d) := by
  have hfold : ∀ (l : List (Nat × CapRec)) (e : Dev), FreeOnly e (l.foldl (fun d q => stream d q.1 q.2) e) := fun l => by
    induction l with
    | nil => exact FreeOnly.refl
    | cons q l ih => exact fun e => (freeOnly_stream e q.1 q.2).trans (ih _)
  unfold streamDue
  dsimp only
  split
  · exact FreeOnly.refl d
  · exact hfold _ { d with capQueue := { d.capQueue with due := d.capQueue.due.filter (fun q => decide (d.clk.tick < q.1)) } }

theorem tickKept_streamDue (d : Dev) : tickKept (streamDue d) = tickKept d := by
  have hmask : Laws.mask [.clk, .flt, .int, .rcd, .cap, .capQueue, .out] (streamDue d) = Laws.mask [.clk, .flt, .int, .rcd, .cap, .capQueue, .out] d :=
    Laws.mask_streamDue _ _ (by decide) (by decide) (by decide) (by decide) (by decide) (by decide) (by decide)
  have hk := Laws.keeps_of_mask _ _ _ hmask
  refine tickKept_eq (mask_of_subset (by decide) hmask) (pace_of_freeOnly (freeOnly_streamDue d)) (hk .mm (by decide)).symm (hk .cfg (by decide)).symm (hk .wd (by decide)).symm ?_
  unfold feeds
  rw [show (streamDue d).pwr = d.pwr from (hk .pwr (by decide)).symm]

theorem tickKept_endTick (d : Dev) (ups : List Upset) : tickKept (endTick d ups) = tickKept d :=
  (tickKept_streamDue _).trans ((tickKept_loseFaults _).trans ((tickKept_loseMessages _).trans ((tickKept_peerTick _).trans (tickKept_finishTick d ups))))

/-! ### The tick that begins (R205, R209, R224) -/

theorem tickKept_holdLink (d : Dev) (j : Nat) : tickKept (holdLink d j) = tickKept d := by
  unfold holdLink
  dsimp only
  split
  · rfl
  · split
    · exact tickKept_updLk _ _ _
    · split
      · exact tickKept_updLk _ _ _
      · rfl

theorem tickKept_sendEdge (d : Dev) (j : Nat) (starts : List (Nat × List (Nat × Nat))) : tickKept (sendEdge d j starts) = tickKept d := by
  unfold sendEdge
  dsimp only
  split
  · rfl
  · exact (tickKept_of_mask (qs := [.out, .fretOut]) (Laws.mask_emitFast _ _ _ (by decide) (by decide)) (by decide)).trans
      ((tickKept_updLk _ _ _).trans (tickKept_of_mask (qs := [.lk, .out, .fretOut]) (Laws.mask_refuseNow _ _ _ (by decide) (by decide) (by decide)) (by decide)))

theorem tickKept_advanceCarrier (d : Dev) (k : Nat) (cs : List Cycle) : tickKept (advanceCarrier d k cs) = tickKept d := by
  unfold advanceCarrier
  dsimp only
  split
  · split
    · rfl
    · exact tickKept_updStr _ _ _
  · split
    · exact tickKept_updStr _ _ _
    · exact tickKept_updStr _ _ _

theorem tickKept_stepLfsr (d : Dev) (k : Nat) : tickKept (stepLfsr d k) = tickKept d := by
  unfold stepLfsr
  dsimp only
  split
  · exact tickKept_updStr _ _ _
  · rfl

/-- A phase keeps the period of the last cycle that begins in the tick. -/
def keepPeriod (d : Dev) (q : Nat × List (Nat × Nat)) : Dev := match q.2.getLast? with | some c => updPh d q.1 (fun u => { u with period := c.2 }) | none => d

theorem tickKept_keepPeriod (d : Dev) (q : Nat × List (Nat × Nat)) : tickKept (keepPeriod d q) = tickKept d := by
  unfold keepPeriod
  split
  · exact tickKept_updPh _ _ _
  · rfl

/-- The carriers and EDGE blocks of a tick, with the cycles that begin in it. -/
def driveTick (d : Dev) (cars : List (Nat × List Cycle)) (starts : List (Nat × List (Nat × Nat))) : Dev :=
  cars.foldl (fun d q => advanceCarrier (stepLfsr d q.1) q.1 q.2) (foldN 16 (fun d j => sendEdge d j starts) (starts.foldl keepPeriod d))

theorem tickKept_driveTick (d : Dev) (cars : List (Nat × List Cycle)) (starts : List (Nat × List (Nat × Nat))) : tickKept (driveTick d cars starts) = tickKept d :=
  (proj_foldl tickKept (fun d (q : Nat × List Cycle) => advanceCarrier (stepLfsr d q.1) q.1 q.2) (fun e q => (tickKept_advanceCarrier _ _ _).trans (tickKept_stepLfsr e q.1)) _ _).trans
    ((proj_foldN tickKept 16 (fun d j => sendEdge d j starts) (fun e j => tickKept_sendEdge e j starts) _).trans (proj_foldl tickKept keepPeriod tickKept_keepPeriod starts d))

/-- A tick begins with the links that are held, then the carriers. -/
theorem beginTick_eq (d : Dev) (h : fastRuns d = true) : ∃ cars starts, beginTick d = driveTick (foldN 16 holdLink d) cars starts :=
  ⟨_, _, if_neg (by rw [h]; decide)⟩

theorem tickKept_beginTick (d : Dev) : tickKept (beginTick d) = tickKept d := by
  cases h : fastRuns d with
  | false => rw [show beginTick d = d from if_pos (by rw [h]; rfl)]
  | true =>
    obtain ⟨cars, starts, hdo⟩ := beginTick_eq d h
    rw [hdo]
    exact (tickKept_driveTick _ _ _).trans (proj_foldN tickKept 16 holdLink tickKept_holdLink d)

theorem tickKept_sendBlocks (d : Dev) : tickKept (sendBlocks d) = tickKept d := by
  unfold sendBlocks
  split
  · rfl
  · exact tickKept_pwr _ _ rfl rfl

theorem tickKept_packTick (d : Dev) : tickKept (packTick d) = tickKept d := by
  unfold packTick
  split
  · rfl
  · exact (tickKept_of_mask (qs := [.chg]) (Laws.mask_chg _ _ _ (by decide)) (by decide)).trans (tickKept_of_mask (qs := [.chg]) (Laws.mask_chg _ d _ (by decide)) (by decide))

/-! ### The watchdog's counter (R334) -/

theorem mask_wdTick (d : Dev) : Laws.mask [.wd] (wdTick d) = Laws.mask [.wd] d := by
  unfold wdTick
  split
  · rfl
  · split
    · exact Laws.mask_wd _ _ _ (by decide)
    · exact Laws.mask_wd _ _ _ (by decide)

theorem wdTick_of_idle {d : Dev} (h : d.wd.on = false ∨ d.wd.waiting = true) : wdTick d = d := by
  refine if_pos ?_
  obtain h | h := h <;> simp [h]

theorem wdTick_of_slow {d : Dev} (hon : d.wd.on = true) (hwait : d.wd.waiting = false) (hmgmt : powered d .mgmt = true) (hslow : bit d.wd.setup 8 = true) :
    wdTick d = { d with wd := { d.wd with count := d.wd.count + 1 } } :=
  (if_neg (by simp [hon, hwait, hmgmt])).trans (if_pos hslow)

/-! ### The next tick (R14) -/

/-- One write lands in its staged copy. -/
def landOne (d : Dev) (w : Nat × Word) : Dev := setStaged d w.1 (merge (stagedOf d w.1) w.2 (rsMask w.1))

theorem landStaged_eq (d : Dev) : landStaged d = { d.cfg.after.foldl landOne d with cfg := { (d.cfg.after.foldl landOne d).cfg with after := [] } } := rfl

theorem mask_landStaged (d : Dev) : Laws.mask [.cfg] (landStaged d) = Laws.mask [.cfg] d := by
  have hland : Laws.mask [.cfg] (d.cfg.after.foldl landOne d) = Laws.mask [.cfg] d :=
    proj_foldl (Laws.mask [.cfg]) landOne (fun e w => Laws.mask_setStaged _ _ _ _ (by decide)) _ d
  rw [landStaged_eq]
  generalize d.cfg.after.foldl landOne d = e at hland ⊢
  exact (Laws.mask_cfg _ e _ (by decide)).trans hland

theorem landStaged_of_none {d : Dev} (h : d.cfg.after = []) : landStaged d = d := by
  unfold landStaged
  rw [h]
  change { d with cfg := { d.cfg with after := [] } } = d
  rw [← h]

/-- The counters of the tick that begins. -/
def tickCounted (d : Dev) : Dev :=
  { d with clk := { d.clk with tick := d.clk.tick + 1, tickInFret := (d.clk.tickInFret + 1) % 32, fretDue := ((d.clk.tickInFret + 1) % 32 == 0 && powered d .sched && !d.pwr.ctlLost) && !(follower d && d.seq.tokenSeen) }, seq := { d.seq with noToken := if ((d.clk.tickInFret + 1) % 32 == 0 && powered d .sched && !d.pwr.ctlLost) && follower d then d.seq.noToken + 1 else d.seq.noToken } }

theorem nextTick_eq (d : Dev) : nextTick d = followRide (packTick (wdTick (beginTick (sendBlocks (tickCounted (landStaged d)))))) := rfl

theorem mask_tickCounted (d : Dev) : Laws.mask [.clk, .seq] (tickCounted d) = Laws.mask [.clk, .seq] d := by
  unfold tickCounted
  generalize ({ d.clk with tick := _, tickInFret := _, fretDue := _ } : Clock) = c
  generalize ({ d.seq with noToken := _ } : Sequencer) = q
  exact (Laws.mask_seq _ { d with clk := c } q (by decide)).trans (Laws.mask_clk _ d c (by decide))

theorem followRide_mm (d : Dev) : (followRide d).mm = { d.mm with rideAvailable := (followRide d).mm.rideAvailable } := by
  have hevent : ∀ e : Dev, (setChgEvent e 7).mm = e.mm := fun e => mm_of_mask (qs := [.chg, .int]) (Laws.mask_setChgEvent _ _ _ (by decide) (by decide)) (by decide)
  unfold followRide
  dsimp only
  split
  · rfl
  · split
    · rfl
    · rw [hevent]

/-- The next tick: the units that begin it, the watchdog's counter, the pack, and RIDE_AVAILABLE. -/
theorem nextTick_parts (d : Dev) : ∃ b p, tickKept b = tickKept (tickCounted (landStaged d)) ∧ tickKept p = tickKept (wdTick b) ∧ nextTick d = followRide p :=
  ⟨_, _, (tickKept_beginTick _).trans (tickKept_sendBlocks _), tickKept_packTick _, nextTick_eq d⟩

/-- The parts of what stands through the work of a tick. -/
theorem tickKept_parts {d e : Dev} (h : tickKept e = tickKept d) :
    Laws.mask tickParts e = Laws.mask tickParts d ∧ pace e = pace d ∧ e.mm = d.mm ∧ e.cfg = d.cfg ∧ e.wd = d.wd ∧ e.pwr.on = d.pwr.on ∧ e.pwr.ctlLost = d.pwr.ctlLost := by
  obtain ⟨hmask, h⟩ := Prod.ext_iff.1 h
  obtain ⟨hpace, h⟩ := Prod.ext_iff.1 h
  obtain ⟨hmm, h⟩ := Prod.ext_iff.1 h
  obtain ⟨hcfg, h⟩ := Prod.ext_iff.1 h
  obtain ⟨hwd, h⟩ := Prod.ext_iff.1 h
  obtain ⟨hon, hlost⟩ := Prod.ext_iff.1 h
  exact ⟨hmask, hpace, hmm, hcfg, hwd, hon, hlost⟩

/-- What the next tick counts, and what it leaves (R14). -/
theorem nextTick_spec (d : Dev) :
    Laws.mask tickParts (nextTick d) = Laws.mask tickParts d ∧ pace (nextTick d) = pace (tickCounted (landStaged d)) ∧
      (nextTick d).mm = { d.mm with rideAvailable := (nextTick d).mm.rideAvailable } ∧ (d.cfg.after = [] → (nextTick d).cfg = d.cfg) ∧
      (d.wd.on = true → d.wd.waiting = false → powered d .mgmt = true → bit d.wd.setup 8 = true → (nextTick d).wd = { d.wd with count := d.wd.count + 1 }) ∧
      (d.wd.on = false ∨ d.wd.waiting = true → (nextTick d).wd = d.wd) := by
  obtain ⟨b, p, hb, hp, hdo⟩ := nextTick_parts d
  have hland := mask_landStaged d
  have hcount := mask_tickCounted (landStaged d)
  have hwdMask := mask_wdTick b
  have hride : Laws.mask [.mm, .chg, .int] (followRide p) = Laws.mask [.mm, .chg, .int] p := Laws.mask_followRide _ _ (by decide) (by decide) (by decide)
  have hkLand := Laws.keeps_of_mask _ _ _ hland
  have hkCount := Laws.keeps_of_mask _ _ _ hcount
  have hkWd := Laws.keeps_of_mask _ _ _ hwdMask
  have hkRide := Laws.keeps_of_mask _ _ _ hride
  obtain ⟨hmaskB, hpaceB, hmmB, hcfgB, hwdB, honB, -⟩ := tickKept_parts hb
  obtain ⟨hmaskP, hpaceP, hmmP, hcfgP, hwdP, -, -⟩ := tickKept_parts hp
  have hmm : p.mm = d.mm := hmmP.trans ((hkWd .mm (by decide)).symm.trans (hmmB.trans ((hkCount .mm (by decide)).symm.trans (hkLand .mm (by decide)).symm)))
  have hwdD : b.wd = d.wd := hwdB.trans ((hkCount .wd (by decide)).symm.trans (hkLand .wd (by decide)).symm)
  have hpwrD : (tickCounted (landStaged d)).pwr = d.pwr := (hkCount .pwr (by decide)).symm.trans (hkLand .pwr (by decide)).symm
  have hwd : (nextTick d).wd = (wdTick b).wd := by rw [hdo]; exact (hkRide .wd (by decide)).symm.trans hwdP
  have hmgmt : powered b .mgmt = powered d .mgmt := by
    unfold powered
    rw [honB, hpwrD]
  refine ⟨?_, ?_, ?_, fun hnone => ?_, fun hon hwait hpow hslow => ?_, fun hidle => ?_⟩
  · rw [hdo]
    exact (mask_of_subset (by decide) hride).trans (hmaskP.trans ((mask_of_subset (by decide) hwdMask).trans (hmaskB.trans ((mask_of_subset (by decide) hcount).trans (mask_of_subset (by decide) hland)))))
  · rw [hdo]
    exact (pace_of_clk (hkRide .clk (by decide)).symm).trans (hpaceP.trans ((pace_of_clk (hkWd .clk (by decide)).symm).trans hpaceB))
  · rw [hdo, followRide_mm, hmm]
  · rw [hdo]
    refine (hkRide .cfg (by decide)).symm.trans (hcfgP.trans ((hkWd .cfg (by decide)).symm.trans (hcfgB.trans ((hkCount .cfg (by decide)).symm.trans ?_))))
    rw [landStaged_of_none hnone]
  · rw [hwd, wdTick_of_slow (by rw [hwdD, hon]) (by rw [hwdD, hwait]) (hmgmt.trans hpow) (by rw [hwdD, hslow])]
    change { b.wd with count := b.wd.count + 1 } = _
    rw [hwdD]
  · rw [hwd, wdTick_of_idle (by rw [hwdD]; exact hidle), hwdD]

/-- The clock of the tick that begins (R14, R128). -/
def nextClock (c : Clock) (due : Bool) : Clock := { c with tick := c.tick + 1, tickInFret := (c.tickInFret + 1) % 32, fretDue := due, free := 0 }

theorem pace_nextTick (d : Dev) : ∃ due, pace (nextTick d) = nextClock (pace d) due ∧
    (follower d = false → due = ((d.clk.tickInFret + 1) % 32 == 0 && powered d .sched && !d.pwr.ctlLost)) := by
  obtain ⟨-, hpace, -⟩ := nextTick_spec d
  have hk := Laws.keeps_of_mask _ _ _ (mask_landStaged d)
  have hfollow : follower (landStaged d) = follower d := follower_congr (hk .pins (by decide)).symm (hk .otp (by decide)).symm
  have hclk : (landStaged d).clk = d.clk := (hk .clk (by decide)).symm
  have hpwr : (landStaged d).pwr = d.pwr := (hk .pwr (by decide)).symm
  refine ⟨((d.clk.tickInFret + 1) % 32 == 0 && powered d .sched && !d.pwr.ctlLost) && !(follower d && (landStaged d).seq.tokenSeen), hpace.trans ?_, fun hf => by rw [hf]; simp⟩
  unfold pace tickCounted nextClock powered
  rw [hfollow, hclk, hpwr]

/-- A tick with no boundary and no message due is its work and the next tick. -/
theorem doTick_of_quiet {d : Dev} (ups : List Upset) (hdue : d.clk.fretDue = false) (hwait : ∀ q ∈ d.waiting, d.clk.tick + 1 < q.1) :
    doTick d ups = nextTick (endTick d ups) := by
  have hboundary : fretBoundary d = d := if_pos (by rw [hdue]; rfl)
  have htake : takeDue d = d := takeDue_of_none fun q hq => by have := hwait q hq; omega
  obtain ⟨hmaskE, hpaceE, -⟩ := tickKept_parts (tickKept_endTick d ups)
  obtain ⟨hmaskN, -⟩ := nextTick_spec (endTick d ups)
  obtain ⟨due, hpaceN, -⟩ := pace_nextTick (endTick d ups)
  have hdo : doTick d ups = takeWaiting (nextTick (endTick d ups)) := by
    unfold doTick
    rw [hboundary, htake]
  have hclock : pace (nextTick (endTick d ups)) = nextClock (pace d) due := hpaceN.trans (congrArg (nextClock · due) hpaceE)
  have htick : (nextTick (endTick d ups)).clk.tick = d.clk.tick + 1 := congrArg Clock.tick hclock
  have hwaiting : (nextTick (endTick d ups)).waiting = d.waiting := (Laws.keeps_of_mask _ _ _ (hmaskN.trans hmaskE) .waiting (by decide)).symm
  rw [hdo]
  refine takeWaiting_of_none ?_
  rw [hwaiting, htick]
  exact hwait

/-- Settles O14, from what the work of a tick leaves and from the counters of the next tick. -/
theorem tickAdvancesTime : Obligations.TickAdvancesTime := by
  intro s ups hdue hwait
  have hexec : exec (.tick ups) s = next s (nextTick (endTick s.dev ups)) := congrArg (next s) (doTick_of_quiet ups hdue hwait)
  obtain ⟨hmaskE, hpaceE, hmmE, hcfgE, hwdE, honE, hlostE⟩ := tickKept_parts (tickKept_endTick s.dev ups)
  generalize endTick s.dev ups = a at hexec hmaskE hpaceE hmmE hcfgE hwdE honE hlostE
  obtain ⟨hmaskN, -, hmm, hcfg, hslow, hidle⟩ := nextTick_spec a
  obtain ⟨due, hpaceN, hdueN⟩ := pace_nextTick a
  have hclock : pace (nextTick a) = nextClock (pace s.dev) due := hpaceN.trans (congrArg (nextClock · due) hpaceE)
  have hk := Laws.keeps_of_mask _ _ _ hmaskE
  have hpow : ∀ x, powered a x = powered s.dev x := fun x => by unfold powered; rw [honE]
  have hfollow : follower a = follower s.dev := follower_congr (hk .pins (by decide)).symm (hk .otp (by decide)).symm
  have hin : a.clk.tickInFret = s.dev.clk.tickInFret := by
    have h := congrArg Clock.tickInFret hpaceE
    exact h
  have htickE := congrArg Clock.tick hclock
  have hinE := congrArg Clock.tickInFret hclock
  have hfretE := congrArg Clock.fret hclock
  have hmgmtE := congrArg Clock.mgmt hclock
  have hdueE := congrArg Clock.fretDue hclock
  dsimp only [pace, nextClock] at htickE hinE hfretE hmgmtE hdueE
  rw [hmmE] at hmm
  rw [hcfgE] at hcfg
  rw [hwdE, hpow] at hslow
  rw [hwdE] at hidle
  refine ⟨_, hexec, htickE, hinE, hfretE, hmgmtE, fun hnot => ?_, hmm, hcfg, hslow, hidle, Laws.keeps_of_mask _ _ _ (hmaskN.trans hmaskE)⟩
  rw [hdueE, hdueN (hfollow.trans hnot), hin, hpow, hlostE, hinE]
  simp [and_assoc]

end Sys2Proof.Machine
end
